-- ==== Sys2Proof/Word.lean ====
section
/-! DEFINITION. The word types of the block and the sparse table that its numbered things are kept in. -/

namespace Sys2Proof

/-- One byte. -/
abbrev Byte := BitVec 8

/-- A run of bytes, the byte at the lowest address (or first on the wire) first. -/
abbrev Bytes := List Byte

/-- A paddock number, 0 to 63 (*Paddocks and the Commons*). -/
abbrev PNum := Fin 64

/-- A table of numbered things: keys strictly rising. A key that is not listed holds the type's default. -/
abbrev Tbl (α : Type) := List (Nat × α)

/-- The thing listed under a key, if any. -/
def Tbl.find {α : Type} : Tbl α → Nat → Option α
  | [], _ => none
  | (k, v) :: t, i => if k = i then some v else Tbl.find t i

/-- The thing under a key; the default where the key is not listed. -/
def Tbl.get {α : Type} [Inhabited α] (t : Tbl α) (i : Nat) : α := (Tbl.find t i).getD default

/-- Put a thing under a key, in its place among the rising keys. -/
def Tbl.set {α : Type} : Tbl α → Nat → α → Tbl α
  | [], i, a => [(i, a)]
  | (k, v) :: t, i, a =>
    if i < k then (i, a) :: (k, v) :: t
    else if i = k then (i, a) :: t
    else (k, v) :: Tbl.set t i a

/-- Take a key out of the table. -/
def Tbl.erase {α : Type} : Tbl α → Nat → Tbl α
  | [], _ => []
  | (k, v) :: t, i => if k = i then Tbl.erase t i else (k, v) :: Tbl.erase t i

/-- Change the thing under a key. -/
def Tbl.upd {α : Type} [Inhabited α] (t : Tbl α) (i : Nat) (f : α → α) : Tbl α :=
  Tbl.set t i (f (Tbl.get t i))

/-- Is the key listed? -/
def Tbl.has {α : Type} (t : Tbl α) (i : Nat) : Bool := (Tbl.find t i).isSome

end Sys2Proof
end

