-- ==== Sys2Proof/Syntax.lean ====
section
/-! DEFINITION. The commands the block takes: one constructor for each row of the opcode table, with its operands. -/

namespace Sys2Proof

/-- A 16-bit tag: the TAG of a request header, or of a Tenancy Port transaction. -/
abbrev Tag := BitVec 16

/-- A host function: none is the PF, some n is VF n. -/
abbrev Fn := Option PNum

/-- The path that carries an object request (*Access paths and roles*, R71, R82). -/
inductive Path where
  /-- The PF mailbox. -/
  | pf
  /-- The Stile of VF n. -/
  | stile (vf : PNum)
  /-- MCTP over I3C or over PCIe, with the 28 bits that name the endpoint and session (R82). -/
  | mctp (pcie : Bool) (who : BitVec 28)
  /-- UDP, with its SESSION. -/
  | udp (session : BitVec 28)
  /-- The security core. -/
  | internal
  deriving DecidableEq, Repr

/-- Where a packet came in: a fabric link 0 to 63, a pair port 64 to 67, or the turn-round of a LOOPBACK QP. -/
abbrev Port := Option (Fin 68)

/-- What the cryptography of a request comes to (DESIGN CHOICE, log 8): the key that an envelope's WRAPPED field
unwraps to, if its tag is right, whether the signature that the rule checks verifies, whether the certificate was
issued as the rule asks, and the island whose key table fails the read-back of a zeroise, 0 where none does (R503). -/
structure Facts where
  key : Option (BitVec 512) := none
  sigOk : Bool := false
  certOk : Bool := false
  stuck : Nat := 0
  deriving DecidableEq, Repr, Inhabited

/-- A Beluth or time packet on a port: header, payload in clear, the name of the key it was sealed under, and whether
nothing altered it since (log 8). -/
structure Packet where
  hdr : BitVec 256
  payload : Bytes
  key : Nat
  intact : Bool
  deriving DecidableEq, Repr, Inhabited

/-- What a start finds outside the state (R605, R617, R642, R515): the flash device and a valid boot record, whether
the image in slot A and in slot B passes the ROM's checks, with its SECURITY_VERSION and its FIRMWARE_VERSION, a torn journal
record, which open erases fail again, and the blocks whose factory mark reads bad (R606). -/
structure Boot where
  flashOk : Bool := true
  slotOk : List Bool := [true, true]
  imageSv : List Nat := [0, 0]
  imageFw : List Nat := [0x30000, 0x30000]
  torn : Bool := false
  eraseBad : List Nat := []
  factoryBad : List Nat := []
  deriving DecidableEq, Repr, Inhabited

/-- The outcome of R96's checks of the current version: passed, or the first that failed. -/
inductive ConfigCheck where
  | passed | checkWord | signature | blockVersion
  deriving DecidableEq, Repr, Inhabited

/-- What the peer half shows at a join (R566, R573, R582): paddocks are those it holds that are not EMPTY and no mirror
entries, each with its state code; lots are the lots of its manifests; key is the pair key. -/
structure Peer where
  uid : BitVec 64
  role : Nat
  blockVersion : Nat
  firmware : Nat
  securityVersion : Nat
  nodeId : Nat
  chainOk : Bool
  paddocks : List (Nat × Nat)
  lots : List Nat
  cvnLast : Nat
  key : Nat
  deriving DecidableEq, Repr, Inhabited

/-- Where an event is delivered (R528): the PF, a VF, or the management core. -/
inductive Target where
  | pf | vf (n : PNum) | core
  deriving DecidableEq, Repr

/-- One command: a row of the opcode table. -/
inductive Instr where
  /-- POR_N (R641): Deassertion of por_n powers on the device; AON releases MGT once every rail reads above −5 % and the start-up sequence begins. -/
  | porN (b : Boot)
  /-- WARM_RST_N (R562): Assertion of warm_rst_n starts the warm reset sequence. -/
  | warmRstN (b : Boot)
  /-- WARM_RESET (R562): A write to WARM_RESET starts the warm reset sequence, refused in TRIPPED while a sensor reads 105 °C or more. -/
  | warmReset (via : Path) (tag : Tag) (b : Boot)
  /-- OBJECT_READ (R75): A READ request is checked in the order of R655 and served atomically with values of one CVN. -/
  | objectRead (via : Path) (hdr : BitVec 128)
  /-- OBJECT_WRITE (R67): A WRITE request to an object that has no row of its own is checked and applied according to its access kind. -/
  | objectWrite (via : Path) (hdr : BitVec 128) (payload : Bytes) (f : Facts)
  /-- UDP_DATAGRAM (R78): A UDP datagram on port 50410 is checked for session, tag and SEQ, served once, answered from the stored response if duplicate, or dropped. -/
  | udpDatagram (session : BitVec 32) (seq : BitVec 32) (hdr : BitVec 128) (payload : Bytes) (key : Nat) (intact : Bool) (f : Facts)
  /-- MCTP_MESSAGE (R71): An MCTP vendor-defined message carrying an object request is served with role MON, or MGR inside an authenticated SPDM session. -/
  | mctpMessage (pcie : Bool) (who : BitVec 28) (hdr : BitVec 128) (payload : Bytes) (f : Facts)
  /-- STILE_GO (R182): GO written while STATE is IDLE moves the Stile or PF mailbox to BUSY and MGT serves the request, entering DONE with an optional vector 0 interrupt. -/
  | stileGo (fn : Fn) (irq : Bool) (hdr : BitVec 128) (payload : Bytes) (f : Facts)
  /-- STILE_ACK (R183): ACK written in DONE returns the Stile to IDLE, ignoring any GO in the same write. -/
  | stileAck (fn : Fn) (go : Bool)
  /-- COMMIT (R83): A write to COMMIT checks the draft, reserves CVN_LAST + 1 and writes the version image to the store. -/
  | commit (via : Path) (tag : Tag) (v : BitVec 32)
  /-- CONFIG_OPERATION_DONE (R83): When the version store write ends, the operation journals COMMIT_DONE, applies the new values, sets CVN_CURRENT and responds, or is refused with 0x0112. -/
  | configOperationDone (ok : Bool)
  /-- ROLLBACK (R91): A write to ROLLBACK commits a kept version or the factory image as a new version with SOURCE 2. -/
  | rollback (via : Path) (tag : Tag) (v : BitVec 32)
  /-- FACTORY_RESTORE (R94): A write to FACTORY_RESTORE commits the factory image as a new version with SOURCE 5. -/
  | factoryRestore (via : Path) (tag : Tag)
  /-- DISCARD_DRAFT (R95): A write to DISCARD_DRAFT makes the draft equal to the committed version and clears the owner. -/
  | discardDraft (via : Path) (tag : Tag)
  /-- IMAGE_APPLY (R102): A write to IMAGE_APPLY checks the staged Slothitor image and commits it with SOURCE 3. -/
  | imageApply (via : Path) (tag : Tag) (f : Facts)
  /-- REQUIRE_SIGNED_SET (R104): A write to REQUIRE_SIGNED_SET sets REQUIRE_SIGNED so that unsigned images are refused. -/
  | requireSignedSet (via : Path) (tag : Tag)
  /-- DRAFT_LEASE_EXPIRY (R81): DRAFT_LEASE passes without a request from the owner; the draft is discarded and the owner cleared. -/
  | draftLeaseExpiry
  /-- FENCE (R48): PADDOCK_CONTROL FENCE checks and claims the committed resources, installs keys, loads Hedgerow tables and pushes fence tables. -/
  | fence (via : Path) (tag : Tag) (p : PNum)
  /-- OPEN (R40): PADDOCK_CONTROL OPEN claims and releases resources, pushes fence tables, writes the allocator window entries, signs an allotment record and enables fetch. -/
  | openPaddock (via : Path) (tag : Tag) (p : PNum)
  /-- DRAIN (R48): PADDOCK_CONTROL DRAIN stops descriptor fetch and lets fetched commands run on. -/
  | drain (via : Path) (tag : Tag) (p : PNum)
  /-- DRAINED (R48): The last fetched command of a DRAINING paddock commits or is killed; the paddock enters FALLOW with a 0x020F entry. -/
  | drained (p : PNum)
  /-- DRAIN_TIMEOUT (R48): DRAIN_TIMEOUT expires; remaining commands are killed, their contexts enter READY and the paddock enters FALLOW with 0x020C. -/
  | drainTimeout (p : PNum)
  /-- RELEASE (R48): PADDOCK_CONTROL RELEASE kills and destroys every context, queue and QP, removes keys and fence tables and releases everything. -/
  | release (via : Path) (tag : Tag) (p : PNum) (f : Facts)
  /-- RECOVER (R48): PADDOCK_CONTROL RECOVER reloads Hedgerow and fence tables of a FAULTED paddock and removes a hard-fence gate. -/
  | recover (via : Path) (tag : Tag) (p : PNum)
  /-- PADDOCK_FAULT (R55): A fault in a paddock's resources, or in shared hardware, puts the named paddocks in FAULTED and kills their contexts. -/
  | paddockFault (ps : List PNum) (code : BitVec 16)
  /-- GRANULE_ZEROISED (R46): The zeroising of one granule ends; it enters the Commons, or on a failed read-back stays out with 0x020D. -/
  | granuleZeroised (g : Fin 128) (ok : Bool)
  /-- ALLOT_NONCE (R59): A write to ALLOT_NONCE signs a fresh allotment record carrying the nonce, refused in EMPTY. -/
  | allotNonce (via : Path) (tag : Tag) (p : PNum) (nonce : BitVec 256)
  /-- SUBMISSION_DOORBELL (R116): A 4-byte write of a new tail index to a submission doorbell announces descriptors or stops the queue if invalid. -/
  | submissionDoorbell (vf : PNum) (q : Fin 64) (v : BitVec 32) (len : Nat)
  /-- COMPLETION_DOORBELL (R116): A 4-byte write of a new head index to a completion doorbell frees completion ring entries. -/
  | completionDoorbell (vf : PNum) (q : Fin 64) (v : BitVec 32) (len : Nat)
  /-- QUEUE_WINDOW_WRITE (R180): A host write into the queue window updates the covered bytes of a submission ring entry. -/
  | queueWindowWrite (vf : PNum) (off : BitVec 28) (data : Bytes)
  /-- FETCH (R118): A thread fetches the next descriptor of a queue of a RUNNING context in ring order, stamps the epoch and checks it. -/
  | fetch (p : PNum)
  /-- COMMAND_COMMIT (R127): A command commits: all its effects become observable together and its completion record is posted. -/
  | commandCommit (id : Nat)
  /-- CQ_STALL (R121): A commit has waited for a completion ring entry longer than CQ_STALL_LIMIT; the context is parked with 0x030C. -/
  | cqStall (id : Nat)
  /-- NOP (R123): Opcode 0x00 does nothing and commits. -/
  | nop (id : Nat)
  /-- TIMESTAMP (R127): Opcode 0x01 writes fabric time to ARG0 at its commit. -/
  | timestamp (id : Nat)
  /-- ALLOC (R140): Opcode 0xA0 maps zeroed pages of held granules inside the allocator window. -/
  | alloc (id : Nat)
  /-- FREE (R142): Opcode 0xA1 removes the mapping of one earlier ALLOC and invalidates it before its commit. -/
  | free (id : Nat)
  /-- SIGNAL (R137): Opcode 0xB0 sets or adds to a signal word at its commit. -/
  | signal (id : Nat)
  /-- WAIT (R138): Opcode 0xB1 waits until a signal word meets its condition and then commits. -/
  | waitCmd (id : Nat)
  /-- WAIT_TIMEOUT (R138): The timeout of a WAIT passes and it finishes with 0x0314. -/
  | waitTimeout (id : Nat)
  /-- QUEUE_CREATE (R148): QUEUE_CREATE creates a queue with its rings, binding and vector. -/
  | queueCreate (via : Path) (tag : Tag) (p : PNum) (arg : BitVec 256)
  /-- QUEUE_DESTROY (R122): QUEUE_DESTROY stops fetch and waits for fetched commands to commit or be abandoned before freeing the queue. -/
  | queueDestroy (via : Path) (tag : Tag) (p : PNum) (q : BitVec 8)
  /-- QUEUE_DESTROY_TIMEOUT (R122): The DRAIN_TIMEOUT of a QUEUE_DESTROY passes; remaining commands are killed and reported and the queue is freed. -/
  | queueDestroyTimeout (p : PNum) (q : Fin 64)
  /-- CONTEXT_DEFINE (R113): CONTEXT_DEFINE zeroes a save area and makes the context IDLE at epoch 0x00. -/
  | contextDefine (via : Path) (tag : Tag) (p : PNum) (arg : BitVec 128)
  /-- DESTROY (R149): CONTEXT_CONTROL DESTROY moves the context to closing and waits for it to be IDLE before releasing it. -/
  | destroy (via : Path) (tag : Tag) (p : PNum) (c : BitVec 12)
  /-- DESTROY_TIMEOUT (R149): A DESTROY's wait ends without IDLE; it finishes with 0x030B and the context accepts commands again. -/
  | destroyTimeout (p : PNum) (c : BitVec 12)
  /-- FORCE_DESTROY (R149): CONTEXT_CONTROL FORCE_DESTROY kills, reports abandoned commands and destroys the context. -/
  | forceDestroy (via : Path) (tag : Tag) (p : PNum) (c : BitVec 12)
  /-- KILL (R113): CONTEXT_CONTROL KILL kills the context's commands, advances its epoch and makes it KILLED. -/
  | kill (via : Path) (tag : Tag) (p : PNum) (c : BitVec 12)
  /-- RESUME (R113): CONTEXT_CONTROL RESUME returns a PARKED context to READY. -/
  | resume (via : Path) (tag : Tag) (p : PNum) (c : BitVec 12)
  /-- REVIVE (R113): CONTEXT_CONTROL REVIVE reports abandoned commands and returns a KILLED context to IDLE. -/
  | revive (via : Path) (tag : Tag) (p : PNum) (c : BitVec 12)
  /-- EPOCH_QUARANTINE_END (R111): The quarantine of an old epoch value ends and a waiting advance may take place. -/
  | epochQuarantineEnd (p : PNum) (c : BitVec 12) (e : BitVec 8)
  /-- HEADER_FLIT (R154): A Tenancy Port header flit with its data flits is received, CRC-checked and acknowledged, or NAKed for replay. -/
  | headerFlit (m : Fin 24) (flit : Bytes)
  /-- TP_READ (R169): A compute die issues a READ transaction into a paddock's device memory; it is checked and answered with READ_DATA. -/
  | tpRead (m : Fin 24) (h : BitVec 256)
  /-- TP_WRITE (R169): A compute die issues a WRITE transaction into a paddock's device memory; it is checked and answered with WRITE_ACK. -/
  | tpWrite (m : Fin 24) (h : BitVec 256) (data : Bytes)
  /-- READ_DATA (R155): A READ_DATA response from the die is matched by tag and epoch and completes a Dunaz read. -/
  | readData (m : Fin 24) (h : BitVec 256) (data : Bytes)
  /-- WRITE_ACK (R155): A WRITE_ACK from the die is matched by tag and epoch and completes a Dunaz write. -/
  | writeAck (m : Fin 24) (h : BitVec 256)
  /-- DISPATCH_DONE (R173): A DISPATCH_DONE with the current epoch commits the dispatch command. -/
  | dispatchDone (m : Fin 24) (h : BitVec 256)
  /-- RESPONSE_TIMEOUT (R156): A Tenancy Port read or dispatch gets no response within TP_READ_TIMEOUT; the command finishes with 0x0509 and the tag is quarantined. -/
  | responseTimeout (t : Tag)
  /-- TP_TAG_QUARANTINE_END (R156): The quarantine of a timed-out Tenancy Port tag ends. -/
  | tpTagQuarantineEnd (t : Tag)
  /-- TABLE_ACK (R162): A TABLE_ACK from a die confirms a fence table write; when all dies have answered, FENCE_REQ ACTIVATE is sent. -/
  | tableAck (m : Fin 24) (h : BitVec 128)
  /-- TABLE_NAK (R162): A TABLE_NAK fails the fence push with 0x020A. -/
  | tableNak (m : Fin 24) (h : BitVec 128)
  /-- FENCE_PUSH_FAILED (R162): TABLE_TIMEOUT passes without a TABLE_ACK and the push fails with 0x020A. -/
  | fencePushFailed (p : PNum) (die : Fin 16)
  /-- FENCE_ACK (R164): A FENCE_ACK within the deadline completes a fence action; when all have arrived the pending FENCE, OPEN or RECOVER finishes. -/
  | fenceAck (m : Fin 24) (h : BitVec 128)
  /-- FENCE_MISSED (R167): No FENCE_ACK arrives within 1 µs; Dunaz sends ISOLATE, gates the die's modules and faults its paddocks with 0x0502. -/
  | fenceMissed (p : PNum) (die : Fin 16)
  /-- BREACH (R169): A BREACH report from a die puts the named paddock in FAULTED with 0x020B. -/
  | breach (m : Fin 24) (h : BitVec 128) (words : List (BitVec 128))
  /-- LOT_CLEAN (R170): A LOT_CLEAN from a die ends the wait after which a removed lot may be claimed again. -/
  | lotClean (m : Fin 24) (h : BitVec 128)
  /-- TABLE_REPORT (R175): A TABLE_REPORT answering TABLE_QUERY leads Dunaz to re-push any table whose generation differs. -/
  | tableReport (m : Fin 24) (h : BitVec 128)
  /-- SIDEBAND_NAK (R154): A sideband NAK with the last intact SEQ makes the sender replay from the next header flit. -/
  | sidebandNak (m : Fin 24) (h : BitVec 128)
  /-- MANIFEST (R159): A die's Resource Manifest is received and checked, accepted, refused, or found to change a held lot. -/
  | manifest (m : Fin 24) (h : BitVec 128) (words : List (BitVec 128))
  /-- MODULE_LINK_UP (R159): A Tenancy Port module completes UCIe training and comes up. -/
  | moduleLinkUp (m : Fin 24) (die : Fin 16)
  /-- MODULE_TRAINING_FAILED (R153): A module fails training or lane repair and is left down; if no module reaches a die, its paddocks fault with 0x0501. -/
  | moduleTrainingFailed (m : Fin 24)
  /-- SIDE_RESET (R175): SIDE_RESET isolates and resets TNA or TNB, kills its commands, sends SIDE_RESET, retrains and re-pushes tables. -/
  | sideReset (via : Path) (tag : Tag) (v : BitVec 8)
  /-- ATS_TRANSLATION_COMPLETION (R185): An ATS Translation Completion fills the paddock's TLB or finishes the command with 0x0405, or is discarded after an overlapping invalidation. -/
  | atsTranslationCompletion (n : Nat) (host : BitVec 64) (size : Nat) (r : Bool) (w : Bool)
  /-- ATS_INVALIDATION_REQUEST (R186): An ATS Invalidation Request removes matching cached translations. -/
  | atsInvalidationRequest (vf : PNum) (itag : BitVec 5) (base : BitVec 64) (size : Nat)
  /-- INVALIDATION_COMPLETION (R186): Once every request under the removed translations has left or ended, Dunaz sends the Invalidation Completion. -/
  | invalidationCompletion (vf : PNum) (itag : BitVec 5)
  /-- HOST_COMPLETION (R187): A completion for a host read is matched by tag and epoch and its data is used, or dropped on poison, error status or stale epoch. -/
  | hostCompletion (t : BitVec 14) (status : BitVec 3) (poisoned : Bool) (data : Bytes) (key : Nat) (last : Bool)
  /-- CPL_TIMEOUT (R187): A host read gets no completion within CPL_TIMEOUT; its command finishes with 0x0402, the tag is quarantined and AER reports it. -/
  | cplTimeout (t : BitVec 14)
  /-- HOST_TAG_QUARANTINE_END (R188): The quarantine of a timed-out host tag ends and the tag may be reused. -/
  | hostTagQuarantineEnd (t : BitVec 14)
  /-- BUS_MASTER_ENABLE_CLEAR (R193): Bus Master Enable of a function is cleared; new requests stop and commands needing host requests finish with 0x0401. -/
  | busMasterEnableClear (fn : Fn)
  /-- BUS_MASTER_ENABLE_SET (R192): Bus Master Enable returns to 1; waiting completion records and pending unmasked vectors are sent. -/
  | busMasterEnableSet (fn : Fn)
  /-- MSIX_VECTOR_UNMASK (R192): An MSI-X vector is unmasked and its pending write is sent. -/
  | msixVectorUnmask (fn : Fn) (v : BitVec 8)
  /-- FUNCTION_LEVEL_RESET (R195): A Function Level Reset of VF n stops fetch, kills the paddock's contexts and waits for outstanding reads to end. -/
  | functionLevelReset (vf : PNum)
  /-- FLR_COMPLETE (R195): After outstanding reads end, the VF's queues are destroyed, the Stile is set IDLE, vectors masked and the reset completes. -/
  | flrComplete (vf : PNum)
  /-- VF_ENABLE_CLEAR (R200): Clearing VF Enable acts as a Function Level Reset of every VF. -/
  | vfEnableClear
  /-- PF_FUNCTION_LEVEL_RESET (R200): A Function Level Reset of the PF resets every VF and discards a draft owned by the PF mailbox. -/
  | pfFunctionLevelReset
  /-- HOT_RESET (R200): A PCIe hot reset acts as a Function Level Reset of every VF. -/
  | hotReset
  /-- PCIE_LINK_DOWN (R200): Loss of the PCIe link acts as a Function Level Reset of every VF. -/
  | pcieLinkDown
  /-- HOST_LINK_TRAINED (R644): Host link training ends and LINK_STATE reads 2. -/
  | hostLinkTrained (rate : BitVec 3) (width : BitVec 5)
  /-- BOUNCE_FLOOR (R205): A tenant write of BOUNCE_FLOOR raises the floor of accepted host-to-device sequence numbers, ignoring a lower value. -/
  | bounceFloor (vf : PNum) (v : BitVec 64)
  /-- WRITE (R220): Opcode 0x20 sprays a message from local memory to a remote address over a QP and commits on COMMIT_ACK. -/
  | write (id : Nat)
  /-- READ (R252): Opcode 0x21 requests remote data over a QP and commits when the responder's committed response arrives. -/
  | read (id : Nat)
  /-- ATOMIC (R225): Opcode 0x24 sends up to 64 atomic entries in one ATOMIC_REQ, commit-on-issue. -/
  | atomic (id : Nat)
  /-- DISPATCH (R172): Opcode 0x2C sends a DISPATCH transaction to a lot chosen by name or affinity. -/
  | dispatch (id : Nat)
  /-- COPY (R220): Opcode 0x2D moves data between two local ranges through the engines and commits like a WRITE. -/
  | copy (id : Nat)
  /-- QP_CREATE (R260): QP_CREATE defines a QP in RESET with a zeroed backing entry. -/
  | qpCreate (via : Path) (tag : Tag) (p : PNum) (arg : BitVec 128)
  /-- QP_MODIFY_INIT (R216): QP_MODIFY to INIT checks and fixes the MTU. -/
  | qpModifyInit (via : Path) (tag : Tag) (p : PNum) (arg : BitVec 256)
  /-- QP_MODIFY_READY (R216): QP_MODIFY to READY sets remote node, remote QP, paths and INIT_PSN, or resumes a DRAINED QP. -/
  | qpModifyReady (via : Path) (tag : Tag) (p : PNum) (arg : BitVec 256)
  /-- QP_MODIFY_DRAINED (R216): QP_MODIFY to DRAINED refuses new commands and enters DRAINED when no message is open. -/
  | qpModifyDrained (via : Path) (tag : Tag) (p : PNum) (arg : BitVec 256)
  /-- QP_MODIFY_RESET (R216): QP_MODIFY to RESET clears path, sequence and rate state. -/
  | qpModifyReset (via : Path) (tag : Tag) (p : PNum) (arg : BitVec 256)
  /-- QP_DESTROY (R216): QP_DESTROY releases the slot and backing entry of a QP in RESET. -/
  | qpDestroy (via : Path) (tag : Tag) (p : PNum) (v : BitVec 32)
  /-- DATA_PACKET (R233): A Beluth DATA packet is authenticated, checked and placed at its address and held until its message commits. -/
  | dataPacket (on : Port) (pkt : Packet)
  /-- COMMIT_PACKET (R238): A flagged commit record is checked against the accepted PSNs; the message commits and COMMIT_ACK is sent, or a NAK lists the missing PSNs. -/
  | commitPacket (on : Port) (pkt : Packet)
  /-- ACK_PACKET (R251): A path ACK frees acknowledged packets from the retransmit buffer and feeds OWD to congestion control. -/
  | ackPacket (on : Port) (pkt : Packet)
  /-- NAK_PACKET (R240): A NAK for missing data makes the sender resend the listed packets and the commit; a NAK with a code finishes the command with it. -/
  | nakPacket (on : Port) (pkt : Packet)
  /-- READ_REQ (R223): A READ_REQ is checked and the responder sends the data as READ_RESP packets ending with COMMIT and ORDER. -/
  | readReq (on : Port) (pkt : Packet)
  /-- READ_RESP (R233): A READ_RESP packet is checked by epoch and MSG and placed into the local destination. -/
  | readResp (on : Port) (pkt : Packet)
  /-- ATOMIC_REQ (R225): The target performs all entries of an ATOMIC_REQ as one unit and returns ATOMIC_RESP, or resends a kept response. -/
  | atomicReq (on : Port) (pkt : Packet)
  /-- ATOMIC_RESP (R229): An ATOMIC_RESP writes the result array visible with the issuer record. -/
  | atomicResp (on : Port) (pkt : Packet)
  /-- ATOMIC_TIMEOUT (R229): No ATOMIC_RESP arrives within 20 µs; the command finishes with 0x0607. -/
  | atomicTimeout (id : Nat)
  /-- ATOMIC_RESPONSE_EXPIRY (R228): A kept atomic response expires after 40 µs. -/
  | atomicResponseExpiry (qpn : BitVec 24) (msg : BitVec 12)
  /-- ABORT (R245): On ABORT the receiver marks the message aborted and answers ABORT_ACK, keeping its bytes held. -/
  | abort (on : Port) (pkt : Packet)
  /-- ABORT_ACK (R244): An ABORT_ACK matched on MSG ends the resending of an ABORT. -/
  | abortAck (on : Port) (pkt : Packet)
  /-- COMMIT_ACK (R242): A COMMIT_ACK with the current epoch lets the sender post the issuer record. -/
  | commitAck (on : Port) (pkt : Packet)
  /-- ABANDON (R247): On ABANDON the receiver releases the aborted message's held bytes with undefined contents. -/
  | abandon (on : Port) (pkt : Packet)
  /-- GRANT (R410): A GRANT raises the source's LIMIT for a home of a collective instance. -/
  | grant (on : Port) (pkt : Packet)
  /-- RETX_TIMER_EXPIRY (R255): A QP's retransmit timer expires; oldest packets and unanswered requests are resent and rates halved, or the QP enters ERROR at RETRY_LIMIT. -/
  | retxTimerExpiry (qpn : BitVec 24)
  /-- ACK_INTERVAL_EXPIRY (R236): ACK_INTERVAL passes since an unacknowledged packet arrived on a path and the receiver sends an ACK. -/
  | ackIntervalExpiry (qpn : BitVec 24) (path : Fin 16)
  /-- READ_TIMEOUT (R252): A READ does not commit within FABRIC_READ_TIMEOUT; it finishes with 0x0606, ABORT is sent and the MSG quarantined. -/
  | readTimeout (id : Nat)
  /-- MSG_QUARANTINE_END (R232): The quarantine of a MSG value ends and it may be given to a new message. -/
  | msgQuarantineEnd (qpn : BitVec 24) (msg : BitVec 12)
  /-- ORPHANED (R248): An inbound message with no packet for 20 ms is discarded and its held bytes released with 0x060C. -/
  | orphaned (qpn : BitVec 24) (msg : BitVec 12)
  /-- SIGNAL_DETECTED (R262): Signal on all four lanes of a DOWN link starts PMD training. -/
  | signalDetected (l : Fin 68)
  /-- TRAINING_DONE (R262): Training ends with FEC lock and the link sends INIT. -/
  | trainingDone (l : Fin 68)
  /-- TRAINING_TIMEOUT (R262): A link trains for 1 s without lock and returns to DOWN with 0x0704. -/
  | trainingTimeout (l : Fin 68)
  /-- INIT (R262): An INIT control frame with absolute credits brings the link to UP, resets SEQ counters and sends the pool map. -/
  | initFrame (l : Fin 68) (ctl : BitVec 128)
  /-- INIT_TIMEOUT (R262): 1 ms passes in INIT without INIT from the partner and the link returns to DOWN. -/
  | initTimeout (l : Fin 68)
  /-- DATA_FRAME (R268): A link DATA frame is CRC- and sequence-checked, credited and handed on, or discarded with a NAK. -/
  | dataFrame (l : Fin 68) (h : BitVec 64) (data : Bytes) (crcOk : Bool)
  /-- CREDIT (R271): A CREDIT control frame returns credits, or gives the absolute free count, for a VC and pool. -/
  | credit (l : Fin 68) (h : BitVec 64) (ctl : BitVec 128)
  /-- LINK_NAK (R268): A link NAK makes the sender replay from LAST_GOOD + 1, or retrain at the eighth replay. -/
  | linkNak (l : Fin 68) (ctl : BitVec 128)
  /-- POOL_MAP (R274): A POOL_MAP control frame binds or unbinds a pool of the partner's receive buffer to a tenant tag. -/
  | poolMap (l : Fin 68) (h : BitVec 64) (ctl : BitVec 128)
  /-- RETRAIN_REQ (R262): A RETRAIN_REQ from the partner sends the link to RETRAIN. -/
  | retrainReq (l : Fin 68) (ctl : BitVec 128)
  /-- LINK_ACK (R266): A link ACK control frame frees acknowledged frames from the replay buffer. -/
  | linkAck (l : Fin 68) (h : BitVec 64)
  /-- THROTTLE (R265): A THROTTLE frame from a router asserts or releases the injection throttle for the VCs in its mask. -/
  | throttle (l : Fin 68) (ctl : BitVec 128)
  /-- THROTTLE_EXPIRY (R265): 20 µs pass with no renewed THROTTLE assert and the link is no longer throttled. -/
  | throttleExpiry (l : Fin 68)
  /-- ACK_WINDOW_EXPIRY (R267): A sequenced frame is unacknowledged 3 µs after its last bit and the link enters RETRAIN. -/
  | ackWindowExpiry (l : Fin 68)
  /-- LINK_RETRAIN (R262): A write to LINK_RETRAIN sends the named link to RETRAIN. -/
  | linkRetrain (via : Path) (tag : Tag) (v : BitVec 8)
  /-- RETRAIN_LOCK (R262): FEC locks again within 1 ms of RETRAIN; credits are exchanged and unacknowledged frames replayed. -/
  | retrainLock (l : Fin 68)
  /-- RETRAIN_TIMEOUT (R262): 1 ms passes in RETRAIN without lock; the replay buffer is discarded and the link goes DOWN. -/
  | retrainTimeout (l : Fin 68)
  /-- RETRAIN_REBIND (R263): A link stays in RETRAIN longer than RETRAIN_REBIND and counts as down for path rebinding. -/
  | retrainRebind (l : Fin 68)
  /-- LOSS_OF_SIGNAL (R262): Loss of signal on any lane sends an UP or RETRAIN link to DOWN and discards its replay buffer. -/
  | lossOfSignal (l : Fin 68)
  /-- LINK_KEY_SWITCH (R285): At its switch time the next job key or fabric time key becomes the current key. -/
  | linkKeySwitch (which : Option (BitVec 16))
  /-- TIME_INTERVAL_TICK (R290): Each TIME_INTERVAL the node sends REQs to its peers and disciplines its time from the parent's least-delay sample. -/
  | timeIntervalTick
  /-- TIME_REQ (R290): A time REQ from a peer is authenticated and answered with a RESP carrying its arrival time. -/
  | timeReq (l : Fin 68) (pkt : Packet)
  /-- TIME_RESP (R290): A time RESP is authenticated and adds a delay and offset sample to the peer's window. -/
  | timeResp (l : Fin 68) (pkt : Packet)
  /-- HOLDOVER_EXPIRED (R291): HOLDOVER_LIMIT passes and the time state returns to UNSYNC with 0x070D. -/
  | holdoverExpired
  /-- TIME_SET (R287): A write to TIME_SET steps fabric time on the grandmaster, refused elsewhere with 0x0705. -/
  | timeSet (via : Path) (tag : Tag) (v : BitVec 64)
  /-- SWATHE_APPLY (R293): SWATHE_APPLY checks the staged swathe image and loads it into the shadow bank. -/
  | swatheApply (via : Path) (tag : Tag) (f : Facts)
  /-- SWATHE_CANCEL (R302): SWATHE_CANCEL empties the shadow bank. -/
  | swatheCancel (via : Path) (tag : Tag)
  /-- SWATHE_SWITCH (R295): At SWITCH_TIME the shadow table becomes active and unmatched scheduled traffic moves to the unscheduled class. -/
  | swatheSwitch
  /-- CYCLE_BOUNDARY (R298): A swathe cycle starts and stopped scheduled injection may resume. -/
  | cycleBoundary
  /-- SWATHE_OPEN (R296): A TX swathe opens at START and VC4 for its tag takes priority. -/
  | swatheOpen (e : Nat)
  /-- SWATHE_INJECTION_END (R296): At START + LENGTH − GUARD injection in the swathe ends. -/
  | swatheInjectionEnd (e : Nat)
  /-- TILE_STEP_DONE (R348): A tussock finishes one tile step and reaches a boundary where a pending stop takes effect; `corrected`
  names the scratch words in which a single-bit error was corrected (R334). -/
  | tileStepDone (k : Fin 64) (id : Nat) (corrected : List (BitVec 32))
  /-- SCRATCH_UNCORRECTABLE (R335): An uncorrectable scratch error kills and reruns the command using the tussock. -/
  | scratchUncorrectable (k : Fin 64)
  /-- SELFTEST (R339): A write to SELFTEST starts the known-answer test on a Commons or retired tussock. -/
  | selftest (via : Path) (tag : Tag) (v : BitVec 8)
  /-- SELFTEST_DONE (R339): The self-test ends; a pass clears the retired bit and returns the tussock to the Commons, a failure retires it. -/
  | selftestDone (k : Fin 64) (ok : Bool)
  /-- SWARD_RUN (R344): Opcode 0x50 runs a program of MMA and CONVERT instructions in tile steps. -/
  | swardRun (id : Nat)
  /-- XWRITE (R364): Opcode 0x51 transforms rows through a slot and sends them as a WRITE. -/
  | xwrite (id : Nat)
  /-- XCOPY (R364): Opcode 0x52 transforms rows through a slot and copies them locally. -/
  | xcopy (id : Nat)
  /-- MOE_DISPATCH (R369): Opcode 0x58 gates tokens over experts and sends each token row to its chosen experts. -/
  | moeDispatch (id : Nat)
  /-- MOE_COMBINE (R372): Opcode 0x59 forms the exact weighted sum of expert outputs for each token. -/
  | moeCombine (id : Nat)
  /-- ROSTER_STEP (R376): Opcode 0x60 computes page partials for a roster bank and merges them over the merge group. -/
  | rosterStep (id : Nat)
  /-- CHECKPOINT_WRITTEN (R353): Once every tussock reached its boundary and accumulators are spilled, the checkpoint record is written and the command killed. -/
  | checkpointWritten (id : Nat)
  /-- ALLREDUCE (R404): Opcode 0x80 reduces a vector over a group and gives every member the result. -/
  | allreduce (id : Nat)
  /-- REDUCE (R404): Opcode 0x81 reduces a vector to the root. -/
  | reduce (id : Nat)
  /-- REDUCE_SCATTER (R404): Opcode 0x82 reduces a vector and gives each member its piece. -/
  | reduceScatter (id : Nat)
  /-- ALLGATHER (R404): Opcode 0x83 gathers every member's piece into the whole vector. -/
  | allgather (id : Nat)
  /-- BROADCAST (R404): Opcode 0x84 sends the root's vector to every member. -/
  | broadcast (id : Nat)
  /-- BARRIER (R404): Opcode 0x85 runs as an ALLREDUCE of one INT32 zero and writes nothing. -/
  | barrier (id : Nat)
  /-- GROUP_CREATE (R393): Opcode 0x90 creates a group's COLLECTIVE QPs and reserves reducer slots. -/
  | groupCreate (id : Nat)
  /-- GROUP_DESTROY (R400): Opcode 0x91 destroys an idle group's QPs and returns its slots. -/
  | groupDestroy (id : Nat)
  /-- COLL_TIMEOUT (R407): An instance has not committed within COLL_TIMEOUT of its fetch; the command finishes with 0x0905. -/
  | collTimeout (id : Nat)
  /-- COLL_KILL_WAIT_EXPIRY (R406): A kill of a contributing member waits COLL_KILL_WAIT without a commit and finishes it with 0x0904. -/
  | collKillWaitExpiry (id : Nat)
  /-- PT_WRITE (R436): PT_WRITE checks and writes up to 64 page-table entries and invalidates the old ranges before responding. -/
  | ptWrite (via : Path) (tag : Tag) (p : PNum) (data : Bytes)
  /-- RANGE_INVALIDATION_DONE (R446): Every port has acknowledged a range invalidation and it ends. -/
  | rangeInvalidationDone (n : Nat)
  /-- PT_QUERY_RESULT (R451): A read of PT_QUERY_RESULT performs a fresh walk of PT_QUERY and returns the last entry, level and error. -/
  | ptQueryResult (via : Path) (tag : Tag) (p : PNum)
  /-- WALK_COMPLETE (R441): A page walk ends, filling the TLB, restarting if stale, or faulting in its class. -/
  | walkComplete (n : Nat)
  /-- MOW_READ (R427): Mowing reads the next rick line of its pass and treats its errors. -/
  | mowRead (line : Nat) (errors : Nat)
  /-- RICK_REPAIR (R431): RICK_REPAIR takes a free granule, replaces bad rows, tests and zeroises it. -/
  | rickRepair (via : Path) (tag : Tag) (v : BitVec 8)
  /-- REPAIR_DONE (R431): A repair ends, returning the granule to the Commons or retiring it with 0x0A0E. -/
  | repairDone (ok : Bool)
  /-- PREFETCH (R450): Opcode 0xA2 loads the range's translations into the paddock's TLB units. -/
  | prefetch (id : Nat)
  /-- ADVISE (R449): Opcode 0xA3 pins, drops or streams the range's translations. -/
  | advise (id : Nat)
  /-- INVALIDATE (R449): Opcode 0xA4 runs a range invalidation of the paddock's cached translations. -/
  | invalidate (id : Nat)
  /-- FAULT_BATCH_FLUSH (R443): FAULT_BATCH passes since the first record, or 32 records gather, and the batch is written to the fault ring. -/
  | faultBatchFlush (p : PNum)
  /-- LEDGER_TICK (R455): Every LEDGER_TICK the ledger sends a snapshot of every V to every arbiter. -/
  | ledgerTick
  /-- METER_TICK (R475): Every METER_TICK Mbomon attributes rail energy to paddocks and the device and adds RICK_MIB_MS. -/
  | meterTick (e : List Nat)
  /-- PERIOD_END (R479): At a multiple of ACCT_PERIOD the meters of each non-EMPTY paddock are latched and a signed snapshot formed. -/
  | periodEnd
  /-- SNAPSHOT_PUBLISHED (R481): A snapshot appended to the meter journal is published as SNAP_RECORD. -/
  | snapshotPublished
  /-- SLOT_GRANT (R462): A free resident slot is granted to the highest-priority READY context and its save area loaded. -/
  | slotGrant (p : PNum)
  /-- PREEMPTION (R470): The scheduler pre-empts a RUNNING context, stopping fetch and ending its commands by kind. -/
  | preemption (p : PNum) (c : BitVec 12)
  /-- PREEMPTION_EPOCH_ADVANCE (R472): When the last fetched command of a pre-empted context has been killed, its epoch advances and the slot is freed. -/
  | preemptionEpochAdvance (p : PNum) (c : BitVec 12)
  /-- TIME_SLICE_EXPIRY (R463): A context's TIME_SLICE ends; an equal-priority waiter may pre-empt it or the slice restarts. -/
  | timeSliceExpiry (p : PNum) (c : BitVec 12)
  /-- EXCL_EXPIRED (R468): EXCL_LIMIT passes after an EXCL command starts; exclusivity ends and 0x0320 is logged. -/
  | exclExpired (p : PNum)
  /-- NOPRE_EXPIRED (R469): NOPRE_LIMIT passes after the pre-emption request and the deferred kill proceeds with 0x0321. -/
  | nopreExpired (id : Nat)
  /-- CTX_PRIORITY_SET (R465): CTX_PRIORITY_SET sets a defined context's priority from 0 to 7. -/
  | ctxPrioritySet (via : Path) (tag : Tag) (p : PNum) (v : BitVec 16)
  /-- KEY_INSTALL (R495): KEY_INSTALL at 0x1D00.03 unwraps an envelope for a link or time key and delivers it through the KSR. -/
  | keyInstall (via : Path) (tag : Tag) (data : Bytes) (f : Facts)
  /-- PADDOCK_KEY_INSTALL (R495): KEY_INSTALL at +0x70.02 unwraps an envelope for a rick selector, bounce or link key of paddock n. -/
  | paddockKeyInstall (via : Path) (tag : Tag) (p : PNum) (data : Bytes) (f : Facts)
  /-- KEY_CLEAR (R662): KEY_CLEAR at 0x1D00.04 zeroises the link key of a tag or the fabric time key. -/
  | keyClear (via : Path) (tag : Tag) (v : BitVec 32) (f : Facts)
  /-- PADDOCK_KEY_CLEAR (R662): KEY_CLEAR at +0x70.03 zeroises a rick selector or bounce key of paddock n. -/
  | paddockKeyClear (via : Path) (tag : Tag) (p : PNum) (v : BitVec 16) (f : Facts)
  /-- KEY_MASK_REFRESH (R501): Every 1 ms each engine draws a fresh mask and rewrites every key-table entry. -/
  | keyMaskRefresh
  /-- MIN_SV_RAISE (R516): MIN_SV_RAISE raises MIN_SECURITY_VERSION in OTP. -/
  | minSvRaise (via : Path) (tag : Tag) (v : BitVec 32)
  /-- DEBUG_LOCK_SET (R517): DEBUG_LOCK_SET sets DEBUG_LOCK so JTAG offers only the required instructions. -/
  | debugLockSet (via : Path) (tag : Tag)
  /-- ANCHOR_SET (R514): ANCHOR_SET fills an empty trust-anchor row or replaces it under a signature by the current key. -/
  | anchorSet (via : Path) (tag : Tag) (data : Bytes) (f : Facts)
  /-- SECURE_ERASE (R518): SECURE_ERASE with a Tymund token zeroises every key, grant and anchor, closes sessions and clears REQUIRE_SIGNED. -/
  | secureErase (via : Path) (tag : Tag) (data : Bytes) (f : Facts)
  /-- UDP_SESSION_OPEN (R511): UDP_SESSION_OPEN checks an envelope and certificate and opens session k + 1. -/
  | udpSessionOpen (via : Path) (tag : Tag) (data : Bytes) (f : Facts)
  /-- SESSION_IDLE_TIMEOUT (R513): A UDP session closes after 600 s without a served datagram. -/
  | sessionIdleTimeout (k : Fin 8)
  /-- SEAL_GRANT (R504): SEAL_GRANT keeps a newer seal grant for its set and clears selectors bound to the old one. -/
  | sealGrant (via : Path) (tag : Tag) (p : PNum) (data : Bytes) (f : Facts)
  /-- SEAL_BIND (R505): SEAL_BIND loads a set key into a selector in LOAD. -/
  | sealBind (via : Path) (tag : Tag) (p : PNum) (arg : BitVec 128)
  /-- SEAL_LOCK (R507): SEAL_LOCK waits until no uncommitted writer through the selector remains, then stops writes and starts the digest. -/
  | sealLock (via : Path) (tag : Tag) (p : PNum) (v : BitVec 8)
  /-- SEAL_LOCK_TIMEOUT (R507): The SEAL_LOCK wait passes DRAIN_TIMEOUT and the lock finishes with 0x0B14. -/
  | sealLockTimeout (p : PNum) (sel : Fin 64)
  /-- SEAL_DIGEST_DONE (R507): The granule digests end; the selector enters SEALED on a match or returns to LOAD with 0x0B0B. -/
  | sealDigestDone (p : PNum) (sel : Fin 64) (digest : BitVec 384)
  /-- SEAL_REVOKE (R519): SEAL_REVOKE removes the grant of a set and clears its selectors. -/
  | sealRevoke (via : Path) (tag : Tag) (v : BitVec 64)
  /-- JTAG_DEBUG_ACCESS (R517): An internal JTAG access while DEBUG_LOCK is 0 zeroises paddock keys, sets DEBUG_OPENED and faults non-EMPTY paddocks. -/
  | jtagDebugAccess (island : Fin 64)
  /-- GET_VERSION (R508): SPDM GET_VERSION request answered by the responder. -/
  | getVersion (pcie : Bool) (who : BitVec 28) (body : Bytes)
  /-- GET_CAPABILITIES (R508): SPDM GET_CAPABILITIES request answered by the responder. -/
  | getCapabilities (pcie : Bool) (who : BitVec 28) (body : Bytes)
  /-- NEGOTIATE_ALGORITHMS (R508): SPDM NEGOTIATE_ALGORITHMS request selects the supported algorithms. -/
  | negotiateAlgorithms (pcie : Bool) (who : BitVec 28) (body : Bytes)
  /-- GET_DIGESTS (R508): SPDM GET_DIGESTS request returns certificate chain digests. -/
  | getDigests (pcie : Bool) (who : BitVec 28) (body : Bytes)
  /-- GET_CERTIFICATE (R509): SPDM GET_CERTIFICATE request returns the slot 0 chain. -/
  | getCertificate (pcie : Bool) (who : BitVec 28) (body : Bytes)
  /-- CHALLENGE (R508): SPDM CHALLENGE request is signed under the attestation key. -/
  | challenge (pcie : Bool) (who : BitVec 28) (body : Bytes)
  /-- GET_MEASUREMENTS (R508): SPDM GET_MEASUREMENTS request returns the measurement indices. -/
  | getMeasurements (pcie : Bool) (who : BitVec 28) (body : Bytes)
  /-- KEY_EXCHANGE (R510): SPDM KEY_EXCHANGE request starts a secured session, optionally mutually authenticated. -/
  | keyExchange (pcie : Bool) (who : BitVec 28) (body : Bytes) (f : Facts)
  /-- FINISH (R508): SPDM FINISH request completes session establishment. -/
  | spdmFinish (pcie : Bool) (who : BitVec 28) (body : Bytes) (f : Facts)
  /-- HEARTBEAT (R508): SPDM HEARTBEAT request keeps a session alive. -/
  | spdmHeartbeat (pcie : Bool) (who : BitVec 28) (body : Bytes)
  /-- KEY_UPDATE (R508): SPDM KEY_UPDATE request updates session keys. -/
  | keyUpdate (pcie : Bool) (who : BitVec 28) (body : Bytes)
  /-- END_SESSION (R508): SPDM END_SESSION request closes a session. -/
  | endSession (pcie : Bool) (who : BitVec 28) (body : Bytes)
  /-- CHUNK_GET (R508): SPDM CHUNK_GET request returns the next chunk of a large response. -/
  | chunkGet (pcie : Bool) (who : BitVec 28) (body : Bytes)
  /-- EVENT_TARGET_WRITE (R530): A write of a target register replaces all 32 bits and delivers at once if it leaves the source deliverable. -/
  | eventTargetWrite (via : Path) (tag : Tag) (src : Fin 1024) (own : Bool) (v : BitVec 32)
  /-- EVENT_RAISE (R532): A write to EVENT_RAISE sets PENDING of a source through its own path. -/
  | eventRaise (via : Path) (tag : Tag) (v : BitVec 16)
  /-- PADDOCK_EVENT_RAISE (R532): A write of k to +0x90.09 sets PENDING of source 8n + k. -/
  | paddockEventRaise (via : Path) (tag : Tag) (p : PNum) (v : BitVec 8)
  /-- HOLDOFF_EXPIRY (R528): A group's hold-off timer for a function expires and its pending sources deliver together. -/
  | holdoffExpiry (g : Fin 64) (dst : Target)
  /-- LARK_FIRE (R537): An armed Lark slot sees its input, sets FIRED and in DOZE or SLEEP starts the wake sequence. -/
  | larkFire (slot : Fin 32)
  /-- WAKE_TIMER_EXPIRY (R537): WAKE_TIMER counts down to zero and fires its Lark slot. -/
  | wakeTimerExpiry
  /-- GPIO_EDGE (R537): A GPIO pin shows its enabled edge and raises its source or Lark slot. -/
  | gpioEdge (pin : Fin 16)
  /-- ISLAND_RESET (R545): ISLAND_RESET isolates an island, marks its commands for killing and asserts and releases its reset. -/
  | islandReset (via : Path) (tag : Tag) (v : BitVec 8) (f : Facts)
  /-- ISLAND_RETURN (R545): Once SEC and RCK0 are in service, keys are re-delivered and isolation removed, returning the island with 0x0121. -/
  | islandReturn (i : Fin 64)
  /-- ISLAND_FAILED (R545): ISLAND_RETURN_LIMIT passes without return; ISLAND_STATE reads 3 and 0x0122 is logged. -/
  | islandFailed (i : Fin 64)
  /-- ISLAND_WEDGED (R548): A crossing head stays undequeued for ISLAND_WATCHDOG; source 768 + i fires, a snapshot freezes and the island may be reset. -/
  | islandWedged (i : Fin 64) (paddock : Option PNum) (ctx : BitVec 12)
  /-- CTX_NO_PROGRESS (R551): CTX_WATCHDOG passes without progress and the context is killed with 0x0123. -/
  | ctxNoProgress (p : PNum) (c : BitVec 12)
  /-- WAITGRAPH_SCAN (R553): Every WAITGRAPH_SCAN MGT searches the wait graph and breaks each cycle by killing its youngest command. -/
  | waitgraphScan
  /-- WAITGRAPH_BACKOFF_EXPIRY (R553): WAITGRAPH_BACKOFF passes and the withheld rerun of a cycle's killed command proceeds. -/
  | waitgraphBackoffExpiry (id : Nat)
  /-- SNAPSHOT_BUFFER_UPDATE (R554): Every 1 µs each island copies its hang state into its snapshot buffer. -/
  | snapshotBufferUpdate (i : Fin 64)
  /-- SNAPSHOT_TAKE (R554): SNAPSHOT_TAKE freezes a hang snapshot and writes it to a dump slot. -/
  | snapshotTake (via : Path) (tag : Tag)
  /-- DUMP_WRITTEN (R560): A frozen snapshot finishes writing to its dump slot and 0x0125 is logged. -/
  | dumpWritten
  /-- DUMP_RELEASE (R563): DUMP_RELEASE sets an unread dump slot to read. -/
  | dumpRelease (via : Path) (tag : Tag) (v : BitVec 8)
  /-- MGT_KICK (R554): Mbomon kicks AON at least every 100 ms. -/
  | mgtKick
  /-- MGT_WATCHDOG (R554): AON sees no kick for 1 s and resets MGT, escalating to a warm reset at the third within 10 s. -/
  | mgtWatchdog (b : Boot)
  /-- HARD_FENCE (R558): HARD_FENCE gates paddock n at every isolation cell and puts it in FAULTED with 0x020E. -/
  | hardFence (via : Path) (tag : Tag) (v : BitVec 8)
  /-- JOIN_COMPLETE (R566): The join conditions hold; the pair key is agreed, the unit CVN adopted and the halves enter PAIRED. -/
  | joinComplete (peer : Peer)
  /-- JOIN_FAILED (R567): A join condition fails or 1 s passes and the half returns to UNPAIRED with 0x0E01. -/
  | joinFailed (cond : BitVec 8)
  /-- PAIR_LOST (R579): No pair port UP or no heartbeat for PAIR_LOSS_LIMIT, or loss of the peer, enters SPLIT and faults spanning paddocks. -/
  | pairLost (cause : BitVec 8)
  /-- PAIR_HEARTBEAT (R565): Every 10 µs a heartbeat frame is sent on VC5 of the pair ports. -/
  | pairHeartbeat
  /-- MIRROR_REQUEST (R576): A mirror request from the primary carries a control command of a spanning paddock to the secondary. -/
  | mirrorRequest (n : BitVec 32) (p : PNum) (cmd : BitVec 8) (ok : Bool)
  /-- MIRROR_ACK (R576): A mirror acknowledgement lets PADDOCK_STATE change on both halves. -/
  | mirrorAck (n : BitVec 32)
  /-- MIRROR_RESEND (R576): A mirror request unacknowledged for 100 µs is resent. -/
  | mirrorResend (n : BitVec 32)
  /-- SENSOR_POLL (R475): Every 1 ms MGT reads the regulators' VOUT, IOUT and EIN over the sensor bus. -/
  | sensorPoll (r : List (Nat × Nat × Nat)) (status : List (Nat × Nat))
  /-- SENSOR_BUS_RECOVERY (R583): SDA low for 1 ms, or the controller's reset, starts bus recovery with up to nine SCL pulses. -/
  | sensorBusRecovery (sdaHigh : Bool)
  /-- SENSOR_BUS_RETRY (R583): 10 ms after a failed recovery attempt the pulses are tried again; after the third retry the bus fails and the cap drops to 765 W. -/
  | sensorBusRetry (sdaHigh : Bool)
  /-- SENSOR_BUS_PERIODIC_RECOVERY (R584): Every 1 s while the bus has failed recovery is repeated; on success the cap returns. -/
  | sensorBusPeriodicRecovery (sdaHigh : Bool)
  /-- CAP_TICK (R589): Every CAP_TICK the power manager adjusts Sward clocks and duty to hold module power at the cap. -/
  | capTick (mw : Nat)
  /-- POWER_STATE_SET_RUN (R586): POWER_STATE_SET 0 in RUN or IDLE does nothing. -/
  | powerStateSetRun (via : Path) (tag : Tag)
  /-- POWER_STATE_SET_DOZE (R587): POWER_STATE_SET 2 enters DOZE, refused while commands are uncommitted or a paddock drains. -/
  | powerStateSetDoze (via : Path) (tag : Tag)
  /-- POWER_STATE_SET_SLEEP (R586): POWER_STATE_SET 3 enters SLEEP, refused unless every paddock is EMPTY. -/
  | powerStateSetSleep (via : Path) (tag : Tag)
  /-- IDLE_ENTRY (R333): No tussock has queued work for IDLE_DELAY and the device enters IDLE with tussocks gated. -/
  | idleEntry
  /-- THERMAL_THRESHOLD (R591): A thermal sensor crosses 100 °C or falls below 97 °C, entering or leaving the throttle. -/
  | thermalThreshold (k : Fin 64) (mdeg : BitVec 32)
  /-- THERMAL_TRIP (R592): A sensor reaches 115 °C; AON holds every island but AON, MGT and SEC in reset and drives alert_n low. -/
  | thermalTrip (k : Fin 64)
  /-- BROWNOUT_WARNING (R594): A rail stays below −5 % for 200 ns; the brake engages, Sward clocks quarter and flash starts stop. -/
  | brownoutWarning (rail : Fin 24) (mv : Nat)
  /-- BRAKE_RELEASE (R594): Every rail stays above −4 % for 50 µs; the brake releases and clocks and flash work resume. -/
  | brakeRelease (mv : Nat) (us : Nat)
  /-- BROWNOUT_RESET (R596): A rail stays below −10 % for 200 ns and AON resets every island but AON at once. -/
  | brownoutReset (rail : Fin 24) (mv : Nat) (b : Boot)
  /-- ETH_FRAME (R598): A management Ethernet frame is received and accepted only for a listed unicast or broadcast address. -/
  | ethFrame (dst : BitVec 48) (body : Bytes) (errors : BitVec 8)
  /-- PAUSE_WATCHDOG (R600): PAUSE frames keep the transmitter paused for 50 ms; PAUSE is then ignored and 0x0C09 logged. -/
  | pauseWatchdog
  /-- ETH_STATS_CLEAR (R601): ETH_STATS_CLEAR clears the named sticky statistics bits. -/
  | ethStatsClear (via : Path) (tag : Tag) (v : BitVec 8)
  /-- FLASH_PROGRAM_DONE (R614): A sector or page program completes, making its journal record or data take effect, or fails and marks the block grown-bad. -/
  | flashProgramDone (ok : Bool)
  /-- FLASH_ERASE_DONE (R618): A block erase completes and is blank-checked before ERASE_DONE is journaled. -/
  | flashEraseDone (ok : Bool) (blank : Bool)
  /-- FLASH_MOW (R609): Flash mowing reads the next programmed sector of its pass. -/
  | flashMow (block : Nat) (corrected : Nat) (readable : Bool)
  /-- FW_BEGIN (R622): FW_BEGIN erases the inactive firmware slot and makes it WRITING. -/
  | fwBegin (via : Path) (tag : Tag)
  /-- FW_DATA (R624): FW_DATA writes 1,024 B at FW_OFFSET and advances the offset. -/
  | fwData (via : Path) (tag : Tag) (data : Bytes)
  /-- FW_FINISH (R622): FW_FINISH reads back and checks the image, making the slot READY or FAILED. -/
  | fwFinish (via : Path) (tag : Tag) (v : BitVec 32) (f : Facts)
  /-- FW_ACTIVATE (R622): FW_ACTIVATE updates the boot record and makes a READY slot TRIAL. -/
  | fwActivate (via : Path) (tag : Tag)
  /-- FW_CONFIRM (R622): FW_CONFIRM while running from the TRIAL slot makes it ACTIVE. -/
  | fwConfirm (via : Path) (tag : Tag)
  /-- COUNTER_LATCH (R627): COUNTER_LATCH copies the paddock's counter tables into LATCHED at one instant. -/
  | counterLatch (via : Path) (tag : Tag) (p : PNum)
  /-- TRACE_MARK (R640): TRACE_MARK writes a MARK record carrying the value. -/
  | traceMark (via : Path) (tag : Tag) (p : PNum) (v : BitVec 32)
  /-- SAMPLE_PERIOD_TICK (R635): Every SAMPLE_PERIOD a COUNTER_SAMPLE record is written for each enabled paddock. -/
  | samplePeriodTick
  /-- PC_PERIOD_TICK (R636): At each PC_PERIOD tick each engine and SWD island inspects one thread or tussock and writes a PC record if enabled. -/
  | pcPeriodTick (k : Nat)
  /-- TRACE_MIRROR_BASE (R632): A write to TRACE_MIRROR_BASE restarts the trace mirror. -/
  | traceMirrorBase (via : Path) (tag : Tag) (p : PNum) (v : BitVec 64)
  /-- TRACE_MIRROR_COPY (R632): While the mirror ring has room, records are copied from the share in order, stopping with 0x0F02 on a fault. -/
  | traceMirrorCopy (p : PNum)
  /-- ALLOTMENT_RECORD_SIGNED (R59): SEC finishes signing an allotment record; the record and its ALLOT_SEQUENCE are published, the allotment-record source fires, and a pending OPEN then enables fetch and finishes. -/
  | allotmentRecordSigned (p : PNum)
  /-- ROOT_RECONSTRUCTED (R489): SEC ends the reconstruction of the root secret; SEC_STATE reads 1 or 2, the device keys are derived, and start-up goes on to check and apply the current configuration;
  `failed` names the islands that do not return to service (R647). -/
  | rootReconstructed (copy : Option (Fin 4)) (c : ConfigCheck) (failed : List (Fin 64))
  /-- ETH_LINK_CHANGE (R520): The external PHY reports the management Ethernet link up or down; ETH_LINK changes, the MAC takes the PHY's speed and duplex when ETH_MODE is 0, and the Ethernet-link source fires. -/
  | ethLinkChange (v : BitVec 8)
  /-- SENSOR_BUS_ALERT (R520): A device on the sensor bus asserts its alert line and the sensor-bus alert source fires. -/
  | sensorBusAlert
  deriving DecidableEq, Repr

end Sys2Proof
end

