-- ==== Sys2Proof/Machine/Bits.lean ====
section
/-! DEFINITION. Bit fields, byte order, and packing: byte 0 of every laid-out record holds its
highest-numbered bits (R63); PCIe registers are the little-endian exception. -/

namespace Sys2Proof.Machine
open Sys2Proof

/-- Field [hi:lo] of a number read as bits. -/
def bits (x hi lo : Nat) : Nat := (x >>> lo) % 2 ^ (hi + 1 - lo)

/-- Bit i of a number. -/
def bit (x i : Nat) : Bool := (x >>> i) % 2 = 1

/-- The low n bits of a number. -/
def low (n x : Nat) : Nat := x % 2 ^ n

/-- 1 for true. -/
def b2n (b : Bool) : Nat := if b then 1 else 0

/-- Set or clear bit i. -/
def putBit (x i : Nat) (v : Bool) : Nat :=
  if bit x i = v then x else if v then x + 2 ^ i else x - 2 ^ i

/-- Bits of a that are also in b; in a or b; in a but not in b. -/
def meet (a b : Nat) : Nat := a &&& b
def join (a b : Nat) : Nat := a ||| b
def less (a b : Nat) : Nat := a - (a &&& b)

/-- The numbers of the set bits below n, ascending. -/
def setBits (n x : Nat) : List Nat := (List.range n).filter (bit x)

/-- How many bits below n are set. -/
def popCount (n x : Nat) : Nat := (setBits n x).length

/-- A number from bytes, most significant byte first (R63). -/
def beNat (bs : Bytes) : Nat := bs.foldl (fun a b => a * 256 + b.toNat) 0

/-- A number from bytes, least significant byte first (R63's PCIe registers; R343). -/
def leNat : Bytes → Nat
  | [] => 0
  | b :: t => b.toNat + 256 * leNat t

/-- n bytes of a number, least significant first. -/
def leBytes : Nat → Nat → Bytes
  | 0, _ => []
  | n + 1, x => BitVec.ofNat 8 x :: leBytes n (x / 256)

/-- n bytes of a number, most significant first (R63). -/
def beBytes (n x : Nat) : Bytes := (leBytes n x).reverse

/-- Pack fields given as (width, value), the highest-numbered bits first. -/
def pack : List (Nat × Nat) → Nat
  | [] => 0
  | (w, v) :: t => (v % 2 ^ w) * 2 ^ (t.foldl (fun a f => a + f.1) 0) + pack t

/-- Pad with zero bytes, or cut, to a length. -/
def fit (n : Nat) (bs : Bytes) : Bytes := (bs ++ List.replicate (n - bs.length) 0).take n

/-- Cut a list into pieces of at most n (n > 0), with fuel. -/
def chunksOf {α : Type} (n : Nat) : Nat → List α → List (List α)
  | 0, _ => []
  | _ + 1, [] => []
  | k + 1, l => l.take n :: chunksOf n k (l.drop n)

/-- ⌈a / b⌉. -/
def ceilDiv (a b : Nat) : Nat := if b = 0 then 0 else (a + b - 1) / b

/-- Do [a, a + n) and [b, b + m) meet? -/
def overlap (a n b m : Nat) : Bool := a < b + m && b < a + n && 0 < n && 0 < m

/-- A number that saturates. -/
def sat (most x : Nat) : Nat := if most < x then most else x

/-- Replace element i of a list. -/
def putAt {α : Type} (l : List α) (i : Nat) (a : α) : List α := l.set i a

/-- Overwrite the bytes from offset o. -/
def splice (whole : Bytes) (o : Nat) (part : Bytes) : Bytes :=
  whole.take o ++ part ++ whole.drop (o + part.length)

/-- Read a two's complement number of n bits. -/
def toSigned (n x : Nat) : Int := if x < 2 ^ (n - 1) then (x : Int) else (x : Int) - (2 ^ n : Nat)

/-- Write a two's complement number of n bits. -/
def ofSigned (n : Nat) (x : Int) : Nat := (x % ((2 ^ n : Nat) : Int)).toNat

end Sys2Proof.Machine
end

