-- ==== Sys2Proof/Machine/Flags.lean ====
section
/-! DEFINITION. The arithmetic status of a Sward result (R328): one bit per condition, joined over all elements. -/

namespace Sys2Proof.Machine
open Sys2Proof

/-- Status bits [7] to [0] of the table *Arithmetic status, 16 bits*. -/
def stNanOut : Nat := 0x80
def stInfOut : Nat := 0x40
def stSaturated : Nat := 0x20
def stUnderflow : Nat := 0x10
def stSliceLoss : Nat := 0x08
def stScaleNan : Nat := 0x04
def stSrUsed : Nat := 0x02
def stInexact : Nat := 0x01

/-- A status bit where a condition holds. -/
def flagIf (c : Bool) (f : Nat) : Nat := if c then f else 0

/-- Join the statuses of several elements. -/
def joinFlags (l : List Nat) : Nat := l.foldl join 0

/-- RESULT of a Sward opcode (R342): rows or partials in [63:32], resumptions in [31:16], status in [15:0]. -/
def swardResult (rows resumes status : Nat) : Nat := pack [(32, rows), (16, sat 65535 resumes), (16, status)]

end Sys2Proof.Machine
end

