-- ==== Sys2Proof/Machine/Arith.lean ====
section
/-! DEFINITION. The arithmetic of the Sward and of the Sheaf: number formats, exact values, rounding with its status, dot
products by class, block scaling (R303 to R329, R385, R386). -/

namespace Sys2Proof.Machine
open Sys2Proof

/-! ### Exact values -/

/-- A value: NaN, an infinity, or sign, whole number and power of two. -/
inductive Num where
  | nan
  | inf (neg : Bool)
  | fin (neg : Bool) (m : Nat) (e : Int)
  deriving DecidableEq, Repr, Inhabited

/-- The positive zero. -/
def Num.zero : Num := .fin false 0 0
def Num.isNan : Num → Bool | .nan => true | _ => false
def Num.isInf (neg : Bool) : Num → Bool | .inf n => n = neg | _ => false
def Num.isZero : Num → Bool | .fin _ 0 _ => true | _ => false
def Num.isNegZero : Num → Bool | .fin true 0 _ => true | _ => false
def Num.isFin : Num → Bool | .fin .. => true | _ => false

/-- A whole number times a power of two. -/
structure Dyad where
  m : Int
  e : Int
  deriving DecidableEq, Repr, Inhabited

def Dyad.zero : Dyad := { m := 0, e := 0 }

/-- The exact sum. -/
def Dyad.add (a b : Dyad) : Dyad :=
  if a.e ≤ b.e then { m := a.m + b.m * (2 ^ (b.e - a.e).toNat : Nat), e := a.e }
  else { m := a.m * (2 ^ (a.e - b.e).toNat : Nat) + b.m, e := b.e }

/-- The finite part of a value; 0 for a NaN or an infinity. -/
def Num.dyad : Num → Dyad
  | .fin neg m e => { m := if neg then -(m : Int) else m, e := e }
  | _ => Dyad.zero

/-- A value from an exact number, with the sign a zero takes. -/
def Dyad.num (d : Dyad) (zeroNeg : Bool) : Num :=
  if d.m = 0 then .fin zeroNeg 0 0 else .fin (d.m < 0) d.m.natAbs d.e

/-- The exact product; an infinity times a zero is a NaN (R315, R323). -/
def Num.mul : Num → Num → Num
  | .nan, _ => .nan
  | _, .nan => .nan
  | .inf a, .inf b => .inf (a != b)
  | .inf a, .fin b m _ => if m = 0 then .nan else .inf (a != b)
  | .fin a m _, .inf b => if m = 0 then .nan else .inf (a != b)
  | .fin a m e, .fin b n f => .fin (a != b) (m * n) (e + f)

/-- The exact sum of a list, with R323's rules for NaN and infinities and the sign that a zero sum takes. -/
def sumNums (xs : List Num) (zeroNeg : Bool) : Num :=
  let pos := xs.any (Num.isInf false)
  let neg := xs.any (Num.isInf true)
  if xs.any Num.isNan || (pos && neg) then .nan
  else if pos then .inf false
  else if neg then .inf true
  else (xs.foldl (fun a x => a.add x.dyad) Dyad.zero).num zeroNeg

/-- Binary addition with the signs of IEEE 754 zeros: equal signs keep theirs, else + or, rounding down, − (R318, R324). -/
def addIeee (a b : Num) (rdn : Bool) : Num :=
  let sign := if a.isZero && b.isZero then (if a.isNegZero = b.isNegZero then a.isNegZero else rdn) else rdn
  sumNums [a, b] sign

/-- −x. -/
def Num.negate : Num → Num
  | .nan => .nan | .inf n => .inf (!n) | .fin n m e => .fin (!n) m e

/-- Is a smaller than b? −0 counts as smaller than +0; NaN is not compared (R386). -/
def Num.lt (a b : Num) : Bool :=
  match a, b with
  | .inf x, .inf y => x && !y
  | .inf x, .fin .. => x
  | .fin .., .inf y => !y
  | .fin n m e, .fin k l f =>
    if m = 0 && l = 0 then n && !k
    else
      let x := ({ m := if n then -(m : Int) else m, e := e } : Dyad)
      let y := ({ m := if k then (l : Int) else -(l : Int), e := f } : Dyad)
      (x.add y).m < 0
  | _, _ => false

/-! ### Number formats (R308) -/

/-- Bits of one element. -/
def fmtBits : Nat → Nat
  | 0x00 => 4 | 0x01 => 8 | 0x02 => 32 | 0x03 => 4 | 0x04 => 6 | 0x05 => 6 | 0x06 => 8 | 0x07 => 8
  | 0x08 => 4 | 0x09 => 6 | 0x0A => 6 | 0x0B => 8 | 0x0C => 8 | 0x0D => 8 | 0x0E => 16 | 0x0F => 16
  | 0x10 => 32 | 0x11 => 64 | _ => 8

def isMx (f : Nat) : Bool := 0x08 ≤ f && f ≤ 0x0C
/-- The element format of an MX format. -/
def elemFmt (f : Nat) : Nat := if isMx f then f - 5 else f
def isInt (f : Nat) : Bool := f ≤ 2

/-- Exponent bits, mantissa bits and bias of a floating-point format. -/
def fmtShape : Nat → Nat × Nat × Nat
  | 0x03 => (2, 1, 1) | 0x04 => (2, 3, 1) | 0x05 => (3, 2, 3) | 0x06 => (4, 3, 7) | 0x07 => (5, 2, 15)
  | 0x0E => (8, 7, 127) | 0x0F => (5, 10, 15) | 0x10 => (8, 23, 127) | _ => (11, 52, 1023)

/-- Has the format infinities and NaNs of IEEE style? -/
def isIeee (f : Nat) : Bool := f = 0x07 || (0x0E ≤ f && f ≤ 0x11)
/-- Results of these formats always saturate, and a NaN is written as +0 (R326, R345). -/
def alwaysSat (f : Nat) : Bool := f ≤ 0x05

/-- The canonical NaN (R310); +0 where a format has none. -/
def nanCode : Nat → Nat
  | 0x06 => 0x7F | 0x07 => 0x7E | 0x0E => 0x7FC0 | 0x0F => 0x7E00 | 0x10 => 0x7FC00000 | 0x11 => 0x7FF8000000000000 | _ => 0

/-- The encoding of the largest finite magnitude. -/
def maxCode (f : Nat) : Nat :=
  let (eb, mb, _) := fmtShape f
  if isIeee f then (2 ^ eb - 1) * 2 ^ mb - 1
  else if f = 0x06 then 0x7E
  else 2 ^ (eb + mb) - 1

/-- The value of an encoding (R308, R309). -/
def decodeNum (f x : Nat) : Num :=
  if isInt f then
    let v := toSigned (fmtBits f) (x % 2 ^ fmtBits f)
    .fin (v < 0) v.natAbs 0
  else if f = 0x0D then (if x = 0xFF then .nan else .fin false 1 ((x : Int) - 127))
  else
    let (eb, mb, bias) := fmtShape (elemFmt f)
    let neg := bit x (eb + mb)
    let e := bits x (eb + mb - 1) mb
    let m := bits x (mb - 1) 0
    if elemFmt f = 0x06 && low 7 x = 0x7F then .nan
    else if isIeee (elemFmt f) && e = 2 ^ eb - 1 then (if m = 0 then .inf neg else .nan)
    else if e = 0 then .fin neg m (1 - (bias : Int) - mb)
    else .fin neg (2 ^ mb + m) ((e : Int) - bias - mb)

/-! ### Rounding (R325 to R327) -/

/-- How a value is rounded: mode, SAT, and the inputs of the stochastic generator. -/
structure Rounding where
  mode : Nat := 0
  sat : Bool := false
  seed : Nat := 0
  stream : Nat := 0
  deriving DecidableEq, Repr, Inhabited

/-- A positive fraction n / d as a multiple of 2^q: whole part, rest over den. -/
def scaled (n d : Nat) (q : Int) : Nat × Nat × Nat :=
  let (a, b) := if 0 ≤ q then (n, d * 2 ^ q.toNat) else (n * 2 ^ (-q).toNat, d)
  (a / b, a % b, b)

/-- The exponent k with 2^k ≤ n / d < 2^(k + 1), for a fraction above 0. -/
def exponentOf (n d : Nat) : Int :=
  let k : Int := (Nat.log2 n : Int) - Nat.log2 d
  let (w, _, _) := scaled n d k
  if w = 0 then k - 1 else k

/-- Round the whole part up? The magnitude lies `r / b` of the way to the next value; `i`, `j` index the element (R327). -/
def roundUp (m : Rounding) (neg : Bool) (w r b i j : Nat) : Bool :=
  match m.mode with
  | 0 => b < 2 * r || (b = 2 * r && w % 2 = 1)
  | 1 => false
  | 2 => !neg && 0 < r
  | 3 => neg && 0 < r
  | _ => philox m.seed m.stream i j * b < r * 2 ^ 32

/-- The magnitude of a result beyond the largest finite value (R326): does it become infinite? -/
def overflowInf (mode : Nat) (neg : Bool) : Bool :=
  match mode with
  | 1 => false | 2 => !neg | 3 => neg | _ => true

/-- An encoding with its status bits. -/
abbrev Coded := Nat × Nat

/-- A saturated or infinite or NaN code in a floating-point format, for a result too large (R326). -/
def codeLarge (f : Nat) (m : Rounding) (neg wasInf : Bool) : Coded :=
  let sign := let (eb, mb, _) := fmtShape f; if neg then 2 ^ (eb + mb) else 0
  if m.sat || alwaysSat f then (sign + maxCode f, stSaturated + flagIf (!wasInf) stInexact)
  else if wasInf || overflowInf m.mode neg then
    (if f = 0x06 then (nanCode f, stNanOut + flagIf (!wasInf) stInexact)
     else (sign + maxCode f + 1, stInfOut + flagIf (!wasInf) stInexact))
  else (sign + maxCode f, stInexact)

/-- Round a fraction above 0 into a floating-point format. -/
def codeFloat (f : Nat) (m : Rounding) (neg : Bool) (n d i j : Nat) : Coded :=
  let (eb, mb, bias) := fmtShape f
  let sign := if neg then 2 ^ (eb + mb) else 0
  let least : Int := 1 - (bias : Int)
  let k := max (exponentOf n d) least
  let (w, r, b) := scaled n d (k - mb)
  -- the largest finite value, as a multiple of its own unit
  let (mw, _, _) : Nat × Nat × Nat := (maxCode f % 2 ^ mb + 2 ^ mb, 0, 0)
  let mk : Int := (maxCode f / 2 ^ mb : Nat) - (bias : Int)
  let beyond := mk < k || (k = mk && (mw < w || (w = mw && 0 < r)))
  let mode := if m.mode = 4 && beyond then 0 else m.mode
  let up := roundUp { m with mode := mode } neg w r b i j
  let w' := if up then w + 1 else w
  let inexact := flagIf (0 < r) (stInexact + flagIf (m.mode = 4 && !beyond) stSrUsed)
  let tooBig := mk < k || (k = mk && mw < w')
  if tooBig then
    let (c, st) := codeLarge f { m with mode := mode } neg false
    (c, join st inexact)
  else
    -- w' counts units of 2^(k - mb); at k = least its top bit may be missing (a subnormal)
    let code := if w' < 2 ^ mb then w' else (k - least + 1).toNat * 2 ^ mb + (w' - 2 ^ mb)
    (sign + code, inexact + flagIf (w' = 0) stUnderflow)

/-- Round a fraction above 0 into a two's complement format; results always saturate (R326, R345). -/
def codeInt (f : Nat) (m : Rounding) (neg : Bool) (n d i j : Nat) : Coded :=
  let w := fmtBits f
  let (q, r, b) := scaled n d 0
  let q' := if roundUp m neg q r b i j then q + 1 else q
  let inexact := flagIf (0 < r) (stInexact + flagIf (m.mode = 4) stSrUsed)
  let most := if neg then 2 ^ (w - 1) else 2 ^ (w - 1) - 1
  if most < q' then (if neg then 2 ^ (w - 1) else most, join (stSaturated + stInexact) inexact)
  else (ofSigned w (if neg then -(q' : Int) else q'), inexact + flagIf (q' = 0) stUnderflow)

/-- Round a fraction of either sign: (negative, numerator, denominator above 0). -/
def codeFrac (f : Nat) (m : Rounding) (neg : Bool) (n d i j : Nat) : Coded :=
  if n = 0 then (if isInt f then 0 else if neg then (let (eb, mb, _) := fmtShape f; 2 ^ (eb + mb)) else 0, 0)
  else if isInt f then codeInt f m neg n d i j
  else codeFloat f m neg n d i j

/-- round_out: any value into a format, with its status. -/
def roundOut (f : Nat) (m : Rounding) (i j : Nat) : Num → Coded
  | .nan => (nanCode f, stNanOut)
  | .inf neg =>
    if isInt f then (if neg then 2 ^ (fmtBits f - 1) else 2 ^ (fmtBits f - 1) - 1, stSaturated)
    else codeLarge f m neg true
  | .fin neg x e => if 0 ≤ e then codeFrac f m neg (x * 2 ^ e.toNat) 1 i j else codeFrac f m neg x (2 ^ (-e).toNat) i j

/-- Round to nearest FP32 and read the value back. -/
def rne32 (x : Num) : Num := decodeNum 0x10 (roundOut 0x10 {} 0 0 x).1
/-- Round to BF16 in a mode, back to a value. -/
def toBf16 (mode : Nat) (x : Num) : Num := decodeNum 0x0E (roundOut 0x0E { mode := mode } 0 0 x).1

/-! ### Operand classes (R311) -/

/-- 1 integer, 2 narrow float, 3 MX, 4 16-bit, 5 FP32 split, 6 FP64 slice; 0 for no operand format. -/
def fmtClass (f : Nat) : Nat :=
  if f ≤ 1 then 1 else if 0x03 ≤ f && f ≤ 0x07 then 2 else if isMx f then 3 else if f = 0x0E || f = 0x0F then 4
  else if f = 0x10 then 5 else if f = 0x11 then 6 else 0

/-- May C or D of a class have this format? -/
def outAllowed (cls f : Nat) : Bool :=
  match cls with
  | 1 => f = 2 || (3 ≤ f && f ≤ 7) || (0x0E ≤ f && f ≤ 0x11)
  | 5 => 0x0E ≤ f && f ≤ 0x11
  | 6 => f = 0x10 || f = 0x11
  | _ => (3 ≤ f && f ≤ 7) || (0x0E ≤ f && f ≤ 0x11)

/-- May an operation have these formats (A, B, C where present, D)? -/
def mmaFormats (a b d : Nat) (c : Option Nat) : Bool :=
  fmtClass a ≠ 0 && fmtClass a = fmtClass b && outAllowed (fmtClass a) d &&
  (match c with | none => true | some f => outAllowed (fmtClass a) f)

/-! ### One element of D (R316 to R324) -/

/-- Products of two runs of operands. -/
def products (as bs : List Num) : List Num := (as.zip bs).map (fun p => p.1.mul p.2)

/-- D = round(C + exact sum) for the exact classes; a zero sum with a zero C is +0, −0 rounding down or where every product
and C is −0 (R316, R324). -/
def dotExact (as bs : List Num) (c : Option Num) (rdn : Bool) : Num :=
  let ps := products as bs
  let all := ps ++ [c.getD Num.zero]
  sumNums all (rdn || all.all Num.isNegZero)

/-- FP32 chunk sums in ascending order (R318). -/
def chunkSum (terms : List (List Num)) : Num :=
  (terms.foldl (fun acc t =>
    let s := rne32 (sumNums t (t.all Num.isNegZero))
    match acc with
    | none => some s
    | some a => some (rne32 (addIeee a s false))) (none : Option Num)).getD Num.zero

/-- Does any operand or product need R323 at the level of the operands? -/
def special (ps : List Num) : Bool := ps.any (fun p => !p.isFin)

/-- A NaN or infinity that the operands alone decide (R323). -/
def specialSum (ps : List Num) (c : Num) : Num := sumNums (ps ++ [c]) false

/-- The two BF16 terms of an FP32 operand (R320). -/
def splitTerms (a : Num) : Num × Num :=
  let hi := toBf16 1 a
  (hi, toBf16 0 (addIeee a hi.negate false))

/-- The 16-bit and FP32-split classes (R318 to R320). -/
def dotChunks (split : Bool) (as bs : List Num) (c : Option Num) (rdn : Bool) : Num :=
  let ps := products as bs
  let c := c.getD Num.zero
  if special ps || !c.isFin then specialSum ps c
  else
    let terms := (as.zip bs).map (fun p =>
      if split then
        let (ha, la) := splitTerms p.1
        let (hb, lb) := splitTerms p.2
        [ha.mul hb, ha.mul lb, la.mul hb]
      else [p.1.mul p.2])
    let chunks := (chunksOf 32 (terms.length / 32 + 1) terms).map List.flatten
    addIeee c (chunkSum chunks) rdn

/-- The smallest integer e with 2^e above every magnitude; 0 for none (R321). -/
def sliceExp (xs : List Num) : Int :=
  let es := xs.filterMap (fun x => match x with | .fin _ m e => if m = 0 then none else some ((Nat.log2 m : Int) + 1 + e) | _ => none)
  match es with
  | [] => 0
  | e :: t => t.foldl max e

/-- x × 2^(46 − e), truncated toward zero; the six signed digits of R321 sum to it exactly. -/
def sliceInt (e : Int) (x : Num) : Int :=
  match x with
  | .fin neg m f =>
    let k := f + 46 - e
    let v : Nat := if 0 ≤ k then m * 2 ^ k.toNat else m / 2 ^ (-k).toNat
    if neg then -(v : Int) else v
  | _ => 0

/-- Did a non-zero finite operand give 0 (SLICE_LOSS)? -/
def sliceLoss (e : Int) (x : Num) : Bool := x.isFin && !x.isZero && sliceInt e x = 0

/-- The FP64 slice class (R321). -/
def dotSlice (as bs : List Num) (c : Option Num) (rdn : Bool) : Num × Nat :=
  let ps := products as bs
  let c0 := c.getD Num.zero
  let ea := sliceExp as
  let eb := sliceExp bs
  let loss := flagIf (as.any (sliceLoss ea) || bs.any (sliceLoss eb)) stSliceLoss
  if special ps || !c0.isFin then (specialSum ps c0, loss)
  else
    let s := ((as.zip bs).map (fun p => sliceInt ea p.1 * sliceInt eb p.2)).foldl (· + ·) 0
    let total := ({ m := s, e := ea + eb - 92 } : Dyad).add c0.dyad
    (total.num (rdn || (ps.all Num.isNegZero && c0.isNegZero)), loss)

/-- One element of D before round_out, with SLICE_LOSS (R316, R318, R321). -/
def dot (cls : Nat) (as bs : List Num) (c : Option Num) (rdn : Bool) : Num × Nat :=
  match cls with
  | 4 => (dotChunks false as bs c rdn, 0)
  | 5 => (dotChunks true as bs c rdn, 0)
  | 6 => dotSlice as bs c rdn
  | _ => (dotExact as bs c rdn, 0)

/-! ### Block scaling (R312 to R314) -/

/-- emax of an MX element format. -/
def mxEmax : Nat → Int
  | 0x03 => 2 | 0x04 => 2 | 0x05 => 4 | 0x06 => 8 | _ => 15

/-- A value times 2^k. -/
def Num.shift (k : Int) : Num → Num
  | .fin n m e => .fin n m (e + k)
  | x => x

/-- An MX element under its scale. -/
def mxValue (f scale x : Nat) : Num :=
  if scale = 0xFF then .nan else (decodeNum (elemFmt f) x).shift ((scale : Int) - 127)

/-- Convert a block of 32 values: scale, elements, status (R314). i and j0 index the block's first element. -/
def mxBlock (f : Nat) (m : Rounding) (i j0 : Nat) (xs : List Num) : Nat × List Nat × Nat :=
  let el := elemFmt f
  if xs.any (fun x => !x.isFin) then (0xFF, xs.map (fun _ => 0), stNanOut)
  else if xs.all Num.isZero then (0, xs.map (fun _ => 0), 0)
  else
    let top := xs.foldl (fun a x => match x with
      | .fin _ k e => if k = 0 then a else (match a with
        | none => some ((Nat.log2 k : Int) + e)
        | some t => some (max t ((Nat.log2 k : Int) + e)))
      | _ => a) (none : Option Int)
    let se := max (-127) (min 127 ((top.getD 0) - mxEmax el))
    let cs := xs.zipIdx.map (fun p => roundOut el { m with sat := true } i (j0 + p.2) (p.1.shift (-se)))
    ((se + 127).toNat, cs.map (·.1), joinFlags (cs.map (·.2)))

/-! ### Rows in memory (R343, R361) -/

/-- The bytes of n densely packed elements. -/
def packedBytes (f n : Nat) : Nat := ceilDiv (n * fmtBits f) 8

/-- Element e of a packed row. -/
def elemOf (f : Nat) (row : Bytes) (e : Nat) : Nat :=
  let w := fmtBits f
  if 8 ≤ w then leNat ((row.drop (e * (w / 8))).take (w / 8))
  else
    let b := w * e
    bits (leNat ((row.drop (b / 8)).take 2)) (b % 8 + w - 1) (b % 8)

/-- Pack elements into a row. -/
def packElems (f : Nat) (es : List Nat) : Bytes :=
  let w := fmtBits f
  if 8 ≤ w then (es.map (leBytes (w / 8))).flatten
  else leBytes (packedBytes f es.length) (es.foldr (fun e a => e % 2 ^ w + a * 2 ^ w) 0)

/-- Values of a row of cols elements; an MX row's scales follow its elements (R361). -/
def rowValues (f cols : Nat) (row : Bytes) : List Num :=
  let scales := row.drop (packedBytes f cols)
  (List.range cols).map (fun e =>
    if isMx f then mxValue f ((scales.getD (e / 32) 0).toNat) (elemOf f row e) else decodeNum f (elemOf f row e))

/-- Was a scale of 0xFF read (SCALE_NAN)? -/
def rowScaleNan (f cols : Nat) (row : Bytes) : Nat :=
  flagIf (isMx f && ((row.drop (packedBytes f cols)).take (ceilDiv cols 32)).contains 0xFF) stScaleNan

/-- Bytes of a transform row. -/
def rowBytes (f cols : Nat) : Nat := packedBytes f cols + (if isMx f then ceilDiv cols 32 else 0)

/-- Round a row of values into a format: elements, then scales where the format is MX; and the status. -/
def codeRow (f : Nat) (m : Rounding) (i : Nat) (xs : List Num) : Bytes × Nat :=
  if isMx f then
    let bs := (chunksOf 32 (xs.length / 32 + 1) xs).zipIdx.map (fun p => mxBlock f m i (32 * p.2) p.1)
    (packElems f ((bs.map (·.2.1)).flatten) ++ bs.map (fun b => BitVec.ofNat 8 b.1), joinFlags (bs.map (·.2.2)))
  else
    let cs := xs.zipIdx.map (fun p => roundOut f m i p.2 p.1)
    (packElems f (cs.map (·.1)), joinFlags (cs.map (·.2)))

/-- Elements written as NaN, and elements saturated, of a row (+0x60.01, +0x60.02). -/
def rowCounts (f : Nat) (m : Rounding) (i : Nat) (xs : List Num) : Nat × Nat :=
  if isMx f then
    let bs := (chunksOf 32 (xs.length / 32 + 1) xs)
    (bs.foldl (fun a b => a + (if b.any (fun x => !x.isFin) then b.length else 0)) 0,
     ((bs.zipIdx.map (fun p =>
       let es := p.1
       if es.any (fun x => !x.isFin) || es.all Num.isZero then 0
       else
         let (sc, _, _) := mxBlock f m i (32 * p.2) es
         ((es.zipIdx.filter (fun q => bit (roundOut (elemFmt f) { m with sat := true } i (32 * p.2 + q.2) (q.1.shift (127 - (sc : Int)))).2 5)).length)))).foldl (· + ·) 0)
  else
    let cs := xs.zipIdx.map (fun p => (roundOut f m i p.2 p.1).2)
    ((cs.filter (fun c => bit c 7)).length, (cs.filter (fun c => bit c 5)).length)

/-! ### 2^a, correctly rounded (R369, R374) -/

/-- Bits of the fixed-point numbers below. -/
def expBits : Nat := 320

/-- ln 2 as a multiple of 2^-320: the sum of 1 / (k 2^k). -/
def ln2Fixed : Nat := (List.range 330).foldl (fun a k => a + 2 ^ (expBits + 8) / ((k + 1) * 2 ^ (k + 1))) 0 / 2 ^ 8

/-- e^y by its series, y a multiple of 2^-320 below 1. -/
def expFixed (y : Nat) : Nat :=
  ((List.range 80).foldl (fun (acc : Nat × Nat) k =>
    let t := acc.2 * y / 2 ^ expBits / (k + 1)
    (acc.1 + t, t)) (2 ^ expBits, 2 ^ expBits)).1

/-- 2^a rounded to FP32, ties to even: exact for a whole number; otherwise 2^a is irrational, and its 320-bit value decides
the rounding (DEDUCED, log 15). -/
def crExp2 (a : Num) : Num :=
  match a with
  | .nan => .nan
  | .inf neg => if neg then Num.zero else .inf false
  | .fin neg m e =>
    let d : Int := if neg then -(m : Int) else m
    if 0 ≤ e then
      let i := d * (2 ^ e.toNat : Nat)
      if i < -200 then Num.zero else if 200 < i then .inf false else rne32 (.fin false 1 i)
    else
      let den : Nat := 2 ^ (-e).toNat
      let i := d / (den : Int)
      let f := (d % (den : Int)).toNat
      if i < -200 then Num.zero
      else if 200 < i then .inf false
      else if f = 0 then rne32 (.fin false 1 i)
      else
        let y := f * ln2Fixed / den
        rne32 (.fin false (2 * expFixed y + 1) (i - (expBits : Int) - 1))

/-- The exact quotient of two finite values, rounded once (R375). -/
def codeQuot (f : Nat) (m : Rounding) (i j : Nat) (x y : Num) : Coded :=
  match x, y with
  | .fin nx mx ex, .fin ny my ey =>
    if my = 0 then (if mx = 0 then roundOut f m i j .nan else roundOut f m i j (.inf (nx != ny)))
    else
      let k := ex - ey
      if 0 ≤ k then codeFrac f m (nx != ny) (mx * 2 ^ k.toNat) my i j else codeFrac f m (nx != ny) mx (my * 2 ^ (-k).toNat) i j
  | _, _ => roundOut f m i j .nan

/-- FP32 division, rounded to nearest (R369). -/
def div32 (x y : Num) : Num := decodeNum 0x10 (codeQuot 0x10 {} 0 0 x y).1

/-! ### The log-sum-exp terms and reductions (R385, R386, R392) -/

/-- Truncate toward zero to a multiple of 2^-149 (R392). -/
def trunc149 (x : Num) : Num :=
  match x with
  | .fin n m e => if -149 ≤ e then x else .fin n (m / 2 ^ (-149 - e).toNat) (-149)
  | x => x

/-- MAX or MIN of contributions (R386). -/
def extreme (mx : Bool) (xs : List Num) : Num :=
  if xs.any Num.isNan then .nan
  else match xs with
    | [] => Num.zero
    | x :: t => t.foldl (fun a b => if (if mx then a.lt b else b.lt a) then b else a) x

end Sys2Proof.Machine
end

