-- ==== Sys2Proof/Config.lean ====
section
/-! DEFINITION. What one part fixes and the manual does not: device identity, and the free values.
Every constant here has no body, so no proof can see its value. -/

namespace Sys2Proof

/-- The n-th free byte: contents the manual calls undefined (R130, R132, R246 to R249, R358). -/
opaque Config.freeByte : Nat → BitVec 8

/-- The n-th free 256-bit value: a number drawn by the random generator (R420, R494). -/
opaque Config.freeRandom : Nat → BitVec 256

/-- The n-th free choice: an order or a place the manual leaves to the firmware (R667, R670). -/
opaque Config.freeChoice : Nat → Nat

/-- DEVICE_UID, 0x1000.06 (R105: the Default is the device's own). -/
opaque Config.deviceUid : BitVec 64

/-- What the XTS decryption of a line's byte under another key gives (R421, R497): a function of the key that
wrote the line, the reading key, the rick address and the byte written. -/
opaque Config.xtsOther : Nat → Nat → Nat → BitVec 8 → BitVec 8

/-- The plaintext that a key gives for a raw ciphertext byte stored by a LOAD write (R506). -/
opaque Config.xtsPlain : Nat → Nat → BitVec 8 → BitVec 8

/-- The ciphertext byte that a key gives for a plaintext byte (R418), as the seal digest reads it (R507). -/
opaque Config.xtsCipher : Nat → Nat → BitVec 8 → BitVec 8

/-- The ECDSA P-384 signature (r, s) that a named device key makes over bytes (R60, R480, R658); the last
argument tells two signings of the same bytes apart. -/
opaque Config.sign : Nat → List (BitVec 8) → Nat → BitVec 768

/-- The slot 0 certificate chain and the KAK certificate, as bytes (R509). -/
opaque Config.certChain : List (BitVec 8)

/-- Measurement digests 0x01 to 0x03 (R509): ROM, Mbomon image, security core firmware. -/
opaque Config.imageDigest : Nat → BitVec 384

/-- Read-ID bytes of the fitted flash device, 0x2200.01. -/
opaque Config.flashId : BitVec 32

/-- FLASH_BLOCKS of the fitted device: 1,024, 2,048, 4,096 or 8,192 (R603), as this choice modulo 4. -/
opaque Config.flashSize : Nat

/-- RAIL_NOMINAL of each of the 24 rails: board values, in mV (0x2103). -/
opaque Config.railNominal : Nat → Nat

/-- IDLE_POWER of each energy rail in µJ for one METER_TICK, as Mbomon calibrates it at start-up (R475). -/
opaque Config.idlePower : Nat → Nat

/-- The bytes of an SPDM response that depend on the responder's own keys and random draws (R508). -/
opaque Config.spdmBytes : Nat → List (BitVec 8) → Nat → List (BitVec 8)

/-- The bytes of a checkpoint's accumulator images (R353): the manual fixes their size, not their layout. -/
opaque Config.accumulatorByte : Nat → Nat → BitVec 8

/-- The DETAIL bits of an entry (R144): the manual lays out none of them. -/
opaque Config.detail : Nat → List Nat → BitVec 256

end Sys2Proof
end

