-- ==== Sys2Proof/Machine/State.lean ====
section
/-! DEFINITION. The state of the block: plain data, every piece of state the manual gives FV-DZ64, the queue of waiting
commands, the log of what the block has sent, and the counter that names the next free value. -/

namespace Sys2Proof.Machine
open Sys2Proof

/-! ### Paddocks (*Paddocks and the Commons*) -/

/-- Paddock state codes 0x00 to 0x05. -/
inductive PState where
  | empty | fenced | opened | draining | fallow | faulted
  deriving DecidableEq, Repr, Inhabited

/-- A control command in progress (R48, R162 to R164): its value 1 to 5, the stage it has reached, and the dies whose
answers it still waits for. -/
structure Pend where
  cmd : Nat
  /-- 0 tables pushed, 1 activation sent, 2 record being signed -/
  stage : Nat
  tables : List Nat
  /-- FENCE_ACKs waited for: die × 2 + side -/
  fences : List Nat
  gen : Nat
  accepted : Nat
  /-- what the paddock held when an OPEN was accepted: masks, counts, tag, then lots -/
  old : List Nat := []
  /-- the island whose key table will fail the read-back of a RELEASE's zeroise, 0 for none (R503) -/
  stuck : Nat := 0
  deriving DecidableEq, Repr, Inhabited

/-- A fence table of one paddock on one die (R162, R163). -/
structure FenceTable where
  die : Nat
  gen : Nat
  lots : List Nat
  active : Bool
  deriving DecidableEq, Repr, Inhabited

/-- One allocation of the allocator window (R139 to R143). -/
structure Allocation where
  va : Nat
  size : Nat
  psize : Nat
  pages : List Nat
  /-- false until the ALLOC commits, and while a FREE has removed the mapping -/
  mapped : Bool := true
  deriving DecidableEq, Repr, Inhabited

/-- A key selector slot 1 to 63 (R419, R505, R506): empty, a key, or a set key in LOAD or SEALED. -/
structure Selector where
  /-- 0 empty, 1 key, 2 LOAD, 3 SEALED (SLOT_STATE) -/
  st : Nat := 0
  key : Nat := 0
  set : Nat := 0
  locking : Bool := false
  /-- the SEAL_LOCK that waits for writers or for the digest -/
  lockTag : Option (Path × Tag) := none
  deriving DecidableEq, Repr, Inhabited

/-- A queue (R114 to R122, QUEUE_CREATE argument). -/
structure Queue where
  any : Bool
  ctx : Nat
  sqLog : Nat
  cqLog : Nat
  vector : Nat
  sqBase : Nat
  cqBase : Nat
  /-- 1 active, 2 stopped, 3 closing -/
  st : Nat := 1
  head : Nat := 0
  tail : Nat := 0
  next : Nat := 0
  cqTail : Nat := 0
  cqHead : Nat := 0
  /-- completion entries in use -/
  cqUsed : Nat := 0
  phase : Bool := true
  /-- records that wait for room or for Bus Master Enable: the record with PHASE 0, and its IRQ flag (R121, R194) -/
  waiting : List (Nat × Bool) := []
  lastErr : Nat := 0
  sqBell : Nat := 0
  cqBell : Nat := 0
  ended : List Nat := []
  closeTag : Option (Path × Tag) := none
  /-- the DRAIN_TIMEOUT of its QUEUE_DESTROY has passed (R122) -/
  expired : Bool := false
  deriving DecidableEq, Repr, Inhabited

/-- Context states 0 to 6 (*Context states*); UNDEFINED is absence from the table. -/
inductive CState where
  | idle | ready | running | waiting | parked | killed
  deriving DecidableEq, Repr, Inhabited

/-- A checkpoint record of a save area (R353 to R357). -/
structure Ckpt where
  cmdId : Nat
  entry : Nat
  queue : Nat
  digest : Nat
  base : Nat
  status : Nat
  resumes : Nat
  instr : Nat
  tile : Nat
  slot : Nat := 0
  opened : List (Nat × Nat × Nat) := []
  deriving DecidableEq, Repr, Inhabited

/-- A context (R107 to R113, R465). -/
structure Ctx where
  area : Nat
  st : CState := .idle
  epoch : Nat := 0
  /-- epochs in quarantine (R111) -/
  quarantine : List Nat := []
  /-- an advance that waits for a quarantined value (R111) -/
  advanceWaits : Bool := false
  /-- a kill whose last command has not ended yet: the advance comes then (R133, R472) -/
  advanceDue : Bool := false
  closing : Bool := false
  closeTag : Option (Path × Tag) := none
  /-- a FORCE_DESTROY that waits for the last kill -/
  forced : Bool := false
  /-- a REVIVE that waits for the last kill -/
  reviveTag : Option (Path × Tag) := none
  slot : Option Nat := none
  lastErr : Nat := 0
  kills : Nat := 0
  prio : Nat := 4
  readySince : Nat := 0
  grantedAt : Nat := 0
  progress : Nat := 0
  preempting : Bool := false
  preemptAt : Nat := 0
  ckpts : List Ckpt := []
  /-- counts since the last usage record: tussock cycles, thread cycles, link, local bytes, Sheaf operations, energy µJ -/
  usage : List Nat := [0, 0, 0, 0, 0, 0]
  /-- activity units by rail since the last METER_TICK (R486) -/
  act : List Nat := [0, 0, 0, 0]
  deriving DecidableEq, Repr, Inhabited

/-- A paddock: its state and everything it holds. -/
structure Paddock where
  state : PState := .empty
  pend : Option Pend := none
  result : Nat := 0
  cause : Nat := 0
  tag : Nat := 0
  tussocks : Nat := 0
  granules : Nat := 0
  links : Nat := 0
  bundles : Nat := 0
  qp : Nat := 0
  slots : Nat := 0
  queuesHeld : Nat := 0
  tlb : Nat := 0
  sheaf : Nat := 0
  lots : List Nat := []
  allotSeq : Nat := 0
  record : Bytes := []
  /-- nonces of records being signed, oldest first (R59) -/
  signing : List Nat := []
  drainFrom : Nat := 0
  /-- CVN used by the newest claim (ALLOT_RECORD field CVN) -/
  claimCvn : Nat := 0
  keyGen : Nat := 0
  nonceIx : Nat := 0
  tables : List FenceTable := []
  fenceGen : Nat := 0
  window : Nat × Nat := (0, 0)
  allocs : List Allocation := []
  /-- table pages of granule 124 the window uses: level-1 pages, then level-0 pages with their 2 MiB range -/
  winPages : List (Nat × Nat) := []
  /-- rick frames and table pages that PT_WRITE entries name (R670) -/
  mapped : List (Nat × Nat) := []
  sels : Tbl Selector := []
  bounceH2d : Option Nat := none
  bounceD2h : Option Nat := none
  bounceFloor : Nat := 0
  bounceTx : Nat := 0
  ctxs : Tbl Ctx := []
  queues : Tbl Queue := []
  /-- the queue that fetched last (round robin of R464) -/
  lastQueue : Nat := 0
  excl : Option (Nat × Nat) := none
  geqSeqs : List Nat := []
  mirrorTail : Nat := 0
  faultBatch : List (List Nat) := []
  faultFrom : Nat := 0
  usageSeq : Nat := 0
  usageTail : Nat := 0
  energy : Nat := 0
  snapSeq : Nat := 0
  snapPrev : Nat := 0
  snap : Bytes := []
  periodStart : Nat := 0
  allotAtPeriod : Nat := 0
  v : List Nat := [0, 0, 0, 0, 0]
  /-- tokens left of each limited class, and the fabric time of the last refill (R458) -/
  buckets : List (Nat × Nat) := []
  /-- bytes of others that links carried while its own frames waited: since it left EMPTY, and by sender in this period
  (R477, R478) -/
  waited : Nat := 0
  behind : List (Nat × Nat) := []
  act : List Nat := [0, 0, 0, 0]
  trace : List Bytes := []
  traceFirst : Nat := 0
  traceLost : Nat := 0
  traceFaulted : Bool := false
  mirrorNext : Nat := 0
  mirrorRing : Nat := 0
  latched : Bytes := []
  deriving DecidableEq, Repr, Inhabited

/-! ### Commands (*Contexts, queues, commands and the commit rule*) -/

/-- Where bytes lie after translation (*Rick memory and address translation*). -/
inductive Place where
  /-- rick address, key selector -/
  | rick (a : Nat) (sel : Nat)
  | host (a : Nat)
  | lot (lot : Nat) (off : Nat)
  /-- rick of the other half (TARGET 3) -/
  | far (a : Nat) (sel : Nat)
  deriving DecidableEq, Repr, Inhabited

/-- What a command does at its commit (R127, R128). -/
inductive Effect where
  | wr (at_ : Place) (data : Bytes)
  /-- a signal word: SET or ADD (R137) -/
  | sig (at_ : Place) (add : Bool) (v : Nat)
  /-- TIMESTAMP: the fabric time of the commit -/
  | stamp (at_ : List (Place × Nat))
  /-- map an ALLOC's pages (R140): NOZERO clear says zero them -/
  | addAlloc (va : Nat) (zero : Bool)
  | dropAlloc (va : Nat)
  deriving DecidableEq, Repr, Inhabited

/-- How far a command has come. -/
inductive Phase where
  /-- fetched; not started -/
  | fetched
  /-- started; waiting for bytes, replies, tile steps or a condition -/
  | started
  /-- ready to commit -/
  | ready
  deriving DecidableEq, Repr, Inhabited

/-- A running Sward program (R346 to R353). -/
structure Run where
  instr : Nat := 0
  tile : Nat := 0
  /-- open tiles: (tile, K_FIRST, K_NEXT, tussock) -/
  opened : List (Nat × Nat × Nat × Nat) := []
  status : Nat := 0
  resumes : Nat := 0
  /-- a checkpoint is wanted: work stops at the next boundary (R351) -/
  stop : Bool := false
  /-- tussocks that have reached it -/
  boundary : List Nat := []
  deriving DecidableEq, Repr, Inhabited

/-- A fetched, uncommitted command. -/
structure Cmd where
  p : Nat
  q : Nat
  entry : Nat
  desc : Nat
  ctx : Nat
  epoch : Nat
  order : Nat
  phase : Phase := .fetched
  reruns : Nat := 0
  thread : Nat := 0
  /-- further threads of its segments (R208) -/
  threads : List Nat := []
  at_ : Nat := 0
  status : Nat := 0
  result : Nat := 0
  kind : Nat := 0
  effects : List Effect := []
  /-- rick ranges held for it (R129): address and length -/
  holds : List (Nat × Nat) := []
  /-- bytes gathered from outside the rick: request number and data -/
  ext : List (Nat × Bytes) := []
  /-- requests still out: request number -/
  asked : List Nat := []
  /-- writes into die memory still unanswered -/
  acksDue : Nat := 0
  /-- open messages: QPN and MSG -/
  msgs : List (Nat × Nat) := []
  /-- messages that must still commit, atomics or dispatches still out -/
  due : Nat := 0
  /-- messages of killed attempts: QPN, MSG, place in the attempt -/
  aborted : List (Nat × Nat × Nat) := []
  run : Option Run := none
  inst : Option (Nat × Nat) := none
  killWaits : Bool := false
  readyAt : Nat := 0
  waitOn : Option Nat := none
  /-- the rick range of a read that waits for its holder (R129) -/
  heldAt : Option (Nat × Nat) := none
  usesSelW : List Nat := []
  slot : Option Nat := none
  backoff : Bool := false
  /-- the timeout of its WAIT passed before this attempt -/
  expired : Bool := false
  freed : Option Nat := none
  /-- EXCL holds for this command (R467) -/
  exclOn : Bool := false
  /-- an inbound access that gathers bytes, not a tenant's command -/
  inner : Bool := false
  /-- a range invalidation it waits for -/
  inval : Option Nat := none
  deriving DecidableEq, Repr, Inhabited

/-- A killed command not yet rerun (R131, R132). -/
structure Killed where
  p : Nat
  q : Nat
  entry : Nat
  ctx : Nat
  reruns : Nat
  desc : Nat
  holds : List (Nat × Nat)
  aborted : List (Nat × Nat × Nat)
  inst : Option (Nat × Nat) := none
  /-- the number its rerun keeps -/
  id : Nat := 0
  order : Nat := 0
  backoff : Bool := false
  /-- its WAIT's timeout has passed (R138) -/
  expired : Bool := false
  deriving DecidableEq, Repr, Inhabited

/-- An entry of the global error queue or of the Cairn (R144, R554): the fields the manual lays out, and the facts that
DETAIL names. -/
structure Entry where
  code : Nat
  sev : Nat
  dev : Bool
  p : Nat := 0
  ctx : Option (Nat × Nat × Nat) := none
  seq : Nat := 0
  cmdId : Nat := 0
  time : Nat := 0
  layer : Nat := 0
  oper : Nat := 0
  op : Nat := 0
  boot : Nat := 0
  uptime : Nat := 0
  facts : List Nat := []
  deriving DecidableEq, Repr, Inhabited

/-! ### The Tenancy Port -/

/-- A UCIe module (R150 to R154). -/
structure TpModule where
  up : Bool := false
  failed : Bool := false
  die : Option Nat := none
  tx : Nat := 0
  rx : Option Nat := none
  /-- header flits sent and not acknowledged: SEQ, bytes, replays -/
  replay : List (Nat × Bytes × Nat) := []
  /-- a flit failed its CRC and its replay is awaited -/
  nakked : Bool := false
  gated : Bool := false
  deriving DecidableEq, Repr, Inhabited

/-- An outstanding transaction that Dunaz issued (R155, R156): what it belongs to. -/
structure TpOut where
  p : Nat
  ctx : Nat
  epoch : Nat
  /-- 1 READ, 2 WRITE, 5 DISPATCH -/
  kind : Nat
  cmd : Nat
  lot : Nat
  off : Nat
  len : Nat
  req : Nat
  module_ : Nat
  attached : Bool := true
  /-- TP_READ_TIMEOUT at issue, µs -/
  limit : Nat := 0
  deriving DecidableEq, Repr, Inhabited

/-- A die's Resource Manifest (R159). -/
structure Manifest where
  header : Nat
  entries : List Nat
  deriving DecidableEq, Repr, Inhabited

/-! ### The host function -/

/-- A PCIe function: the PF or a VF (R178 to R205). -/
structure Func where
  enabled : Bool := false
  master : Bool := false
  inReset : Bool := false
  /-- masked vectors are those not listed -/
  unmasked : List Nat := []
  pba : List Nat := []
  /-- the Stile: 0 IDLE, 1 BUSY, 2 DONE -/
  stile : Nat := 0
  irq : Bool := false
  served : Nat := 0
  request : Bytes := []
  response : Bytes := []
  misuse : Nat := 0
  deriving DecidableEq, Repr, Inhabited

/-- A host read in flight (R187 to R190). -/
structure HostOut where
  p : Nat
  ctx : Nat
  epoch : Nat
  cmd : Nat
  req : Nat
  addr : Nat
  len : Nat
  got : Bytes := []
  bad : Bool := false
  attached : Bool := true
  /-- CPL_TIMEOUT at issue, µs (R191) -/
  limit : Nat := 0
  chunk : Option Nat := none
  deriving DecidableEq, Repr, Inhabited

/-- An ATS translation cached for a paddock, or asked for (R185, R186, R448). -/
structure Ats where
  p : Nat
  base : Nat
  size : Nat
  host : Nat := 0
  r : Bool := false
  w : Bool := false
  done : Bool := false
  cmd : Option Nat := none
  stale : Bool := false
  deriving DecidableEq, Repr, Inhabited

/-! ### Beluth transport -/

/-- One path of a QP (R230, R236, R256). -/
structure QPath where
  link : Nat
  /-- next PSN to send -/
  tx : Nat
  rate : Rat
  lastDec : Nat := 0
  lastThr : Nat := 0
  owds : List (Nat × Nat) := []
  nextTx : Rat := 0
  /-- packets sent and not acknowledged: PSN, header, payload -/
  unacked : List (Nat × Nat × Bytes) := []
  /-- PSNs received -/
  got : List Nat := []
  rxBase : Nat
  sinceAck : Nat := 0
  owdNew : Nat := 0
  count : Nat := 0
  deriving DecidableEq, Repr, Inhabited

/-- An open outbound message (R232). -/
structure TxMsg where
  msg : Nat
  epoch : Nat
  cmd : Option Nat
  /-- packet type that began it: 0 DATA, 4 READ_REQ, 5 READ_RESP, 6 ATOMIC_REQ -/
  kind : Nat
  entries : List (Nat × Nat × Nat)
  /-- the packet that must be answered: header and payload (commit, READ_REQ, ATOMIC_REQ or ABORT) -/
  last : Nat × Bytes
  aborting : Bool := false
  /-- FABRIC_READ_TIMEOUT at issue, µs (R254) -/
  limit : Nat := 0
  sentAt : Nat := 0
  bytes : Nat := 0
  /-- data still to be sent: address and payload of each packet -/
  todo : List (Nat × Bytes) := []
  /-- path and chunk number of each packet still to be sent to a collective's home (R410) -/
  lanes : List (Nat × Nat) := []
  cid : Nat := 0
  imm : Nat := 0
  recv : Bool := false
  replaces : Option Nat := none
  /-- the commit has been sent -/
  sealed_ : Bool := false
  sched : Bool := false
  /-- paths it may use -/
  mask : Nat := 65535
  /-- the collective instance it belongs to -/
  inst : Option (Nat × Nat) := none
  deriving DecidableEq, Repr, Inhabited

/-- An inbound message (R233 to R248): open or aborted. -/
structure RxMsg where
  msg : Nat
  epoch : Nat
  aborted : Bool := false
  /-- placed bytes: rick address, selector, data -/
  placed : List (Place × Bytes) := []
  psns : List (Nat × Nat) := []
  bytes : Nat := 0
  lastAt : Nat := 0
  cmd : Option Nat := none
  /-- receive bindings and the copies of their slots (R363) -/
  slots : List (Nat × Nat) := []
  /-- a collective message's instance, and its data by offset -/
  inst : Option Nat := none
  data : List (Nat × Bytes) := []
  deriving DecidableEq, Repr, Inhabited

/-- A queue pair (R211 to R217). -/
structure Qp where
  type : Nat
  /-- 0 RESET, 1 INIT, 2 READY, 3 ERROR, 4 DRAINED -/
  st : Nat := 0
  draining : Bool := false
  recvCtx : Nat := 0
  recvQ : Nat := 0
  mtu : Nat := 12
  node : Nat := 0
  peer : Nat := 0
  paths : List QPath := []
  nextMsg : Nat := 0
  quar : List Nat := []
  tx : List TxMsg := []
  rx : List RxMsg := []
  /-- committed inbound MSG values, newest first, and the newest MSG seen -/
  committed : List Nat := []
  newest : Option Nat := none
  kept : List (Nat × Bytes) := []
  lastErr : Nat := 0
  retx : Nat := 0
  resident : Bool := false
  lastUse : Nat := 0
  /-- timeout of the retransmit timer, µs -/
  rto : Rat := 8
  expiries : Nat := 0
  /-- smoothed round-trip, ns -/
  srtt : Rat := 0
  /-- READ messages whose response has committed, until their quarantine ends (R242) -/
  readDone : List Nat := []
  group : Option Nat := none
  deriving DecidableEq, Repr, Inhabited

/-! ### Links, time and swathes -/

/-- Link states 0 to 5 (*Link state codes*). -/
inductive LState where
  | disabled | down | training | init | up | retrain
  deriving DecidableEq, Repr, Inhabited

/-- A fabric link 0 to 63 or a pair port 64 to 67 (R262 to R276). -/
structure Link where
  st : LState := .down
  tx : Nat := 0
  rx : Option Nat := none
  nakked : Bool := false
  /-- frames not acknowledged: SEQ, VC (7 for control), pool, contents, replays -/
  replay : List (Nat × Nat × Nat × Packet × Nat) := []
  /-- credits held towards the partner, by (pool, VC) -/
  credits : List (Nat × Nat × Nat) := []
  /-- frames discarded and counted: VC5, and THROTTLE from a node (R265, R276) -/
  dropped : Nat := 0
  /-- own pools: pool number and paddock -/
  pools : List (Nat × Nat) := []
  /-- the partner's pool map: pool and tag -/
  map : List (Nat × Nat) := []
  partner : Nat := 0x1FFF
  /-- VCs throttled -/
  throttled : Nat := 0
  rebound : Bool := false
  /-- frames waiting to be sent: VC, pool, paddock, contents -/
  waiting : List (Nat × Nat × Nat × Packet) := []
  deriving DecidableEq, Repr, Inhabited

/-- A row of the link-key table (R498), or the fabric time key. -/
structure LinkKey where
  cur : Option Nat := none
  next : Option (Nat × Nat) := none
  old : Option (Nat × Nat) := none
  deriving DecidableEq, Repr, Inhabited

/-- A time peer's window (R290): (d, θ) samples in 2^-17 ns, newest first, and what the peer last said. -/
structure TimePeer where
  samples : List (Int × Int) := []
  st : Nat := 0
  stratum : Nat := 0
  u : Nat := 0
  gm : Nat := 0
  fresh : Bool := false
  seq : Nat := 0
  t1 : Nat := 0
  deriving DecidableEq, Repr, Inhabited

/-- Fabric time and its discipline (R286 to R291). -/
structure Ftm where
  /-- 64 bits of ns, 16 of fraction, 24 hidden: units of 2^-40 ns -/
  time : Nat := 0
  /-- trim of the increment, in 2^-40 ns per ns -/
  freq : Int := 0
  slew : Int := 0
  st : Nat := 0
  stratum : Nat := 0
  parent : Nat := 0
  u : Nat := 0
  misses : Nat := 0
  good : Nat := 0
  lastSample : Nat := 0
  uLast : Nat := 0
  peers : Tbl TimePeer := []
  seq : Nat := 0
  key : LinkKey := {}
  link : Option Nat := none
  heldFrom : Nat := 0
  deriving DecidableEq, Repr, Inhabited

/-- A loaded swathe table (R293 to R296). -/
structure Swathes where
  cycle : Nat
  guard_ : Nat
  epoch : Nat
  switch : Nat
  entries : List Nat
  digest : Nat
  deriving DecidableEq, Repr, Inhabited

/-! ### The Sheaf -/

/-- One open instance of a group (R402 to R407). -/
structure Inst where
  num : Nat
  /-- the member's own command, once it is fetched, and its descriptor -/
  cmd : Option Nat := none
  desc : Nat := 0
  /-- what the member contributes, once its command has started: source bytes, or a roster step's page partials -/
  src : Option Bytes := none
  /-- a roster step's rows -/
  rows : List Nat := []
  /-- messages committed: sender, MSG, body -/
  got : List (Nat × Nat × Bytes) := []
  /-- messages opened: stage and destination -/
  sent : List (Nat × Nat) := []
  sentAny : Bool := false
  /-- LIMIT granted by a member for a path (R410) -/
  limits : List (Nat × Nat × Nat) := []
  /-- chunks drained: stage, path, count -/
  drained : List (Nat × Nat × Nat) := []
  failed : Nat := 0
  deriving DecidableEq, Repr, Inhabited

/-- A group (R393). -/
structure Group where
  num : Nat
  self : Nat
  members : List Nat
  qpBase : Nat
  links : List Nat
  slots : Nat
  box : Nat
  nextInst : Nat := 0
  queue : Option Nat := none
  insts : List Inst := []
  ended : Nat := 0
  deriving DecidableEq, Repr, Inhabited

/-! ### What the block sends -/

/-- Everything the block sends to its surroundings (DESIGN CHOICE, log 1). -/
inductive Out where
  /-- a response on a path: header and payload -/
  | response (path : Path) (hdr : BitVec 128) (payload : Bytes)
  /-- a UDP response with its SESSION, SEQ and tag key -/
  | udp (session seq : Nat) (hdr : BitVec 128) (payload : Bytes) (key : Option Nat)
  | msix (fn : Fn) (vector : Nat)
  /-- an interrupt of the management core; fast or normal -/
  | core (src : Nat) (fast : Bool)
  /-- a packet turned round in TRN for a LOOPBACK QP -/
  | loop (pkt : Packet)
  /-- a DATA frame with its SEQ and ACK_SEQ -/
  | frame (l : Nat) (vc pool seq : Nat) (ack : Option Nat) (pkt : Packet)
  | control (l : Nat) (seq ack : Option Nat) (ctl : BitVec 128)
  | flit (m : Nat) (bytes : Bytes)
  | sideband (m : Nat) (hdr : BitVec 128) (words : List (BitVec 128))
  | hostRead (fn : Nat) (tag : Nat) (addr len : Nat)
  | hostWrite (fn : Nat) (addr : Nat) (data : Bytes)
  /-- a bounce chunk: header, plaintext, key -/
  | chunk (fn : Nat) (index : Nat) (hdr : Nat) (data : Bytes) (key : Nat)
  | ats (fn : Nat) (n : Nat) (base : Nat)
  | atsDone (fn : Nat) (itag : Nat)
  | aer (fn : Nat) (tag : Nat)
  | farWrite (a sel : Nat) (data : Bytes)
  | pair (kind : Nat) (n : Nat) (p cmd : Nat)
  | spdm (pcie : Bool) (who : Nat) (code : Nat) (body : Bytes)
  | eth (body : Bytes)
  | alertN (low : Bool)
  deriving DecidableEq, Repr

/-! ### Mbomon's side -/

/-- A configuration operation that runs (R75, R83). -/
structure ConfOp where
  values : Tbl Nat
  source : Nat
  from_ : Nat
  cvn : Nat
  path : Path
  tag : Tag
  obj : Nat
  changed : List Nat
  made : Nat
  check : Nat
  deriving DecidableEq, Repr

/-- A kept configuration version (VERSIONS row). -/
structure Version where
  cvn : Nat
  source : Nat
  status : Nat
  from_ : Nat
  check : Nat
  time : Nat
  path : Nat
  values : Tbl Nat
  /-- CREATED of its image -/
  made : Nat := 0
  deriving DecidableEq, Repr, Inhabited

/-- A UDP session (R511 to R513). -/
structure Session where
  key : Nat
  seq : Nat := 0
  /-- the last eight SEQ values with their responses -/
  kept : List (Nat × BitVec 128 × Bytes) := []
  /-- requests served and not answered yet: TAG and SEQ -/
  asked : List (Nat × Nat) := []
  used : Nat := 0
  deriving DecidableEq, Repr, Inhabited

/-- An SPDM connection (R508 to R510). -/
structure Spdm where
  /-- 0 none, 1 version, 2 capabilities, 3 algorithms -/
  stage : Nat := 0
  session : Bool := false
  pending : Bool := false
  mgr : Bool := false
  chunks : Bytes := []
  chunkSeq : Nat := 0
  transcript : Nat := 0
  deriving DecidableEq, Repr, Inhabited

/-- A flash operation waiting or running (R614, R618). -/
inductive FlashOp where
  | cairn (e : Entry)
  | snapshot (p : Nat) (rec : Bytes)
  | dump
  | fw (slot off : Nat) (data : Bytes)
  /-- read back and check an image of a length: the outcome of R515's checks, and who asked -/
  | check (slot len : Nat) (ok : Bool) (path : Path) (tag : Tag)
  /-- one copy of the boot record: copy, GENERATION, states of slot A and slot B, who asked and through which sub-index -/
  | boot (copy gen a b : Nat) (path : Path) (tag : Tag) (sub : Nat)
  | erase (block : Nat)
  deriving DecidableEq, Repr, Inhabited

/-- A journal record on flash (*Journal record header, 32 bytes*). -/
structure JournalRecord where
  seq : Nat
  type : Nat
  data : List Nat
  boot : Nat
  time : Nat
  deriving DecidableEq, Repr, Inhabited

/-- The persistent store (*The persistent store*): what is on flash and the flash work that waits. -/
structure Store where
  work : List FlashOp := []
  /-- an operation was in progress as the brake engaged; it completes (R594) -/
  running : Bool := false
  /-- copies 0 to 3 of the boot record: GENERATION, states of slot A and slot B -/
  copies : List (Nat × Nat × Nat) := [(0, 4, 0), (0, 4, 0), (0, 4, 0), (0, 4, 0)]
  /-- firmware slot states -/
  slots : List Nat := [4, 0]
  /-- boots of the TRIAL slot that AON has counted (R623) -/
  trials : Nat := 0
  /-- what was written to each slot: slot, offset, bytes -/
  images : List (Nat × Nat × Bytes) := []
  jseq : Nat := 0
  journal : List JournalRecord := []
  /-- the journal block, counted among the good ones of blocks 4 to 67, that holds the newest CHECKPOINT (R611, R616) -/
  jstart : Nat := 0
  factoryBad : List Nat := []
  grownBad : List Nat := []
  /-- physical block of a logical block; one not listed lies at its first place (R611) -/
  map : Tbl Nat := []
  erases : Tbl Nat := []
  /-- blocks with ERASE_OPEN and no later ERASE_DONE (R618) -/
  eraseOpen : List Nat := []
  readOnly : Bool := false
  deriving DecidableEq, Repr, Inhabited

/-- A dump slot (R560). -/
structure Dump where
  st : Nat := 0
  cause : Nat := 0
  code : Nat := 0
  boot : Nat := 0
  time : Nat := 0
  len : Nat := 0
  check : Nat := 0
  /-- what the manual lays out, by offset; the rest of sections it does not lay out is free -/
  data : List (Nat × Bytes) := []
  free : Nat := 0
  deriving DecidableEq, Repr, Inhabited

/-- An inbound access that waits for bytes (R129, R227): the number of the work, and the command that brought it. -/
abbrev Held := Nat × Instr

/-- A request header (*Request header, 16 bytes*): its fields, the reserved bits as one number. -/
structure Req where
  proto : Nat := 1
  op : Nat
  rsvd : Nat := 0
  draft : Bool := false
  tag : Tag
  index : Nat
  sub : Nat
  ty : Nat := 0
  off : Nat := 0
  len : Nat
  deriving DecidableEq, Repr, Inhabited

/-- Object values and configuration versions (*The object dictionary and configuration versions*). -/
structure Objs where
  /-- LIVE objects, RW objects and hardware counters by index × 256 + sub-index; unlisted reads its Default -/
  live : Tbl Nat := []
  committed : Tbl Nat := []
  draft : Tbl Nat := []
  draftOwner : Option Path := none
  /-- paths whose lease lapsed before their next COMMIT (R81) -/
  lapsed : Option Path := none
  confOp : Option ConfOp := none
  cvn : Nat := 0
  cvnLast : Nat := 0
  versions : List Version := []
  cfgSource : Nat := 0
  cfgDefaulted : Bool := false
  lastResult : Nat := 0
  requireSigned : Bool := false
  /-- PT_WRITE requests answered once a range invalidation ends (R437): path, tag, paddock, invalidation -/
  deferred : List (Path × Tag × Nat × Nat) := []
  /-- the request that MGT has accepted and not answered; requests behind it wait, oldest first (R75) -/
  serving : Option (Path × Tag) := none
  behind : List (Path × Req × Bytes × Facts) := []
  deriving DecidableEq, Repr, Inhabited

/-- The start-up sequence and the identity that changes (*Start-up and a first partitioning*). -/
structure Sys where
  /-- 0 held in reset, 1 ROM halted, 2 MGT running, root not yet rebuilt, 3 configuration applied -/
  boot : Nat := 0
  bootSlot : Nat := 0
  bootCount : Nat := 0
  uptime : Nat := 0
  firmware : Nat := 0x00030000
  securityVersion : Nat := 0
  bootFacts : Boot := {}
  alertLow : Bool := false
  deriving DecidableEq, Repr, Inhabited

/-- The granules in the order in which start-up and a wake from SLEEP zeroise them (R645). -/
def zeroOrder : List Nat := [124, 125, 126, 127] ++ List.range 124

/-- The Commons: granules on their way through it (R34, R46, R47, R430 to R432). -/
structure Commons where
  /-- granules 0 to 127 being zeroised, first next -/
  zeroising : List Nat := zeroOrder
  free : Nat := 0
  repairDue : Nat := 0
  retired : Nat := 0
  /-- granules under repair, oldest first -/
  repairing : List Nat := []
  /-- granules whose zeroising failed (R47) -/
  kept : Nat := 0
  deriving DecidableEq, Repr, Inhabited

/-- Commands fetched, killed and waited for. -/
structure Cmds where
  live : Tbl Cmd := []
  killed : List Killed := []
  nextCmd : Nat := 1
  heldReads : List Held := []
  deriving DecidableEq, Repr, Inhabited

/-- The global error queue, the Cairn and the dump slots (R144, R554, R560). -/
structure Logs where
  geq : List Entry := []
  geqNext : Nat := 0
  cairn : List Entry := []
  cairnNext : Nat := 0
  cairnLost : Nat := 0
  dumps : List Dump := [{}, {}, {}, {}]
  /-- a frozen snapshot on its way to a slot: the slot -/
  frozen : Option Nat := none
  deriving DecidableEq, Repr, Inhabited

/-- The Tenancy Port. -/
structure Tp where
  modules : Tbl TpModule := []
  outst : Tbl TpOut := []
  quar : List Nat := []
  nextTag : Nat := 0
  manifests : Tbl Manifest := []
  oldEntries : List Nat := []
  lotsDirty : List Nat := []
  /-- sides in a side reset: 0 A, 1 B -/
  sideBusy : List Nat := []
  /-- fence requests outside a control command: paddock, die × 2 + side, action -/
  fencesOut : List (Nat × Nat × Nat) := []
  /-- sideband messages discarded (R158) -/
  sideBad : Nat := 0
  deriving DecidableEq, Repr, Inhabited

/-- The host function. -/
structure HostFn where
  pf : Func := {}
  vfs : Tbl Func := []
  outst : Tbl HostOut := []
  quar : List Nat := []
  nextHost : Nat := 0
  ats : List (Nat × Ats) := []
  nextAts : Nat := 0
  /-- invalidations received: VF, ITag, base, size, host tags still to end -/
  atsInv : List (Nat × Nat × Nat × Nat × List Nat) := []
  badWrites : Nat := 0
  deriving DecidableEq, Repr, Inhabited

/-- Queue pairs, links and link keys. -/
structure Net where
  qps : Tbl Qp := []
  useClock : Nat := 0
  /-- packets of LOOPBACK QPs turning round in TRN -/
  loop : List Packet := []
  links : Tbl Link := []
  linkKeys : Tbl LinkKey := []
  /-- paths that used a key, by tag, QPN and path: packets sent -/
  keyWear : List (Nat × Nat × Nat × Nat) := []
  ivs : List (Nat × Nat) := []
  deriving DecidableEq, Repr, Inhabited

/-- The swathe schedule. -/
structure Swathe where
  active : Option Swathes := none
  shadow : Option Swathes := none
  injecting : Bool := false
  resumeAt : Bool := false
  openSwathes : List Nat := []
  /-- intrusions by sender in this cycle, and the senders reported -/
  intruders : List (Nat × Nat) := []
  reported : List Nat := []
  deriving DecidableEq, Repr, Inhabited

/-- The Sward array. -/
structure SwardSt where
  tussockRetired : Nat := 0
  /-- uncorrectable scratch errors: tussock and UPTIME in ns -/
  scratchErrs : List (Nat × Nat) := []
  /-- tussocks under test -/
  selftest : List Nat := []
  deriving DecidableEq, Repr, Inhabited

/-- The Sheaf's groups; a reducer's reserved slots follow from them (R393). -/
structure Sheaf where
  /-- groups by 64 × paddock + number -/
  groups : List (Nat × Group) := []
  deriving DecidableEq, Repr, Inhabited

/-- A page walk waiting or in flight (R441, R446). -/
structure WalkJob where
  id : Nat
  p : Nat
  va : Nat
  stale : Bool := false
  cmd : Nat := 0
  running : Bool := false
  deriving DecidableEq, Repr, Inhabited

/-- The rick, its keys and codes, and the Translation Unit. -/
structure Rick where
  cells : List Host.Cell := []
  lineKey : Tbl Nat := []
  poisoned : List Nat := []
  corrections : List (Nat × Nat) := []
  /-- granule key names; fresh even numbers -/
  granuleKeys : Tbl Nat := []
  /-- second-level TLB: paddock, page address, page size, kept, last use -/
  tlb : List (Nat × Nat × Nat × Bool × Nat) := []
  streams : List (Nat × Nat × Nat) := []
  walks : List WalkJob := []
  /-- the paddock a walker served last (R441) -/
  walkLast : Nat := 63
  nextWalk : Nat := 0
  invals : List (Nat × Nat × Nat × Nat) := []
  nextInval : Nat := 0
  mowAt : Nat := 0
  /-- paddocks whose structures met poison in this command (0x0A05) -/
  struck : List Nat := []
  deriving DecidableEq, Repr, Inhabited

/-- The ledger snapshot, energy and the meter journal. -/
structure Acct where
  snapshotV : List (List Nat) := []
  meterEnergy : Nat := 0
  deviceEnergy : Nat := 0
  snapWork : List (Nat × Bytes) := []
  /-- the meter journal: paddock, sequence, record, newest last -/
  meterJournal : List (Nat × Nat × Bytes) := []
  journalLost : Nat := 0
  /-- a tick of this period took its energy from estimates (R476) -/
  estimated : Bool := false
  /-- ACCT_PERIOD in force, s; 0 before the first period end stands for the object's Default -/
  accPeriod : Nat := 0
  deriving DecidableEq, Repr, Inhabited

/-- The security core. -/
structure Sec where
  st : Nat := 0
  debugOpened : Bool := false
  debugLock : Bool := false
  minSv : Nat := 0
  svRaises : Nat := 0
  nonceIx : Nat := 0
  anchors : List Nat := [0, 0]
  /-- seal grants: SET_ID, header, set key -/
  grants : List (Nat × Nat × Nat) := []
  sessions : Tbl Session := []
  spdm : List (Bool × Nat × Spdm) := []
  maskDraws : Nat := 0
  deriving DecidableEq, Repr, Inhabited

/-- The Event Router and the Lark. -/
structure Events where
  /-- event target registers, occurrence counts -/
  targets : Tbl Nat := []
  occurs : Tbl Nat := []
  holdoffs : List (Nat × Target) := []
  lark : Tbl Nat := []
  larkLast : Nat := 0xFF
  /-- a slot has fired in DOZE or SLEEP: the wake follows in the same command -/
  wake : Option Nat := none
  deriving DecidableEq, Repr, Inhabited

/-- Islands, gates and watchdogs. -/
structure Faults where
  state : Tbl Nat := []
  wedged : List Nat := []
  /-- commands that the reset of each island killed -/
  killed : Tbl Nat := []
  /-- killed commands whose rerun waits, each with the other commands of its cycle (R553) -/
  withheld : List (Nat × List Nat) := []
  gate : Nat := 0
  /-- snapshot buffer of each island: time of its last update, and what the manual lays out of it by offset -/
  snapBuffers : Tbl (Nat × List (Nat × Bytes)) := []
  /-- UPTIME of Mbomon's last kick, ns -/
  kickAt : Nat := 0
  mgtResets : List Nat := []
  deriving DecidableEq, Repr, Inhabited

/-- Paired mode. -/
structure PairSt where
  st : Nat := 0
  peer : Option Peer := none
  mirrorOut : List (Nat × Nat × Nat) := []
  /-- the next mirror request: of the primary, its number; of the secondary, the one it expects -/
  mirrorNext : Nat := 1
  /-- paddocks that show FAULTED here and are held by the other half alone (R579) -/
  mirrorEntries : List Nat := []
  pairKey : Option Nat := none
  deriving DecidableEq, Repr, Inhabited

/-- Management, sensors and power. -/
structure Power where
  /-- 0 RUN, 1 IDLE, 2 DOZE, 3 SLEEP, 4 TRIPPED -/
  st : Nat := 0
  freqMhz : Nat := 1600
  duty : Nat := 16
  modulePower : Nat := 0
  capMisses : Nat := 0
  throttle : Bool := false
  temps : Tbl Nat := []
  volts : Tbl Nat := []
  /-- a brake episode: the rail that fell first and the lowest mV seen -/
  brake : Option (Nat × Nat) := none
  brownouts : Nat := 0
  brownoutLast : Nat := 0
  /-- AON's brownout log: code and facts of entries that Mbomon writes to the Cairn at its next start (R596, R642) -/
  aonLog : List (Nat × List Nat) := []
  sensorBus : Nat := 0
  sensorTries : Nat := 0
  /-- last READ_VOUT, READ_IOUT and READ_EIN of each regulator -/
  readings : List (Nat × Nat × Nat) := []
  ethLink : Nat := 0
  ethStats : Nat := 0
  deriving DecidableEq, Repr, Inhabited

/-- The state of the block. -/
structure State where
  /-- commands waiting, first in first out -/
  pending : List Instr := []
  /-- what the block has sent, newest first -/
  out : List Out := []
  /-- names the next free value -/
  fresh : Nat := 0
  obj : Objs := default
  sys : Sys := default
  com : Commons := default
  cmd : Cmds := default
  log : Logs := default
  tp : Tp := default
  host : HostFn := default
  net : Net := default
  sw : Swathe := default
  sward : SwardSt := default
  sheaf : Sheaf := default
  rick : Rick := default
  acct : Acct := default
  sec : Sec := default
  ev : Events := default
  flt : Faults := default
  pair : PairSt := default
  pow : Power := default
  pads : Tbl Paddock := []
  ftm : Ftm := default
  store : Store := default
  deriving DecidableEq, Repr, Inhabited

/-- Why the machine stops with a fault. No command of this block does: the manual gives every row an effect. -/
inductive Fault where
  /-- Never raised (safe): kept so that the type is not empty. -/
  | none_
  deriving DecidableEq, Repr

/-- Why a command has no meaning. -/
inductive Refusal where
  /-- The command is not modelled yet; raised by exec's arm alone (safe). -/
  | notModelled (mnemonic : String)
  deriving DecidableEq, Repr

/-- The block held in reset before por_n rises: every register at the value the manual gives, and where it gives none
at the value that INVENTORY.md names. -/
def State.reset : State := {}

end Sys2Proof.Machine
end

