-- ==== Sys2Proof/Machine/ObjTable.lean ====
section
/-! DEFINITION. The object dictionary: one row for each object that an object table of the manual lists (R36, R105,
R147, R177, R206, R259, R302, R340, R380, R416, R451, R487, R519, R541, R563, R582, R602, R624, R640). -/

namespace Sys2Proof.Machine
open Sys2Proof

/-- The access kinds of R67. -/
inductive Acc where
  | ro | rw | draft | live | cmd
  deriving DecidableEq, Repr

/-- An object: index (or offset in a paddock block), sub-index, whether it is a TAB, type code of the value or row,
largest and smallest size in bytes, access kind, the roles that may read and write (bit 0 MGR, 1 TEN, 2 MON, 3 SEC),
Default, Range as least, greatest and multiple, and for a TAB the row count with its range. -/
structure Desc where
  idx : Nat
  sub : Nat
  tab : Bool
  ty : Nat
  size : Nat
  least : Nat
  acc : Acc
  readers : Nat
  writers : Nat
  dflt : Nat
  lo : Nat
  hi : Nat
  mult : Nat
  rows : Nat
  rowsLo : Nat
  rowsHi : Nat
  deriving DecidableEq, Repr

/-- Objects of object_dictionary. -/
def objs03g : List Desc :=
  [
    ⟨0x1000, 0x01, false, 9, 64, 0, .ro, 5, 5, 0, 0, 18446744073709551615, 1, 0, 0, 0⟩,
    ⟨0x1000, 0x02, false, 9, 64, 0, .ro, 5, 5, 0, 0, 18446744073709551615, 1, 0, 0, 0⟩,
    ⟨0x1000, 0x03, false, 4, 4, 4, .ro, 13, 13, 196864, 0, 4294967295, 1, 0, 0, 0⟩,
    ⟨0x1000, 0x04, false, 9, 64, 0, .ro, 5, 5, 0, 0, 18446744073709551615, 1, 0, 0, 0⟩,
    ⟨0x1000, 0x05, false, 9, 64, 0, .ro, 5, 5, 0, 0, 18446744073709551615, 1, 0, 0, 0⟩,
    ⟨0x1000, 0x06, false, 5, 8, 8, .ro, 13, 13, 0, 0, 18446744073709551615, 1, 0, 0, 0⟩,
    ⟨0x1000, 0x07, false, 4, 4, 4, .ro, 5, 5, 0, 196608, 262143, 1, 0, 0, 0⟩,
    ⟨0x1000, 0x08, false, 2, 1, 1, .ro, 5, 5, 0, 0, 1, 1, 0, 0, 0⟩,
    ⟨0x1000, 0x09, false, 4, 4, 4, .ro, 5, 5, 0, 0, 4294967295, 1, 0, 0, 0⟩,
    ⟨0x1000, 0x0A, false, 3, 2, 2, .ro, 5, 5, 1, 0, 65535, 1, 0, 0, 0⟩,
    ⟨0x1000, 0x0B, false, 4, 4, 4, .ro, 5, 5, 0, 0, 4294967295, 1, 0, 0, 0⟩,
    ⟨0x1000, 0x0C, false, 8, 8, 8, .ro, 5, 5, 0, 0, 18446744073709551615, 1, 0, 0, 0⟩,
    ⟨0x1100, 0x01, false, 4, 4, 4, .ro, 5, 5, 0, 0, 4294967295, 1, 0, 0, 0⟩,
    ⟨0x1100, 0x02, false, 1, 1, 1, .ro, 5, 5, 0, 0, 255, 1, 0, 0, 0⟩,
    ⟨0x1100, 0x03, false, 2, 1, 1, .ro, 5, 5, 0, 0, 5, 1, 0, 0, 0⟩,
    ⟨0x1100, 0x04, false, 4, 4, 4, .ro, 5, 5, 0, 0, 4294967295, 1, 0, 0, 0⟩,
    ⟨0x1100, 0x05, false, 3, 2, 2, .ro, 5, 5, 0, 0, 65535, 1, 0, 0, 0⟩,
    ⟨0x1100, 0x06, false, 4, 4, 4, .live, 1, 1, 60000, 1000, 600000, 1, 0, 0, 0⟩,
    ⟨0x1100, 0x07, false, 3, 2, 2, .ro, 5, 5, 0, 0, 65535, 1, 0, 0, 0⟩,
    ⟨0x1100, 0x08, false, 4, 4, 4, .cmd, 1, 1, 0, 0, 4294967295, 1, 0, 0, 0⟩,
    ⟨0x1100, 0x09, false, 4, 4, 4, .cmd, 1, 1, 0, 0, 4294967295, 1, 0, 0, 0⟩,
    ⟨0x1100, 0x0A, false, 1, 1, 1, .cmd, 1, 1, 0, 0, 255, 1, 0, 0, 0⟩,
    ⟨0x1100, 0x0B, false, 1, 1, 1, .cmd, 1, 1, 0, 0, 255, 1, 0, 0, 0⟩,
    ⟨0x1100, 0x0C, false, 4, 4, 4, .ro, 5, 5, 0, 0, 4294967295, 1, 0, 0, 0⟩,
    ⟨0x1101, 0x00, true, 10, 32, 32, .ro, 5, 5, 0, 0, 0, 1, 5, 5, 5⟩,
    ⟨0x1102, 0x01, false, 4, 4, 4, .live, 1, 1, 0, 0, 261120, 1, 0, 0, 0⟩,
    ⟨0x1102, 0x02, false, 1, 1, 1, .cmd, 1, 1, 0, 0, 255, 1, 0, 0, 0⟩,
    ⟨0x1102, 0x03, false, 1, 1, 1, .cmd, 1, 1, 0, 0, 255, 1, 0, 0, 0⟩,
    ⟨0x1102, 0x04, false, 1, 1, 1, .ro, 5, 5, 0, 0, 255, 1, 0, 0, 0⟩,
    ⟨0x1103, 0x00, true, 10, 1024, 1024, .live, 1, 1, 0, 0, 0, 1, 0, 0, 255⟩]

/-- Objects of paddocks. -/
def objs02g : List Desc :=
  [
    ⟨0x1200, 0x01, false, 10, 64, 64, .ro, 5, 5, 0, 0, 0, 1, 0, 0, 0⟩,
    ⟨0x1201, 0x01, false, 5, 8, 8, .ro, 5, 5, 18446744073709551615, 0, 18446744073709551615, 1, 0, 0, 0⟩,
    ⟨0x1201, 0x02, false, 5, 8, 8, .ro, 5, 5, 0, 0, 18446744073709551615, 1, 0, 0, 0⟩,
    ⟨0x1201, 0x03, false, 5, 8, 8, .ro, 5, 5, 0, 0, 18446744073709551615, 1, 0, 0, 0⟩,
    ⟨0x1201, 0x04, false, 5, 8, 8, .ro, 5, 5, 18446744073709551615, 0, 18446744073709551615, 1, 0, 0, 0⟩,
    ⟨0x1201, 0x05, false, 5, 8, 8, .ro, 5, 5, 18446744073709551615, 0, 18446744073709551615, 1, 0, 0, 0⟩,
    ⟨0x1201, 0x06, false, 5, 8, 8, .ro, 5, 5, 18446744073709551615, 0, 18446744073709551615, 1, 0, 0, 0⟩,
    ⟨0x1201, 0x07, false, 5, 8, 8, .ro, 5, 5, 18446744073709551615, 0, 18446744073709551615, 1, 0, 0, 0⟩,
    ⟨0x1201, 0x08, false, 3, 2, 2, .ro, 5, 5, 256, 0, 256, 1, 0, 0, 0⟩,
    ⟨0x1201, 0x09, false, 3, 2, 2, .ro, 5, 5, 512, 0, 512, 1, 0, 0, 0⟩,
    ⟨0x1201, 0x0A, false, 3, 2, 2, .ro, 5, 5, 1024, 0, 1024, 1, 0, 0, 0⟩,
    ⟨0x1201, 0x0B, false, 3, 2, 2, .ro, 5, 5, 64, 0, 64, 1, 0, 0, 0⟩,
    ⟨0x1201, 0x0C, false, 3, 2, 2, .ro, 5, 5, 1280, 0, 1280, 1, 0, 0, 0⟩,
    ⟨0x1201, 0x0D, false, 3, 2, 2, .ro, 5, 5, 124, 0, 124, 1, 0, 0, 0⟩]

/-- Objects of contexts_queues_commands. -/
def objs04g : List Desc :=
  [
    ⟨0x1300, 0x01, false, 4, 4, 4, .ro, 5, 5, 0, 0, 4294967295, 1, 0, 0, 0⟩,
    ⟨0x1300, 0x02, false, 4, 4, 4, .live, 5, 5, 0, 0, 4294967295, 1, 0, 0, 0⟩,
    ⟨0x1300, 0x03, false, 10, 64, 64, .ro, 5, 5, 0, 0, 0, 1, 0, 0, 0⟩,
    ⟨0x1300, 0x04, false, 3, 2, 2, .ro, 5, 5, 0, 0, 512, 1, 0, 0, 0⟩,
    ⟨0x1300, 0x05, false, 4, 4, 4, .ro, 5, 5, 100000, 0, 4294967295, 1, 0, 0, 0⟩,
    ⟨0x1300, 0x07, false, 4, 4, 4, .live, 1, 1, 1000, 10, 100000, 1, 0, 0, 0⟩]

/-- Objects of tenancy_port. -/
def objs05g : List Desc :=
  [
    ⟨0x1400, 0x01, false, 2, 1, 1, .ro, 5, 5, 0, 0, 4, 1, 0, 0, 0⟩,
    ⟨0x1400, 0x02, false, 2, 1, 1, .ro, 5, 5, 0, 0, 4, 1, 0, 0, 0⟩,
    ⟨0x1400, 0x03, false, 4, 4, 4, .ro, 5, 5, 0, 0, 16777215, 1, 0, 0, 0⟩,
    ⟨0x1400, 0x04, false, 2, 1, 1, .cmd, 1, 1, 0, 1, 2, 1, 0, 0, 0⟩,
    ⟨0x1400, 0x05, false, 4, 4, 4, .live, 1, 1, 100, 10, 10000, 1, 0, 0, 0⟩,
    ⟨0x1400, 0x06, false, 4, 4, 4, .live, 1, 1, 100, 10, 10000, 1, 0, 0, 0⟩,
    ⟨0x1400, 0x07, false, 4, 4, 4, .ro, 5, 5, 0, 0, 4294967295, 1, 0, 0, 0⟩,
    ⟨0x1401, 0x00, true, 10, 16, 16, .ro, 5, 5, 0, 0, 0, 1, 0, 0, 16⟩,
    ⟨0x1402, 0x00, true, 10, 32, 32, .ro, 5, 5, 0, 0, 0, 1, 0, 0, 64⟩,
    ⟨0x1403, 0x00, true, 10, 32, 32, .ro, 5, 5, 0, 0, 0, 1, 0, 0, 64⟩,
    ⟨0x1404, 0x00, true, 10, 32, 32, .ro, 5, 5, 0, 0, 0, 1, 0, 0, 64⟩,
    ⟨0x1405, 0x00, true, 10, 32, 32, .ro, 5, 5, 0, 0, 0, 1, 0, 0, 64⟩,
    ⟨0x1406, 0x00, true, 10, 32, 32, .ro, 5, 5, 0, 0, 0, 1, 0, 0, 64⟩,
    ⟨0x1407, 0x00, true, 10, 32, 32, .ro, 5, 5, 0, 0, 0, 1, 0, 0, 64⟩,
    ⟨0x1408, 0x00, true, 10, 32, 32, .ro, 5, 5, 0, 0, 0, 1, 0, 0, 64⟩,
    ⟨0x1409, 0x00, true, 10, 32, 32, .ro, 5, 5, 0, 0, 0, 1, 0, 0, 64⟩,
    ⟨0x140A, 0x00, true, 10, 32, 32, .ro, 5, 5, 0, 0, 0, 1, 0, 0, 64⟩,
    ⟨0x140B, 0x00, true, 10, 32, 32, .ro, 5, 5, 0, 0, 0, 1, 0, 0, 64⟩,
    ⟨0x140C, 0x00, true, 10, 32, 32, .ro, 5, 5, 0, 0, 0, 1, 0, 0, 64⟩,
    ⟨0x140D, 0x00, true, 10, 32, 32, .ro, 5, 5, 0, 0, 0, 1, 0, 0, 64⟩,
    ⟨0x140E, 0x00, true, 10, 32, 32, .ro, 5, 5, 0, 0, 0, 1, 0, 0, 64⟩,
    ⟨0x140F, 0x00, true, 10, 32, 32, .ro, 5, 5, 0, 0, 0, 1, 0, 0, 64⟩,
    ⟨0x1410, 0x00, true, 10, 32, 32, .ro, 5, 5, 0, 0, 0, 1, 0, 0, 64⟩,
    ⟨0x1411, 0x00, true, 10, 32, 32, .ro, 5, 5, 0, 0, 0, 1, 0, 0, 64⟩]

/-- Objects of host_function. -/
def objs06g : List Desc :=
  [
    ⟨0x1500, 0x01, false, 2, 1, 1, .ro, 5, 5, 0, 0, 2, 1, 0, 0, 0⟩,
    ⟨0x1500, 0x02, false, 2, 1, 1, .ro, 5, 5, 0, 1, 6, 1, 0, 0, 0⟩,
    ⟨0x1500, 0x03, false, 2, 1, 1, .ro, 5, 5, 0, 1, 16, 1, 0, 0, 0⟩,
    ⟨0x1500, 0x04, false, 4, 4, 4, .live, 1, 1, 50000, 1000, 80000, 1, 0, 0, 0⟩,
    ⟨0x1500, 0x05, false, 3, 2, 2, .ro, 5, 5, 0, 0, 4096, 1, 0, 0, 0⟩,
    ⟨0x1500, 0x06, false, 3, 2, 2, .ro, 5, 5, 0, 0, 16384, 1, 0, 0, 0⟩,
    ⟨0x1500, 0x07, false, 4, 4, 4, .ro, 5, 5, 0, 0, 4294967295, 1, 0, 0, 0⟩,
    ⟨0x1500, 0x08, false, 10, 64, 64, .ro, 5, 5, 0, 0, 0, 1, 0, 0, 0⟩,
    ⟨0x1501, 0x00, true, 10, 24, 24, .draft, 1, 1, 0, 0, 0, 1, 64, 64, 64⟩]

/-- Objects of beluth_transport. -/
def objs07g : List Desc :=
  [
    ⟨0x1600, 0x01, false, 4, 4, 4, .live, 1, 1, 200, 20, 50000, 1, 0, 0, 0⟩,
    ⟨0x1600, 0x02, false, 4, 4, 4, .live, 1, 1, 8, 8, 1000, 1, 0, 0, 0⟩,
    ⟨0x1600, 0x03, false, 4, 4, 4, .live, 1, 1, 1000, 8, 1000, 1, 0, 0, 0⟩,
    ⟨0x1600, 0x04, false, 2, 1, 1, .live, 1, 1, 7, 1, 15, 1, 0, 0, 0⟩,
    ⟨0x1600, 0x05, false, 4, 4, 4, .ro, 5, 5, 20, 0, 4294967295, 1, 0, 0, 0⟩,
    ⟨0x1600, 0x06, false, 4, 4, 4, .live, 1, 1, 1500, 200, 20000, 1, 0, 0, 0⟩,
    ⟨0x1600, 0x07, false, 3, 2, 2, .live, 1, 1, 100, 1, 800, 1, 0, 0, 0⟩,
    ⟨0x1600, 0x08, false, 3, 2, 2, .live, 1, 1, 8, 1, 100, 1, 0, 0, 0⟩,
    ⟨0x1600, 0x09, false, 3, 2, 2, .live, 1, 1, 800, 100, 1000, 1, 0, 0, 0⟩,
    ⟨0x1600, 0x0A, false, 3, 2, 2, .live, 1, 1, 500, 100, 900, 1, 0, 0, 0⟩,
    ⟨0x1600, 0x0B, false, 3, 2, 2, .live, 1, 1, 1, 1, 100, 1, 0, 0, 0⟩,
    ⟨0x1600, 0x0C, false, 4, 4, 4, .live, 1, 1, 4000, 500, 100000, 1, 0, 0, 0⟩,
    ⟨0x1600, 0x0D, false, 2, 1, 1, .live, 1, 1, 32, 1, 255, 1, 0, 0, 0⟩,
    ⟨0x1600, 0x0E, false, 4, 4, 4, .live, 1, 1, 2000, 100, 100000, 1, 0, 0, 0⟩,
    ⟨0x1600, 0x0F, false, 3, 2, 2, .ro, 5, 5, 0, 0, 16384, 1, 0, 0, 0⟩,
    ⟨0x1600, 0x10, false, 4, 4, 4, .ro, 5, 5, 0, 0, 1048576, 1, 0, 0, 0⟩,
    ⟨0x1600, 0x11, false, 5, 8, 8, .ro, 5, 5, 0, 0, 18446744073709551615, 1, 0, 0, 0⟩]

/-- Objects of fabric_links_time. -/
def objs08g : List Desc :=
  [
    ⟨0x1700, 0x01, false, 3, 2, 2, .draft, 5, 1, 0, 0, 4095, 1, 0, 0, 0⟩,
    ⟨0x1700, 0x02, false, 5, 8, 8, .draft, 5, 1, 18446744073709551615, 0, 18446744073709551615, 1, 0, 0, 0⟩,
    ⟨0x1700, 0x03, false, 5, 8, 8, .ro, 5, 5, 0, 0, 18446744073709551615, 1, 0, 0, 0⟩,
    ⟨0x1700, 0x04, false, 2, 1, 1, .draft, 5, 1, 0, 0, 1, 1, 0, 0, 0⟩,
    ⟨0x1700, 0x05, false, 2, 1, 1, .ro, 5, 5, 0, 0, 4, 1, 0, 0, 0⟩,
    ⟨0x1700, 0x06, false, 8, 8, 8, .ro, 7, 7, 0, 0, 18446744073709551615, 1, 0, 0, 0⟩,
    ⟨0x1700, 0x07, false, 4, 4, 4, .ro, 5, 5, 0, 0, 4294967295, 1, 0, 0, 0⟩,
    ⟨0x1700, 0x08, false, 2, 1, 1, .ro, 5, 5, 0, 0, 20, 1, 0, 0, 0⟩,
    ⟨0x1700, 0x09, false, 3, 2, 2, .ro, 5, 5, 0, 0, 65535, 1, 0, 0, 0⟩,
    ⟨0x1700, 0x0A, false, 5, 8, 8, .draft, 5, 1, 18446744073709551615, 0, 18446744073709551615, 1, 0, 0, 0⟩,
    ⟨0x1700, 0x0B, false, 4, 4, 4, .live, 1, 1, 10, 1, 1000, 1, 0, 0, 0⟩,
    ⟨0x1700, 0x0C, false, 2, 1, 1, .draft, 5, 1, 0, 0, 1, 1, 0, 0, 0⟩,
    ⟨0x1700, 0x0D, false, 8, 8, 8, .cmd, 1, 1, 0, 0, 18446744073709551615, 1, 0, 0, 0⟩,
    ⟨0x1700, 0x0E, false, 3, 2, 2, .live, 1, 1, 8, 1, 1600, 1, 0, 0, 0⟩,
    ⟨0x1700, 0x0F, false, 4, 4, 4, .live, 1, 1, 100, 1, 100000, 1, 0, 0, 0⟩,
    ⟨0x1700, 0x10, false, 4, 4, 4, .live, 1, 1, 200, 10, 1000, 1, 0, 0, 0⟩,
    ⟨0x1700, 0x11, false, 4, 4, 4, .live, 1, 1, 10000, 100, 1000000, 1, 0, 0, 0⟩,
    ⟨0x1700, 0x12, false, 2, 1, 1, .cmd, 1, 1, 0, 0, 63, 1, 0, 0, 0⟩,
    ⟨0x1700, 0x13, false, 4, 4, 4, .live, 1, 1, 0, 0, 16516, 1, 0, 0, 0⟩,
    ⟨0x1700, 0x14, false, 1, 1, 1, .cmd, 1, 1, 0, 0, 255, 1, 0, 0, 0⟩,
    ⟨0x1700, 0x15, false, 1, 1, 1, .cmd, 1, 1, 0, 0, 255, 1, 0, 0, 0⟩,
    ⟨0x1700, 0x16, false, 5, 8, 8, .ro, 5, 5, 0, 0, 18446744073709551615, 1, 0, 0, 0⟩,
    ⟨0x1700, 0x17, false, 1, 1, 1, .ro, 7, 7, 0, 0, 255, 1, 0, 0, 0⟩,
    ⟨0x1701, 0x00, true, 3, 2, 2, .draft, 5, 1, 0, 0, 65535, 1, 0, 0, 8⟩,
    ⟨0x1702, 0x00, true, 10, 1024, 1024, .live, 1, 1, 0, 0, 0, 1, 0, 0, 17⟩,
    ⟨0x1703, 0x00, true, 4, 4, 4, .ro, 5, 5, 0, 0, 4294967295, 1, 64, 64, 64⟩]

/-- Objects of sward_arithmetic. -/
def objs09g : List Desc :=
  [
    ⟨0x1800, 0x01, false, 3, 2, 2, .live, 1, 1, 1800, 1200, 1800, 25, 0, 0, 0⟩,
    ⟨0x1800, 0x02, false, 5, 8, 8, .ro, 5, 5, 0, 0, 18446744073709551615, 1, 0, 0, 0⟩,
    ⟨0x1800, 0x03, false, 2, 1, 1, .cmd, 1, 1, 0, 0, 63, 1, 0, 0, 0⟩,
    ⟨0x1800, 0x04, false, 3, 2, 2, .ro, 5, 5, 0, 0, 65535, 1, 0, 0, 0⟩,
    ⟨0x1800, 0x05, false, 2, 1, 1, .ro, 5, 5, 0, 0, 63, 1, 0, 0, 0⟩,
    ⟨0x1800, 0x06, false, 5, 8, 8, .ro, 5, 5, 0, 0, 18446744073709551615, 1, 0, 0, 0⟩,
    ⟨0x1800, 0x07, false, 4, 4, 4, .ro, 5, 5, 0, 0, 4294967295, 1, 0, 0, 0⟩,
    ⟨0x1801, 0x00, true, 3, 2, 2, .ro, 5, 5, 0, 300, 1800, 1, 8, 8, 8⟩]

/-- Objects of transform_operations. -/
def objs10g : List Desc :=
  [
    ⟨0x1900, 0x01, false, 4, 4, 4, .ro, 5, 5, 2000, 0, 4294967295, 1, 0, 0, 0⟩,
    ⟨0x1900, 0x02, false, 4, 4, 4, .ro, 5, 5, 512, 0, 4294967295, 1, 0, 0, 0⟩,
    ⟨0x1900, 0x03, false, 5, 8, 8, .ro, 5, 5, 0, 0, 18446744073709551615, 1, 0, 0, 0⟩]

/-- Objects of sheaf_collectives. -/
def objs11g : List Desc :=
  [
    ⟨0x1A00, 0x01, false, 4, 4, 4, .live, 1, 1, 10000, 100, 1000000, 1, 0, 0, 0⟩,
    ⟨0x1A00, 0x02, false, 4, 4, 4, .live, 1, 1, 100, 20, 10000, 1, 0, 0, 0⟩,
    ⟨0x1A00, 0x03, false, 3, 2, 2, .ro, 5, 5, 0, 0, 4096, 1, 0, 0, 0⟩,
    ⟨0x1A00, 0x04, false, 3, 2, 2, .ro, 5, 5, 0, 0, 1280, 1, 0, 0, 0⟩,
    ⟨0x1A00, 0x05, false, 4, 4, 4, .ro, 5, 5, 0, 0, 4294967295, 1, 0, 0, 0⟩,
    ⟨0x1A01, 0x00, true, 5, 8, 8, .ro, 5, 5, 0, 0, 18446744073709551615, 1, 80, 80, 80⟩]

/-- Objects of rick_translation. -/
def objs12g : List Desc :=
  [
    ⟨0x1B00, 0x01, false, 3, 2, 2, .live, 1, 1, 12, 1, 168, 1, 0, 0, 0⟩,
    ⟨0x1B00, 0x02, false, 4, 4, 4, .ro, 5, 5, 0, 0, 4294967295, 1, 0, 0, 0⟩,
    ⟨0x1B00, 0x03, false, 5, 8, 8, .ro, 5, 5, 0, 0, 18446744073709551615, 1, 0, 0, 0⟩,
    ⟨0x1B00, 0x04, false, 4, 4, 4, .ro, 5, 5, 0, 0, 4294967295, 1, 0, 0, 0⟩,
    ⟨0x1B00, 0x05, false, 4, 4, 4, .ro, 5, 5, 0, 0, 4294967295, 1, 0, 0, 0⟩,
    ⟨0x1B00, 0x06, false, 5, 8, 8, .ro, 5, 5, 0, 0, 18446744073709551615, 1, 0, 0, 0⟩,
    ⟨0x1B00, 0x07, false, 5, 8, 8, .ro, 5, 5, 0, 0, 18446744073709551615, 1, 0, 0, 0⟩,
    ⟨0x1B00, 0x08, false, 2, 1, 1, .cmd, 1, 1, 0, 0, 123, 1, 0, 0, 0⟩,
    ⟨0x1B00, 0x09, false, 3, 2, 2, .ro, 5, 5, 0, 0, 65535, 1, 0, 0, 0⟩,
    ⟨0x1B00, 0x0A, false, 5, 8, 8, .ro, 5, 5, 0, 0, 18446744073709551615, 1, 0, 0, 0⟩,
    ⟨0x1B00, 0x0B, false, 5, 8, 8, .ro, 5, 5, 0, 0, 1152921504606846975, 1, 0, 0, 0⟩,
    ⟨0x1B00, 0x0C, false, 2, 1, 1, .ro, 5, 5, 0, 0, 32, 1, 0, 0, 0⟩]

/-- Objects of sharing_and_accounting. -/
def objs13g : List Desc :=
  [
    ⟨0x1C00, 0x01, false, 4, 4, 4, .ro, 5, 5, 100, 0, 4294967295, 1, 0, 0, 0⟩,
    ⟨0x1C00, 0x02, false, 4, 4, 4, .ro, 5, 5, 250, 0, 4294967295, 1, 0, 0, 0⟩,
    ⟨0x1C00, 0x03, false, 4, 4, 4, .ro, 5, 5, 1000, 0, 4294967295, 1, 0, 0, 0⟩,
    ⟨0x1C00, 0x04, false, 4, 4, 4, .live, 1, 1, 60, 1, 3600, 1, 0, 0, 0⟩,
    ⟨0x1C00, 0x05, false, 2, 1, 1, .ro, 5, 5, 0, 0, 1, 1, 0, 0, 0⟩,
    ⟨0x1C00, 0x06, false, 5, 8, 8, .ro, 5, 5, 0, 0, 18446744073709551615, 1, 0, 0, 0⟩,
    ⟨0x1C00, 0x07, false, 5, 8, 8, .ro, 5, 5, 0, 0, 18446744073709551615, 1, 0, 0, 0⟩,
    ⟨0x1C00, 0x08, false, 4, 4, 4, .ro, 5, 5, 0, 0, 4294967295, 1, 0, 0, 0⟩,
    ⟨0x1C00, 0x09, false, 4, 4, 4, .ro, 5, 5, 0, 0, 4294967295, 1, 0, 0, 0⟩,
    ⟨0x1C00, 0x0A, false, 2, 1, 1, .live, 5, 5, 0, 0, 63, 1, 0, 0, 0⟩,
    ⟨0x1C00, 0x0B, false, 4, 4, 4, .live, 5, 5, 0, 0, 4294967295, 1, 0, 0, 0⟩,
    ⟨0x1C00, 0x0C, false, 10, 512, 512, .ro, 5, 5, 0, 0, 0, 1, 0, 0, 0⟩,
    ⟨0x1C00, 0x0D, false, 3, 2, 2, .ro, 5, 5, 0, 0, 256, 1, 0, 0, 0⟩,
    ⟨0x1C01, 0x00, true, 4, 4, 4, .live, 1, 1, 0, 0, 16777216, 1, 5, 5, 5⟩,
    ⟨0x1C02, 0x00, true, 2, 1, 1, .ro, 1, 1, 255, 0, 255, 1, 64, 64, 64⟩]

/-- Objects of keys_and_isolation. -/
def objs14g : List Desc :=
  [
    ⟨0x1D00, 0x01, false, 2, 1, 1, .ro, 13, 13, 0, 0, 3, 1, 0, 0, 0⟩,
    ⟨0x1D00, 0x02, false, 10, 32, 32, .ro, 5, 5, 0, 0, 0, 1, 0, 0, 0⟩,
    ⟨0x1D00, 0x03, false, 12, 240, 240, .cmd, 1, 1, 0, 0, 94971145180789141405469863695884969990692470634685116742800956330585166286696033875105787408321105016172948848387979899381078776548058719274153038481919330076987462588432197778346974895637755344856609332899271782077461008182119361693275785914457910967149403472811089067095457018656127063791202559391107981952290497413671516189054715030212151457729925746607341068107450556036691253445520158175442766273106804460580598760425795931407058821363012979657287013264796313022267140908229491284859997425339970007394059640858536497878915778164024704513828250590897948604589281308443672575, 1, 0, 0, 0⟩,
    ⟨0x1D00, 0x04, false, 4, 4, 4, .cmd, 1, 1, 0, 0, 4294967295, 1, 0, 0, 0⟩,
    ⟨0x1D00, 0x05, false, 4, 4, 4, .ro, 5, 5, 0, 0, 4294967295, 1, 0, 0, 0⟩,
    ⟨0x1D00, 0x06, false, 4, 4, 4, .cmd, 1, 1, 0, 0, 4294967295, 1, 0, 0, 0⟩,
    ⟨0x1D00, 0x07, false, 1, 1, 1, .ro, 5, 5, 0, 0, 255, 1, 0, 0, 0⟩,
    ⟨0x1D00, 0x08, false, 1, 1, 1, .cmd, 1, 1, 0, 0, 255, 1, 0, 0, 0⟩,
    ⟨0x1D00, 0x09, false, 10, 196, 0, .cmd, 1, 1, 0, 0, 0, 1, 0, 0, 0⟩,
    ⟨0x1D00, 0x0A, false, 10, 1024, 0, .cmd, 1, 1, 0, 0, 0, 1, 0, 0, 0⟩,
    ⟨0x1D00, 0x0B, false, 10, 1024, 0, .cmd, 5, 5, 0, 0, 0, 1, 0, 0, 0⟩,
    ⟨0x1D00, 0x0C, false, 2, 1, 1, .ro, 5, 5, 0, 0, 255, 1, 0, 0, 0⟩,
    ⟨0x1D01, 0x00, true, 10, 96, 96, .ro, 5, 5, 0, 0, 0, 1, 2, 2, 2⟩,
    ⟨0x1D02, 0x00, true, 10, 96, 96, .ro, 5, 5, 0, 0, 0, 1, 0, 0, 16⟩,
    ⟨0x1D03, 0x00, false, 5, 8, 8, .cmd, 1, 1, 0, 0, 18446744073709551615, 1, 0, 0, 0⟩,
    ⟨0x1D04, 0x00, true, 10, 1024, 1024, .ro, 5, 5, 0, 0, 0, 1, 0, 0, 255⟩]

/-- Objects of event_router. -/
def objs15g : List Desc :=
  [
    ⟨0x1E00, 0x01, false, 5, 8, 8, .ro, 5, 5, 0, 0, 18446744073709551615, 1, 0, 0, 0⟩,
    ⟨0x1E00, 0x02, false, 3, 2, 2, .cmd, 1, 1, 0, 0, 1023, 1, 0, 0, 0⟩,
    ⟨0x1E00, 0x03, false, 2, 1, 1, .ro, 5, 5, 255, 0, 255, 1, 0, 0, 0⟩,
    ⟨0x1E00, 0x04, false, 4, 4, 4, .live, 1, 1, 0, 0, 4294967295, 1, 0, 0, 0⟩,
    ⟨0x1E03, 0x00, true, 3, 2, 2, .live, 1, 1, 0, 0, 65535, 1, 64, 64, 64⟩,
    ⟨0x1E04, 0x00, true, 4, 4, 4, .live, 1, 1, 0, 0, 4294967295, 1, 32, 32, 32⟩,
    ⟨0x1E10, 0x00, true, 4, 4, 4, .live, 1, 1, 0, 0, 4294967295, 1, 128, 128, 128⟩,
    ⟨0x1E11, 0x00, true, 4, 4, 4, .live, 1, 1, 0, 0, 4294967295, 1, 128, 128, 128⟩,
    ⟨0x1E12, 0x00, true, 4, 4, 4, .live, 1, 1, 0, 0, 4294967295, 1, 128, 128, 128⟩,
    ⟨0x1E13, 0x00, true, 4, 4, 4, .live, 1, 1, 0, 0, 4294967295, 1, 128, 128, 128⟩,
    ⟨0x1E14, 0x00, true, 4, 4, 4, .live, 1, 1, 0, 0, 4294967295, 1, 128, 128, 128⟩,
    ⟨0x1E15, 0x00, true, 4, 4, 4, .live, 1, 1, 0, 0, 4294967295, 1, 128, 128, 128⟩,
    ⟨0x1E16, 0x00, true, 4, 4, 4, .live, 1, 1, 0, 0, 4294967295, 1, 128, 128, 128⟩,
    ⟨0x1E17, 0x00, true, 4, 4, 4, .live, 1, 1, 0, 0, 4294967295, 1, 128, 128, 128⟩,
    ⟨0x1E20, 0x00, true, 3, 2, 2, .ro, 5, 5, 0, 0, 65535, 1, 128, 128, 128⟩,
    ⟨0x1E21, 0x00, true, 3, 2, 2, .ro, 5, 5, 0, 0, 65535, 1, 128, 128, 128⟩,
    ⟨0x1E22, 0x00, true, 3, 2, 2, .ro, 5, 5, 0, 0, 65535, 1, 128, 128, 128⟩,
    ⟨0x1E23, 0x00, true, 3, 2, 2, .ro, 5, 5, 0, 0, 65535, 1, 128, 128, 128⟩,
    ⟨0x1E24, 0x00, true, 3, 2, 2, .ro, 5, 5, 0, 0, 65535, 1, 128, 128, 128⟩,
    ⟨0x1E25, 0x00, true, 3, 2, 2, .ro, 5, 5, 0, 0, 65535, 1, 128, 128, 128⟩,
    ⟨0x1E26, 0x00, true, 3, 2, 2, .ro, 5, 5, 0, 0, 65535, 1, 128, 128, 128⟩,
    ⟨0x1E27, 0x00, true, 3, 2, 2, .ro, 5, 5, 0, 0, 65535, 1, 128, 128, 128⟩]

/-- Objects of faults_and_recovery. -/
def objs16g : List Desc :=
  [
    ⟨0x1F00, 0x01, false, 2, 1, 1, .ro, 5, 5, 0, 0, 2, 1, 0, 0, 0⟩,
    ⟨0x1F00, 0x02, false, 2, 1, 1, .cmd, 1, 1, 0, 0, 63, 1, 0, 0, 0⟩,
    ⟨0x1F00, 0x03, false, 5, 8, 8, .ro, 5, 5, 0, 0, 18446744073709551615, 1, 0, 0, 0⟩,
    ⟨0x1F00, 0x04, false, 2, 1, 1, .cmd, 1, 1, 0, 1, 38, 1, 0, 0, 0⟩,
    ⟨0x1F00, 0x05, false, 4, 4, 4, .live, 1, 1, 10, 1, 1000, 1, 0, 0, 0⟩,
    ⟨0x1F00, 0x06, false, 1, 1, 1, .live, 1, 1, 1, 0, 255, 1, 0, 0, 0⟩,
    ⟨0x1F00, 0x07, false, 4, 4, 4, .live, 1, 1, 100, 1, 10000, 1, 0, 0, 0⟩,
    ⟨0x1F00, 0x08, false, 4, 4, 4, .ro, 5, 5, 100, 0, 4294967295, 1, 0, 0, 0⟩,
    ⟨0x1F00, 0x09, false, 4, 4, 4, .live, 1, 1, 1000, 100, 100000, 1, 0, 0, 0⟩,
    ⟨0x1F00, 0x0A, false, 4, 4, 4, .ro, 5, 5, 0, 0, 4294967295, 1, 0, 0, 0⟩,
    ⟨0x1F00, 0x0B, false, 1, 1, 1, .cmd, 1, 1, 0, 0, 255, 1, 0, 0, 0⟩,
    ⟨0x1F00, 0x0C, false, 4, 4, 4, .live, 1, 1, 50, 5, 5000, 1, 0, 0, 0⟩,
    ⟨0x1F00, 0x0D, false, 1, 1, 1, .cmd, 1, 1, 0, 0, 255, 1, 0, 0, 0⟩,
    ⟨0x1F00, 0x0E, false, 10, 64, 64, .ro, 5, 5, 0, 0, 0, 1, 0, 0, 0⟩,
    ⟨0x1F01, 0x01, false, 4, 4, 4, .live, 5, 5, 0, 0, 4294967295, 1, 0, 0, 0⟩,
    ⟨0x1F01, 0x02, false, 10, 64, 64, .ro, 5, 5, 0, 0, 0, 1, 0, 0, 0⟩,
    ⟨0x1F01, 0x03, false, 4, 4, 4, .ro, 5, 5, 0, 0, 4294967295, 1, 0, 0, 0⟩,
    ⟨0x1F01, 0x04, false, 4, 4, 4, .ro, 5, 5, 0, 0, 4294967295, 1, 0, 0, 0⟩,
    ⟨0x1F02, 0x00, true, 5, 8, 8, .ro, 5, 5, 0, 0, 18446744073709551615, 1, 64, 64, 64⟩,
    ⟨0x1F03, 0x00, true, 10, 32, 32, .ro, 5, 5, 0, 0, 0, 1, 4, 4, 4⟩,
    ⟨0x1F04, 0x01, false, 2, 1, 1, .live, 1, 1, 1, 1, 4, 1, 0, 0, 0⟩,
    ⟨0x1F04, 0x02, false, 4, 4, 4, .live, 1, 1, 0, 0, 4294967295, 1024, 0, 0, 0⟩,
    ⟨0x1F04, 0x03, false, 10, 1024, 1024, .ro, 1, 1, 0, 0, 0, 1, 0, 0, 0⟩,
    ⟨0x1F04, 0x04, false, 2, 1, 1, .cmd, 1, 1, 0, 1, 4, 1, 0, 0, 0⟩]

/-- Objects of paired_mode. -/
def objs17g : List Desc :=
  [
    ⟨0x2000, 0x01, false, 2, 1, 1, .draft, 5, 1, 0, 0, 2, 1, 0, 0, 0⟩,
    ⟨0x2000, 0x02, false, 2, 1, 1, .ro, 5, 5, 0, 0, 4, 1, 0, 0, 0⟩,
    ⟨0x2000, 0x03, false, 2, 1, 1, .ro, 5, 5, 0, 0, 15, 1, 0, 0, 0⟩,
    ⟨0x2000, 0x04, false, 4, 4, 4, .live, 1, 1, 1000, 100, 100000, 1, 0, 0, 0⟩,
    ⟨0x2000, 0x05, false, 5, 8, 8, .ro, 5, 5, 0, 0, 18446744073709551615, 1, 0, 0, 0⟩,
    ⟨0x2000, 0x06, false, 5, 8, 8, .ro, 5, 5, 0, 0, 18446744073709551615, 1, 0, 0, 0⟩,
    ⟨0x2001, 0x00, true, 10, 80, 80, .draft, 5, 1, 0, 0, 0, 1, 64, 64, 64⟩]

/-- Objects of management_power. -/
def objs18g : List Desc :=
  [
    ⟨0x2100, 0x01, false, 2, 1, 1, .ro, 5, 5, 0, 0, 4, 1, 0, 0, 0⟩,
    ⟨0x2100, 0x02, false, 2, 1, 1, .cmd, 1, 1, 0, 0, 3, 1, 0, 0, 0⟩,
    ⟨0x2100, 0x03, false, 3, 2, 2, .live, 1, 1, 850, 765, 850, 1, 0, 0, 0⟩,
    ⟨0x2100, 0x04, false, 3, 2, 2, .ro, 5, 5, 850, 765, 850, 1, 0, 0, 0⟩,
    ⟨0x2100, 0x05, false, 4, 4, 4, .ro, 5, 5, 0, 0, 4294967295, 1, 0, 0, 0⟩,
    ⟨0x2100, 0x06, false, 1, 1, 1, .ro, 5, 5, 0, 0, 255, 1, 0, 0, 0⟩,
    ⟨0x2100, 0x07, false, 4, 4, 4, .ro, 5, 5, 0, 0, 4294967295, 1, 0, 0, 0⟩,
    ⟨0x2100, 0x08, false, 10, 16, 16, .ro, 5, 5, 0, 0, 0, 1, 0, 0, 0⟩,
    ⟨0x2100, 0x09, false, 1, 1, 1, .ro, 5, 5, 0, 0, 255, 1, 0, 0, 0⟩,
    ⟨0x2100, 0x0A, false, 2, 1, 1, .ro, 5, 5, 0, 0, 2, 1, 0, 0, 0⟩,
    ⟨0x2100, 0x0B, false, 2, 1, 1, .ro, 5, 5, 16, 0, 16, 1, 0, 0, 0⟩,
    ⟨0x2100, 0x0C, false, 4, 4, 4, .live, 1, 1, 100, 10, 100000, 1, 0, 0, 0⟩,
    ⟨0x2101, 0x00, true, 6, 4, 4, .ro, 5, 5, 0, 0, 4294967295, 1, 64, 64, 64⟩,
    ⟨0x2102, 0x00, true, 4, 4, 4, .ro, 5, 5, 0, 0, 4294967295, 1, 24, 24, 24⟩,
    ⟨0x2103, 0x00, true, 4, 4, 4, .draft, 5, 1, 0, 0, 4294967295, 1, 24, 24, 24⟩,
    ⟨0x2104, 0x00, true, 2, 1, 1, .draft, 5, 1, 0, 0, 255, 1, 0, 0, 24⟩,
    ⟨0x2110, 0x00, true, 10, 6, 6, .draft, 5, 1, 0, 0, 0, 1, 4, 4, 4⟩,
    ⟨0x2111, 0x01, false, 4, 4, 4, .draft, 5, 1, 0, 0, 4294967295, 1, 0, 0, 0⟩,
    ⟨0x2111, 0x02, false, 2, 1, 1, .draft, 5, 1, 24, 8, 30, 1, 0, 0, 0⟩,
    ⟨0x2111, 0x03, false, 2, 1, 1, .draft, 5, 1, 0, 0, 4, 1, 0, 0, 0⟩,
    ⟨0x2111, 0x04, false, 2, 1, 1, .ro, 5, 5, 0, 0, 4, 1, 0, 0, 0⟩,
    ⟨0x2111, 0x05, false, 2, 1, 1, .ro, 5, 5, 0, 0, 255, 1, 0, 0, 0⟩,
    ⟨0x2111, 0x06, false, 2, 1, 1, .cmd, 1, 1, 0, 0, 255, 1, 0, 0, 0⟩,
    ⟨0x2111, 0x07, false, 2, 1, 1, .draft, 5, 1, 0, 0, 31, 1, 0, 0, 0⟩,
    ⟨0x2111, 0x08, false, 4, 4, 4, .ro, 5, 5, 0, 0, 4294967295, 1, 0, 0, 0⟩]

/-- Objects of persistent_store. -/
def objs19g : List Desc :=
  [
    ⟨0x2200, 0x01, false, 10, 4, 4, .ro, 5, 5, 0, 0, 0, 1, 0, 0, 0⟩,
    ⟨0x2200, 0x02, false, 3, 2, 2, .ro, 5, 5, 0, 1024, 8192, 1, 0, 0, 0⟩,
    ⟨0x2200, 0x03, false, 3, 2, 2, .ro, 5, 5, 0, 0, 65535, 1, 0, 0, 0⟩,
    ⟨0x2200, 0x04, false, 3, 2, 2, .ro, 5, 5, 0, 0, 65535, 1, 0, 0, 0⟩,
    ⟨0x2200, 0x05, false, 3, 2, 2, .ro, 5, 5, 0, 0, 65535, 1, 0, 0, 0⟩,
    ⟨0x2200, 0x06, false, 4, 4, 4, .ro, 5, 5, 0, 0, 4294967295, 1, 0, 0, 0⟩,
    ⟨0x2200, 0x07, false, 4, 4, 4, .ro, 5, 5, 0, 0, 4294967295, 1, 0, 0, 0⟩,
    ⟨0x2200, 0x08, false, 3, 2, 2, .live, 1, 1, 168, 24, 720, 1, 0, 0, 0⟩,
    ⟨0x2200, 0x09, false, 1, 1, 1, .live, 1, 1, 1, 0, 255, 1, 0, 0, 0⟩,
    ⟨0x2200, 0x0A, false, 2, 1, 1, .draft, 5, 1, 104, 13, 104, 1, 0, 0, 0⟩,
    ⟨0x2200, 0x0B, false, 2, 1, 1, .ro, 5, 5, 0, 0, 1, 1, 0, 0, 0⟩,
    ⟨0x2200, 0x0C, false, 5, 8, 8, .ro, 5, 5, 0, 0, 18446744073709551615, 1, 0, 0, 0⟩,
    ⟨0x2201, 0x00, true, 2, 1, 1, .ro, 5, 5, 0, 0, 5, 1, 2, 2, 2⟩,
    ⟨0x2202, 0x01, false, 1, 1, 1, .cmd, 1, 1, 0, 0, 255, 1, 0, 0, 0⟩,
    ⟨0x2202, 0x02, false, 4, 4, 4, .live, 1, 1, 0, 0, 4294967295, 1024, 0, 0, 0⟩,
    ⟨0x2202, 0x03, false, 10, 1024, 1024, .cmd, 1, 1, 0, 0, 0, 1, 0, 0, 0⟩,
    ⟨0x2202, 0x04, false, 4, 4, 4, .cmd, 1, 1, 0, 1, 8388608, 1, 0, 0, 0⟩,
    ⟨0x2202, 0x05, false, 1, 1, 1, .cmd, 1, 1, 0, 0, 255, 1, 0, 0, 0⟩,
    ⟨0x2202, 0x06, false, 1, 1, 1, .cmd, 1, 1, 0, 0, 255, 1, 0, 0, 0⟩]

/-- Objects of observability. -/
def objs20g : List Desc :=
  [
    ⟨0x2300, 0x01, false, 4, 4, 4, .live, 1, 1, 1000, 250, 1000000, 1, 0, 0, 0⟩,
    ⟨0x2300, 0x02, false, 4, 4, 4, .live, 1, 1, 100, 10, 1000000, 1, 0, 0, 0⟩,
    ⟨0x2300, 0x03, false, 2, 1, 1, .live, 5, 5, 0, 0, 63, 1, 0, 0, 0⟩,
    ⟨0x2300, 0x04, false, 5, 8, 8, .live, 5, 5, 0, 0, 18446744073709551615, 1, 0, 0, 0⟩,
    ⟨0x2300, 0x05, false, 10, 1024, 1024, .ro, 5, 5, 0, 0, 0, 1, 0, 0, 0⟩,
    ⟨0x2300, 0x06, false, 5, 8, 8, .ro, 5, 5, 0, 0, 18446744073709551615, 1, 0, 0, 0⟩,
    ⟨0x2301, 0x00, true, 10, 32, 32, .ro, 5, 5, 0, 0, 0, 1, 64, 64, 64⟩,
    ⟨0x2302, 0x00, true, 10, 32, 32, .ro, 5, 5, 0, 0, 0, 1, 16, 16, 16⟩,
    ⟨0x2303, 0x00, true, 5, 8, 8, .ro, 5, 5, 0, 0, 18446744073709551615, 1, 64, 64, 64⟩]

/-- Per-paddock objects of paddocks. -/
def objs02p : List Desc :=
  [
    ⟨0x0, 0x01, false, 2, 1, 1, .ro, 7, 7, 0, 0, 5, 1, 0, 0, 0⟩,
    ⟨0x0, 0x02, false, 2, 1, 1, .cmd, 1, 1, 0, 1, 5, 1, 0, 0, 0⟩,
    ⟨0x0, 0x03, false, 2, 1, 1, .ro, 7, 7, 0, 0, 5, 1, 0, 0, 0⟩,
    ⟨0x0, 0x04, false, 3, 2, 2, .ro, 7, 7, 0, 0, 65535, 1, 0, 0, 0⟩,
    ⟨0x0, 0x05, false, 3, 2, 2, .ro, 7, 7, 0, 0, 65535, 1, 0, 0, 0⟩,
    ⟨0x0, 0x06, false, 3, 2, 2, .draft, 1, 1, 0, 0, 65535, 1, 0, 0, 0⟩,
    ⟨0x0, 0x07, false, 1, 1, 1, .draft, 1, 1, 0, 0, 255, 1, 0, 0, 0⟩,
    ⟨0x0, 0x08, false, 4, 4, 4, .draft, 1, 1, 10000, 100, 1000000, 1, 0, 0, 0⟩,
    ⟨0x0, 0x09, false, 4, 4, 4, .ro, 7, 7, 0, 0, 4294967295, 1, 0, 0, 0⟩,
    ⟨0x0, 0x0A, false, 10, 512, 512, .ro, 7, 7, 0, 0, 0, 1, 0, 0, 0⟩,
    ⟨0x0, 0x0B, false, 10, 32, 32, .cmd, 3, 3, 0, 0, 0, 1, 0, 0, 0⟩,
    ⟨0x10, 0x01, false, 5, 8, 8, .draft, 7, 1, 0, 0, 18446744073709551615, 1, 0, 0, 0⟩,
    ⟨0x10, 0x02, false, 5, 8, 8, .draft, 7, 1, 0, 0, 18446744073709551615, 1, 0, 0, 0⟩,
    ⟨0x10, 0x03, false, 5, 8, 8, .draft, 7, 1, 0, 0, 1152921504606846975, 1, 0, 0, 0⟩,
    ⟨0x10, 0x04, false, 5, 8, 8, .draft, 7, 1, 0, 0, 18446744073709551615, 1, 0, 0, 0⟩,
    ⟨0x10, 0x05, false, 5, 8, 8, .draft, 7, 1, 0, 0, 18446744073709551615, 1, 0, 0, 0⟩,
    ⟨0x10, 0x06, false, 5, 8, 8, .draft, 7, 1, 0, 0, 18446744073709551615, 1, 0, 0, 0⟩,
    ⟨0x10, 0x07, false, 5, 8, 8, .draft, 7, 1, 0, 0, 18446744073709551615, 1, 0, 0, 0⟩,
    ⟨0x10, 0x08, false, 5, 8, 8, .draft, 7, 1, 0, 0, 18446744073709551615, 1, 0, 0, 0⟩,
    ⟨0x10, 0x09, false, 3, 2, 2, .draft, 7, 1, 0, 0, 256, 1, 0, 0, 0⟩,
    ⟨0x10, 0x0A, false, 2, 1, 1, .draft, 7, 1, 0, 0, 32, 1, 0, 0, 0⟩,
    ⟨0x10, 0x0B, false, 2, 1, 1, .draft, 7, 1, 0, 0, 64, 1, 0, 0, 0⟩,
    ⟨0x10, 0x0C, false, 2, 1, 1, .draft, 7, 1, 0, 0, 64, 1, 0, 0, 0⟩,
    ⟨0x10, 0x0D, false, 3, 2, 2, .draft, 7, 1, 0, 0, 1280, 1, 0, 0, 0⟩,
    ⟨0x11, 0x00, true, 4, 4, 4, .draft, 7, 1, 0, 0, 4294967295, 1, 0, 0, 64⟩]

/-- Per-paddock objects of sharing_and_accounting. -/
def objs13p : List Desc :=
  [
    ⟨0x20, 0x01, false, 3, 2, 2, .draft, 7, 1, 256, 1, 65535, 1, 0, 0, 0⟩,
    ⟨0x20, 0x02, false, 1, 1, 1, .draft, 3, 1, 0, 0, 255, 1, 0, 0, 0⟩,
    ⟨0x20, 0x03, false, 4, 4, 4, .draft, 3, 1, 100000, 1000, 10000000, 1, 0, 0, 0⟩,
    ⟨0x20, 0x04, false, 4, 4, 4, .draft, 3, 1, 1000, 0, 10000, 1, 0, 0, 0⟩,
    ⟨0x20, 0x05, false, 4, 4, 4, .live, 3, 3, 2000, 100, 100000, 1, 0, 0, 0⟩,
    ⟨0x20, 0x06, false, 3, 2, 2, .cmd, 3, 3, 0, 0, 65535, 1, 0, 0, 0⟩,
    ⟨0x20, 0x07, false, 2, 1, 1, .ro, 7, 7, 0, 0, 255, 1, 0, 0, 0⟩,
    ⟨0x20, 0x08, false, 5, 8, 8, .live, 3, 3, 0, 0, 18446744073709551615, 64, 0, 0, 0⟩,
    ⟨0x20, 0x09, false, 2, 1, 1, .live, 3, 3, 8, 4, 12, 1, 0, 0, 0⟩,
    ⟨0x20, 0x0A, false, 3, 2, 2, .live, 3, 3, 0, 0, 65535, 1, 0, 0, 0⟩,
    ⟨0x20, 0x0B, false, 4, 4, 4, .ro, 7, 7, 0, 0, 4294967295, 1, 0, 0, 0⟩,
    ⟨0x21, 0x00, true, 4, 4, 4, .draft, 7, 1, 0, 0, 4294967295, 1, 5, 5, 5⟩,
    ⟨0x30, 0x00, true, 5, 8, 8, .ro, 7, 7, 0, 0, 18446744073709551615, 1, 13, 13, 13⟩,
    ⟨0x31, 0x00, true, 5, 8, 8, .ro, 7, 7, 0, 0, 18446744073709551615, 1, 5, 5, 5⟩,
    ⟨0x32, 0x01, false, 4, 4, 4, .ro, 7, 7, 0, 0, 4294967295, 1, 0, 0, 0⟩,
    ⟨0x32, 0x02, false, 10, 512, 512, .ro, 7, 7, 0, 0, 0, 1, 0, 0, 0⟩]

/-- Per-paddock objects of rick_translation. -/
def objs12p : List Desc :=
  [
    ⟨0x40, 0x01, false, 5, 8, 8, .draft, 7, 1, 0, 0, 18446744073709551615, 4096, 0, 0, 0⟩,
    ⟨0x40, 0x03, false, 10, 1024, 16, .cmd, 1, 1, 0, 0, 0, 1, 0, 0, 0⟩,
    ⟨0x40, 0x04, false, 5, 8, 8, .live, 1, 1, 0, 0, 18446744073709551615, 1, 0, 0, 0⟩,
    ⟨0x40, 0x05, false, 10, 16, 16, .ro, 1, 1, 0, 0, 0, 1, 0, 0, 0⟩,
    ⟨0x40, 0x06, false, 5, 8, 8, .live, 3, 3, 0, 0, 18446744073709551615, 32, 0, 0, 0⟩,
    ⟨0x40, 0x07, false, 2, 1, 1, .live, 3, 3, 8, 4, 12, 1, 0, 0, 0⟩,
    ⟨0x40, 0x08, false, 3, 2, 2, .live, 3, 3, 0, 0, 65535, 1, 0, 0, 0⟩,
    ⟨0x40, 0x09, false, 3, 2, 2, .ro, 7, 7, 0, 0, 65535, 1, 0, 0, 0⟩,
    ⟨0x40, 0x0A, false, 4, 4, 4, .live, 3, 3, 2000, 500, 100000, 1, 0, 0, 0⟩,
    ⟨0x40, 0x0B, false, 4, 4, 4, .ro, 7, 7, 0, 0, 4294967295, 1, 0, 0, 0⟩,
    ⟨0x41, 0x00, true, 5, 8, 8, .ro, 7, 7, 0, 0, 18446744073709551615, 1, 7, 7, 7⟩]

/-- Per-paddock objects of contexts_queues_commands. -/
def objs04p : List Desc :=
  [
    ⟨0x50, 0x01, false, 10, 32, 32, .cmd, 3, 3, 0, 0, 0, 1, 0, 0, 0⟩,
    ⟨0x50, 0x02, false, 2, 1, 1, .cmd, 3, 3, 0, 0, 63, 1, 0, 0, 0⟩,
    ⟨0x50, 0x03, false, 10, 16, 16, .cmd, 3, 3, 0, 0, 0, 1, 0, 0, 0⟩,
    ⟨0x50, 0x04, false, 3, 2, 2, .cmd, 3, 3, 0, 0, 65535, 1, 0, 0, 0⟩,
    ⟨0x50, 0x05, false, 3, 2, 2, .live, 7, 7, 0, 0, 4095, 1, 0, 0, 0⟩,
    ⟨0x50, 0x06, false, 10, 16, 16, .ro, 7, 7, 0, 0, 0, 1, 0, 0, 0⟩,
    ⟨0x50, 0x07, false, 4, 4, 4, .live, 3, 3, 0, 0, 4294967295, 1, 0, 0, 0⟩,
    ⟨0x50, 0x08, false, 10, 64, 64, .ro, 7, 7, 0, 0, 0, 1, 0, 0, 0⟩,
    ⟨0x50, 0x09, false, 4, 4, 4, .ro, 7, 7, 0, 0, 4294967295, 1, 0, 0, 0⟩,
    ⟨0x50, 0x0A, false, 5, 8, 8, .live, 3, 3, 0, 0, 18446744073709551615, 1, 0, 0, 0⟩,
    ⟨0x50, 0x0B, false, 2, 1, 1, .live, 3, 3, 8, 4, 12, 1, 0, 0, 0⟩,
    ⟨0x50, 0x0C, false, 3, 2, 2, .live, 3, 3, 0, 0, 65535, 1, 0, 0, 0⟩,
    ⟨0x50, 0x0D, false, 5, 8, 8, .draft, 3, 1, 0, 0, 18446744073709551615, 1073741824, 0, 0, 0⟩,
    ⟨0x50, 0x0E, false, 5, 8, 8, .draft, 3, 1, 0, 0, 18446744073709551615, 1073741824, 0, 0, 0⟩,
    ⟨0x51, 0x00, true, 10, 16, 16, .ro, 7, 7, 0, 0, 0, 1, 64, 64, 64⟩]

/-- Per-paddock objects of beluth_transport. -/
def objs07p : List Desc :=
  [
    ⟨0x52, 0x01, false, 10, 16, 16, .cmd, 3, 3, 0, 0, 0, 1, 0, 0, 0⟩,
    ⟨0x52, 0x02, false, 10, 32, 32, .cmd, 3, 3, 0, 0, 0, 1, 0, 0, 0⟩,
    ⟨0x52, 0x03, false, 4, 4, 4, .cmd, 3, 3, 0, 0, 4294967295, 1, 0, 0, 0⟩,
    ⟨0x52, 0x04, false, 4, 4, 4, .live, 7, 7, 0, 0, 4294967295, 1, 0, 0, 0⟩,
    ⟨0x52, 0x05, false, 10, 32, 32, .ro, 7, 7, 0, 0, 0, 1, 0, 0, 0⟩,
    ⟨0x52, 0x06, false, 5, 8, 8, .draft, 3, 1, 0, 0, 18446744073709551615, 4096, 0, 0, 0⟩,
    ⟨0x52, 0x07, false, 4, 4, 4, .draft, 3, 1, 0, 0, 262144, 1, 0, 0, 0⟩,
    ⟨0x52, 0x08, false, 4, 4, 4, .ro, 7, 7, 0, 0, 262144, 1, 0, 0, 0⟩,
    ⟨0x53, 0x00, true, 5, 8, 8, .ro, 7, 7, 0, 0, 18446744073709551615, 1, 9, 9, 9⟩]

/-- Per-paddock objects of sward_arithmetic. -/
def objs09p : List Desc :=
  [
    ⟨0x60, 0x01, false, 5, 8, 8, .ro, 7, 7, 0, 0, 18446744073709551615, 1, 0, 0, 0⟩,
    ⟨0x60, 0x02, false, 5, 8, 8, .ro, 7, 7, 0, 0, 18446744073709551615, 1, 0, 0, 0⟩,
    ⟨0x60, 0x03, false, 5, 8, 8, .ro, 7, 7, 0, 0, 18446744073709551615, 1, 0, 0, 0⟩]

/-- Per-paddock objects of transform_operations. -/
def objs10p : List Desc :=
  [
    ⟨0x60, 0x04, false, 5, 8, 8, .live, 3, 3, 0, 0, 18446744073709551615, 64, 0, 0, 0⟩,
    ⟨0x60, 0x05, false, 5, 8, 8, .live, 3, 3, 0, 0, 18446744073709551615, 64, 0, 0, 0⟩,
    ⟨0x60, 0x06, false, 3, 2, 2, .live, 3, 3, 0, 0, 256, 1, 0, 0, 0⟩,
    ⟨0x60, 0x07, false, 5, 8, 8, .ro, 7, 7, 0, 0, 18446744073709551615, 1, 0, 0, 0⟩,
    ⟨0x60, 0x08, false, 5, 8, 8, .ro, 7, 7, 0, 0, 18446744073709551615, 1, 0, 0, 0⟩,
    ⟨0x60, 0x09, false, 5, 8, 8, .ro, 7, 7, 0, 0, 18446744073709551615, 1, 0, 0, 0⟩,
    ⟨0x60, 0x0A, false, 5, 8, 8, .ro, 7, 7, 0, 0, 18446744073709551615, 1, 0, 0, 0⟩,
    ⟨0x61, 0x00, true, 10, 64, 64, .live, 3, 3, 0, 0, 0, 1, 16, 16, 16⟩,
    ⟨0x62, 0x00, true, 10, 32, 32, .live, 3, 3, 0, 0, 0, 1, 0, 0, 64⟩]

/-- Per-paddock objects of keys_and_isolation. -/
def objs14p : List Desc :=
  [
    ⟨0x70, 0x01, false, 10, 32, 32, .ro, 3, 3, 0, 0, 0, 1, 0, 0, 0⟩,
    ⟨0x70, 0x02, false, 12, 240, 240, .cmd, 3, 3, 0, 0, 94971145180789141405469863695884969990692470634685116742800956330585166286696033875105787408321105016172948848387979899381078776548058719274153038481919330076987462588432197778346974895637755344856609332899271782077461008182119361693275785914457910967149403472811089067095457018656127063791202559391107981952290497413671516189054715030212151457729925746607341068107450556036691253445520158175442766273106804460580598760425795931407058821363012979657287013264796313022267140908229491284859997425339970007394059640858536497878915778164024704513828250590897948604589281308443672575, 1, 0, 0, 0⟩,
    ⟨0x70, 0x03, false, 3, 2, 2, .cmd, 3, 3, 0, 0, 65535, 1, 0, 0, 0⟩,
    ⟨0x70, 0x04, false, 10, 64, 64, .ro, 7, 7, 0, 0, 0, 1, 0, 0, 0⟩,
    ⟨0x70, 0x05, false, 2, 1, 1, .ro, 7, 7, 0, 0, 255, 1, 0, 0, 0⟩,
    ⟨0x70, 0x06, false, 4, 4, 4, .ro, 7, 7, 0, 0, 4294967295, 1, 0, 0, 0⟩,
    ⟨0x70, 0x07, false, 10, 336, 336, .cmd, 3, 3, 0, 0, 0, 1, 0, 0, 0⟩,
    ⟨0x70, 0x08, false, 10, 16, 16, .cmd, 3, 3, 0, 0, 0, 1, 0, 0, 0⟩,
    ⟨0x70, 0x09, false, 2, 1, 1, .cmd, 3, 3, 0, 1, 63, 1, 0, 0, 0⟩,
    ⟨0x71, 0x00, true, 10, 1024, 1024, .ro, 7, 7, 0, 0, 0, 1, 0, 0, 255⟩]

/-- Per-paddock objects of observability. -/
def objs20p : List Desc :=
  [
    ⟨0x80, 0x00, true, 5, 8, 8, .ro, 7, 7, 0, 0, 18446744073709551615, 1, 8, 8, 8⟩,
    ⟨0x81, 0x01, false, 1, 1, 1, .cmd, 3, 3, 0, 0, 255, 1, 0, 0, 0⟩,
    ⟨0x81, 0x02, false, 10, 344, 344, .ro, 7, 7, 0, 0, 0, 1, 0, 0, 0⟩,
    ⟨0x82, 0x01, false, 2, 1, 1, .live, 3, 3, 0, 0, 15, 1, 0, 0, 0⟩,
    ⟨0x82, 0x02, false, 3, 2, 2, .draft, 7, 1, 0, 0, 512, 1, 0, 0, 0⟩,
    ⟨0x82, 0x03, false, 2, 1, 1, .live, 3, 3, 0, 0, 1, 1, 0, 0, 0⟩,
    ⟨0x82, 0x04, false, 3, 2, 2, .live, 3, 3, 0, 0, 65535, 1, 0, 0, 0⟩,
    ⟨0x82, 0x05, false, 3, 2, 2, .live, 3, 3, 65535, 0, 65535, 1, 0, 0, 0⟩,
    ⟨0x82, 0x06, false, 5, 8, 8, .live, 3, 3, 0, 0, 18446744073709551615, 64, 0, 0, 0⟩,
    ⟨0x82, 0x07, false, 2, 1, 1, .live, 3, 3, 12, 8, 20, 1, 0, 0, 0⟩,
    ⟨0x82, 0x08, false, 4, 4, 4, .live, 3, 3, 0, 0, 4294967295, 1, 0, 0, 0⟩,
    ⟨0x82, 0x09, false, 4, 4, 4, .cmd, 3, 3, 0, 0, 4294967295, 1, 0, 0, 0⟩,
    ⟨0x83, 0x00, true, 3, 2, 2, .live, 3, 3, 0, 0, 65535, 1, 5, 5, 5⟩]

/-- Per-paddock objects of event_router. -/
def objs15p : List Desc :=
  [
    ⟨0x90, 0x01, false, 4, 4, 4, .live, 3, 3, 0, 0, 4294967295, 1, 0, 0, 0⟩,
    ⟨0x90, 0x02, false, 4, 4, 4, .live, 3, 3, 0, 0, 4294967295, 1, 0, 0, 0⟩,
    ⟨0x90, 0x03, false, 4, 4, 4, .live, 3, 3, 0, 0, 4294967295, 1, 0, 0, 0⟩,
    ⟨0x90, 0x04, false, 4, 4, 4, .live, 3, 3, 0, 0, 4294967295, 1, 0, 0, 0⟩,
    ⟨0x90, 0x05, false, 4, 4, 4, .live, 3, 3, 0, 0, 4294967295, 1, 0, 0, 0⟩,
    ⟨0x90, 0x06, false, 4, 4, 4, .live, 3, 3, 0, 0, 4294967295, 1, 0, 0, 0⟩,
    ⟨0x90, 0x07, false, 4, 4, 4, .live, 3, 3, 0, 0, 4294967295, 1, 0, 0, 0⟩,
    ⟨0x90, 0x08, false, 4, 4, 4, .live, 3, 3, 0, 0, 4294967295, 1, 0, 0, 0⟩,
    ⟨0x90, 0x09, false, 2, 1, 1, .cmd, 3, 3, 0, 0, 7, 1, 0, 0, 0⟩,
    ⟨0x91, 0x00, true, 3, 2, 2, .ro, 7, 7, 0, 0, 65535, 1, 8, 8, 8⟩]

/-- The objects outside the paddock blocks. -/
def objsGlobal : List Desc :=
  objs03g ++ objs02g ++ objs04g ++ objs05g ++ objs06g ++ objs07g ++ objs08g ++ objs09g ++ objs10g ++ objs11g ++ objs12g ++ objs13g ++ objs14g ++ objs15g ++ objs16g ++ objs17g ++ objs18g ++ objs19g ++ objs20g

/-- The objects of a paddock block, by offset. -/
def objsPaddock : List Desc :=
  objs02p ++ objs13p ++ objs12p ++ objs04p ++ objs07p ++ objs09p ++ objs10p ++ objs14p ++ objs20p ++ objs15p

end Sys2Proof.Machine
end

