-- ==== Sys2Proof/Machine/Ops.lean ====
section
/-! DEFINITION. The named operations that every family uses: object values, the log of what is sent, the global error
queue and the Cairn, event sources and their delivery, time, and the sets of resources that are free. -/

namespace Sys2Proof.Machine
open Sys2Proof

/-! ### Time -/

/-- Fabric time in whole ns (TIME64). -/
def ns (s : State) : Nat := s.ftm.time / 2 ^ 40

/-- Is fabric time reported as synchronised (*Time state codes*)? -/
def synced (s : State) : Bool := 2 ≤ s.ftm.st

/-- TIME of a Cairn or journal entry: 0 while UNSYNC. -/
def stampTime (s : State) : Nat := if s.ftm.st = 0 then 0 else ns s

/-! ### Object values -/

/-- The key of a sub-index in a table of values. -/
def okey (i sub : Nat) : Nat := i * 256 + sub

/-- Index of an offset of paddock p's block. -/
def pidx (p off : Nat) : Nat := 0x4000 + 0x100 * p + off

/-- Does a description cover a sub-index? -/
def Desc.covers (d : Desc) (idx sub : Nat) : Bool := d.idx = idx && (d.tab || d.sub = sub)

/-- The rows of the dictionary for an index (R106). -/
def descsAt (i : Nat) : List Desc :=
  if 0x4000 ≤ i && i < 0x8000 then objsPaddock.filter (fun d => d.idx = i % 0x100)
  else objsGlobal.filter (fun d => d.idx = i)

/-- The row that describes a sub-index, if one does. -/
def descOf (i sub : Nat) : Option Desc := (descsAt i).find? (fun d => d.tab || d.sub = sub)

/-- The Default of a row of a TAB, where its table gives each row its own (*Ledger classes*, R628, 0x2103). -/
def rowDefault (d : Desc) (i sub : Nat) : Nat :=
  if i = 0x1C01 then [262144, 65536, 65536, 262144, 1048576].getD (sub - 1) 0
  else if 0x4000 ≤ i && i < 0x8000 && d.idx = 0x83 then 0x8000 + sub
  else if i = 0x2103 then Config.railNominal (sub - 1)
  else d.dflt

/-- The Default of a sub-index; sub-index 0x00 of a TAB holds its number of rows. -/
def dfltOf (i sub : Nat) : Nat :=
  match descOf i sub with
  | none => 0
  | some d => if d.tab then (if sub = 0 then d.rows else rowDefault d i sub) else d.dflt

/-- The value of a LIVE or RW object, or of a counter that hardware keeps under its own number. -/
def getO (s : State) (i sub : Nat) : Nat := (Tbl.find s.obj.live (okey i sub)).getD (dfltOf i sub)

/-- Set such a value. -/
def setO (s : State) (i sub v : Nat) : State := { s with obj.live := Tbl.set s.obj.live (okey i sub) v }

/-- Add to a counter of the given width, which wraps. -/
def addO (s : State) (i sub n width : Nat) : State := setO s i sub ((getO s i sub + n) % 2 ^ width)

/-- The committed value of a DRAFT object. -/
def cfg (s : State) (i sub : Nat) : Nat := (Tbl.find s.obj.committed (okey i sub)).getD (dfltOf i sub)

/-- The draft value of a DRAFT object. -/
def cfgDraft (s : State) (i sub : Nat) : Nat := (Tbl.find s.obj.draft (okey i sub)).getD (dfltOf i sub)

/-- Values of paddock p's block. -/
def getP (s : State) (p off sub : Nat) : Nat := getO s (pidx p off) sub
def setP (s : State) (p off sub v : Nat) : State := setO s (pidx p off) sub v
def cfgP (s : State) (p off sub : Nat) : Nat := cfg s (pidx p off) sub
/-- Add to a 64-bit counter row of paddock p. -/
def bump (s : State) (p off row n : Nat) : State := addO s (pidx p off) row n 64
/-- Add to a meter of paddock p (R474). -/
def meter (s : State) (p row n : Nat) : State := bump s p 0x30 row n

/-- Paddock p. -/
def pad (s : State) (p : Nat) : Paddock := Tbl.get s.pads p
/-- Change paddock p. -/
def updPad (s : State) (p : Nat) (f : Paddock → Paddock) : State := { s with pads := Tbl.upd s.pads p f }

/-- State codes 0x00 to 0x05 (*Paddock state codes*). -/
def PState.code : PState → Nat
  | .empty => 0 | .fenced => 1 | .opened => 2 | .draining => 3 | .fallow => 4 | .faulted => 5

/-- The paddock numbers. -/
def allPads : List Nat := List.range 64

/-! ### Sending -/

/-- Log something the block sends. -/
def emit (s : State) (o : Out) : State := { s with out := o :: s.out }
/-- Log several, in order. -/
def emits (s : State) (os : List Out) : State := os.foldl emit s

/-- Take the next free value's number. -/
def fresh1 (s : State) : State := { s with fresh := s.fresh + 1 }

/-! ### Events (*The Event Router and the Lark*) -/

/-- Sources of AON, MGT and SEC, which alone can fire in SLEEP (R538). -/
def alwaysOn (src : Nat) : Bool := (608 ≤ src && src < 704) || (736 ≤ src && src < 768) || (848 ≤ src && src < 896)

/-- Does a slot watch an input, kind 0 source, 1 pin, 2 wake timer, that can fire now (R537, R538)? -/
def larkMatch (s : State) (kind src slot : Nat) : Bool :=
  bit slot 31 && bits slot 29 28 = kind && (kind = 2 || bits slot 27 18 = src) && (kind ≠ 0 || s.pow.st ≠ 3 || alwaysOn src)

/-- Set FIRED of every armed slot that watches an input; in DOZE and SLEEP the lowest of them starts the wake (R537). -/
def larkSee (s : State) (kind src : Nat) : State :=
  match s.ev.lark.find? (fun e => larkMatch s kind src e.2) with
  | none => s
  | some (k, _) =>
    { s with ev.lark := s.ev.lark.map (fun e => if larkMatch s kind src e.2 then (e.1, putBit e.2 30 true) else e),
             ev.wake := if (s.pow.st = 2 || s.pow.st = 3) && s.ev.wake.isNone then some k else s.ev.wake }

/-- Set PENDING of a source, counting an overrun (R522), without touching its occurrence count (R532). -/
def raise (s : State) (src : Nat) : State :=
  let t := Tbl.get s.ev.targets src
  let t' := if bit t 29 then (if bits t 7 0 = 255 then t else t + 1) else putBit t 29 true
  larkSee { s with ev.targets := Tbl.set s.ev.targets src t' } 0 src

/-- A source fires (R522). -/
def fire (s : State) (src : Nat) : State :=
  raise { s with ev.occurs := Tbl.set s.ev.occurs src ((Tbl.get s.ev.occurs src + 1) % 65536) } src

/-- A paddock source 8n + k fires. -/
def firePad (s : State) (p k : Nat) : State := fire s (8 * p + k)

/-- Where a target register delivers, if anywhere (KIND, FUNCTION). -/
def targetOf (t : Nat) : Option Target :=
  match bits t 28 27 with
  | 1 => some .pf
  | 2 => some (.vf (Fin.ofNat 64 (bits t 26 21)))
  | 3 => some .core
  | _ => none

/-- A source delivers when ENABLE is 1, KIND is not 0, PENDING is 1 and no hold-off holds it (R523, R527, R528). -/
def deliverable (s : State) (src : Nat) : Bool :=
  let t := Tbl.get s.ev.targets src
  match targetOf t with
  | none => false
  | some f => bit t 31 && bit t 29 && (bit t 30 || !s.ev.holdoffs.contains (src / 16, f))

/-- The function of a target. -/
def targetFn : Target → Option Fn
  | .pf => some none | .vf n => some (some n) | .core => none

/-- The record of a function. -/
def func (s : State) : Fn → Func
  | none => s.host.pf
  | some n => Tbl.get s.host.vfs n.val
/-- Change a function. -/
def updFunc (s : State) (fn : Fn) (f : Func → Func) : State :=
  match fn with
  | none => { s with host.pf := f s.host.pf }
  | some n => { s with host.vfs := Tbl.upd s.host.vfs n.val f }

/-- Write an MSI-X vector of a function, or set its pending bit while it may not be sent (R192, R524). -/
def msix (s : State) (fn : Fn) (v : Nat) : State :=
  let f := func s fn
  if f.master && !f.inReset && f.unmasked.contains v then emit s (.msix fn v)
  else updFunc s fn (fun f => { f with pba := if f.pba.contains v then f.pba else v :: f.pba })

/-- One delivery: an MSI-X write for a vector that has not been written in this cycle, or a core interrupt (R524). -/
def deliverOne (acc : State × List (Target × Nat)) (src : Nat) : State × List (Target × Nat) :=
  let (s, seen) := acc
  let t := Tbl.get s.ev.targets src
  match targetOf t with
  | none => acc
  | some f =>
    let v := match f with | .core => src | _ => bits t 20 13
    if seen.contains (f, v) then acc
    else
      let s := addO s 0x1E00 1 1 64
      let s := match targetFn f with
        | some fn => msix s fn v
        | none => emit s (.core src (bit t 30))
      (s, (f, v) :: seen)

/-- Start the timer of each group and function that a normal-class delivery used (R528). -/
def startHoldoff (s : State) (src : Nat) : State :=
  let t := Tbl.get s.ev.targets src
  match targetOf t with
  | none => s
  | some f =>
    if bit t 30 || getO s 0x1E03 (src / 16 + 1) = 0 || s.ev.holdoffs.contains (src / 16, f) then s
    else { s with ev.holdoffs := (src / 16, f) :: s.ev.holdoffs }

/-- The sources that deliver now, ascending. -/
def deliverNow (s : State) : List Nat := (s.ev.targets.map (·.1)).filter (deliverable s)

/-- Deliver every source that can (R523): PENDING is cleared in the same cycle, vectors are written once, and hold-off
timers start. -/
def deliver (s : State) : State :=
  let now := deliverNow s
  let (s1, _) := now.foldl deliverOne (s, [])
  let s2 := now.foldl startHoldoff s1
  { s2 with ev.targets := s2.ev.targets.map (fun e => if now.contains e.1 then (e.1, putBit e.2 29 false) else e) }

/-! ### The global error queue and the Cairn -/

/-- The rick line of granule 124 that holds an entry of the global error queue (log 12). -/
def geqLine (seq : Nat) : Nat := 124 * 2 ^ 22 + seq % 4096

/-- Append an entry to the global error queue: the next sequence number, at most 4,096 held (R144), the view's counter
and event for a paddock (R145), the device event otherwise. -/
def geq (s : State) (e : Entry) : State :=
  let e := { e with seq := s.log.geqNext, time := ns s }
  let s := if s.log.geq.length < 4096 then s else match s.log.geq with
    | [] => s
    | o :: _ => if o.dev || o.seq < getP s o.p 0x50 7 then s else addO s (pidx o.p 0x50) 9 1 32
  let s := { s with log.geq := (s.log.geq ++ [e]).drop (s.log.geq.length + 1 - 4096), log.geqNext := (s.log.geqNext + 1) % 2 ^ 32,
                    rick.poisoned := s.rick.poisoned.filter (· ≠ geqLine e.seq) }
  if e.dev then fire s 736
  else
    let s := bump s e.p 0x80 6 1
    let s := if getP s e.p 0x50 0x0A = 0 then s else updPad s e.p (fun d => { d with geqSeqs := d.geqSeqs ++ [e.seq] })
    firePad s e.p 2

/-- An entry of device scope. -/
def logDev (s : State) (code sev : Nat) (facts : List Nat) : State :=
  geq s { code := code, sev := sev, dev := true, facts := facts }

/-- An entry of one paddock's view. -/
def logPad (s : State) (p code sev : Nat) (facts : List Nat) : State :=
  geq s { code := code, sev := sev, dev := false, p := p, facts := p :: facts }

/-- Put work at the end of the flash queue. -/
def flash (s : State) (op : FlashOp) : State := { s with store.work := s.store.work ++ [op] }

/-- Is the operation a Cairn entry? -/
def FlashOp.isCairn : FlashOp → Bool
  | .cairn _ => true | _ => false

/-- Queue an entry for the Cairn (R554, R560): at most 256 wait; the SEQUENCE is never reused. -/
def cairn (s : State) (code sev : Nat) (dev : Bool) (p : Nat) (facts : List Nat) : State :=
  if 256 ≤ (s.store.work.filter FlashOp.isCairn).length then
    { s with log.cairnLost := (s.log.cairnLost + 1) % 2 ^ 32 }
  else
    let e : Entry := { code := code, sev := sev, dev := dev, p := p, seq := s.log.cairnNext, time := stampTime s,
                       boot := s.sys.bootCount, uptime := s.sys.uptime, facts := facts }
    fire (flash { s with log.cairnNext := (s.log.cairnNext + 1) % 2 ^ 32 } (.cairn e)) 737

/-- Append a record to the journal. -/
def addRecord (s : State) (type : Nat) (data : List Nat) : State :=
  { s with store.journal := s.store.journal ++ [{ seq := s.store.jseq, type := type, data := data, boot := s.sys.bootCount, time := stampTime s }],
           store.jseq := s.store.jseq + 1 }

/-- Must the operation wait while the store is read-only (R613)? -/
def FlashOp.waits : FlashOp → Bool
  | .cairn _ | .snapshot .. | .dump => true
  | _ => false

/-- The flash operation in progress: none starts under the brake (R594). -/
def nextOp (s : State) : Option FlashOp :=
  if s.pow.brake.isSome && !s.store.running then none else s.store.work.find? (fun w => !(s.store.readOnly && w.waits))

/-- The journal's blocks; bad ones are skipped (R611). -/
def journalBlocks (s : State) : List Nat :=
  ((List.range 64).map (4 + ·)).filter (fun b => !s.store.factoryBad.contains b && !s.store.grownBad.contains b)

/-- Sectors of the journal that may be in use before a checkpoint: one record takes one, and 4 blocks stay free (R616). -/
def journalSectors (s : State) : Nat := ((journalBlocks s).length - 4) * 256

/-- A CHECKPOINT of the map and the erase counts goes into a fresh block, and the blocks that hold only older records are
erased, each after its ERASE_OPEN (R616, R618). -/
def checkpoint (s : State) : State :=
  let all := (s.store.map ++ s.store.erases).flatMap (fun e => [e.1, e.2])
  let good := journalBlocks s
  let used := ceilDiv s.store.journal.length 256
  let old := (List.range used).map (fun k => good.getD ((s.store.jstart + k) % good.length) 0)
  let s := fire (addRecord { s with store.journal := [], store.jstart := (s.store.jstart + used) % good.length,
                                    store.work := s.store.work ++ old.map .erase } 1 all) 747
  match nextOp s with
  | some (.erase b) =>
    if s.store.eraseOpen.contains b then s else addRecord { s with store.eraseOpen := b :: s.store.eraseOpen } 3 [b, 0]
  | _ => s

/-- Journal a record before its effect (R614), and let the effect stand with the record (log 10). When fewer than 4 blocks
are free, a CHECKPOINT takes the place of every older record first (R616). -/
def journal (s : State) (type : Nat) (data : List Nat) : State :=
  addRecord (if s.store.journal.length < journalSectors s then s else checkpoint s) type data

/-- Before an erase starts, ERASE_OPEN is journaled (R618). -/
def startErase (s : State) : State :=
  match nextOp s with
  | some (.erase b) => if s.store.eraseOpen.contains b then s else journal { s with store.eraseOpen := b :: s.store.eraseOpen } 3 [b, 0]
  | _ => s

/-! ### Islands (R18, R543, R558) -/

/-- Is an island isolated, in reset, failed or unpowered (ISLAND_STATE)? -/
def islandOut (s : State) (i : Nat) : Bool := Tbl.get s.flt.state i ≠ 0

/-- TRN carries out no kill and takes nothing in: it is out, or wedged (R545, R559). -/
def trnOut (s : State) : Bool := islandOut s 6 || s.flt.wedged.contains 6

/-- An entry that a crossing discards (R18, R543). -/
def discard (s : State) (island : Nat) : State := addO s 0x1F02 (island + 1) 1 64

/-- Is paddock p gated (R558)? -/
def gated (s : State) (p : Nat) : Bool := bit s.flt.gate p

/-! ### Resources (*Assignable resources*) -/

/-- Does the paddock hold granule g? -/
def holdsGranule (s : State) (p g : Nat) : Bool := bit (pad s p).granules g

/-- Is this half part of a unit: PAIRED or DEGRADED? -/
def paired (s : State) : Bool := s.pair.st = 2 || s.pair.st = 3

/-- Is this half the secondary of a unit, or of one that was lost? Its resources then stand in 0x2001 (R575). -/
def secondHalf (s : State) : Bool := 2 ≤ s.pair.st && cfg s 0x2000 1 = 2

/-- Row p + 1 of SECONDARY_RESOURCES. -/
def secondary (s : State) (p : Nat) : Nat := cfg s 0x2001 (p + 1)

/-- The masks and counts of +0x10, in the places of a SECONDARY_RESOURCES row. -/
def primaryRow (s : State) (p : Nat) : Nat :=
  let f := cfgP s p 0x10
  pack [(64, f 1), (64, f 3), (64, f 2), (64, f 4), (64, f 8), (64, f 7), (64, f 6), (64, f 5), (16, f 9), (8, f 10), (8, f 11),
    (8, f 12), (16, f 13), (72, 0)]

/-- What the committed configuration gives paddock p in this half, and in the other half of a unit. -/
def ownRow (s : State) (p : Nat) : Nat := if secondHalf s then secondary s p else primaryRow s p
def otherRow (s : State) (p : Nat) : Nat :=
  if s.pair.st < 2 then 0 else if secondHalf s then primaryRow s p else secondary s p

/-- The fields of such a row. -/
def rowTussocks (r : Nat) : Nat := bits r 639 576
def rowGranules (r : Nat) : Nat := bits r 575 448
def rowLinks (r : Nat) : Nat := bits r 447 384
def rowBundles (r : Nat) : Nat := bits r 383 128
/-- QP units, context slots, queues, TLB units, accumulator slots. -/
def resCounts (r : Nat) : List Nat := [bits r 127 112, bits r 111 104, bits r 103 96, bits r 95 88, bits r 87 72]

/-- The committed masks and counts of paddock p in this half. -/
def wantTussocks (s : State) (p : Nat) : Nat := rowTussocks (ownRow s p)
def wantGranules (s : State) (p : Nat) : Nat := rowGranules (ownRow s p)
def wantLinks (s : State) (p : Nat) : Nat := rowLinks (ownRow s p)
def wantBundles (s : State) (p : Nat) : Nat := rowBundles (ownRow s p)
def wantCounts (s : State) (p : Nat) : List Nat := resCounts (ownRow s p)
/-- The committed LOTS table, whose lots lie in the primary (R575). -/
def wantLots (s : State) (p : Nat) : List Nat :=
  if secondHalf s then [] else (List.range (cfgP s p 0x11 0)).map (fun k => cfgP s p 0x11 (k + 1))

/-- Does paddock p hold resources in the other half only? -/
def elsewhere (s : State) (p : Nat) : Bool := ownRow s p = 0 && otherRow s p ≠ 0

/-- Counts held by paddock p, in the order of wantCounts. -/
def heldCounts (s : State) (p : Nat) : List Nat :=
  let d := pad s p
  [d.qp, d.slots, d.queuesHeld, d.tlb, d.sheaf]

/-- Units of each counted resource in the device (R29). -/
def totalCounts : List Nat := [256, 512, 1024, 64, 1280]

/-- Sum over the paddocks that hold anything. -/
def sumPads (s : State) (f : Paddock → Nat) : Nat := s.pads.foldl (fun a e => a + f e.2) 0
/-- Union over the paddocks of a mask. -/
def unionPads (s : State) (f : Paddock → Nat) : Nat := s.pads.foldl (fun a e => join a (f e.2)) 0

/-- Tussocks in the Commons: held by no paddock, not retired (R338), not under test. -/
def freeTussocks (s : State) : Nat :=
  let out := join (unionPads s (·.tussocks)) s.sward.tussockRetired
  less (2 ^ 64 - 1) (s.sward.selftest.foldl (fun a k => join a (2 ^ k)) out)
/-- Bundles in the Commons. -/
def freeBundles (s : State) : Nat := less (2 ^ 256 - 1) (unionPads s (·.bundles))
/-- Counted units in the Commons. -/
def freeCounts (s : State) : List Nat :=
  [256 - sumPads s (·.qp), 512 - sumPads s (·.slots), 1024 - sumPads s (·.queuesHeld), 64 - sumPads s (·.tlb),
   1280 - sumPads s (·.sheaf)]

/-! ### Lists -/

/-- Replace the listed pair of a key, or add it. -/
def setPair {α : Type} (l : List (Nat × α)) (k : Nat) (a : α) : List (Nat × α) :=
  if l.any (fun e => e.1 = k) then l.map (fun e => if e.1 = k then (k, a) else e) else l ++ [(k, a)]

/-- The value of a key in a list of pairs. -/
def getPair {α : Type} (l : List (Nat × α)) (k : Nat) : Option α := (l.find? (fun e => e.1 = k)).map (·.2)

/-! ### Target registers (R526, R535) -/

/-- Is a written target register refused (R526)? A write by TEN through the paddock's own block has further limits. -/
def targetBad (s : State) (src : Nat) (ten : Bool) (v : Nat) : Bool :=
  let kind := bits v 28 27
  let fn := bits v 26 21
  let vec := bits v 20 13
  bits v 12 8 ≠ 0 ||
  (kind = 2 && !(Tbl.get s.host.vfs fn).enabled) ||
  (kind = 2 && 64 ≤ vec) ||
  ((kind = 1 || kind = 2) && vec = 0) ||
  (bit v 30 && kind ≠ 3) ||
  (src < 512 && kind = 2 && fn ≠ src / 8) ||
  (ten && (kind ≠ 2 || fn ≠ src / 8 || bit v 30))

/-- Mbomon writes the target registers and HOLDOFF rows of device sources, 512 to 1,023: the manual gives no values, so they are
free among those that R526 allows (R535, R641, log 33). -/
def deviceTargets (s : State) : State :=
  let v := fun k => Config.freeChoice (64 * s.fresh + k)
  let s := (List.range 512).foldl (fun s k =>
    let t := v k % 2 ^ 32
    { s with ev.targets := Tbl.set s.ev.targets (512 + k) (if targetBad s (512 + k) false t then 0 else t) }) s
  let s := (List.range 32).foldl (fun s k => setO s 0x1E03 (33 + k) (v (512 + k) % 65536)) s
  { s with fresh := s.fresh + 9 }

end Sys2Proof.Machine
end

