-- ==== Sys2Proof/Machine/RickMem.lean ====
section
/-! DEFINITION. The stored contents of the rick: plaintext bytes in one canonical form, the key that wrote each line,
the zero-line code and poison (R417 to R425, R666). -/

namespace Sys2Proof.Machine
open Sys2Proof

/-- The byte at an address: 0 where nothing is listed, for a line not listed carries the zero-line code (R666). -/
def Mem.get : List Host.Cell → Nat → Byte
  | [], _ => 0
  | (k, v) :: t, a => if k = a then v else Mem.get t a

/-- Store a byte, keeping addresses rising and listing no zero. -/
def Mem.put : List Host.Cell → Nat → Byte → List Host.Cell
  | [], a, b => if b = 0 then [] else [(a, b)]
  | (k, v) :: t, a, b =>
    if a < k then (if b = 0 then (k, v) :: t else (a, b) :: (k, v) :: t)
    else if a = k then (if b = 0 then t else (a, b) :: t)
    else (k, v) :: Mem.put t a b

/-- Store a run of bytes. -/
def Mem.puts : List Host.Cell → Nat → Bytes → List Host.Cell
  | m, _, [] => m
  | m, a, b :: t => Mem.puts (Mem.put m a b) (a + 1) t

/-- Forget a range: it reads as zero. -/
def Mem.zero (m : List Host.Cell) (a n : Nat) : List Host.Cell := m.filter (fun e => !(a ≤ e.1 && e.1 < a + n))

/-- Canonical form: addresses strictly rising from a lower bound, and no entry equal to what an unlisted address reads. -/
def Mem.wfFrom : Nat → List Host.Cell → Bool
  | _, [] => true
  | lo, (k, v) :: t => lo ≤ k && v != 0 && Mem.wfFrom (k + 1) t

/-- The canonical form of a memory. -/
def Memory.wf (m : List Host.Cell) : Bool := Mem.wfFrom 0 m

/-- Bytes of rick (35-bit addresses). -/
def rickSize : Nat := 2 ^ 35
/-- The granule of a rick address. -/
def granuleOf (a : Nat) : Nat := a / 2 ^ 28

/-- A key by name: a random draw's name is even, an installed key's is odd (log 11). -/
def drawnKey (n : Nat) : Nat := 2 * n
def namedKey (v : Nat) : Nat := 2 * v + 1
/-- The device memory key of granules 124 to 127. -/
def deviceKey : Nat := namedKey (2 ^ 512)

/-- The key a selector of paddock p names for an address (R419); none for an empty slot. LOAD and SEALED are checked by
the caller. -/
def keyOf (s : State) (p sel a : Nat) : Option Nat :=
  if 124 ≤ granuleOf a then some deviceKey
  else if sel = 0 then some (Tbl.get s.rick.granuleKeys (granuleOf a))
  else
    let e := Tbl.get (pad s p).sels sel
    if e.st = 0 then none else some e.key

/-- The marker of a line stored by a LOAD write: its bytes are ciphertext (R506). -/
def rawLine : Nat := namedKey (2 ^ 513)

/-- The plaintext of a byte of line a / 64 under a reading key (R421, R666). -/
def seen (s : State) (key a : Nat) : Byte :=
  match Tbl.find s.rick.lineKey (a / 64) with
  | none => 0
  | some k =>
    let b := Mem.get s.rick.cells a
    if k = key then b else if k = rawLine then Config.xtsPlain key a b else Config.xtsOther k key a b

/-- The lines that [a, a + n) touches. -/
def linesOf (a n : Nat) : List Nat := if n = 0 then [] else (List.range ((a + n - 1) / 64 - a / 64 + 1)).map (· + a / 64)

/-- Does [a, a + n) touch a poisoned line? -/
def poisonIn (s : State) (a n : Nat) : Bool := s.rick.poisoned.any (fun l => overlap (64 * l) 64 a n)

/-- Does [a, a + n) touch a poisoned line that it does not cover whole (R425)? -/
def poisonPart (s : State) (a n : Nat) : Bool :=
  s.rick.poisoned.any (fun l => overlap (64 * l) 64 a n && !(a ≤ 64 * l && 64 * l + 64 ≤ a + n))

/-- Read n bytes under a key. -/
def rickRead (s : State) (key a n : Nat) : Bytes := (List.range n).map (fun i => seen s key (a + i))

/-- Re-encrypt what a line holds under a key, before part of it is written (R421, R666). -/
def rekeyLine (s : State) (key l : Nat) : State :=
  match Tbl.find s.rick.lineKey l with
  | none => { s with rick.lineKey := Tbl.set s.rick.lineKey l key }
  | some k =>
    if k = key then s
    else
      let bs := rickRead s key (64 * l) 64
      { s with rick.cells := Mem.puts s.rick.cells (64 * l) bs, rick.lineKey := Tbl.set s.rick.lineKey l key }

/-- Count bytes on the channels and the RICK ledger class (R417, R452). -/
def chargeRick (s : State) (a n : Nat) : State :=
  addO s 0x2303 (16 * (granuleOf a % 4) + bits a 11 8 + 1) n 64

/-- Write bytes under a key: a whole line clears poison (R424), a part merges with what the line reads (R666). -/
def rickWrite (s : State) (key a : Nat) (bs : Bytes) : State :=
  if bs.isEmpty then s else
  let ls := linesOf a bs.length
  let s := ls.foldl (fun s l => rekeyLine s key l) s
  let s := { s with rick.cells := Mem.puts s.rick.cells a bs,
                    rick.poisoned := s.rick.poisoned.filter (fun l => !(a ≤ 64 * l && 64 * l + 64 ≤ a + bs.length)) }
  chargeRick s a bs.length

/-- Write zero ciphertext with the zero-line code through a range of whole lines (R45, R420, R666). -/
def rickZero (s : State) (a n : Nat) : State :=
  { s with rick.cells := Mem.zero s.rick.cells a n,
           rick.lineKey := s.rick.lineKey.filter (fun e => !(a ≤ 64 * e.1 && 64 * e.1 < a + n)),
           rick.poisoned := s.rick.poisoned.filter (fun l => !(a ≤ 64 * l && 64 * l < a + n)) }

/-- A read of device memory as one number, most significant byte first. -/
def rickNat (s : State) (key a n : Nat) : Nat := beNat (rickRead s key a n)

/-- How many lines are poisoned now (0x1B00.05). -/
def linesPoisoned (s : State) : Nat := s.rick.poisoned.length

end Sys2Proof.Machine
end

