-- ==== Sys2Proof/Machine/Xlt.lean ====
section
/-! DEFINITION. The Translation Unit: page-table entries, the five-level walk, the permission and key checks of an
access, cached translations and range invalidation (R433 to R450, R668). -/

namespace Sys2Proof.Machine
open Sys2Proof

/-- The end of the 57-bit device virtual address space. -/
def vaEnd : Nat := 2 ^ 57

/-- How a walk ends: at a leaf (the entry, its level), or with a code at a level and the last entry read. -/
inductive Walk where
  | leaf (pte level : Nat)
  | fault (code level pte : Nat)
  deriving DecidableEq, Repr

/-- Bytes that one entry of a level covers. -/
def levelRange (level : Nat) : Nat := 2 ^ (12 + 9 * level)

/-- Bytes that a leaf maps: a level-0 leaf with SIZE64K is part of a 64 KiB page. -/
def leafSize (pte level : Nat) : Nat := if level = 0 && bit pte 10 then 65536 else levelRange level

/-- Is [a, a + n) within granules that the paddock holds? -/
def heldRange (s : State) (p a n : Nat) : Bool :=
  a + n ≤ rickSize && (List.range (granuleOf (a + n - 1) - granuleOf a + 1)).all (fun k => holdsGranule s p (granuleOf a + k))

/-- Does an address lie in the paddock's allocator window in force? -/
def inWindow (s : State) (p va : Nat) : Bool :=
  let w := (pad s p).window
  w.1 ≤ va && va < w.1 + w.2

/-- The lot of a manifest entry and its memory size. -/
def lotEntry (s : State) (lot : Nat) : Option Nat :=
  s.tp.manifests.findSome? (fun e => e.2.entries.find? (fun x => bits x 255 224 = lot))
def lotMem (s : State) (lot : Nat) : Nat := ((lotEntry s lot).map (fun e => bits e 95 32)).getD 0
/-- Row k + 1 of the paddock's LOTS table. -/
def lotAt (s : State) (p k : Nat) : Nat := (wantLots s p).getD k 0

/-- Does an entry break its format (*Page-table entry, 64 bits*)? -/
def pteBadFormat (pte level : Nat) : Bool :=
  let leaf := bit pte 62
  let tgt := bits pte 61 60
  bits pte 3 0 ≠ 0 || (leaf && (level = 3 || level = 4)) || (!leaf && level = 0) ||
  (!leaf && (tgt ≠ 0 || bits pte 59 54 ≠ 0 || bits pte 53 52 ≠ 0 || bits pte 11 4 ≠ 0)) ||
  (leaf && (tgt = 1 || tgt = 2) && bits pte 59 54 ≠ 0) || (bit pte 11 && !(leaf && tgt = 1)) ||
  (bit pte 10 && !(leaf && level = 0)) || (bits pte 9 4 ≠ 0 && !(leaf && tgt = 2))

/-- Does an entry break the frame rule of R433? A non-leaf frame in granule 124 stands only in the allocator window. -/
def pteBadFrame (s : State) (p va pte level : Nat) : Bool :=
  let a := bits pte 51 12 * 4096
  if !bit pte 62 then
    !(heldRange s p a 4096 || (granuleOf a = 124 && inWindow s p va && level ≤ 2 && (pad s p).winPages.any (fun e => e.1 = a)))
  else match bits pte 61 60 with
    | 0 => a % leafSize pte level ≠ 0 || !heldRange s p a (leafSize pte level)
    | 2 => let lot := lotAt s p (bits pte 9 4)
           (pad s p).lots.contains lot && lotMem s lot < a + leafSize pte level
    | 3 => a % leafSize pte level ≠ 0 || rickSize < a + leafSize pte level
    | _ => false

/-- The key under which walkers read table pages of a paddock: its granule keys, the device key in granule 124. -/
def tableNat (s : State) (a n : Nat) : Nat := rickNat s (if 124 ≤ granuleOf a then deviceKey else Tbl.get s.rick.granuleKeys (granuleOf a)) a n

/-- Does a 64 KiB group break R434? -/
def group64Bad (s : State) (slot pte : Nat) : Bool :=
  let base := slot / 128 * 128
  !((List.range 16).all (fun k => tableNat s (base + 8 * k) 8 = pte))

/-- Walk from a table page at a level, with the last entry read (R668). A poisoned root or window table is a structure
of the paddock (*Outcome of an uncorrectable error*). -/
def walkFrom (s : State) (p va : Nat) : Nat → Nat → Nat → Walk
  | level, page, last =>
    let slot := page + 8 * (va / levelRange level % 512)
    if poisonIn s slot 8 then .fault (if level = 4 || granuleOf slot = 124 then 0x0A05 else 0x0A04) level last
    else
      let pte := tableNat s slot 8
      if !bit pte 63 then .fault 0x0A01 level pte
      else if pteBadFormat pte level || pteBadFrame s p va pte level then .fault 0x0A06 level pte
      else if bit pte 62 then
        (if bit pte 10 && group64Bad s slot pte then .fault 0x0A06 level pte else .leaf pte level)
      else match level with
        | 0 => .fault 0x0A06 level pte
        | l + 1 => walkFrom s p va l (bits pte 51 12 * 4096) pte

/-- A fresh walk of an address (R435). -/
def walk (s : State) (p va : Nat) : Walk :=
  let root := cfgP s p 0x40 1
  if root = 0 then .fault 0x0A01 4 0 else walkFrom s p va 4 root 0

/-- What an access comes to: a place, or a fault code with the level at which it arose, or a missing ATS translation. -/
inductive Access where
  | at_ (pl : Place)
  | fault (code level : Nat)
  | needAts (base : Nat)
  deriving DecidableEq, Repr

/-- The cached ATS translation that covers an untranslated host address (R185). -/
def atsFor (s : State) (p a : Nat) : Option Ats :=
  (s.host.ats.find? (fun e => e.2.p = p && e.2.done && e.2.base ≤ a && a < e.2.base + e.2.size)).map (·.2)

/-- Check a selector for an access (R497, R506): its fault code, if any. The length says whether lines are whole. -/
def selFault (s : State) (p sel a n : Nat) (w : Bool) : Nat :=
  if sel = 0 then 0 else
  let e := Tbl.get (pad s p).sels sel
  let inMask := match getPair (s.sec.grants.map (fun g => (g.1, g.2.1))) e.set with
    | some h => bit (bits h 511 384) (granuleOf a)
    | none => false
  match e.st with
  | 0 => 0x0A07
  | 1 => 0
  | 2 => if w && !e.locking && inMask && a % 64 = 0 && n % 64 = 0 then 0 else 0x0B0A
  | _ => if !w && inMask then 0 else 0x0B0A

/-- Translate one access of n bytes that stays within one page (R223, R419, R433, R668). -/
def access (s : State) (p va n : Nat) (w : Bool) : Access :=
  if vaEnd ≤ va then .fault 0x0A01 4
  else match walk s p va with
  | .fault c l _ => .fault c l
  | .leaf pte level =>
    if !(if w then bit pte 52 else bit pte 53) then .fault 0x0A02 level
    else
      let frame := bits pte 51 12 * 4096
      let a := frame / leafSize pte level * leafSize pte level + va % leafSize pte level
      match bits pte 61 60 with
      | 0 =>
        let sel := bits pte 59 54
        let f := selFault s p sel a n w
        if f ≠ 0 then .fault f level
        else if (if w then poisonPart s a n else poisonIn s a n) then .fault 0x0A03 level
        else .at_ (.rick a sel)
      | 1 =>
        let h := frame + va % leafSize pte level
        if bit pte 11 then
          match atsFor s p h with
          | none => .needAts (h / 4096 * 4096)
          | some t => if (if w then t.w else t.r) then .at_ (.host (t.host + (h - t.base))) else .fault 0x0405 level
        else .at_ (.host h)
      | 2 =>
        let lot := lotAt s p (bits pte 9 4)
        if (pad s p).lots.contains lot then .at_ (.lot lot (frame + va % leafSize pte level)) else .fault 0x0A08 level
      | _ =>
        if paired s then .at_ (.far a (bits pte 59 54)) else .fault 0x0A08 level

/-- Bytes left in the page that maps an address; 4,096 where nothing maps it. -/
def pageLeft (s : State) (p va : Nat) : Nat :=
  match walk s p va with
  | .leaf pte level => leafSize pte level - va % leafSize pte level
  | .fault .. => 4096 - va % 4096

/-- Cut a range at page boundaries: pieces (va, n), with fuel. -/
def pieces (s : State) (p : Nat) : Nat → Nat → Nat → List (Nat × Nat)
  | 0, _, _ => []
  | fuel + 1, va, n =>
    if n = 0 then []
    else
      let k := min n (pageLeft s p va)
      (va, k) :: pieces s p fuel (va + k) (n - k)

/-- Cut a range into pieces; every page holds at least one byte, so the length is fuel enough. -/
def cut (s : State) (p va n : Nat) : List (Nat × Nat) := pieces s p (n / 4096 + 2) va n

/-- Translate every piece of a range: the places, or the first fault. -/
def accessAll (s : State) (p va n : Nat) (w : Bool) : Except Access (List (Place × Nat)) :=
  (cut s p va n).foldl (fun acc e =>
    match acc with
    | .error x => .error x
    | .ok l => match access s p e.1 e.2 w with
      | .at_ pl => .ok (l ++ [(pl, e.2)])
      | x => .error x) (.ok [])

/-- Bytes at a rick place. -/
def readPlace (s : State) (p : Nat) : Place → Nat → Bytes
  | .rick a sel, n => rickRead s ((keyOf s p sel a).getD 0) a n
  | _, _ => []

/-- Store bytes at a rick place; LOAD writes store ciphertext unchanged (R506). -/
def writePlace (s : State) (p : Nat) : Place → Bytes → State
  | .rick a sel, bs =>
    if sel ≠ 0 && (Tbl.get (pad s p).sels sel).st = 2 then rickWrite s rawLine a bs
    else rickWrite s ((keyOf s p sel a).getD 0) a bs
  | .far a sel, bs => emit s (.farWrite a sel bs)
  | _, _ => s

/-! ### Structures Dunaz reads and writes in a paddock's memory -/

/-- Does the range map to rick that the paddock holds, for reading? -/
def mapsToGranule (s : State) (p va n : Nat) : Bool :=
  match accessAll s p va n false with
  | .ok l => l.all (fun e => match e.1 with | .rick .. => true | _ => false)
  | .error _ => false

/-- Read a structure of a paddock that lies in its rick. -/
def readVa (s : State) (p va n : Nat) : Except Access Bytes :=
  match accessAll s p va n false with
  | .error x => .error x
  | .ok l => .ok (l.foldl (fun acc e => acc ++ readPlace s p e.1 e.2) [])

/-! ### Cached translations (R439 to R450) -/

/-- Second-level entries that a paddock's units hold. -/
def tlbRoom (s : State) (p : Nat) : Nat := 256 * (pad s p).tlb

/-- Load a page into the paddock's units, evicting the least recently used entry that is not pinned (R439, R450). -/
def tlbFill (s : State) (p page size : Nat) : State :=
  let mine := s.rick.tlb.filter (fun e => e.1 = p)
  let s := { s with net.useClock := s.net.useClock + 1 }
  if s.rick.streams.any (fun r => r.1 = p && overlap r.2.1 r.2.2 page size) then s
  else if mine.any (fun e => e.2.1 = page) then
    { s with rick.tlb := s.rick.tlb.map (fun e => if e.1 = p && e.2.1 = page then (e.1, e.2.1, e.2.2.1, e.2.2.2.1, s.net.useClock) else e) }
  else
    let loose := mine.filter (fun e => !e.2.2.2.1)
    let oldest := loose.foldl (fun a e => match a with
      | none => some e
      | some b => if e.2.2.2.2 < b.2.2.2.2 then some e else some b) none
    let tlb := if mine.length < tlbRoom s p then s.rick.tlb
      else match oldest with
        | some e => s.rick.tlb.filter (fun x => x != e)
        | none => s.rick.tlb
    { s with rick.tlb := tlb ++ [(p, page, size, false, s.net.useClock)] }

/-- Start a range invalidation (R446): entries go, walks in flight become stale. It ends at RANGE_INVALIDATION_DONE. -/
def invalidate (s : State) (p va n cmd : Nat) : State :=
  let s := { s with
    rick.tlb := s.rick.tlb.filter (fun e => !(e.1 = p && overlap e.2.1 e.2.2.1 va n)),
    rick.walks := s.rick.walks.map (fun w => if w.p = p then { w with stale := true } else w),
    rick.invals := s.rick.invals ++ [(s.rick.nextInval, p, n, cmd)],
    rick.nextInval := s.rick.nextInval + 1 }
  bump s p 0x41 7 1

end Sys2Proof.Machine
end

