-- ==== Sys2Proof/Machine/Alloc.lean ====
section
/-! DEFINITION. The allocator window: its table pages in granule 124, the choice of addresses and pages, and the mapping
and unmapping of an allocation (R139 to R143, R438, R667, R669, R670). -/

namespace Sys2Proof.Machine
open Sys2Proof

/-- The key of a table page (R419, R420). -/
def tableKey (s : State) (a : Nat) : Nat :=
  if 124 ≤ granuleOf a then deviceKey else Tbl.get s.rick.granuleKeys (granuleOf a)

/-- Write one entry of a table page. -/
def putPte (s : State) (slot pte : Nat) : State := rickWrite s (tableKey s slot) slot (beBytes 8 pte)

/-- The slot of an address's entry at a level, going down from a table page; 0x0A09 where the path is not valid, 0x0A04
where it meets a poisoned line (R436). -/
def slotFrom (s : State) (p va target : Nat) : Nat → Nat → Except Nat Nat
  | level, page =>
    let slot := page + 8 * (va / levelRange level % 512)
    if level ≤ target then .ok slot
    else if poisonIn s slot 8 then .error 0x0A04
    else
      let pte := tableNat s slot 8
      if !bit pte 63 || bit pte 62 || pteBadFormat pte level || pteBadFrame s p va pte level then .error 0x0A09
      else match level with
        | 0 => .error 0x0A09
        | l + 1 => slotFrom s p va target l (bits pte 51 12 * 4096)

/-- The slot of an address at a level, from PT_ROOT. -/
def slotOf (s : State) (p va target : Nat) : Except Nat Nat :=
  let root := cfgP s p 0x40 1
  if root = 0 then .error 0x0A09 else slotFrom s p va target 4 root

/-- Names of window table pages in winPages: the level-1 page of a 1 GiB range, the level-0 page of a 2 MiB range. -/
def winKey1 (va : Nat) : Nat := 2 * (va / 2 ^ 30)
def winKey0 (va : Nat) : Nat := 2 * (va / 2 ^ 21) + 1

/-- The window table page of a name. -/
def winPage (s : State) (p key : Nat) : Option Nat := ((pad s p).winPages.find? (fun e => e.2 = key)).map (·.1)

/-- Table pages of granule 124 lie above its first MiB, which holds the global error queue (DESIGN CHOICE, log 12). -/
def winBase : Nat := 124 * 2 ^ 28 + 2 ^ 20
def winCount : Nat := 65280

/-- Table pages in use. -/
def winUsed (s : State) : List Nat := (s.pads.map (fun e => e.2.winPages.map (·.1))).flatten

/-- Take a free table page of granule 124 for a name; which one is the firmware's choice (R667). -/
def takeWinPage (s : State) (p key : Nat) : State :=
  let used := winUsed s
  let k := Config.freeChoice s.fresh
  match ((List.range (used.length + 1)).map (fun i => winBase + (k + i) % winCount * 4096)).find? (fun a => !used.contains a) with
  | none => s
  | some a => updPad (rickZero (fresh1 s) a 4096) p (fun d => { d with winPages := d.winPages ++ [(a, key)] })

/-- A non-leaf entry. -/
def ptePointer (page : Nat) : Nat := 2 ^ 63 + page
/-- A rick leaf under selector 0, readable and writable. -/
def pteLeaf (page : Nat) (size64 : Bool) : Nat := 2 ^ 63 + 2 ^ 62 + 2 ^ 53 + 2 ^ 52 + page + (if size64 then 2 ^ 10 else 0)

/-- Page size of ARG1[1:0] of ALLOC. -/
def allocPage (code : Nat) : Nat := [4096, 65536, 2 ^ 21, 2 ^ 30].getD code 4096

/-- Ensure the level-0 page of a range and its level-1 entry. -/
def needL0 (s : State) (p va : Nat) : State :=
  if (winPage s p (winKey0 va)).isSome then s
  else
    let s := takeWinPage s p (winKey0 va)
    match winPage s p (winKey0 va), winPage s p (winKey1 va) with
    | some l0, some l1 => putPte s (l1 + 8 * (va / 2 ^ 21 % 512)) (ptePointer l0)
    | _, _ => s

/-- The slots that hold one page of an allocation, and what each holds when it is mapped. -/
def pageSlots (s : State) (p va size page : Nat) : List (Nat × Nat) :=
  if size = 2 ^ 30 then
    match slotOf s p va 2 with | .ok a => [(a, pteLeaf page false)] | .error _ => []
  else if size = 2 ^ 21 then
    match winPage s p (winKey1 va) with | some l1 => [(l1 + 8 * (va / 2 ^ 21 % 512), pteLeaf page false)] | none => []
  else match winPage s p (winKey0 va) with
    | none => []
    | some l0 =>
      (List.range (size / 4096)).map (fun i => (l0 + 8 * (va / 4096 % 512 + i), pteLeaf page (size = 65536)))

/-- Map one page. -/
def mapPage (p size : Nat) (s : State) (e : Nat × Nat) : State :=
  let s := if size < 2 ^ 21 then needL0 s p e.1 else s
  (pageSlots s p e.1 size e.2).foldl (fun s x => putPte s x.1 x.2) s

/-- Unmap one page; a 1 GiB page's level-2 entry names the range's level-1 page again. -/
def unmapPage (p size : Nat) (s : State) (e : Nat × Nat) : State :=
  let old := if size = 2 ^ 30 then (match winPage s p (winKey1 e.1) with | some l1 => ptePointer l1 | none => 0) else 0
  (pageSlots s p e.1 size e.2).foldl (fun s x => putPte s x.1 old) s

/-- Addresses and frames of an allocation's pages. -/
def allocPages (a : Allocation) : List (Nat × Nat) := a.pages.zipIdx.map (fun e => (a.va + a.psize * e.2, e.1))

/-- Set the mapped flag of an allocation. -/
def setMapped (s : State) (p va : Nat) (v : Bool) : State :=
  updPad s p (fun d => { d with allocs := d.allocs.map (fun a => if a.va = va then { a with mapped := v } else a) })

/-- Map an allocation. -/
def mapAlloc (s : State) (p : Nat) (a : Allocation) : State :=
  setMapped ((allocPages a).foldl (mapPage p a.psize) s) p a.va true

/-- Remove an allocation's mapping; its record stays (R142). -/
def unmapAlloc (s : State) (p : Nat) (a : Allocation) : State :=
  setMapped ((allocPages a).foldl (unmapPage p a.psize) s) p a.va false

/-- Return the level-0 pages that no allocation uses (R667). -/
def trimL0 (s : State) (p : Nat) : State :=
  let d := pad s p
  let keep := fun key => key % 2 = 0 || d.allocs.any (fun a => a.psize < 2 ^ 21 && overlap a.va a.size (key / 2 * 2 ^ 21) (2 ^ 21))
  let drop := d.winPages.filter (fun e => !keep e.2)
  let s := drop.foldl (fun s e => match winPage s p (winKey1 (e.2 / 2 * 2 ^ 21)) with
    | some l1 => putPte s (l1 + 8 * (e.2 / 2 % 512)) 0
    | none => s) s
  updPad s p (fun d => { d with winPages := d.winPages.filter (fun e => keep e.2) })

/-- Drop an allocation's record; its pages may be taken again. -/
def dropAlloc (s : State) (p va : Nat) : State :=
  trimL0 (updPad s p (fun d => { d with allocs := d.allocs.filter (fun a => a.va ≠ va) })) p

/-- May ALLOC take this page (R670)? -/
def pageFree (s : State) (p a size : Nat) : Bool :=
  let d := pad s p
  heldRange s p a size &&
  !d.allocs.any (fun x => x.pages.any (fun b => overlap b x.psize a size)) &&
  !d.mapped.any (fun m => overlap m.1 m.2 a size) &&
  !(cfgP s p 0x40 1 ≠ 0 && overlap (cfgP s p 0x40 1) 4096 a size)

/-- Pages for an allocation, in an order left to the firmware (R670). -/
def pickPages (s : State) (p n size : Nat) : Option (List Nat) :=
  let cnt := rickSize / size
  let k := Config.freeChoice s.fresh
  let l := (((List.range cnt).map (fun i => (k + i) % cnt * size)).filter (fun a => pageFree s p a size)).take (n / size)
  if l.length = n / size then some l else none

/-- Is a range of the window unallocated? -/
def vaFree (s : State) (p va n : Nat) : Bool := !(pad s p).allocs.any (fun a => overlap a.va a.size va n)

/-- An address for an allocation: the requested one, or one of the firmware's choice. -/
def pickVa (s : State) (p want n size : Nat) : Option Nat :=
  let w := (pad s p).window
  if want ≠ 0 then (if vaFree s p want n then some want else none)
  else
    let cnt := w.2 / size
    let k := Config.freeChoice (s.fresh + 1)
    ((List.range cnt).map (fun i => w.1 + (k + i) % cnt * size)).find? (fun va => va + n ≤ w.1 + w.2 && vaFree s p va n)

/-- Level-0 pages that mapping [va, va + n) would take. -/
def l0Needed (s : State) (p va n size : Nat) : Nat :=
  if 2 ^ 21 ≤ size then 0
  else ((List.range ((va + n - 1) / 2 ^ 21 - va / 2 ^ 21 + 1)).filter
    (fun i => (winPage s p (winKey0 (va + i * 2 ^ 21))).isNone)).length

end Sys2Proof.Machine
end

