-- ==== Sys2Proof/Machine/Operands.lean ====
section
/-! DEFINITION. The fields of command descriptors, completion records, request headers and Beluth headers, and the
encodings of every record the block writes (R63: byte 0 holds the highest-numbered bits). -/

namespace Sys2Proof.Machine
open Sys2Proof

/-! ### Command descriptor, 64 bytes -/
def dOpcode (d : Nat) : Nat := bits d 511 504
def dExcl (d : Nat) : Bool := bit d 503
def dNopre (d : Nat) : Bool := bit d 502
def dCoi (d : Nat) : Bool := bit d 501
def dFence (d : Nat) : Bool := bit d 500
def dIrq (d : Nat) : Bool := bit d 499
def dContext (d : Nat) : Nat := bits d 495 484
def dLayer (d : Nat) : Nat := bits d 471 456
def dOper (d : Nat) : Nat := bits d 455 440
def dId (d : Nat) : Nat := bits d 439 408
/-- ARG0 to ARG5. -/
def dArg (d k : Nat) : Nat := bits d (383 - 64 * k) (320 - 64 * k)
/-- A non-zero reserved field (R123). -/
def dReserved (d : Nat) : Bool := bits d 498 496 ≠ 0 || bits d 475 472 ≠ 0 || bits d 407 384 ≠ 0
/-- Stamp the epoch at fetch (R108). -/
def dStamp (d epoch : Nat) : Nat := d - bits d 483 476 * 2 ^ 476 + epoch % 256 * 2 ^ 476

/-- The defined opcodes (*Opcode space*). -/
def opcodes : List Nat :=
  [0x00, 0x01, 0x20, 0x21, 0x24, 0x2C, 0x2D, 0x50, 0x51, 0x52, 0x58, 0x59, 0x60, 0x80, 0x81, 0x82, 0x83, 0x84, 0x85,
   0x90, 0x91, 0xA0, 0xA1, 0xA2, 0xA3, 0xA4, 0xB0, 0xB1]

/-- A completion record, 32 bytes. -/
def completionRecord (id status op ctx epoch q kind : Nat) (phase : Bool) (reruns head time result : Nat) : Bytes :=
  beBytes 32 (pack [(32, id), (16, status), (8, op), (12, ctx), (8, epoch), (6, q), (2, kind), (1, b2n phase), (11, 0),
    (8, sat 255 reruns), (8, 0), (16, head), (64, time), (64, result)])

/-- The 64 bytes of a global error queue entry. -/
def geqBytes (e : Entry) : Bytes :=
  let (cv, c, ep, q) := match e.ctx with | some (c, ep, q) => (1, c, ep, q) | none => (0, 0, 0, 0)
  beBytes 64 (pack [(16, e.code), (2, e.sev), (1, b2n e.dev), (6, e.p), (1, cv), (12, c), (8, ep), (6, q), (12, 0),
    (32, e.seq), (32, e.cmdId), (64, e.time), (16, e.layer), (16, e.oper), (8, e.op), (24, 0),
    (256, (Config.detail e.code e.facts).toNat)])

/-- The 64 bytes of a Cairn entry. -/
def cairnBytes (e : Entry) : Bytes :=
  let (cv, c) := match e.ctx with | some (c, _, _) => (1, c) | none => (0, 0)
  beBytes 64 (pack [(16, e.code), (2, e.sev), (1, b2n e.dev), (6, e.p), (1, cv), (12, c), (26, 0), (32, e.seq),
    (32, e.boot), (64, e.time), (64, e.uptime), (256, (Config.detail e.code e.facts).toNat)])

/-! ### Request and response headers (R73) -/
def hProto (h : Nat) : Nat := bits h 127 124
def hOp (h : Nat) : Nat := bits h 123 120
def hDraftView (h : Nat) : Bool := bit h 112
def hTag (h : Nat) : Nat := bits h 111 96
def hIndex (h : Nat) : Nat := bits h 95 80
def hSub (h : Nat) : Nat := bits h 79 72
def hType (h : Nat) : Nat := bits h 71 64
def hOffset (h : Nat) : Nat := bits h 31 16
def hLength (h : Nat) : Nat := bits h 15 0

/-- A response header. -/
def responseHeader (op tag idx sub ty cvn status len : Nat) : BitVec 128 :=
  BitVec.ofNat 128 (pack [(4, 1), (4, op), (8, 0), (16, tag), (16, idx), (8, sub), (8, ty), (32, cvn), (16, status), (16, len)])

/-- A path identifier (R82). -/
def pathId : Path → Nat
  | .pf => 1 * 2 ^ 28
  | .stile n => 2 * 2 ^ 28 + n.val
  | .mctp false w => 3 * 2 ^ 28 + w.toNat
  | .mctp true w => 4 * 2 ^ 28 + w.toNat
  | .udp x => 5 * 2 ^ 28 + x.toNat
  | .internal => 0

/-! ### Beluth header, 32 bytes -/
def bType (h : Nat) : Nat := bits h 251 248
def bOrder (h : Nat) : Bool := bit h 247
def bCommit (h : Nat) : Bool := bit h 246
def bDst (h : Nat) : Nat := bits h 243 231
def bSrc (h : Nat) : Nat := bits h 230 218
def bTag (h : Nat) : Nat := bits h 217 202
def bDstQp (h : Nat) : Nat := bits h 201 178
def bSrcQp (h : Nat) : Nat := bits h 177 154
def bPath (h : Nat) : Nat := bits h 153 150
def bEpoch (h : Nat) : Nat := bits h 149 142
def bMsg (h : Nat) : Nat := bits h 141 130
def bPsn (h : Nat) : Nat := bits h 129 98
def bAddr (h : Nat) : Nat := bits h 97 41
def bLen (h : Nat) : Nat := bits h 40 28
def bTime (h : Nat) : Nat := bits h 27 4

/-- A Beluth header. -/
def beluth (type : Nat) (order commit retx : Bool) (dst src tag dqp sqp path epoch msg psn addr len time : Nat) : Nat :=
  pack [(4, 1), (4, type), (1, b2n order), (1, b2n commit), (1, b2n retx), (1, 0), (13, dst), (13, src), (16, tag),
    (24, dqp), (24, sqp), (4, path), (8, epoch), (12, msg), (32, psn), (57, addr), (13, len), (24, time), (4, 0)]

/-- The virtual channel of a packet type (*Packet types*). -/
def vcOf : Nat → Nat
  | 0 => 0 | 4 => 0 | 6 => 0
  | 2 => 1 | 3 => 1 | 5 => 1 | 7 => 1 | 12 => 1
  | _ => 2

/-- Set RETX and TX_TIME of a header that is sent again. -/
def retxHeader (h time : Nat) : Nat := putBit h 245 true - bits h 27 4 * 16 + time % 2 ^ 24 * 16

/-! ### Tenancy Port transaction header, 32 bytes -/
def tpHeader (kind p tag epoch ctx flits len lot addr status aux : Nat) : BitVec 256 :=
  BitVec.ofNat 256 (pack [(4, kind), (6, p), (6, 0), (16, tag), (8, epoch), (12, ctx), (4, 0), (8, flits), (16, len),
    (32, lot), (64, addr), (16, status), (64, aux)])

/-- A sideband message header. -/
def sbHeader (type p action gen die words arg : Nat) : BitVec 128 :=
  BitVec.ofNat 128 (pack [(8, type), (6, p), (2, action), (16, gen), (4, die), (4, 0), (8, words), (80, arg)])

/-- A fault record, 32 bytes, from its fields in order (R443). -/
def faultRecord (va level w parked src code ctx node count time id layer oper : Nat) : Bytes :=
  beBytes 32 (pack [(57, va), (3, level), (1, w), (1, parked), (3, src), (16, code), (12, ctx), (13, node), (6, 0),
    (16, count), (64, time), (32, id), (16, layer), (16, oper)])

end Sys2Proof.Machine
end

