-- ==== Sys2Proof/Machine/Send.lean ====
section
/-! DEFINITION. What leaves the block: the share ledger and its limits, link frames with their credits, Beluth packets,
Tenancy Port transactions and sideband messages, host requests. -/

namespace Sys2Proof.Machine
open Sys2Proof

/-! ### The share ledger (R452 to R460) -/

/-- Charge u units of class c (0 LINK to 4 RICK) to paddock p (R453). -/
def charge (s : State) (p c u : Nat) : State :=
  let w := cfgP s p 0x20 1
  updPad s p (fun d => { d with v := d.v.set c (d.v.getD c 0 + u * 256 / (if w = 0 then 1 else w)) })

/-- Tokens of class c that paddock p has now (R458). -/
def tokens (s : State) (p c : Nat) : Nat :=
  let burst := getO s 0x1C01 (c + 1)
  match (pad s p).buckets[c]? with
  | none => burst
  | some (t, at_) => min burst (t + cfgP s p 0x21 (c + 1) * (ns s - at_) / 1000)

/-- May paddock p inject u units of class c now (R458)? -/
def withinLimit (s : State) (p c u : Nat) : Bool := cfgP s p 0x21 (c + 1) = 0 || u ≤ tokens s p c

/-- Take u tokens of class c. -/
def take (s : State) (p c u : Nat) : State :=
  let now := (List.range 5).map (fun k => (tokens s p k - (if k = c then u else 0), ns s))
  if cfgP s p 0x21 (c + 1) = 0 then s else updPad s p (fun d => { d with buckets := now })

/-! ### Keys of links -/

/-- The current key of a tenant tag (R282, R498). -/
def linkKey (s : State) (tag : Nat) : Option Nat := (Tbl.get s.net.linkKeys tag).cur

/-- Does a packet's tag check under a key record: the current key, or the other one in the window around a switch or
within 1 ms of a replacement (R285, R498)? -/
def keyOpens (s : State) (k : LinkKey) (pkt : Packet) : Bool :=
  pkt.intact && (k.cur = some pkt.key ||
    (match k.next with | some (v, t) => v = pkt.key && t ≤ ns s + 100000 | none => false) ||
    (match k.old with | some (v, t) => v = pkt.key && ns s < t + 1000000 | none => false))

/-! ### Links -/

/-- Link l. -/
def link (s : State) (l : Nat) : Link := Tbl.get s.net.links l
/-- Change link l. -/
def updLink (s : State) (l : Nat) (f : Link → Link) : State := { s with net.links := Tbl.upd s.net.links l f }

/-- Frame bytes a packet takes: link header, Beluth header, payload, tag, CRC (R271). -/
def frameBytes (vc : Nat) (pkt : Packet) : Nat := if vc = 7 then 28 else 12 + 48 + pkt.payload.length

/-- Credits a frame takes (R271). -/
def creditsOf (vc : Nat) (pkt : Packet) : Nat := if vc = 7 then 0 else ceilDiv (frameBytes vc pkt) 256

/-- Credits held towards the partner for a pool and VC. -/
def creditHeld (k : Link) (pool vc : Nat) : Nat := ((k.credits.find? (fun e => e.1 = pool && e.2.1 = vc)).map (·.2.2)).getD 0
/-- Set them. -/
def setCredit (k : Link) (pool vc n : Nat) : Link :=
  { k with credits := (k.credits.filter (fun e => !(e.1 = pool && e.2.1 = vc))) ++ [(pool, vc, n)] }

/-- Bytes in the replay buffer, at most 128 KiB (R269). -/
def replayBytes (k : Link) : Nat := k.replay.foldl (fun a e => a + frameBytes e.2.1 e.2.2.2.1) 0

/-- Is a swathe for link l, tag and peer open (R296)? -/
def swatheOpenFor (s : State) (l tag peer : Nat) : Bool :=
  match s.sw.active with
  | none => false
  | some t => s.sw.openSwathes.any (fun e =>
      let x := t.entries.getD e 0
      bits x 127 126 = 1 && bits x 125 120 = l && bits x 106 91 = tag && bits x 119 107 = peer)

/-- Does the active table hold a TX entry for link, tag and peer (R297)? -/
def hasTxEntry (s : State) (l tag peer : Nat) : Bool :=
  match s.sw.active with
  | none => false
  | some t => t.entries.any (fun x => bits x 127 126 = 1 && bits x 125 120 = l && bits x 106 91 = tag && bits x 119 107 = peer)

/-- May a waiting frame leave now: link UP, room in the replay buffer, credits, tokens, and an open swathe for VC4
(R269, R275, R296, R458)? -/
def sendable (s : State) (l : Nat) (e : Nat × Nat × Nat × Packet) : Bool :=
  let k := link s l
  let (vc, pool, p, pkt) := e
  let open4 := vc = 4 && swatheOpenFor s l (bTag pkt.hdr.toNat) (bDst pkt.hdr.toNat)
  k.st = .up && replayBytes k + frameBytes vc pkt ≤ 131072 &&
  (vc = 7 || creditsOf vc pkt ≤ creditHeld k pool vc) && (vc ≠ 4 || open4) &&
  (vc = 7 || vc = 2 || vc = 3 || open4 || withinLimit s p 0 (frameBytes vc pkt))

/-- The arbiter's rank of a channel (R277): control frames and VC3 first, VC4 in its swathe, VC2, VC1, VC0, VC5. -/
def vcRank : Nat → Nat
  | 7 => 0 | 3 => 1 | 4 => 2 | 2 => 3 | 1 => 4 | 0 => 5 | _ => 6

/-- Value of a paddock in the ledger snapshot the arbiters hold (R455). -/
def snapV (s : State) (p c : Nat) : Nat := (s.acct.snapshotV.getD p []).getD c 0

/-- The index of the frame that the arbiter serves next: rank, then least V, then paddock, then arrival (R277, R456). -/
def nextFrame (s : State) (l : Nat) : Option Nat :=
  let w := (link s l).waiting
  let ok := (List.range w.length).filter (fun i => match w[i]? with | some e => sendable s l e | none => false)
  let key := fun i => match w[i]? with
    | some (vc, _, p, _) => (vcRank vc, snapV s p 0, p)
    | none => (9, 0, 0)
  ok.foldl (fun best i => match best with
    | none => some i
    | some b =>
      let (x1, x2, x3) := key i
      let (y1, y2, y3) := key b
      if x1 < y1 || (x1 = y1 && (x2 < y2 || (x2 = y2 && x3 < y3))) then some i else some b) none

/-- Paddocks with a frame that could leave on a link now, other than p. -/
def waitersOn (s : State) (l p : Nat) : List Nat :=
  (((link s l).waiting.filter (fun e => e.1 ≠ 7 && e.1 ≠ 3 && e.2.2.1 ≠ p && sendable s l e)).map (fun e => e.2.2.1)).eraseDups

/-- Paddock w waits while a link carries n bytes for paddock p, at 100 B/ns (R477). -/
def waitBehind (p n : Nat) (s : State) (w : Nat) : State :=
  let s := updPad s w (fun d => { d with waited := d.waited + n, behind := setPair d.behind p ((getPair d.behind p).getD 0 + n) })
  setP s w 0x31 1 ((pad s w).waited / 100)

/-- Put one frame on the wire: SEQ, replay buffer, credits, tokens, ledger and meters (R264, R275, R453, R474). -/
def putFrame (s : State) (l i : Nat) : State :=
  match (link s l).waiting[i]? with
  | none => s
  | some (vc, pool, p, pkt) =>
    let k := link s l
    let n := frameBytes vc pkt
    let open4 := vc = 4 && swatheOpenFor s l (bTag pkt.hdr.toNat) (bDst pkt.hdr.toNat)
    let s := if vc = 7 || vc = 3 then s else (waitersOn s l p).foldl (waitBehind p n) s
    let s := updLink s l (fun k => { (if vc = 7 then k else setCredit k pool vc (creditHeld k pool vc - creditsOf vc pkt)) with
      tx := (k.tx + 1) % 65536, replay := k.replay ++ [(k.tx, vc, pool, pkt, 0)], waiting := k.waiting.eraseIdx i })
    let s := emit s (if vc = 7 then .control l (some k.tx) k.rx (BitVec.ofNat 128 pkt.hdr.toNat) else .frame l vc pool k.tx k.rx pkt)
    let s := if l < 64 then setO s 0x2301 (l + 1) ((getO s 0x2301 (l + 1) + 2 ^ 192) % 2 ^ 256) else s
    if vc = 7 || vc = 3 then s
    else
      let s := if vc = 2 || open4 then s else take s p 0 n
      let s := charge s p 0 n
      let s := updPad s p (fun d => { d with act := d.act.set 1 (d.act.getD 1 0 + n) })
      meter s p (if 64 ≤ l then 5 else if open4 then 4 else 3) n

/-- Send every waiting frame that may leave, in the arbiter's order. -/
def drainLink (l : Nat) : Nat → State → State
  | 0, s => s
  | fuel + 1, s => match nextFrame s l with
    | none => s
    | some i => drainLink l fuel (putFrame s l i)

/-- Does paddock p have LINK traffic waiting? -/
def linkActive (s : State) (p : Nat) : Bool :=
  s.net.links.any (fun e => e.2.waiting.any (fun f => f.2.2.1 = p && f.1 ≠ 7 && f.1 ≠ 3))

/-- A paddock becomes active in the LINK class: an idle spell banks at most one burst (R454). -/
def activate (s : State) (p : Nat) : State :=
  if linkActive s p then s
  else
    let others := (s.pads.filter (fun e => e.1 ≠ p && linkActive s e.1)).map (fun e => e.2.v.getD 0 0)
    match others with
    | [] => s
    | v :: vs =>
      let least := vs.foldl min v
      let w := cfgP s p 0x20 1
      updPad s p (fun d => { d with v := d.v.set 0 (max (d.v.getD 0 0) (least - getO s 0x1C01 1 * 256 / (if w = 0 then 1 else w))) })

/-- Hand a frame to a link's transmitter; a link that is not UP or in RETRAIN carries none (*Link state codes*). -/
def toLink (s : State) (l vc pool p : Nat) (pkt : Packet) : State :=
  if (link s l).st = .up || (link s l).st = .retrain then
    let s := if vc = 7 || vc = 3 then s else activate s p
    let s := updLink s l (fun k => { k with waiting := k.waiting ++ [(vc, pool, p, pkt)] })
    drainLink l ((link s l).waiting.length) s
  else s

/-- A sequenced control frame (R264). -/
def sendControl (s : State) (l ctl : Nat) : State :=
  toLink s l 7 0x7F 0 { hdr := BitVec.ofNat 256 ctl, payload := [], key := 0, intact := true }

/-- A control frame that takes no SEQ (R264). -/
def sendBare (s : State) (l ctl : Nat) : State := emit s (.control l none (link s l).rx (BitVec.ofNat 128 ctl))

/-- The pool the partner mapped for a tag, 0x7F where none (R274). -/
def poolFor (s : State) (l tag : Nat) : Nat := (((link s l).map.find? (fun e => e.2 = tag)).map (·.1)).getD 0x7F

/-! ### Node identity -/

/-- This device's node identifier with the pair-half bit (R278, R569). -/
def nodeId (s : State) : Nat :=
  cfg s 0x1700 1 + (if paired s && secondHalf s then 2 ^ 12 else 0)

/-! ### Beluth packets -/

/-- The QP of a number. -/
def qp (s : State) (n : Nat) : Qp := Tbl.get s.net.qps n
def updQp (s : State) (n : Nat) (f : Qp → Qp) : State := { s with net.qps := Tbl.upd s.net.qps n f }

/-- The 96-bit IV of a packet (R282). -/
def ivOf (h : Nat) : Nat :=
  pack [(13, bSrc h), (18, bSrcQp h), (4, bType h), (4, bPath h), (32, bPsn h), (24, bTime h), (1, 0)]

/-- Hold a packet 1 ns at a time while its IV would repeat under the key (R283), with fuel. -/
def freshIv (used : List (Nat × Nat)) (key : Nat) : Nat → Nat → Nat
  | 0, h => h
  | n + 1, h =>
    if used.contains (key, ivOf h) then
      freshIv used key n (h - bits h 27 4 * 16 + (bits h 27 4 + 1) % 2 ^ 24 * 16)
    else h

/-- Count a packet of a path under its key; at 2^30 raise 0x070C (R284). -/
def wear (s : State) (tag qpn path : Nat) : State :=
  let old := ((s.net.keyWear.find? (fun e => e.1 = tag && e.2.1 = qpn && e.2.2.1 = path)).map (·.2.2.2)).getD 0
  let s := { s with net.keyWear := (s.net.keyWear.filter (fun e => !(e.1 = tag && e.2.1 = qpn && e.2.2.1 = path))) ++ [(tag, qpn, path, old + 1)] }
  if old + 1 = 2 ^ 30 then fire (logDev s 0x070C 0 [tag, qpn, path]) 710 else s

/-- Send a header and payload of paddock p's QP on a link: sealed under the current key of the tag (R282). LOOPBACK
packets turn round inside TRN without link or key (R211). -/
def sendOn (s : State) (p qpn l : Nat) (h : Nat) (payload : Bytes) (sched : Bool) : State :=
  let s := bump s p 0x53 1 1
  if (qp s qpn).type = 2 then
    let pkt : Packet := { hdr := BitVec.ofNat 256 h, payload := payload, key := 0, intact := true }
    emit { s with net.loop := s.net.loop ++ [pkt] } (.loop pkt)
  else match linkKey s (bTag h) with
    | none => s
    | some key =>
      let h := freshIv s.net.ivs key (s.net.ivs.length + 1) h
      let s := { s with net.ivs := (key, ivOf h) :: s.net.ivs }
      let s := wear s (bTag h) qpn (bPath h)
      let vc := if sched && s.sw.injecting && hasTxEntry s l (bTag h) (bDst h) then 4 else vcOf (bType h)
      toLink s l vc (poolFor s l (bTag h)) p { hdr := BitVec.ofNat 256 h, payload := payload, key := key, intact := true }

/-- A header from a QP to its peer. -/
def qpHeader (s : State) (qpn : Nat) (type : Nat) (order commit : Bool) (path epoch msg psn addr len : Nat) : Nat :=
  let q := qp s qpn
  beluth type order commit false q.node (nodeId s) (pad s (qpn / 2 ^ 18)).tag q.peer qpn path epoch msg psn addr len (ns s)

/-- Send a reply or control packet of a QP on a path's link. -/
def sendCtl (s : State) (qpn type path epoch msg psn addr : Nat) (payload : Bytes) : State :=
  let q := qp s qpn
  let order := type = 1 || type = 6 || type = 8 || type = 11
  let h := qpHeader s qpn type order false path epoch msg psn addr payload.length
  sendOn s (qpn / 2 ^ 18) qpn ((q.paths[path]?.map (·.link)).getD 0) h payload false

/-! ### Tenancy Port -/

def tpm (s : State) (m : Nat) : TpModule := Tbl.get s.tp.modules m
def updTpm (s : State) (m : Nat) (f : TpModule → TpModule) : State := { s with tp.modules := Tbl.upd s.tp.modules m f }

/-- The side island of a module: TNA 4, TNB 5 (R150, R542). -/
def sideOf (m : Nat) : Nat := if m < 12 then 4 else 5

/-- Modules that reach a die and carry traffic (R153). -/
def liveModules (s : State) (die : Nat) : List Nat :=
  (List.range 24).filter (fun m => let k := tpm s m; k.up && !k.gated && k.die = some die)

/-- The die of a lot. -/
def dieOf (s : State) (lot : Nat) : Option Nat := (lotEntry s lot).map (fun e => bits e 223 220)

/-- Bit of MODULE_MASK for a module. -/
def inModuleMask (e m : Nat) : Bool := bit (bits e 215 192) m

/-- The least occupied of some modules, lowest number first. -/
def leastBusy (s : State) (ms : List Nat) : Option Nat :=
  ms.foldl (fun a m => match a with
    | none => some m
    | some b => if (tpm s m).replay.length < (tpm s b).replay.length then some m else some b) none

/-- The module for a lot: the least occupied of its MODULE_MASK, else of those that reach its die (R153, R172). -/
def moduleFor (s : State) (lot : Nat) : Option Nat :=
  match lotEntry s lot with
  | none => none
  | some e =>
    let all := liveModules s (bits e 223 220)
    match leastBusy s (all.filter (inModuleMask e)) with
    | some m => some m
    | none => leastBusy s all

/-- A header flit with one transaction in slot 0 and its data flits (*Header flit control field*, R154). -/
def flitOf (seq : Nat) (ack : Option Nat) (hdr : BitVec 256) (data : Bytes) : Bytes :=
  let n := ceilDiv data.length 256
  let ctl := fun crc => beBytes 32 (pack [(4, 1), (12, seq), (8, n), (1, 0), (7, 1), (12, ack.getD 0), (1, b2n ack.isSome), (179, 0), (32, crc)])
  let rest := beBytes 32 hdr.toNat ++ List.replicate 192 0 ++ fit (256 * n) data
  ctl (crc32c (ctl 0 ++ rest)).toNat ++ rest

/-- Send a transaction on a module; up to 256 flits are kept for replay (R154). -/
def sendTp (s : State) (m p : Nat) (hdr : BitVec 256) (data : Bytes) : State :=
  let k := tpm s m
  let f := flitOf k.tx k.rx hdr data
  let s := updTpm s m (fun k => { k with tx := (k.tx + 1) % 4096, replay := k.replay ++ [(k.tx, f, 0)] })
  let s := charge s p 3 f.length
  meter (emit s (.flit m f)) p 7 f.length

/-- Send a sideband message to a die on a module (R157). -/
def sendSide (s : State) (m : Nat) (hdr : BitVec 128) (words : List (BitVec 128)) : State := emit s (.sideband m hdr words)

/-- One live module of every side that reaches a die (R163). -/
def sideModules (s : State) (die : Nat) : List Nat :=
  let ms := liveModules s die
  (ms.find? (· < 12)).toList ++ (ms.find? (12 ≤ ·)).toList

/-- The next transaction tag that is neither outstanding nor quarantined (R155, R156). -/
def freeTag (s : State) : Nat :=
  let ok := fun t => !(Tbl.has s.tp.outst t) && !s.tp.quar.contains t
  let n := s.tp.outst.length + s.tp.quar.length + 1
  (((List.range n).map (fun k => (s.tp.nextTag + k) % 65536)).find? ok).getD s.tp.nextTag

/-- Issue a transaction of a command (R155). -/
def issueTp (s : State) (o : TpOut) (aux : Nat) (data : Bytes) : State :=
  match moduleFor s o.lot with
  | none => s
  | some m =>
    let t := freeTag s
    let len := if o.kind = 5 then 0 else o.len
    let h := tpHeader o.kind o.p t o.epoch o.ctx (if o.kind = 2 then ceilDiv len 256 else 0) len o.lot o.off 0 aux
    let s := { s with tp.outst := Tbl.set s.tp.outst t { o with module_ := m }, tp.nextTag := (t + 1) % 65536 }
    sendTp s m o.p h data

/-! ### Host requests -/

/-- Does the function of a paddock send requests (R192)? -/
def hostOpen (s : State) (p : Nat) : Bool :=
  let f := Tbl.get s.host.vfs p
  f.enabled && f.master && !f.inReset

/-- The next host tag that is neither in use nor quarantined. -/
def freeHostTag (s : State) : Nat :=
  let ok := fun t => !(Tbl.has s.host.outst t) && !s.host.quar.contains t
  let n := s.host.outst.length + s.host.quar.length + 1
  (((List.range n).map (fun k => (s.host.nextHost + k) % 16384)).find? ok).getD s.host.nextHost

/-- Issue a host read of a command (R187). -/
def issueHost (s : State) (o : HostOut) : State :=
  let t := freeHostTag s
  let s := { s with host.outst := Tbl.set s.host.outst t o, host.nextHost := (t + 1) % 16384 }
  emit s (.hostRead o.p t o.addr o.len)

/-- Write host memory for paddock p, as plain data or as a bounce chunk (R203). -/
def hostBytes (s : State) (p n : Nat) : State := meter (charge s p 2 n) p 6 n

/-- The bounce window of paddock p (R201): data base, header base, chunks. -/
def bounceWindow (s : State) (p : Nat) : Nat × Nat × Nat :=
  let r := cfg s 0x1501 (p + 1)
  (bits r 191 128, bits r 127 64, bits r 63 32)

/-- Is paddock p CONFIDENTIAL? -/
def confidential (s : State) (p : Nat) : Bool := cfgP s p 0 7 = 1

/-- The chunk a host access of a CONFIDENTIAL paddock falls in, if R201 allows it. -/
def chunkAt (s : State) (p a n : Nat) : Option Nat :=
  let (base, _, count) := bounceWindow s p
  if base ≤ a && (a - base) % 4096 = 0 && (a - base) / 4096 < count && n ≤ 4096 then some ((a - base) / 4096) else none

end Sys2Proof.Machine
end

