-- ==== Sys2Proof/Machine/Cmds.lean ====
section
/-! DEFINITION. The command layer that every opcode uses: responses to object requests, trace records, completion rings,
held ranges, kills and epochs, faults that park, gathering of bytes, and the commit instant (R107 to R135, R442 to R445,
R470 to R473, R637). -/

namespace Sys2Proof.Machine
open Sys2Proof

/-! ### Responses (R73, R78, R182, R199) -/

/-- The type code a response carries (R656). -/
def tyOf (idx sub : Nat) : Nat :=
  match descOf idx sub with
  | some d => if d.tab && sub = 0 then 2 else d.ty
  | none => if sub = 0 && !(descsAt idx).isEmpty then 2 else 0

/-- A response is in place in a Stile or the PF mailbox: DONE, SERVED, and vector 0 where IRQ asked for it (R182); a
function in reset discards it (R199). -/
def stileDone (s : State) (fn : Fn) (resp : Bytes) : State :=
  let f := func s fn
  if f.inReset || f.stile ≠ 1 then s
  else
    let s := updFunc s fn (fun f => { f with stile := 2, served := (f.served + 1) % 256, response := resp })
    if f.irq then msix s fn 0 else s

/-- Answer on a path; a session whose SEQ has reached 0xFFFF_FFFF closes (R513). -/
def sendResponse (s : State) (path : Path) (h : BitVec 128) (payload : Bytes) : State :=
  let s := emit s (.response path h payload)
  let resp := beBytes 16 h.toNat ++ payload
  match path with
  | .pf => if hTag (beNat (s.host.pf.request.take 16)) = hTag h.toNat then stileDone s none resp else s
  | .stile n => if hTag (beNat ((func s (some n)).request.take 16)) = hTag h.toNat then stileDone s (some n) resp else s
  | .udp k =>
    let x := Tbl.get s.sec.sessions k.toNat
    match x.asked.find? (fun e => e.1 = hTag h.toNat) with
    | none => s
    | some (t, q) =>
      let key := if k.toNat = 0 then none else some x.key
      let s := emit s (.udp k.toNat q h payload key)
      if q = 0xFFFFFFFF && k.toNat ≠ 0 then { s with sec.sessions := Tbl.erase s.sec.sessions k.toNat }
      else { s with sec.sessions := Tbl.upd s.sec.sessions k.toNat (fun x =>
          { x with asked := x.asked.filter (fun e => e ≠ (t, q)), kept := ((q, h, payload) :: x.kept).take 8 }) }
  | _ => s

/-- Answer a request for an object: OP 1 READ or 2 WRITE. -/
def respond (s : State) (path : Path) (tag : Tag) (op idx sub status : Nat) (payload : Bytes) : State :=
  let s := if s.obj.serving = some (path, tag) then { s with obj.serving := none } else s
  sendResponse s path (responseHeader op tag.toNat idx sub (tyOf idx sub) s.obj.cvn status payload.length) payload

/-! ### Trace records (R629 to R639) -/

/-- A trace record. -/
def traceRecord (s : State) (kind p ctx epoch id layer oper payload : Nat) : Bytes :=
  beBytes 64 (pack [(4, kind), (1, b2n (synced s)), (6, p), (12, ctx), (8, epoch), (33, 0), (64, ns s), (32, id), (16, layer),
    (16, oper), (320, payload)])

/-- Records that paddock p's share holds (R630). -/
def traceRoom (s : State) (p : Nat) : Nat := cfgP s p 0x82 2 * 16384

/-- The rick line that holds record n of paddock p: shares lie in ascending paddock number from granule 125 (R630). -/
def traceLine (s : State) (p n : Nat) : Nat :=
  125 * 2 ^ 22 + ((List.range p).foldl (fun a q => a + cfgP s q 0x82 2) 0) * 16384 + n % max (traceRoom s p) 1

/-- Append a record to the share; it wraps in mode 0 and is dropped in mode 1 (R631). A record fills its line. -/
def traceAppend (s : State) (p : Nat) (rcd : Bytes) : State × Bool :=
  let d := pad s p
  let s := { s with rick.poisoned := s.rick.poisoned.filter (· ≠ traceLine s p (d.traceFirst + d.trace.length)) }
  let unread := if getP s p 0x82 6 = 0 then d.trace.length else d.trace.length - (d.mirrorNext - d.traceFirst)
  if traceRoom s p = 0 then (s, false)
  else if d.trace.length < traceRoom s p then
    (bump (updPad s p (fun d => { d with trace := d.trace ++ [rcd] })) p 0x80 7 1, true)
  else if getP s p 0x82 3 = 0 || unread < traceRoom s p then
    (bump (updPad s p (fun d => { d with trace := d.trace.drop 1 ++ [rcd], traceFirst := d.traceFirst + 1,
                                         mirrorNext := max d.mirrorNext (d.traceFirst + 1) })) p 0x80 7 1, true)
  else (s, false)

/-- Write a record: after a drop the next one written is a LOST record; a dropped record is counted (R631). -/
def putTrace (s : State) (p : Nat) (rcd : Bytes) : State :=
  let lost := (pad s p).traceLost
  let s := if lost = 0 then s else
    let (s', ok) := traceAppend s p (traceRecord s 8 p 0 0 0 0 0 (lost * 2 ^ 256))
    if ok then updPad s' p (fun d => { d with traceLost := 0 }) else s
  let (s', ok) := traceAppend s p rcd
  if ok then charge s' p 4 64
  else
    let s := bump (updPad s p (fun d => { d with traceLost := d.traceLost + 1 })) p 0x80 8 1
    if lost = 0 then logPad s p 0x0F01 0 [1] else s

/-- A CMD_FETCH (4), CMD_COMMIT (5) or CMD_KILL (6) record of a command (R637). -/
def traceCmd (s : State) (c : Cmd) (kind status : Nat) : State :=
  let l := dLayer c.desc
  if bit (getP s c.p 0x82 1) 3 && getP s c.p 0x82 4 ≤ l && l ≤ getP s c.p 0x82 5 then
    putTrace s c.p (traceRecord s kind c.p c.ctx c.epoch (dId c.desc) l (dOper c.desc)
      (pack [(8, dOpcode c.desc), (6, c.q), (16, status), (8, sat 255 c.reruns), (282, 0)]))
  else s

/-! ### Storing bytes at a place -/

/-- Write host memory as plain data, or for a CONFIDENTIAL paddock as one bounce chunk under the next transmit value
(R203). -/
def hostPut (s : State) (p a : Nat) (bs : Bytes) : State :=
  let s := hostBytes s p bs.length
  if confidential s p then
    let d := pad s p
    let i := (chunkAt s p a bs.length).getD 0
    let h := pack [(64, d.bounceTx), (16, bs.length), (1, 1), (7, 0), (6, p), (34, i), (128, 0)]
    emit (updPad s p (fun d => { d with bounceTx := d.bounceTx + 1 })) (.chunk p i h bs (d.bounceD2h.getD 0))
  else emit s (.hostWrite p a bs)

/-- Store bytes at a place; writes into die memory go out as transactions of at most 4,096 B that no command waits for. -/
def putPlace (s : State) (p : Nat) (pl : Place) (bs : Bytes) : State :=
  match pl with
  | .rick .. => charge (writePlace s p pl bs) p 4 bs.length
  | .host a => hostPut s p a bs
  | .lot lot off => (chunksOf 4096 bs.length bs).zipIdx.foldl (fun s e =>
      issueTp s { p := p, ctx := 0, epoch := 0, kind := 2, cmd := 0, lot := lot, off := off + 4096 * e.2, len := e.1.length,
                  req := 0, module_ := 0, attached := false, limit := getO s 0x1400 6 } 0 e.1) s
  | .far .. => writePlace s p pl bs

/-- Store bytes over the places of a range. -/
def putPlaces (s : State) (p : Nat) (pls : List (Place × Nat)) (bs : Bytes) : State :=
  (pls.foldl (fun (acc : State × Bytes) e => (putPlace acc.1 p e.1 (acc.2.take e.2), acc.2.drop e.2)) (s, bs)).1

/-- Free bytes: contents the manual leaves undefined. -/
def freeBytes (s : State) (n : Nat) : Bytes := (List.range n).map (fun i => Config.freeByte (s.fresh * 2 ^ 40 + i))

/-- Release a held rick range with undefined contents (R132, R246 to R249). -/
def freeFill (s : State) (r : Nat × Nat) : State :=
  rickWrite (fresh1 s) (Tbl.get s.rick.granuleKeys (granuleOf r.1)) r.1 (freeBytes s r.2)

/-- A ring in a paddock's memory: room for one more record under a free-running head and tail (R146, R445, R485). -/
def ringFull (log2 head tail : Nat) : Bool := 2 ^ log2 ≤ (tail + 65536 - head) % 65536

/-- May these places be written now? -/
def placesOpen (s : State) (p : Nat) (pls : List (Place × Nat)) : Bool :=
  pls.all (fun e => match e.1 with
    | .host a => hostOpen s p && (!confidential s p || (chunkAt s p a e.2).isSome)
    | _ => true)

/-- Write a record to a ring; none when it is full or the write faults. -/
def ringPut (s : State) (p base log2 head tail : Nat) (rcd : Bytes) : Option State :=
  if ringFull log2 head tail then none
  else match accessAll s p (base + rcd.length * (tail % 2 ^ log2)) rcd.length true with
    | .error _ => none
    | .ok pls => if placesOpen s p pls then some (putPlaces s p pls rcd) else none

/-! ### Contexts -/

def ctxOf (s : State) (p c : Nat) : Option Ctx := Tbl.find (pad s p).ctxs c
def updCtx (s : State) (p c : Nat) (f : Ctx → Ctx) : State :=
  updPad s p (fun d => match Tbl.find d.ctxs c with
    | some x => { d with ctxs := Tbl.set d.ctxs c (f x) }
    | none => d)
def queueOf (s : State) (p q : Nat) : Option Queue := Tbl.find (pad s p).queues q
def updQueue (s : State) (p q : Nat) (f : Queue → Queue) : State :=
  updPad s p (fun d => match Tbl.find d.queues q with
    | some x => { d with queues := Tbl.set d.queues q (f x) }
    | none => d)
def cmdOf (s : State) (id : Nat) : Option Cmd := Tbl.find s.cmd.live id
def updCmd (s : State) (id : Nat) (f : Cmd → Cmd) : State :=
  match Tbl.find s.cmd.live id with
  | some c => { s with cmd.live := Tbl.set s.cmd.live id (f c) }
  | none => s

/-- Live commands of a context, oldest number first. -/
def ctxCmds (s : State) (p c : Nat) : List Nat := (s.cmd.live.filter (fun e => e.2.p = p && e.2.ctx = c && !e.2.inner)).map (·.1)
/-- Live commands of a paddock. -/
def padCmds (s : State) (p : Nat) : List Nat := (s.cmd.live.filter (fun e => e.2.p = p && !e.2.inner)).map (·.1)

/-- Add to a count of a context's usage record. -/
def useCtx (s : State) (p c k n : Nat) : State :=
  updCtx s p c (fun x => { x with usage := x.usage.set k (x.usage.getD k 0 + n) })
/-- Add activity units of a rail to a context and its paddock (R475, R486). -/
def active (s : State) (p c r n : Nat) : State :=
  updPad (updCtx s p c (fun x => { x with act := x.act.set r (x.act.getD r 0 + n) })) p
    (fun d => { d with act := d.act.set r (d.act.getD r 0 + n) })

/-- Write a context usage record: 1 left its slot, 2 period end, 3 destroyed (R485). -/
def usageRecord (s : State) (p c reason : Nat) : State :=
  match ctxOf s p c with
  | none => s
  | some x =>
    let base := getP s p 0x20 8
    if base = 0 then s
    else
      let d := pad s p
      let u := fun k => x.usage.getD k 0
      let rcd := beBytes 64 (pack [(12, c), (4, reason), (8, x.epoch), (8, 0), (32, d.usageSeq), (64, ns s), (64, u 0),
        (64, u 1), (64, u 2), (64, u 3), (64, u 4), (32, u 5 / 1000), (32, 0)])
      match ringPut s p base (getP s p 0x20 9) (getP s p 0x20 0x0A) d.usageTail rcd with
      | none => addO s (pidx p 0x20) 0x0B 1 32
      | some s => updCtx (updPad s p (fun d => { d with usageSeq := d.usageSeq + 1, usageTail := (d.usageTail + 1) % 65536 })) p c
          (fun x => { x with usage := [0, 0, 0, 0, 0, u 5 % 1000] })

/-- The slot of a context becomes free (R473, R485). -/
def freeSlot (s : State) (p c : Nat) : State :=
  match ctxOf s p c with
  | some x => if x.slot.isSome then updCtx (usageRecord s p c 1) p c (fun x => { x with slot := none }) else s
  | none => s

/-- The epoch advances by one and the old value is quarantined; an advance onto a quarantined value waits (R109, R111). -/
def advanceEpoch (s : State) (p c : Nat) : State :=
  updCtx s p c (fun x =>
    let new := (x.epoch + 1) % 256
    if x.quarantine.contains new then { x with advanceWaits := true, advanceDue := false }
    else { x with epoch := new, quarantine := x.epoch :: x.quarantine, kills := sat (2 ^ 32 - 1) (x.kills + 1),
                  advanceWaits := false, advanceDue := false })

/-- A context enters READY (R462). -/
def ready (s : State) (p c : Nat) : State := updCtx s p c (fun x => { x with st := .ready, readySince := ns s })

/-- Progress of a context for its watchdog (R550). -/
def progress (s : State) (p c : Nat) : State := updCtx s p c (fun x => { x with progress := ns s })

/-! ### Completion rings (R114, R119 to R121, R194) -/

/-- Whether a record can be written to a queue's completion ring now. -/
inductive Room where
  | ok (pls : List (Place × Nat))
  | full
  | bad (code level : Nat)
  deriving DecidableEq, Repr

/-- The next entry of a completion ring. -/
def cqEntry (s : State) (p : Nat) (q : Queue) : Room :=
  if 2 ^ q.cqLog ≤ q.cqUsed then .full
  else match accessAll s p (q.cqBase + 32 * q.cqTail) 32 true with
    | .error (.fault c l) => .bad c l
    | .error _ => .full
    | .ok pls =>
      if pls.any (fun e => match e.1 with | .host _ => !hostOpen s p | _ => false) then .full
      else if placesOpen s p pls then .ok pls else .bad 0x0407 0

/-- Room for a command that is ready to commit: nothing may wait before it. -/
def cqRoom (s : State) (p : Nat) (q : Queue) : Room := if q.waiting.isEmpty then cqEntry s p q else .full

/-- A completion record with PHASE 0. -/
def recordNat (id status op ctx epoch q kind reruns head time result : Nat) : Nat :=
  beNat (completionRecord id status op ctx epoch q kind false reruns head time result)

/-- Write a record into the ring, with its phase; then the interrupt it asks for (R135). -/
def writeRecord (s : State) (p qn : Nat) (q : Queue) (pls : List (Place × Nat)) (rcd : Nat) (irq : Bool) : State :=
  let s := putPlaces s p pls (beBytes 32 (rcd + b2n q.phase * 2 ^ 171))
  let s := updQueue s p qn (fun q =>
    { q with cqTail := (q.cqTail + 1) % 2 ^ q.cqLog, cqUsed := q.cqUsed + 1,
             phase := if q.cqTail + 1 = 2 ^ q.cqLog then !q.phase else q.phase })
  if irq then msix s (some (Fin.ofNat 64 p)) q.vector else s

/-- Write the records that wait, in order, while there is room. -/
def drainCq (p qn : Nat) : Nat → State → State
  | 0, s => s
  | fuel + 1, s => match queueOf s p qn with
    | none => s
    | some q => match q.waiting with
      | [] => s
      | (rcd, irq) :: rest => match cqEntry s p q with
        | .ok pls => drainCq p qn fuel (writeRecord (updQueue s p qn (fun q => { q with waiting := rest })) p qn q pls rcd irq)
        | _ => s

/-- Post a record to a queue: it waits its turn where the ring has no room. -/
def postRecord (s : State) (p qn rcd : Nat) (irq : Bool) : State :=
  match queueOf s p qn with
  | none => s
  | some q => drainCq p qn (q.waiting.length + 1) (updQueue s p qn (fun q => { q with waiting := q.waiting ++ [(rcd, irq)] }))

/-- The submission head passes every leading entry that has ended (R120). -/
def passEnded (size : Nat) (ended : List Nat) (next : Nat) : Nat → Nat → Nat × List Nat
  | 0, h => (h, ended)
  | fuel + 1, h => if h ≠ next && ended.contains h then passEnded size (ended.filter (· ≠ h)) next fuel ((h + 1) % size) else (h, ended)

/-- The entry of a command has committed or been abandoned (R120). -/
def endEntry (s : State) (p qn entry : Nat) : State :=
  updQueue s p qn (fun q =>
    let e := entry :: q.ended
    let (h, e') := passEnded (2 ^ q.sqLog) e q.next e.length q.head
    { q with head := h, ended := e' })

/-! ### Held ranges (R129) -/

/-- Places of a range that lie in the rick, as address and length. -/
def rickParts (pls : List (Place × Nat)) : List (Nat × Nat) :=
  pls.filterMap (fun e => match e.1 with | .rick a _ => some (a, e.2) | _ => none)

/-- Is [a, a + n) held, for a reader other than command me? A live command that holds it is named. -/
def heldFor (s : State) (me a n : Nat) : Option (Option Nat) :=
  match s.cmd.live.find? (fun e => e.1 ≠ me && e.2.holds.any (fun h => overlap h.1 h.2 a n)) with
  | some e => some (some e.1)
  | none =>
    if s.cmd.killed.any (fun k => k.holds.any (fun h => overlap h.1 h.2 a n)) ||
       s.net.qps.any (fun e => e.2.rx.any (fun m => m.placed.any (fun x => match x.1 with
         | .rick b _ => overlap b x.2.length a n | _ => false)))
    then some none else none

/-- Is a place held for a reader? -/
def placeHeld (s : State) (me : Nat) (pl : Place) (n : Nat) : Option (Option Nat) :=
  match pl with
  | .rick a _ => heldFor s me a n
  | _ => none

/-! ### Starting a command (R118, R138, R467) -/

/-- How far an entry lies behind the head. -/
def ringPos (q : Queue) (entry : Nat) : Nat := (entry + 2 ^ q.sqLog - q.head) % 2 ^ q.sqLog

/-- May a fetched command start? Every earlier command of its queue has started, no earlier WAIT is open, FENCE finds no
earlier command open, and an EXCL command finds its context alone in the slots. -/
def mayStart (s : State) (id : Nat) (c : Cmd) : Bool :=
  match queueOf s c.p c.q with
  | none => true
  | some q =>
    let pos := ringPos q c.entry
    let early := s.cmd.live.filter (fun e => e.1 ≠ id && e.2.p = c.p && e.2.q = c.q && !e.2.inner && ringPos q e.2.entry < pos)
    let earlyK := s.cmd.killed.filter (fun k => k.p = c.p && k.q = c.q && ringPos q k.entry < pos)
    early.all (fun e => e.2.phase ≠ .fetched && dOpcode e.2.desc ≠ 0xB1) &&
    earlyK.all (fun k => dOpcode k.desc ≠ 0xB1) &&
    (!dFence c.desc || (early.isEmpty && earlyK.isEmpty)) &&
    (!c.exclOn || (pad s c.p).ctxs.all (fun e => e.1 = c.ctx || e.2.slot.isNone))

/-- May the engine work on the command: its context runs, the paddock fetches or drains, and it has started or may. -/
def mayWork (s : State) (id : Nat) (c : Cmd) : Bool :=
  c.status = 0 && c.phase ≠ .ready && !c.inner &&
  ((pad s c.p).state = .opened || (pad s c.p).state = .draining) &&
  (match ctxOf s c.p c.ctx with | some x => x.st = .running || x.st = .waiting | none => false) &&
  (c.phase = .started || mayStart s id c)

/-- Work on a command of one opcode; a row that names no such command that may run changes nothing (log 13). -/
def withCmd (s : State) (id op : Nat) (f : State → Cmd → State) : State :=
  match cmdOf s id with
  | none => s
  | some c =>
    if dOpcode c.desc = op && mayWork s id c then
      f (updCmd s id (fun c => { c with phase := .started })) { c with phase := .started }
    else s

/-! ### Errors and faults -/

/-- An entry that names a command (R126, R556). -/
def geqCmd (s : State) (c : Cmd) (code sev : Nat) (facts : List Nat) : State :=
  geq s { code := code, sev := sev, dev := false, p := c.p, ctx := some (c.ctx, c.epoch, c.q), cmdId := dId c.desc,
          layer := dLayer c.desc, oper := dOper c.desc, op := dOpcode c.desc, facts := c.p :: facts }

/-- Write one record to the fault ring (R445). -/
def faultRing (s : State) (p : Nat) (rcd : Bytes) : State :=
  let base := getP s p 0x40 6
  if base = 0 then s
  else match ringPut s p base (getP s p 0x40 7) (getP s p 0x40 8) (getP s p 0x40 9) rcd with
    | none => addO s (pidx p 0x40) 0x0B 1 32
    | some s => bump (setP s p 0x40 9 ((getP s p 0x40 9 + 1) % 65536)) p 0x41 6 1

/-- A record of the fault batch from its fields. -/
def batchRecord (f : List Nat) : Bytes :=
  let g := fun k => f.getD k 0
  faultRecord (g 0) (g 1) (g 2) (g 3) (g 4) (g 5) (g 6) (g 7) (g 8) (g 9) (g 10) (g 11) (g 12)

/-- Write the batch of the recording class: records, event, one entry with the first record's code (R443, R444). -/
def flushBatch (s : State) (p : Nat) : State :=
  match (pad s p).faultBatch with
  | [] => s
  | b :: rest =>
    let s := updPad s p (fun d => { d with faultBatch := [] })
    let s := (b :: rest).foldl (fun s f => faultRing s p (batchRecord f)) s
    logPad (firePad s p 1) p (b.getD 5 0) 2 [b.getD 0 0, b.getD 1 0]

/-- A structure of paddock p met poison: the root or a backing entry strikes the paddock, a line of granule 124 every paddock
with an allocation mapped (*Outcome of an uncorrectable error*). They enter FAULTED when the command ends. -/
def strike (s : State) (p : Nat) (window : Bool) : State :=
  let who := if window then (s.pads.filter (fun e => e.2.allocs.any (·.mapped))).map (·.1) else [p]
  { s with rick.struck := s.rick.struck ++ who.filter (fun k => !s.rick.struck.contains k) }

/-- A fault of the recording class joins the batch, merging with its like (R443). -/
def recFault (s : State) (p va level : Nat) (w : Bool) (src code ctx node id layer oper : Nat) : State :=
  let b := (pad s p).faultBatch
  let same := fun (f : List Nat) => f.getD 0 0 / 4096 = va / 4096 && f.getD 2 0 = b2n w && f.getD 4 0 = src && f.getD 5 0 = code
  let b' := if b.any same then b.map (fun f => if same f then f.set 8 (sat 65535 (f.getD 8 0 + 1)) else f)
    else b ++ [[va, level, b2n w, 0, src, code, ctx, node, 1, ns s, id, layer, oper]]
  let s := if code = 0x0A05 then strike s p (level ≠ 4) else s
  let s := updPad s p (fun d => { d with faultBatch := b', faultFrom := if b.isEmpty then ns s else d.faultFrom })
  if 32 ≤ b'.length then flushBatch s p else s

/-- A Hedgerow refusal (R57): counted, and reported with the port's code. -/
def refuse (s : State) (p code : Nat) (facts : List Nat) : State :=
  logPad (bump s p 0x80 3 1) p code 2 facts

/-- A reply that belongs to no current attempt (R110). -/
def stale (s : State) (p : Nat) : State := bump s p 0x80 4 1

/-! ### Kills -/

/-- Why commands are killed: it decides what a kill waits for (R351, R406, R469, R470). -/
inductive Stop where
  | preempt | control | flr | fault | park | island
  deriving DecidableEq, Repr

/-- End exclusivity held for a command (R468). -/
def exclEnd (s : State) (p id : Nat) : State :=
  updPad s p (fun d => match d.excl with | some (_, i) => if i = id then { d with excl := none } else d | none => d)

/-- Detach every transaction of a command; a dispatch still out is cancelled (R174, R471). -/
def detachCmd (s : State) (id : Nat) : State :=
  let mine := s.tp.outst.filter (fun e => e.2.cmd = id && e.2.attached)
  let s := mine.foldl (fun s e =>
    if e.2.kind = 5 then
      sendTp s e.2.module_ e.2.p (tpHeader 7 e.2.p e.1 e.2.epoch e.2.ctx 0 0 e.2.lot 0 0 0) []
    else s) s
  { s with tp.outst := s.tp.outst.map (fun e => if e.2.cmd = id then (e.1, { e.2 with attached := false }) else e),
           host.outst := s.host.outst.map (fun e => if e.2.cmd = id then (e.1, { e.2 with attached := false }) else e),
           host.ats := s.host.ats.map (fun e => if e.2.cmd = some id then (e.1, { e.2 with cmd := none }) else e) }

/-- Send ABORT for every open message of a command (R244). -/
def abortMsgs (s : State) (id : Nat) : State :=
  s.net.qps.foldl (fun s e =>
    (e.2.tx.filter (fun m => m.cmd = some id && !m.aborting)).foldl (fun s m =>
      let h := qpHeader s e.1 8 true false 0 m.epoch m.msg 0 0 0
      let s := updQp s e.1 (fun q => { q with
        tx := q.tx.map (fun x => if x.msg = m.msg then { x with aborting := true, cmd := none, last := (h, []), sentAt := ns s } else x),
        paths := q.paths.map (fun pa => { pa with unacked := pa.unacked.filter (fun u => bMsg u.2.1 ≠ m.msg) }),
        rx := q.rx.filter (fun r => r.cmd ≠ some id) })
      sendOn s (e.1 / 2 ^ 18) e.1 ((e.2.paths[0]?.map (·.link)).getD 0) h [] false) s) s

/-- Messages that a command's end aborts, for a later ABANDON or REPLACES, each with its place among the messages of the
attempt (R246, R247). -/
def openMsgs (s : State) (id : Nat) : List (Nat × Nat × Nat) :=
  let own := ((cmdOf s id).map (·.msgs)).getD []
  (s.net.qps.map (fun e => (e.2.tx.filter (fun m => m.cmd = some id)).map (fun m =>
    (e.1, m.msg, own.findIdx (· = (e.1, m.msg)))))).flatten

/-- What an ending command leaves of its allocator work: an uncommitted ALLOC gives its pages back, a killed FREE writes
the mapping back (R140, R142). -/
def undoAlloc (s : State) (c : Cmd) : State :=
  let s := c.effects.foldl (fun s e => match e with | .addAlloc va _ => dropAlloc s c.p va | _ => s) s
  match c.freed with
  | none => s
  | some va => match (pad s c.p).allocs.find? (fun a => a.va = va && !a.mapped) with
    | some a => mapAlloc s c.p a
    | none => s

/-- The thread of a command is free again: thread cycles are metered (R207, R474). TRN runs at 1.25 GHz. -/
def unbind (s : State) (c : Cmd) : State :=
  let n := (ns s - c.at_) * 5 / 4
  let s := meter s c.p 2 n
  let s := useCtx s c.p c.ctx 1 n
  let s := active s c.p c.ctx 3 n
  let e := c.thread / 256
  setO s 0x2302 (e + 1) ((getO s 0x2302 (e + 1) + n) % 2 ^ 256)

/-- Kill one command (R131): no effect ever; what it placed stays held until its rerun commits. -/
def killCmd (s : State) (id : Nat) : State :=
  match cmdOf s id with
  | none => s
  | some c =>
    let gone := c.aborted ++ openMsgs s id
    let s := undoAlloc (abortMsgs (detachCmd s id) id) c
    let s := meter (traceCmd (exclEnd (unbind s c) c.p id) c 6 0) c.p 12 1
    let k : Killed := { p := c.p, q := c.q, entry := c.entry, ctx := c.ctx, reruns := c.reruns + 1, desc := c.desc,
                        holds := c.holds, aborted := gone, inst := c.inst, id := id, order := c.order, backoff := c.backoff,
                        expired := c.expired }
    { s with cmd.live := Tbl.erase s.cmd.live id, cmd.killed := s.cmd.killed ++ [k],
             rick.walks := s.rick.walks.filter (fun w => w.cmd ≠ id || id = 0) }

/-- Has a member's command put any message of its instance on its way (R406)? -/
def contributed (s : State) (c : Cmd) : Bool :=
  match c.inst with
  | none => false
  | some (g, n) => s.sheaf.groups.any (fun e => e.1 = 64 * c.p + g && e.2.insts.any (fun i => i.num = n && i.sentAny))

/-- Is a checkpoint to be written before this command may be killed (R351, R352, R355)? -/
def wantsCkpt (s : State) (c : Cmd) : Bool :=
  dArg c.desc 1 ≠ 0 && (match c.run with | some r => !r.opened.isEmpty | none => false) &&
  (match ctxOf s c.p c.ctx with | some x => x.ckpts.length < 64 | none => false)

/-- Must the kill of a command wait? -/
def killMustWait (s : State) (c : Cmd) (why : Stop) : Bool :=
  (dCoi c.desc && 0 < c.due) ||
  (why = .preempt && dNopre c.desc && cfgP s c.p 0x20 4 ≠ 0) ||
  ((why = .preempt || why = .control || why = .flr) && wantsCkpt s c) ||
  (contributed s c && why ≠ .flr && why ≠ .fault)

/-- Clear checkpoint records of a context that meet a condition, in the save area too (R357). -/
def clearCkpts (s : State) (p c : Nat) (f : Ckpt → Bool) : State :=
  match ctxOf s p c with
  | none => s
  | some x =>
    let s := (x.ckpts.filter f).foldl (fun s k => match accessAll s p (x.area + 0x3000 + 64 * k.slot) 64 true with
      | .ok pls => putPlaces s p pls (List.replicate 64 0)
      | .error _ => s) s
    updCtx s p c (fun x => { x with ckpts := x.ckpts.filter (fun k => !f k) })

/-! ### The end of a command -/

/-- The next descriptor a queue would fetch. -/
def nextDesc (s : State) (p : Nat) (q : Queue) : Option Nat :=
  if q.st = 1 && q.next ≠ q.tail then
    match readVa s p (q.sqBase + 64 * q.next) 64 with
    | .ok b => some (beNat b)
    | .error _ => none
  else none

/-- Has a context anything to fetch or rerun? -/
def hasWork (s : State) (p c : Nat) : Bool :=
  s.cmd.killed.any (fun k => k.p = p && k.ctx = c) ||
  (pad s p).queues.any (fun e => match nextDesc s p e.2 with | some d => dContext d = c | none => false)

/-- Destroy a context: slot and save area released (R113). -/
def removeCtx (s : State) (p c : Nat) : State :=
  let s := usageRecord s p c 3
  let s := updPad s p (fun d => { d with excl := (match d.excl with | some (x, i) => if x = c then none else some (x, i) | none => none) })
  updPad s p (fun d => { d with ctxs := Tbl.erase d.ctxs c })

/-- Every fetched command committed and none fetchable: the context is IDLE (R113), and a DESTROY that waits for it
finishes (R149). -/
def idleCheck (s : State) (p c : Nat) : State :=
  match ctxOf s p c with
  | none => s
  | some x =>
    if x.st = .running && !x.preempting && (ctxCmds s p c).isEmpty && !hasWork s p c then
      match x.closeTag with
      | some (path, tag) => if x.closing then respond (removeCtx s p c) path tag 2 (pidx p 0x50) 4 0 [] else
          updCtx s p c (fun x => { x with st := .idle })
      | none => updCtx s p c (fun x => { x with st := .idle })
    else s

/-- A closing queue with no open command is freed, and its QUEUE_DESTROY answered (R122). -/
def queueCheck (s : State) (p q : Nat) : State :=
  match queueOf s p q with
  | none => s
  | some x =>
    if x.st = 3 && !s.cmd.live.any (fun e => e.2.p = p && e.2.q = q && !e.2.inner) && !s.cmd.killed.any (fun k => k.p = p && k.q = q) then
      let s := updPad s p (fun d => { d with queues := Tbl.erase d.queues q })
      match x.closeTag with
      | some (path, tag) => respond s path tag 2 (pidx p 0x50) 2 0 []
      | none => s
    else s

/-- Post the records of commands that were killed and are not rerun, in ring order, and release what they hold (R132,
R247). -/
def abandon (s : State) (f : Killed → Bool) : State :=
  let gone := s.cmd.killed.filter f
  let s := { s with cmd.killed := s.cmd.killed.filter (fun k => !f k) }
  gone.foldl (fun s k =>
    let s := k.holds.foldl freeFill s
    let s := k.aborted.foldl (fun s m =>
      let h := qpHeader s m.1 11 true false 0 0 m.2.1 0 0 0
      sendOn s (m.1 / 2 ^ 18) m.1 (((qp s m.1).paths[0]?.map (·.link)).getD 0) h [] false) s
    let s := clearCkpts s k.p k.ctx (fun x => x.queue = k.q && x.entry = k.entry)
    let s := endEntry s k.p k.q k.entry
    let s := bump s k.p 0x80 2 1
    let s := updQueue s k.p k.q (fun q => { q with lastErr := 0x0307 })
    let ep := ((ctxOf s k.p k.ctx).map (·.epoch)).getD 0
    let head := ((queueOf s k.p k.q).map (·.head)).getD 0
    queueCheck (postRecord s k.p k.q (recordNat (dId k.desc) 0x0307 (dOpcode k.desc) k.ctx ep k.q 0 k.reruns head (ns s) 0)
      (dIrq k.desc)) k.p k.q) s

/-- What follows the end of a command: a waiting epoch advance, IDLE, closing queues. -/
def afterEnd (s : State) (p c q : Nat) : State :=
  let s := match ctxOf s p c with
    | some x => if x.advanceDue && (ctxCmds s p c).isEmpty then freeSlot (advanceEpoch s p c) p c else s
    | none => s
  queueCheck (idleCheck s p c) p q

/-- One effect of a commit. -/
def applyEffect (p : Nat) (s : State) : Effect → State
  | .wr pl bs => putPlace s p pl bs
  | .sig pl add v =>
    let old := beNat (readPlace s p pl 8)
    putPlace s p pl (beBytes 8 (if add then old + v else v))
  | .stamp pls => putPlaces s p pls (beBytes 8 (ns s))
  | .addAlloc va zero => match (pad s p).allocs.find? (fun a => a.va = va) with
    | none => s
    | some a => mapAlloc (if zero then a.pages.foldl (fun s f => rickZero s f a.psize) s else s) p a
  | .dropAlloc va => dropAlloc s p va

/-- The rerun of a killed command is withheld no longer (R553). -/
def releaseRerun (s : State) (id : Nat) : State :=
  { s with cmd.killed := s.cmd.killed.map (fun k => if k.id = id then { k with backoff := false } else k),
           flt.withheld := s.flt.withheld.filter (fun w => w.1 ≠ id) }

/-- A command of a broken cycle commits: the rerun that it held back may go (R553). -/
def releaseCycle (s : State) (id : Nat) : State :=
  (s.flt.withheld.filter (fun w => w.2.contains id)).foldl (fun s w => releaseRerun s w.1) s

/-- The commit instant (R127): every effect and the issuer record, at once. With a status the command has no effect
(R125), and what its killed attempts or a READ placed is undefined (R131, R249). -/
def commitNow (s : State) (id : Nat) (c : Cmd) (pls : List (Place × Nat)) : State :=
  match queueOf s c.p c.q with
  | none => s
  | some q =>
    let ok := c.status = 0
    let s := releaseCycle { s with cmd.live := Tbl.erase s.cmd.live id } id
    let s := if ok then c.effects.foldl (applyEffect c.p) s
      else if 0 < c.reruns || dOpcode c.desc = 0x21 || (0x80 ≤ dOpcode c.desc && dOpcode c.desc < 0x90) then
        c.holds.foldl freeFill s else s
    let s := exclEnd (unbind s c) c.p id
    let s := traceCmd s c 5 c.status
    let s := if ok then meter s c.p 11 1
      else updQueue (bump s c.p 0x80 2 1) c.p c.q (fun q => { q with lastErr := c.status })
    let s := clearCkpts s c.p c.ctx (fun k => k.queue = c.q && k.entry = c.entry)
    let s := progress (endEntry s c.p c.q c.entry) c.p c.ctx
    let head := ((queueOf s c.p c.q).map (·.head)).getD 0
    let rcd := recordNat (dId c.desc) c.status (dOpcode c.desc) c.ctx c.epoch c.q c.kind c.reruns head (ns s)
      (if ok then c.result else 0)
    afterEnd (writeRecord s c.p c.q q pls rcd (dIrq c.desc)) c.p c.ctx c.q

/-- Stop a context's commands for a cause, then advance its epoch and free its slot, at once where nothing has to be
waited for (R109, R472). A collective member that contributed ends with 0x0904 on a fault or a reset (R406). -/
def stopCmdWith (fail : State → Nat → Nat → State) (why : Stop) (s : State) (id : Nat) : State :=
  match cmdOf s id with
  | none => s
  | some c =>
    if contributed s c && (why = .flr || why = .fault) then fail s id 0x0904
    else if killMustWait s c why then
      updCmd s id (fun c => { c with killWaits := true, run := c.run.map (fun r => { r with stop := wantsCkpt s c }) })
    else killCmd s id

/-- End a command with an error where its ring has room; otherwise it waits as any other (R121, R125). The ring's own
fault leaves it waiting here; the caller parks the context. -/
def failQuiet (s : State) (id code : Nat) : State :=
  match cmdOf s id with
  | none => s
  | some c =>
    if c.inner then updCmd s id (fun c => { c with status := code }) else
    let gone := c.aborted ++ openMsgs s id
    let s := undoAlloc (abortMsgs (detachCmd s id) id) c
    let c := { c with status := code, effects := [], aborted := gone, phase := .ready, readyAt := ns s, freed := none }
    let s := { s with cmd.live := Tbl.set s.cmd.live id c }
    match (queueOf s c.p c.q).map (cqRoom s c.p) with
    | some (.ok pls) => commitNow s id c pls
    | _ => s

/-- Stop a whole context. A pre-emption leaves it RUNNING until its last command has ended (R472). -/
def stopCtx (s : State) (p c : Nat) (why : Stop) (nxt : CState) : State :=
  let s := (ctxCmds s p c).foldl (stopCmdWith failQuiet why) s
  let left := (ctxCmds s p c).any (fun id => ((cmdOf s id).map (·.killWaits)).getD false)
  if left then
    if why = .preempt then updCtx s p c (fun x => { x with preempting := true, preemptAt := ns s })
    else updCtx s p c (fun x => { x with advanceDue := true, preempting := false, st := nxt, readySince := ns s })
  else
    let s := freeSlot (advanceEpoch s p c) p c
    updCtx s p c (fun x => { x with preempting := false, st := nxt, readySince := ns s })

/-- Set a context that waits to RUNNING where it still has its slot, else to READY (R113). -/
def unwait (s : State) (p c : Nat) : State :=
  match ctxOf s p c with
  | some x => if x.st = .waiting then
      (if x.slot.isSome then updCtx s p c (fun x => { x with st := .running, readySince := ns s }) else ready s p c)
    else s
  | none => s

/-- Kill commands for one cause, such as the reset of an island they used: each context's epoch advances once. While TRN is out
they are marked, and its reset kills them (R109, R545). -/
def killBatch (s : State) (ids : List Nat) (why : Stop) : State :=
  let ids := ids.filter (fun id => (cmdOf s id).any (fun c => !c.inner))
  if trnOut s then ids.foldl (fun s id => updCmd s id (fun c => { c with killWaits := true })) s
  else
    let who := (ids.filterMap (fun id => (cmdOf s id).map (fun c => (id, c.p, c.ctx, c.q, c.waitOn.isSome))))
    let s := ids.foldl (fun s id => stopCmdWith failQuiet why s id) s
    let gone := who.filter (fun e => (cmdOf s e.1).isNone)
    let s := ((gone.map (fun e => (e.2.1, e.2.2.1))).eraseDups).foldl (fun s e => match ctxOf s e.1 e.2 with
      | some x => if x.advanceDue || x.preempting then s else advanceEpoch s e.1 e.2
      | none => s) s
    gone.foldl (fun s e => afterEnd (if e.2.2.2.2 then unwait s e.2.1 e.2.2.1 else s) e.2.1 e.2.2.1 e.2.2.2.1) s

/-- A kill that waited takes place (R133, R353, R406, R469); a queue whose destruction has waited out its time reports the
command as abandoned (R122). -/
def endDeferredKill (s : State) (id : Nat) : State :=
  match cmdOf s id with
  | none => s
  | some c =>
    let s := killCmd s id
    let s := match ctxOf s c.p c.ctx with
      | some x => if x.advanceDue || x.preempting then s else advanceEpoch s c.p c.ctx
      | none => s
    let s := if ((queueOf s c.p c.q).map (·.expired)).getD false then abandon s (fun k => k.p = c.p && k.q = c.q) else s
    afterEnd s c.p c.ctx c.q

/-- Park a context on a fault of the parking class (R442, R444): the record at once, event, entry, LAST_ERROR. -/
def park (s : State) (c : Cmd) (va level : Nat) (w : Bool) (code : Nat) (record : Bool) : State :=
  if code = 0x0A05 then strike s c.p (level ≠ 4) else
  let s := if record then
      let s := bump s c.p 0x41 5 1
      firePad (faultRing s c.p (faultRecord va level (b2n w) 1 0 code c.ctx 0 1 (ns s) (dId c.desc) (dLayer c.desc) (dOper c.desc))) c.p 1
    else s
  let s := geqCmd s c code 2 [va, level]
  match ctxOf s c.p c.ctx with
  | some x =>
    if x.st = .running || x.st = .waiting then
      firePad (updCtx (stopCtx s c.p c.ctx .park .parked) c.p c.ctx (fun x => { x with lastErr := code })) c.p 5
    else s
  | none => s

/-- Commit a command that is ready, where its ring has room; a ring that faults parks the context; a full ring makes it
wait (R121). -/
def tryCommit (s : State) (id : Nat) : State :=
  match cmdOf s id with
  | none => s
  | some c => if c.inner then s else match queueOf s c.p c.q with
    | none => s
    | some q => match cqRoom s c.p q with
      | .ok pls => commitNow s id c pls
      | .full => updCmd s id (fun c => { c with phase := .ready, readyAt := if c.phase = .ready then c.readyAt else ns s })
      | .bad code level => park s c (q.cqBase + 32 * q.cqTail) level true code true

/-- A command finishes with an error (R125). -/
def failCmd (s : State) (id code : Nat) : State := tryCommit (failQuiet s id code) id

/-- A command becomes ready with its effects and result: writes into die memory go out first and are waited for; it
commits at COMMAND_COMMIT. -/
def becomeReady (s : State) (id : Nat) (c : Cmd) (effects : List Effect) (result : Nat) : State :=
  let out := effects.filterMap (fun e => match e with | .wr (.lot l o) b => some (l, o, b) | _ => none)
  let keep := effects.filter (fun e => match e with | .wr (.lot ..) _ => false | _ => true)
  let parts := (out.map (fun e => (chunksOf 4096 e.2.2.length e.2.2).zipIdx.map (fun b => (e.1, e.2.1 + 4096 * b.2, b.1)))).flatten
  let s := parts.foldl (fun s e => issueTp s
    { p := c.p, ctx := c.ctx, epoch := c.epoch, kind := 2, cmd := id, lot := e.1, off := e.2.1, len := e.2.2.length, req := 0,
      module_ := 0, limit := getO s 0x1400 6 } 0 e.2.2) s
  updCmd s id (fun c => { c with effects := keep, result := result, acksDue := parts.length, phase := if parts.isEmpty then .ready else .started, readyAt := ns s })

/-- Effects that need nothing outside: the command commits here where it can. -/
def finish (s : State) (id : Nat) (effects : List Effect) (result : Nat) : State :=
  tryCommit (updCmd s id (fun c => { c with effects := effects, result := result })) id

/-- A command ends well: it commits here, or once every die has taken its bytes. -/
def conclude (s : State) (id : Nat) (c : Cmd) (effects : List Effect) (result : Nat) : State :=
  if effects.any (fun e => match e with | .wr (.lot ..) _ => true | _ => false) then becomeReady s id c effects result
  else finish s id effects result

/-! ### Gathering bytes (R129, R187, R223) -/

/-- What a gathering comes to. -/
inductive Got where
  | bytes (b : Bytes)
  | wait
  | fault (va code level : Nat)
  | stop (code : Nat)
  deriving DecidableEq, Repr

/-- Cut a range at pages and at 4 KiB boundaries. -/
def cut4k (s : State) (p va n : Nat) : List (Nat × Nat) :=
  ((cut s p va n).map (fun e =>
    (List.range ((e.1 + e.2 - 1) / 4096 - e.1 / 4096 + 1)).map (fun i =>
      let a := max e.1 ((e.1 / 4096 + i) * 4096)
      (a, min (e.1 + e.2) ((e.1 / 4096 + i + 1) * 4096) - a)))).flatten

/-- Ask for an ATS translation (R185). -/
def askAts (s : State) (id p b : Nat) : State × Got :=
  if s.host.ats.any (fun a => a.2.p = p && !a.2.done && a.2.base = b) then (s, .wait)
  else if !hostOpen s p then (s, .stop 0x0401)
  else (emit { s with host.ats := s.host.ats ++ [(s.host.nextAts, { p := p, base := b, size := 4096, cmd := some id })],
                      host.nextAts := s.host.nextAts + 1 } (.ats p s.host.nextAts b), .wait)

/-- One piece: rick bytes that nobody holds are read at once; host and die bytes are asked for and waited for; a missing
ATS translation is asked for (R185). -/
def gatherPiece (id : Nat) (acc : State × Got) (e : Nat × Nat) : State × Got :=
  let (s, got) := acc
  match got, cmdOf s id with
  | .fault .., _ => acc
  | .stop _, _ => acc
  | _, none => acc
  | _, some c =>
    let add := fun (s : State) (b : Bytes) => match got with | .bytes x => (s, .bytes (x ++ b)) | g => (s, g)
    match c.ext.find? (fun x => x.1 = e.1 && x.2.length = e.2) with
    | some x => add s x.2
    | none =>
      if c.asked.contains e.1 then (s, .wait)
      else match access s c.p e.1 e.2 false with
        | .fault code l => (s, if code = 0x0405 then .stop code else .fault e.1 code l)
        | .needAts b => askAts s id c.p b
        | .at_ pl => match pl with
          | .rick a _ => match placeHeld s id pl e.2 with
            | some _ => (updCmd s id (fun c => { c with heldAt := some (a, e.2) }), .wait)
            | none => add (charge s c.p 4 e.2) (readPlace s c.p pl e.2)
          | .host a =>
            if !hostOpen s c.p then (s, .stop 0x0401)
            else if confidential s c.p && (chunkAt s c.p a e.2).isNone then (refuse s c.p 0x0407 [a], .stop 0x0407)
            else
              let o : HostOut := { p := c.p, ctx := c.ctx, epoch := c.epoch, cmd := id, req := e.1, addr := a, len := e.2,
                                   limit := getO s 0x1500 4, chunk := if confidential s c.p then chunkAt s c.p a e.2 else none }
              (updCmd (issueHost s o) id (fun c => { c with asked := c.asked ++ [e.1] }), .wait)
          | .lot lot off =>
            let o : TpOut := { p := c.p, ctx := c.ctx, epoch := c.epoch, kind := 1, cmd := id, lot := lot, off := off,
                               len := e.2, req := e.1, module_ := 0, limit := getO s 0x1400 6 }
            (updCmd (issueTp s o 0 []) id (fun c => { c with asked := c.asked ++ [e.1] }), .wait)
          | .far .. => add (fresh1 s) (freeBytes s e.2)

/-- Gather [va, va + n) for a command. -/
def gather (s : State) (id p va n : Nat) : State × Got := (cut4k s p va n).foldl (gatherPiece id) (s, .bytes [])

/-- Gather, then go on with the bytes; a fault parks, a stop finishes the command, a wait leaves it (log 14). -/
def withBytes (s : State) (id : Nat) (c : Cmd) (va n : Nat) (f : State → Bytes → State) : State :=
  match gather s id c.p va n with
  | (s, .bytes b) => f s b
  | (s, .wait) => s
  | (s, .fault va code level) => park s c va level false code true
  | (s, .stop code) => failCmd s id code

/-- The places of a local destination; a fault parks, a refused host range finishes the command (R201, R203). -/
def withDest (s : State) (id : Nat) (c : Cmd) (va n : Nat) (f : State → List (Place × Nat) → State) : State :=
  match accessAll s c.p va n true with
  | .error (.fault code level) => if code = 0x0405 then failCmd s id code else park s c va level true code true
  | .error (.needAts b) => (match askAts s id c.p b with
    | (s, .stop code) => failCmd s id code
    | (s, _) => s)
  | .error (.at_ _) => s
  | .ok pls =>
    let host := pls.filterMap (fun e => match e.1 with | .host a => some (a, e.2) | _ => none)
    if host.isEmpty then f s pls
    else if !hostOpen s c.p then failCmd s id 0x0401
    else if confidential s c.p && host.any (fun e => (chunkAt s c.p e.1 e.2).isNone) then
      failCmd (refuse s c.p 0x0407 [va]) id 0x0407
    else if confidential s c.p && 2 ^ 64 ≤ (pad s c.p).bounceTx + host.length then failCmd s id 0x040C
    else f s pls

/-- Effects that write bytes over places. -/
def writeEffects (pls : List (Place × Nat)) (bs : Bytes) : List Effect :=
  (pls.foldl (fun (acc : List Effect × Bytes) e => (acc.1 ++ [.wr e.1 (acc.2.take e.2)], acc.2.drop e.2)) ([], bs)).1

/-- Selectors in LOAD that places are written through (R507). -/
def selectorsOf (pls : List (Place × Nat)) : List Nat :=
  pls.filterMap (fun e => match e.1 with | .rick _ sel => if sel = 0 then none else some sel | _ => none)

/-- Hold a command's destination from its start (R129). -/
def holdDest (s : State) (id : Nat) (pls : List (Place × Nat)) : State :=
  updCmd s id (fun c => { c with holds := c.holds ++ (rickParts pls).filter (fun h => !c.holds.contains h),
                                 usesSelW := c.usesSelW ++ (selectorsOf pls).filter (fun k => !c.usesSelW.contains k) })

end Sys2Proof.Machine
end

