-- ==== Sys2Proof/Machine/Spray.lean ====
section
/-! DEFINITION. The sending side of Beluth transport: messages, packets, paths and their rates, the retransmit buffer,
residency of queue pairs (R207 to R219, R230 to R232, R237, R256). -/

namespace Sys2Proof.Machine
open Sys2Proof

/-- The paddock of a QPN. -/
def qpPad (qpn : Nat) : Nat := qpn / 2 ^ 18

/-! ### Residency (R214, R215) -/

/-- A QP is idle: no unacknowledged packet, no open message, no waiting command. -/
def qpIdle (s : State) (qpn : Nat) (q : Qp) : Bool :=
  q.paths.all (fun p => p.unacked.isEmpty) && q.tx.isEmpty && q.rx.all (·.aborted) &&
  !s.cmd.live.any (fun e => e.2.p = qpPad qpn && bits (dArg e.2.desc 3) 23 0 = qpn && 0x20 ≤ dOpcode e.2.desc && dOpcode e.2.desc ≤ 0x51)

/-- Resident QPs of a paddock. -/
def residents (s : State) (p : Nat) : List (Nat × Qp) := s.net.qps.filter (fun e => qpPad e.1 = p && e.2.resident)

/-- Make a QP resident, evicting the least recently used idle one of its paddock to its backing entry, whose layout the
manual does not give (log 18); none where there is no room. -/
def admitQp (s : State) (qpn : Nat) : Option State :=
  let p := qpPad qpn
  let s := { s with net.useClock := s.net.useClock + 1 }
  let use := fun (s : State) => updQp s qpn (fun q => { q with resident := true, lastUse := s.net.useClock })
  if (qp s qpn).resident then some (use s)
  else
    let rs := residents s p
    let s := bump s p 0x53 7 1
    let s := match accessAll s p (cfgP s p 0x52 6 + 1024 * (qpn % 2 ^ 18)) 1024 false with
      | .error (.fault 0x0A03 _) => strike s p false
      | _ => s
    if rs.length < 64 * (pad s p).qp then some (use s)
    else
      let idle := rs.filter (fun e => qpIdle s e.1 e.2)
      match idle.foldl (fun a e => match a with
        | none => some e
        | some b => if e.2.lastUse < b.2.lastUse then some e else some b) none with
      | none => none
      | some e =>
        let s := updQp s e.1 (fun q => { q with resident := false })
        some (use (match accessAll s p (cfgP s p 0x52 6 + 1024 * (e.1 % 2 ^ 18)) 1024 true with
          | .ok pls => putPlaces (fresh1 s) p pls (freeBytes s 1024)
          | .error _ => s))

/-! ### Packets of a message -/

/-- Cut a run of bytes at 4 KiB pages of its address and at the MTU (R219), with fuel. -/
def cutPackets (mtu : Nat) : Nat → Nat → Bytes → List (Nat × Bytes)
  | 0, _, _ => []
  | _ + 1, _, [] => []
  | fuel + 1, va, bs =>
    let n := min mtu (4096 - va % 4096)
    (va, bs.take n) :: cutPackets mtu fuel (va + n) (bs.drop n)

/-- The commit summary (R219). -/
def summaryOf (m : TxMsg) : Bytes :=
  let mask := m.entries.foldl (fun a e => join a (2 ^ e.1)) 0
  beBytes 24 (pack [(64, m.bytes), (32, m.cid), (32, m.imm), (16, mask), (1, b2n m.recv), (1, b2n m.replaces.isSome),
    (12, m.replaces.getD 0), (34, 0)])

/-- The path entries of a message, in ascending path order. -/
def entriesOf (m : TxMsg) : Bytes :=
  ((List.range 16).map (fun p => match m.entries.find? (fun e => e.1 = p) with
    | some (_, first, count) => beBytes 8 (pack [(32, first), (32, count)])
    | none => [])).flatten

/-- Summary and entries. -/
def tailOf (m : TxMsg) : Bytes := summaryOf m ++ entriesOf m

/-- Count a packet sent on a path in a message. -/
def addEntry (m : TxMsg) (path psn : Nat) : TxMsg :=
  if m.entries.any (fun e => e.1 = path) then
    { m with entries := m.entries.map (fun e => if e.1 = path then (path, e.2.1, e.2.2 + 1) else e) }
  else { m with entries := m.entries ++ [(path, psn, 1)] }

/-- Does a link carry a path's packets? A LOOPBACK QP uses none. -/
def pathLive (s : State) (q : Qp) (pa : QPath) : Bool :=
  q.type = 2 || (link s pa.link).st = .up || ((link s pa.link).st = .retrain && !(link s pa.link).rebound)

/-- The path whose rate allows the earliest transmission; ties to the lowest number (R230). -/
def pickPath (s : State) (q : Qp) (mask : Nat) : Option Nat :=
  let now : Rat := (ns s : Rat)
  let at_ : Nat → Rat := fun i => match q.paths[i]? with | some pa => max pa.nextTx now | none => now
  ((List.range q.paths.length).filter (fun i => bit mask i && (match q.paths[i]? with | some pa => pathLive s q pa | none => false))).foldl
    (fun a i => match a with | none => some i | some b => if at_ i < at_ b then some i else some b) none

/-- Retransmit buffer bytes a paddock uses, and its size (R210). -/
def buffered (s : State) (p : Nat) : Nat :=
  (s.net.qps.filter (fun e => qpPad e.1 = p)).foldl (fun a e =>
    e.2.paths.foldl (fun a pa => pa.unacked.foldl (fun a u => a + u.2.2.length) a) a) 0
def bufferSize (s : State) (p : Nat) : Nat := 196608 * popCount 256 (pad s p).bundles

/-- The message of a number among a QP's open outbound ones: its own, or a response it serves (kind 5). -/
def txMsg (s : State) (qpn msg : Nat) (resp : Bool) : Option TxMsg :=
  (qp s qpn).tx.find? (fun m => m.msg = msg && (m.kind = 5) = resp)
def updMsg (s : State) (qpn msg : Nat) (resp : Bool) (f : TxMsg → TxMsg) : State :=
  updQp s qpn (fun q => { q with tx := q.tx.map (fun m => if m.msg = msg && (m.kind = 5) = resp then f m else m) })

/-- The member of a group that a COLLECTIVE QP leads to, and the LIMIT it has granted for a path (R410). -/
def limitOf (s : State) (qpn : Nat) (inst : Nat × Nat) (path : Nat) : Nat :=
  match getPair s.sheaf.groups inst.1 with
  | none => 0
  | some g =>
    match g.insts.find? (fun i => i.num = inst.2) with
    | none => 0
    | some i => ((i.limits.find? (fun e => e.1 = qpn % 2 ^ 18 - g.qpBase && e.2.1 = path)).map (·.2.2)).getD g.slots

/-- May the next packet of a message leave under R410? -/
def laneOpen (s : State) (qpn : Nat) (m : TxMsg) : Bool :=
  match m.lanes, m.inst with
  | (path, q) :: _, some i => q < limitOf s qpn i path
  | _, _ => true

/-- The paths that the next packet of a message may take: that of its chunk's home while it carries packets (R410). -/
def laneMask (s : State) (qp : Qp) (m : TxMsg) : Nat :=
  match m.lanes with
  | (path, _) :: _ => (match qp.paths[path]? with
    | some pa => if pathLive s qp pa then 2 ^ path else m.mask
    | none => m.mask)
  | [] => m.mask

/-- Send one data packet of a message on the earliest path: the next PSN, kept until acknowledged, paced (R210, R230).
With last set, it carries the commit. -/
def sendData (s : State) (qpn : Nat) (m : TxMsg) (addr : Nat) (bs : Bytes) (last : Bool) : State :=
  let q := qp s qpn
  match pickPath s q (laneMask s q m) with
  | none => s
  | some i => match q.paths[i]? with
    | none => s
    | some pa =>
      let resp := m.kind = 5
      let m' := { (addEntry m i pa.tx) with todo := m.todo.drop 1, lanes := m.lanes.drop 1, sealed_ := last, sentAt := ns s }
      let payload := if last then bs ++ tailOf m' else bs
      let h := qpHeader s qpn (if resp then 5 else 0) last last i m.epoch m.msg pa.tx addr payload.length
      let cost : Rat := (((60 + payload.length) * 8 : Nat) : Rat) / (if pa.rate ≤ 0 then 1 else pa.rate)
      let s := updMsg s qpn m.msg resp (fun _ => { m' with last := if last then (h, payload) else m'.last })
      let pa' := { pa with tx := (pa.tx + 1) % 2 ^ 32, nextTx := max pa.nextTx (ns s : Rat) + cost,
                           unacked := pa.unacked ++ [(pa.tx, h, payload)] }
      let s := updQp s qpn (fun q => { q with paths := q.paths.set i pa' })
      let s := match m.cmd.bind (cmdOf s) with
        | some c => progress (active (useCtx s c.p c.ctx 2 (60 + payload.length)) c.p c.ctx 1 0) c.p c.ctx
        | none => s
      sendOn s (qpPad qpn) qpn pa.link h payload m.sched

/-- Send the COMMIT packet of a message (R237). -/
def sendCommit (s : State) (qpn : Nat) (m : TxMsg) : State :=
  let q := qp s qpn
  let t := tailOf m
  let i := (pickPath s q m.mask).getD 0
  let h := qpHeader s qpn 1 true false i m.epoch m.msg 0 0 t.length
  let s := updMsg s qpn m.msg (m.kind = 5) (fun m => { m with sealed_ := true, last := (h, t), sentAt := ns s })
  sendOn s (qpPad qpn) qpn ((q.paths[i]?.map (·.link)).getD 0) h t m.sched

/-- Send what a message still has to send, as far as the retransmit buffer allows (R210): data, then the commit. -/
def pumpMsg (qpn msg : Nat) (resp : Bool) : Nat → State → State
  | 0, s => s
  | fuel + 1, s =>
    match txMsg s qpn msg resp with
    | none => s
    | some m =>
      if m.aborting || m.sealed_ || m.kind = 4 || m.kind = 6 then s
      else
        let q := qp s qpn
        let mtu := 2 ^ q.mtu
        match m.todo with
        | [] => if resp then sendData s qpn m 0 [] true else sendCommit s qpn m
        | (a, b) :: rest =>
          if !laneOpen s qpn m || (pickPath s q m.mask).isNone || (0 < buffered s (qpPad qpn) && bufferSize s (qpPad qpn) < buffered s (qpPad qpn) + b.length) then s
          else
            let room := b.length + 24 + 8 * (m.entries.length + 1) ≤ mtu
            let last := rest.isEmpty && room && (resp || m.entries.isEmpty)
            pumpMsg qpn msg resp fuel (sendData s qpn m a b last)

/-- Send what every open message of a QP still has to send. -/
def pump (s : State) (qpn : Nat) : State :=
  (qp s qpn).tx.foldl (fun s m => pumpMsg qpn m.msg (m.kind = 5) (m.todo.length + 2) s) s

/-- The next MSG value that is neither quarantined nor open (R232). -/
def nextMsgOf (q : Qp) : Nat :=
  let own := q.tx.filter (fun m => m.kind ≠ 5)
  let ok := fun m => !q.quar.contains m && !own.any (fun x => x.msg = m)
  (((List.range (q.quar.length + own.length + 1)).map (fun k => (q.nextMsg + k) % 4096)).find? ok).getD q.nextMsg

/-- At most 64 open outbound messages (R232). -/
def msgRoom (q : Qp) : Bool := (q.tx.filter (fun m => m.kind ≠ 5)).length < 64

/-- Open a message on a QP: DATA (0), READ_REQ (4) or ATOMIC_REQ (6). -/
def openMsg (s : State) (qpn : Nat) (m : TxMsg) : State :=
  updQp s qpn (fun q => { q with nextMsg := (m.msg + 1) % 4096, tx := q.tx ++ [{ m with sentAt := ns s }] })

/-- Enter DRAINED once no message is open (R216). -/
def drainCheck (s : State) (qpn : Nat) : State :=
  if (qp s qpn).draining && (qp s qpn).tx.isEmpty && (qp s qpn).rx.all (·.aborted) then
    updQp s qpn (fun q => { q with st := 4, draining := false })
  else s

/-- A message ends: its packets leave the retransmit buffer and its number is quarantined (R210, R232). -/
def endMsg (s : State) (qpn msg : Nat) (resp : Bool) : State :=
  let s := updQp s qpn (fun q => { q with
    tx := q.tx.filter (fun m => !(m.msg = msg && (m.kind = 5) = resp)),
    paths := q.paths.map (fun pa => { pa with unacked := pa.unacked.filter (fun u => !(bMsg u.2.1 = msg && (bType u.2.1 = 5) = resp)) }),
    quar := if resp then q.quar else msg :: q.quar.filter (· ≠ msg) })
  drainCheck s qpn

/-- A QP enters ERROR: it carries nothing more, and the numbers of its messages are quarantined (R216, R232). -/
def qpDead (s : State) (qpn code : Nat) : State :=
  updQp s qpn (fun q => { q with
    st := 3, draining := false, lastErr := code, tx := [],
    quar := (q.tx.filter (fun m => m.kind ≠ 5)).map (·.msg) ++ q.quar,
    paths := q.paths.map (fun pa => { pa with unacked := [] }) })

/-- The QPs of a paddock that enters FAULTED (R216). -/
def faultQps (s : State) (p code : Nat) : State :=
  (s.net.qps.filter (fun e => qpPad e.1 = p && (e.2.st = 1 || e.2.st = 2 || e.2.st = 4))).foldl (fun s e => qpDead s e.1 code) s

/-- The request packet of a READ or ATOMIC, kept until it is answered. -/
def sendRequest (s : State) (qpn type : Nat) (m : TxMsg) (addr : Nat) (payload : Bytes) : State :=
  let q := qp s qpn
  let i := (pickPath s q m.mask).getD 0
  let h := qpHeader s qpn type (type = 6) false i m.epoch m.msg 0 addr payload.length
  let s := openMsg s qpn { m with kind := type, last := (h, payload), sealed_ := true }
  sendOn s (qpPad qpn) qpn ((q.paths[i]?.map (·.link)).getD 0) h payload false

/-- Count a small operation on the engine of a thread (R209). -/
def smallOp (s : State) (thread : Nat) : State :=
  let e := thread / 256
  setO s 0x2302 (e + 1) ((getO s 0x2302 (e + 1) + 2 ^ 128) % 2 ^ 256)

/-- The engine of a QP's resident slot counts an inbound packet (R209): the engine of the paddock's first bundle. -/
def inboundPacket (s : State) (p : Nat) : State :=
  let e := ((setBits 256 (pad s p).bundles)[0]?.getD 0) / 16
  setO s 0x2302 (e + 1) ((getO s 0x2302 (e + 1) + 2 ^ 64) % 2 ^ 256)

/-! ### Threads (R207, R208) -/

/-- Threads that a paddock's commands hold. -/
def usedThreads (s : State) (p : Nat) : List Nat :=
  ((s.cmd.live.filter (fun e => e.2.p = p)).map (fun e => e.2.thread :: e.2.threads)).flatten

/-- Free threads of a paddock's bundles, ascending. -/
def freeThreads (s : State) (p : Nat) : List Nat :=
  let used := usedThreads s p
  (((setBits 256 (pad s p).bundles).map (fun b => (List.range 16).map (fun i => 16 * b + i))).flatten).filter (fun t => !used.contains t)

/-- Take threads for the segments of a long command; false while none is free (R208). -/
def takeSegments (s : State) (id : Nat) (c : Cmd) (len : Nat) : State × Bool :=
  if len ≤ 262144 || !c.threads.isEmpty then (s, true)
  else match (freeThreads s c.p).take (ceilDiv len 262144) with
    | [] => (s, false)
    | ts => (updCmd s id (fun c => { c with threads := ts }), true)

end Sys2Proof.Machine
end

