-- ==== Sys2Proof/Machine/Transform.lean ====
section
/-! DEFINITION. Transform slots and receive bindings: their checks and the transform of one row (R361 to R367, R381). -/

namespace Sys2Proof.Machine
open Sys2Proof

/-! ### Transform slot, 64 bytes -/
def slValid (x : Nat) : Bool := bit x 511
def slKind (x : Nat) : Nat := bits x 510 508
def slIn (x : Nat) : Nat := bits x 507 503
def slW (x : Nat) : Nat := bits x 502 498
def slOut (x : Nat) : Nat := bits x 497 493
def slInCols (x : Nat) : Nat := bits x 479 464
def slOutCols (x : Nat) : Nat := bits x 463 448
def slBase (x : Nat) : Nat := bits x 447 384
def slRounding (x : Nat) : Rounding :=
  { mode := bits x 492 490, sat := bit x 489, seed := bits x 383 320, stream := bits x 319 288 }
/-- IN_ROW_BYTES and OUT_ROW_BYTES. -/
def slInBytes (x : Nat) : Nat := rowBytes (slIn x) (slInCols x)
def slOutBytes (x : Nat) : Nat := rowBytes (slOut x) (slOutCols x)

/-- May a CONVERT read, and write, this format (R311, R345)? -/
def convertIn (f : Nat) : Bool := f ≤ 0x11 && f ≠ 0x02 && f ≠ 0x0D
def convertOut (f : Nat) : Bool := f ≤ 0x11 && f ≠ 0x0D

/-- Does a slot in use break its table (R361, R362)? -/
def slotBad (x : Nat) : Bool :=
  let mxBad := fun f c => isMx f && c % 32 ≠ 0
  bits x 488 480 ≠ 0 || bits x 287 0 ≠ 0 || 4 < bits x 492 490 || slInCols x = 0 || slOutCols x = 0 ||
  slInBytes x = 0 || 4096 < slInBytes x || slOutBytes x = 0 || 4096 < slOutBytes x ||
  mxBad (slIn x) (slInCols x) || mxBad (slOut x) (slOutCols x) ||
  (match slKind x with
   | 1 => !mmaFormats (slIn x) (slW x) (slOut x) none || vaEnd ≤ slBase x
   | 2 => !convertIn (slIn x) || !convertOut (slOut x) || slInCols x ≠ slOutCols x || slW x ≠ 0
   | _ => true)

/-- Transform slot k of paddock p; none where it is empty or breaks its table (R364). -/
def xfSlot (s : State) (p k : Nat) : Option Nat :=
  let x := getP s p 0x61 (k + 1)
  if slValid x && !slotBad x then some x else none

/-- Does a write of a receive binding break its table (R365, R381)? -/
def bindingBad (p x : Nat) : Bool :=
  qpPad (bits x 255 232) ≠ p || bits x 227 224 ≠ 0 || bits x 63 0 ≠ 0 || vaEnd ≤ bits x 127 64

/-- Tussocks a paddock may work on: held and not retired (R337, R359). -/
def usable (s : State) (p : Nat) : Nat := less (pad s p).tussocks s.sward.tussockRetired

/-- The code with which a Sward operation finishes for want of a tussock; 0 where it may run (R337, R360). -/
def noTussock (s : State) (p : Nat) : Nat :=
  if (pad s p).tussocks = 0 then 0x0811 else if usable s p = 0 then 0x0806 else 0

/-- The tussock cycles of one page or transform row: the manual counts them and states no number (R474, log 17). -/
def meterFreeCycles (s : State) (p : Nat) : State :=
  meter (fresh1 s) p 1 (Config.freeChoice s.fresh)

/-- Count elements written as NaN and saturated (+0x60.01, +0x60.02). -/
def countArith (s : State) (p : Nat) (c : Nat × Nat) : State :=
  addO (addO s (pidx p 0x60) 1 c.1 64) (pidx p 0x60) 2 c.2 64

/-- Columns of W of a PROJECT slot from its bytes. -/
def wColumns (x : Nat) (w : Bytes) : List (List Num) :=
  (List.range (slOutCols x)).map (fun j =>
    (List.range (slInCols x)).map (fun k => decodeNum (slW x) (elemOf (slW x) w (k * slOutCols x + j))))

/-- Bytes of W. -/
def wBytes (x : Nat) : Nat := packedBytes (slW x) (slInCols x * slOutCols x)

/-- The values of output row i, and the status that arises before the rounding (R362). -/
def rowNums (x : Nat) (w : Bytes) (row : Bytes) : List Num × Nat :=
  let xs := rowValues (slIn x) (slInCols x) row
  let st := rowScaleNan (slIn x) (slInCols x) row
  if slKind x = 2 then (xs, st)
  else
    let rs := (wColumns x w).map (fun col => dot (fmtClass (slIn x)) xs col none (bits x 492 490 = 3))
    (rs.map (·.1), rs.foldl (fun a r => join a r.2) st)

/-- Transform row i: the output row and its status. A PROJECT with an MX W gives free bytes: the manual does not say where
the scales of W lie (log 16). -/
def rowTransform (s : State) (p x i : Nat) (w row : Bytes) : State × Bytes × Nat :=
  let s := meterFreeCycles s p
  if slKind x = 1 && isMx (slW x) then (fresh1 s, freeBytes s (slOutBytes x), 0)
  else
    let (xs, st) := rowNums x w row
    let (bs, st') := codeRow (slOut x) (slRounding x) i xs
    (countArith s p (rowCounts (slOut x) (slRounding x) i xs), bs, join st st')

/-- Transform whole rows, numbered from i0. -/
def rowsTransform (s : State) (p x i0 : Nat) (w bs : Bytes) : State × Bytes × Nat :=
  let n := slInBytes x
  (chunksOf n (bs.length + 1) bs).zipIdx.foldl (fun (acc : State × Bytes × Nat) r =>
    let (s, out, st) := rowTransform acc.1 p x (i0 + r.2) w r.1
    (s, acc.2.1 ++ out, join acc.2.2 st)) (s, [], 0)

/-! ### Receive bindings -/

/-- The binding of paddock p that a packet's address falls in: row, slot number, slot (R365). -/
def bindingFor (s : State) (p qpn addr : Nat) : Option (Nat × Nat) :=
  ((List.range (getP s p 0x62 0)).map (fun k => (k, getP s p 0x62 (k + 1)))).find? (fun e =>
    let x := e.2
    let n := slInBytes (getP s p 0x61 (bits x 231 228 + 1))
    bits x 255 232 = qpn && bits x 191 128 ≤ addr && addr < bits x 191 128 + bits x 223 192 * n)

/-- Copies of the slots of every binding of a QP, taken when a message begins: row and slot (R363). -/
def copySlots (s : State) (p qpn : Nat) : List (Nat × Nat) :=
  ((List.range (getP s p 0x62 0)).filter (fun k => bits (getP s p 0x62 (k + 1)) 255 232 = qpn)).map (fun k =>
    (k, getP s p 0x61 (bits (getP s p 0x62 (k + 1)) 231 228 + 1)))

end Sys2Proof.Machine
end

