-- ==== Sys2Proof/Machine/Groups.lean ====
section
/-! DEFINITION. Groups and the arguments of collective commands: their checks, the choice of algorithm, and the instance
number that a command takes at its fetch (R384, R388, R393 to R408). -/

namespace Sys2Proof.Machine
open Sys2Proof

/-! ### ARG4 of a collective -/
def cIn (d : Nat) : Nat := bits (dArg d 4) 4 0
def cOut (d : Nat) : Nat := bits (dArg d 4) 9 5
def cMode (d : Nat) : Nat := bits (dArg d 4) 12 10
def cSat (d : Nat) : Bool := bit (dArg d 4) 13
def cOp (d : Nat) : Nat := bits (dArg d 4) 15 14
def cAlgo (d : Nat) : Nat := bits (dArg d 4) 18 16
def cSched (d : Nat) : Bool := bit (dArg d 4) 19
def cRoot (d : Nat) : Nat := bits (dArg d 4) 31 20

/-- Is the opcode one that takes an instance of a group (R402)? -/
def isColl (op : Nat) : Bool := (0x80 ≤ op && op ≤ 0x85) || op = 0x60

/-- The group number that a command names. -/
def groupNamed (d : Nat) : Nat := if dOpcode d = 0x60 then dArg d 1 else dArg d 3

/-- The key of a paddock's group. -/
def groupKey (p g : Nat) : Nat := 64 * p + g

/-- The group that a command names. -/
def groupFor (s : State) (p d : Nat) : Option Group :=
  if 64 ≤ groupNamed d then none else getPair s.sheaf.groups (groupKey p (groupNamed d))

/-- Members of a group. -/
def Group.size (g : Group) : Nat := g.members.length

/-- X, Y, Z of a box (R395). -/
def Group.sides (g : Group) : Nat × Nat × Nat := (bits g.box 11 8 + 1, bits g.box 7 4 + 1, bits g.box 3 0 + 1)

/-- Formats that the Sheaf reduces (*Accumulator classes*). -/
def reducible (f : Nat) : Bool := f = 1 || f = 2 || f = 6 || f = 7 || (0x0E ≤ f && f ≤ 0x11)

/-- May an operator have these formats (*Reduction operators*)? -/
def reduceFormats (op fin fout : Nat) : Bool :=
  reducible fin &&
  (match op with
   | 0 => fout = 6 || fout = 7 || (0x0E ≤ fout && fout ≤ 0x11) || (isInt fin && fout = 2)
   | 1 => fout = fin
   | 2 => fout = fin
   | _ => false)

/-- Does a collective have a non-zero field that the table does not name (R401)? -/
def collReserved (d : Nat) : Bool :=
  let a := dArg d
  let low := fun mask => less (a 4) mask ≠ 0
  match dOpcode d with
  | 0x80 => 64 ≤ a 3 || 2 ^ 20 ≤ a 4
  | 0x81 => 64 ≤ a 3 || 2 ^ 32 ≤ a 4
  | 0x82 => 64 ≤ a 3 || 2 ^ 20 ≤ a 4
  | 0x83 => 64 ≤ a 3 || low 0xF0000 || a 5 ≠ 0
  | 0x84 => 64 ≤ a 3 || low 0xFFFF0000 || a 5 ≠ 0
  | 0x85 => a 0 ≠ 0 || a 1 ≠ 0 || a 2 ≠ 0 || 64 ≤ a 3 || low 0xF0000 || a 5 ≠ 0
  | _ => 2 ≤ a 0 || 2 ^ 32 ≤ a 1 || a 2 ≠ 0 || a 3 ≠ 0 || a 4 ≠ 0 || a 5 ≠ 0

/-- Does an operator, format, root or length break its rule (R388, R401)? -/
def collArgBad (g : Group) (d : Nat) : Bool :=
  let op := dOpcode d
  let len := dArg d 1
  let reduces := op = 0x80 || op = 0x81 || op = 0x82
  (op ≠ 0x85 && op ≠ 0x60 && (len = 0 || 2 ^ 32 ≤ len)) ||
  (reduces && (!reduceFormats (cOp d) (cIn d) (cOut d) || 4 < cMode d || len % (fmtBits (cIn d) / 8) ≠ 0)) ||
  ((op = 0x81 || op = 0x84) && g.size ≤ cRoot d)

/-- The algorithm of a command (R408): 1 DIRECT, 2 RING, 3 TREE, 4 TORUS. -/
def algoFor (g : Group) (algo len : Nat) : Nat :=
  if algo ≠ 0 then algo
  else if g.size ≤ 64 then 1 else if len ≤ 65536 then 3 else if g.box ≠ 0 then 4 else 2

/-- The code with which a collective finishes at its fetch; 0 where it takes an instance (R398, R401, R402, R408). -/
def collStatus (s : State) (p q d : Nat) : Nat :=
  if collReserved d then 0x0301
  else match groupFor s p d with
  | none => 0x0902
  | some g =>
    if collArgBad g d then 0x0907
    else if dOpcode d ≠ 0x60 && (4 < cAlgo d || (cAlgo d = 4 && g.box = 0)) then 0x090B
    else if g.insts.any (fun i => i.cmd.isSome) && g.queue ≠ some q then 0x090A
    else if 2 ^ 32 ≤ g.nextInst then 0x090D
    else 0

/-- Change a group. -/
def updGroup (s : State) (key : Nat) (f : Group → Group) : State :=
  { s with sheaf.groups := s.sheaf.groups.map (fun e => if e.1 = key then (key, f e.2) else e) }

/-- Change an instance of a group. -/
def updInst (s : State) (key n : Nat) (f : Inst → Inst) : State :=
  updGroup s key (fun g => { g with insts := g.insts.map (fun i => if i.num = n then f i else i) })

/-- The oldest instance that has not ended (R397). -/
def oldestInst (g : Group) : Nat :=
  g.insts.foldl (fun a i => if i.num < a then i.num else a) g.nextInst

/-- An instance ends at this member (R396). -/
def closeInst (s : State) (key n : Nat) : State :=
  updGroup s key (fun g =>
    let g := { g with insts := g.insts.filter (fun i => i.num ≠ n) }
    { g with ended := oldestInst g })

/-- A fetched collective takes its group's next instance number (R402); a rerun keeps the one it has. Answers the
instance, or the code with which the command finishes. -/
def collFetch (s : State) (id p q d : Nat) : State × Option (Nat × Nat) × Nat :=
  if !isColl (dOpcode d) then (s, none, 0)
  else if collStatus s p q d ≠ 0 then (s, none, collStatus s p q d)
  else match groupFor s p d with
  | none => (s, none, 0)
  | some g =>
    let n := g.nextInst
    let gn := groupNamed d
    let s := updGroup s (groupKey p gn) (fun g => { g with
      nextInst := n + 1, queue := some q,
      insts := if g.insts.any (fun i => i.num = n) then g.insts.map (fun i => if i.num = n then { i with cmd := some id, desc := d } else i)
               else g.insts ++ [{ num := n, cmd := some id, desc := d }] })
    (s, some (gn, n), 0)

end Sys2Proof.Machine
end

