-- ==== Sys2Proof/Machine/Inbound.lean ====
section
/-! DEFINITION. Accesses that come from outside: the receive check of a Beluth packet, NAKs, and the serving of reads and
atomics once nothing holds their bytes (R56 to R58, R129, R169, R218, R223 to R228, R233, R234). -/

namespace Sys2Proof.Machine
open Sys2Proof

/-- The paddock in OPEN or DRAINING that a tenant tag matches (R56). -/
def padByTag (s : State) (tag : Nat) : Option Nat :=
  (s.pads.find? (fun e => (e.2.state = .opened || e.2.state = .draining) && e.2.tag = tag && tag ≠ 0)).map (·.1)

/-- Drop a packet that matches no paddock or breaks its format (R58, R218). -/
def dropUnmatched (s : State) : State := addO s 0x1600 0x11 1 64

/-- The island of a port: LNK0 to LNK15, PAIR. -/
def portIsland (on : Port) : Nat := match on with | none => 6 | some l => if l.val < 64 then 23 + l.val / 4 else 10

/-- NAK payload (R239). -/
def nakPayload (status : Nat) (ranges : List (Nat × Nat × Nat)) : Bytes :=
  let rs := ranges.take 255
  beBytes 8 (pack [(16, status), (16, rs.length), (32, 0)]) ++
  (rs.map (fun r => beBytes 8 (pack [(32, r.2.1), (4, r.1), (28, r.2.2)]))).flatten

/-- Answer a packet with a NAK on the link it came by. -/
def sendNak (s : State) (on : Port) (p h status : Nat) (ranges : List (Nat × Nat × Nat)) : State :=
  let payload := nakPayload status ranges
  let hdr := beluth 3 false false false (bSrc h) (nodeId s) (bTag h) (bSrcQp h) (bDstQp h) (bPath h) (bEpoch h) (bMsg h) 0 0
    payload.length (ns s)
  sendOn s p (bDstQp h) ((on.map (·.val)).getD 0) hdr payload false

/-- A reply of a QP to the sender of a packet, echoing path, epoch and MSG. -/
def sendBack (s : State) (on : Port) (qpn type h psn : Nat) (payload : Bytes) : State :=
  let order := type = 1 || type = 6 || type = 8 || type = 11
  let hdr := beluth type order false false (bSrc h) (nodeId s) (bTag h) (bSrcQp h) (bDstQp h) (bPath h) (bEpoch h) (bMsg h) psn 0
    payload.length (ns s)
  sendOn s (qpPad qpn) qpn ((on.map (·.val)).getD 0) hdr payload false

/-- Is the packet well formed, and does its integrity tag check (R218)? -/
def packetOk (s : State) (on : Port) (pkt : Packet) : Bool :=
  let h := pkt.hdr.toNat
  bits h 255 252 = 1 && bType h ≤ 12 && !bit h 244 && bits h 3 0 = 0 && bLen h = pkt.payload.length && bLen h ≤ 4096 &&
  (match on with | none => pkt.intact | some _ => keyOpens s (Tbl.get s.net.linkKeys (bTag h)) pkt)

/-- Packet types that a refusal answers with a NAK. -/
def nakable (t : Nat) : Bool := t = 0 || t = 1 || t = 4 || t = 6

/-- A pair port that is UP. -/
def pairPort (s : State) : Option Nat := [64, 65, 66, 67].find? (fun l => (link s l).st = .up)

/-- A packet for the other half of the unit is forwarded unchanged; with no pair port UP it is dropped (R570, R571). -/
def forwardOther (s : State) (pkt : Packet) : State :=
  let h := pkt.hdr.toNat
  match pairPort s with
  | none => dropUnmatched s
  | some l =>
    let n := 48 + pkt.payload.length
    let s := addO s 0x2000 6 n 64
    let s := match padByTag s (bTag h) with | some p => meter s p 5 n | none => s
    toLink s l (vcOf (bType h)) (poolFor s l (bTag h)) ((padByTag s (bTag h)).getD 0) pkt

/-- Does a packet name the other half of the unit? -/
def forOther (s : State) (pkt : Packet) : Bool :=
  let d := bDst pkt.hdr.toNat
  paired s && d % 4096 = cfg s 0x1700 1 && (4096 ≤ d) ≠ secondHalf s

/-- The receive check of a packet of a type: the state after the drop or answer, or the paddock and the QPN to go on with
(R56, R58, R218, R233, R234, R280). -/
def receive (s : State) (on : Port) (pkt : Packet) (type : Nat) : State × Option (Nat × Nat) :=
  let h := pkt.hdr.toNat
  let s := if on.isNone then { s with net.loop := s.net.loop.erase pkt } else s
  if islandOut s (portIsland on) then (discard s (portIsland on), none)
  else if on.isSome && forOther s pkt then (forwardOther s pkt, none)
  else if trnOut s then (discard s 6, none)
  else if !packetOk s on pkt || bType h ≠ type || (on.isSome && bDst h ≠ nodeId s) then (dropUnmatched s, none)
  else match padByTag s (bTag h) with
  | none => (dropUnmatched s, none)
  | some p =>
    let qpn := bDstQp h
    if gated s p then (discard s (portIsland on), none)
    else if qpPad qpn ≠ p then
      let s := refuse s p 0x020B [qpn]
      (if nakable type then sendNak s on p h 0x020B [] else s, none)
    else
      match Tbl.find s.net.qps qpn with
      | none => (if nakable type then sendNak s on p h 0x060E [] else stale s p, none)
      | some q =>
        if (q.st = 2 || q.st = 4) && q.peer = bSrcQp h && (q.type = 2 || q.node = bSrc h) then
          match admitQp s qpn with
          | none => (bump s p 0x53 5 1, none)
          | some s => (inboundPacket s p, some (p, qpn))
        else (if nakable type then sendNak s on p h 0x060E [] else bump s p 0x53 4 1, none)

/-! ### Work that waits for bytes -/

/-- Begin an inbound access that gathers bytes for paddock p. -/
def beginInner (s : State) (p : Nat) (i : Instr) : State :=
  let id := s.cmd.nextCmd
  let c : Cmd := { p := p, q := 64, entry := 0, desc := 0, ctx := 4096, epoch := 0, order := id, phase := .started, inner := true }
  { s with cmd.live := Tbl.set s.cmd.live id c, cmd.nextCmd := id + 1, cmd.heldReads := s.cmd.heldReads ++ [(id, i)] }

/-- End it. -/
def endInner (s : State) (id : Nat) : State :=
  let s := detachCmd s id
  { s with cmd.live := Tbl.erase s.cmd.live id, cmd.heldReads := s.cmd.heldReads.filter (fun e => e.1 ≠ id) }

/-- Is a packet's sender still connected, so that an answer may go? -/
def stillReady (s : State) (qpn : Nat) : Bool :=
  match Tbl.find s.net.qps qpn with | some q => q.st = 2 || q.st = 4 | none => false

/-- Refuse an inbound access with a fault of the recording class (R223, R224, *Fault classes*). -/
def faultInbound (s : State) (on : Port) (p h va code level src : Nat) (w : Bool) : State :=
  sendNak (recFault s p va level w src code 0 (bSrc h) 0 0 0) on p h code []

/-- Serve a READ_REQ: the data as one response message that ends with COMMIT and ORDER (R223, R237). -/
def serveReadReq (s : State) (id : Nat) (on : Port) (pkt : Packet) : State :=
  let h := pkt.hdr.toNat
  let qpn := bDstQp h
  let p := qpPad qpn
  let body := beNat pkt.payload
  let len := bits body 127 64
  if !stillReady s qpn then endInner s id
  else match cmdOf s id with
  | none => s
  | some c =>
    if c.status ≠ 0 then sendNak (endInner s id) on p h c.status []
    else match gather s id p (bAddr h) len with
    | (s, .wait) => s
    | (s, .fault va code level) => faultInbound (endInner s id) on p h va code level 2 false
    | (s, .stop code) => sendNak (endInner s id) on p h code []
    | (s, .bytes b) =>
      let s := endInner s id
      let q := qp s qpn
      let m : TxMsg := { msg := bMsg h, epoch := bEpoch h, cmd := none, kind := 5, entries := [], last := (0, []), bytes := len,
                         todo := cutPackets (2 ^ q.mtu) (len + 1) (bAddr h) b, mask := bits body 63 48, sentAt := ns s }
      pump (updQp s qpn (fun q => { q with tx := q.tx ++ [m] })) qpn

/-- One atomic entry: the new value. -/
def atomicNew (old e : Nat) : Nat :=
  let v := bits e 191 128
  match bits e 63 56 with
  | 1 => (old + v) % 2 ^ 64
  | 2 => if old = bits e 127 64 then v else old
  | 3 => v
  | 4 => meet old v
  | _ => join old v

/-- The places of an atomic's entries; none where an entry fails R226. -/
def atomicPlaces (s : State) (p : Nat) (es : List Nat) : Option (List (Nat × Place)) :=
  es.foldl (fun acc e => match acc with
    | none => none
    | some l =>
      let a := bits e 255 192
      let op := bits e 63 56
      if a % 8 ≠ 0 || vaEnd ≤ a || op = 0 || 5 < op || bits e 55 0 ≠ 0 then none
      else match access s p a 8 false, access s p a 8 true with
        | .at_ (.rick x sel), .at_ (.rick ..) => some (l ++ [(e, .rick x sel)])
        | _, _ => none) (some [])

/-- Perform an ATOMIC_REQ as one unit and answer it; it waits while its bytes are held; a refusal performs none of the
entries (R225 to R228). -/
def serveAtomic (s : State) (id : Nat) (on : Port) (pkt : Packet) : State :=
  let h := pkt.hdr.toNat
  let qpn := bDstQp h
  let p := qpPad qpn
  if !stillReady s qpn then endInner s id
  else
    let es := (chunksOf 32 64 pkt.payload).map beNat
    match atomicPlaces s p es with
    | none => sendNak (endInner s id) on p h 0x0608 []
    | some pls =>
      if pls.any (fun e => (placeHeld s id e.2 8).isSome) then s
      else
        let s := endInner s id
        let (s, olds) := pls.foldl (fun (acc : State × Bytes) e =>
          let old := beNat (readPlace acc.1 p e.2 8)
          (putPlace acc.1 p e.2 (beBytes 8 (atomicNew old e.1)), acc.2 ++ beBytes 8 old)) (s, [])
        let s := updQp s qpn (fun q => { q with kept := ((bMsg h, olds) :: q.kept).take 16 })
        sendBack s on qpn 7 h 0 olds

/-- Answer a die's READ with READ_DATA (R155, R169). -/
def tpAnswer (s : State) (m h kind status : Nat) (data : Bytes) : State :=
  sendTp s m (bits h 251 246) (tpHeader kind (bits h 251 246) (bits h 239 224) (bits h 223 216) (bits h 215 204)
    (if kind = 3 then ceilDiv data.length 256 else 0) (if kind = 3 then data.length else bits h 191 176) (bits h 175 144) (bits h 143 80) status 0) data

/-- Serve a die's READ. -/
def serveTpRead (s : State) (id m h : Nat) : State :=
  let p := bits h 251 246
  match cmdOf s id with
  | none => s
  | some c =>
    if c.status ≠ 0 then tpAnswer (endInner s id) m h 3 c.status []
    else match gather s id p (bits h 143 80) (bits h 191 176) with
    | (s, .wait) => s
    | (s, .fault va code level) => tpAnswer (recFault (endInner s id) p va level false 3 code 0 0 0 0 0) m h 3 code []
    | (s, .stop code) => tpAnswer (endInner s id) m h 3 code []
    | (s, .bytes b) => tpAnswer (endInner s id) m h 3 0 b

/-- Serve a die's WRITE; a page that wants an ATS translation waits for it (R169, R185). -/
def serveTpWrite (s : State) (id m h : Nat) (data : Bytes) : State :=
  let p := bits h 251 246
  let va := bits h 143 80
  match cmdOf s id with
  | none => s
  | some c =>
    if c.status ≠ 0 then tpAnswer (endInner s id) m h 4 c.status []
    else match accessAll s p va data.length true with
    | .error (.needAts b) => (match askAts s id p b with
        | (s, .stop code) => tpAnswer (endInner s id) m h 4 code []
        | (s, _) => s)
    | .error (.fault code level) => tpAnswer (recFault (endInner s id) p va level true 3 code 0 0 0 0 0) m h 4 code []
    | .error _ => endInner s id
    | .ok pls =>
      let s := endInner s id
      let host := pls.any (fun e => match e.1 with | .host _ => true | _ => false)
      if host && !hostOpen s p then tpAnswer s m h 4 0x0401 []
      else if !placesOpen s p pls then tpAnswer (refuse s p 0x0407 [va]) m h 4 0x0407 []
      else tpAnswer (putPlaces s p pls data) m h 4 0 []

end Sys2Proof.Machine
end

