-- ==== Sys2Proof/Machine/Commands.lean ====
section
/-! DEFINITION. Doorbells, the queue window, descriptor fetch, the commit of a ready command, and the opcodes 0x00, 0x01,
0xA0, 0xA1, 0xB0 and 0xB1 (R114 to R143, R179 to R181, R464, R466, R467). -/

namespace Sys2Proof.Machine
open Sys2Proof

/-! ### Doorbells and the queue window -/

/-- A host write that is discarded and counted with 0x040B (R180, R181). -/
def badWrite (s : State) (p : Nat) : State := logPad { s with host.badWrites := s.host.badWrites + 1 } p 0x040B 0 []

/-- The context that a queue's next descriptor names leaves IDLE (R113). -/
def wakeFor (s : State) (p qn : Nat) : State :=
  match queueOf s p qn with
  | none => s
  | some q => match nextDesc s p q with
    | none => s
    | some d => match ctxOf s p (dContext d) with
      | some x => if x.st = .idle && (q.any || q.ctx = dContext d) then
          (if x.slot.isSome then updCtx s p (dContext d) (fun x => { x with st := .running, readySince := ns s })
           else ready s p (dContext d))
        else s
      | none => s

/-- A doorbell value that its queue refuses stops the queue (R117). -/
def doorbellBad (s : State) (p q v : Nat) : State :=
  let s := updQueue s p q (fun x => { x with st := 2, lastErr := 0x0308 })
  firePad (logPad s p 0x0308 0 [q, v]) p 6

/-- Does VF p discard doorbells: a function in reset, or a paddock in EMPTY or FAULTED (R53, R195)? -/
def doorbellDead (s : State) (p : Nat) : Bool :=
  (Tbl.get s.host.vfs p).inReset || (pad s p).state = .empty || (pad s p).state = .faulted

/-- A write of a submission doorbell (R53, R116, R117, R181). -/
def doSubmissionDoorbell (s : State) (p q v len : Nat) : State :=
  if len ≠ 4 then badWrite s p
  else if doorbellDead s p then { s with host.badWrites := s.host.badWrites + 1 }
  else match queueOf s p q with
  | none => badWrite s p
  | some x =>
    let size := 2 ^ x.sqLog
    let s := updQueue s p q (fun x => { x with sqBell := v })
    if x.st ≠ 1 then s
    else if 65536 ≤ v || size ≤ v || (v + size - x.head) % size < (x.tail + size - x.head) % size then doorbellBad s p q v
    else
      let s := updQueue s p q (fun x => { x with tail := v })
      if (pad s p).state = .opened then wakeFor s p q else bump s p 0x80 5 1

/-- A write of a completion doorbell: entries are free again, and records that waited are written (R116, R117, R121). -/
def doCompletionDoorbell (s : State) (p q v len : Nat) : State :=
  if len ≠ 4 then badWrite s p
  else if doorbellDead s p then { s with host.badWrites := s.host.badWrites + 1 }
  else match queueOf s p q with
  | none => badWrite s p
  | some x =>
    let size := 2 ^ x.cqLog
    let s := updQueue s p q (fun x => { x with cqBell := v })
    let n := (v + size - x.cqHead) % size
    if 65536 ≤ v || size ≤ v || x.cqUsed < n then (if x.st = 1 then doorbellBad s p q v else s)
    else drainCq p q x.waiting.length (updQueue s p q (fun x => { x with cqHead := v, cqUsed := x.cqUsed - n }))

/-- A host write into the queue window: the covered bytes of ring entries, through the paddock's translation (R115, R180). -/
def doQueueWindowWrite (s : State) (p off : Nat) (data : Bytes) : State :=
  let q := off / 2 ^ 22
  let o := off % 2 ^ 22
  if (Tbl.get s.host.vfs p).inReset then s
  else if data.length % 4 ≠ 0 || 2 ^ 22 < o + data.length then badWrite s p
  else match queueOf s p q with
  | none => badWrite s p
  | some x =>
    if 64 * 2 ^ x.sqLog < o + data.length then badWrite s p
    else match accessAll s p (x.sqBase + o) data.length true with
      | .ok pls => hostBytes (putPlaces s p pls data) p data.length
      | .error _ => badWrite s p

/-! ### Fetch -/

/-- The code with which a descriptor finishes at its fetch; 0 where none applies (R123, R124, R221, R466). -/
def fetchStatus (s : State) (p : Nat) (q : Queue) (d : Nat) : Nat :=
  if dReserved d then 0x0301
  else if !opcodes.contains (dOpcode d) then 0x0302
  else match ctxOf s p (dContext d) with
  | none => 0x0303
  | some x =>
    if !q.any && q.ctx ≠ dContext d then 0x0304
    else if x.closing then 0x0305
    else if (dExcl d && cfgP s p 0x20 2 = 0) || (dCoi d != (dOpcode d = 0x24)) then 0x0306
    else 0

/-- May a thread fetch for paddock p: commands are fetched, its function is not in reset, and neither TRN nor the power
state stops it (R48, R53, R195, R586)? -/
def fetchOpen (s : State) (p : Nat) : Bool :=
  ((pad s p).state = .opened || (pad s p).state = .draining) && !(Tbl.get s.host.vfs p).inReset && !gated s p &&
  s.pow.st ≤ 1 && !trnOut s

/-- What a queue would give a thread next: a killed command to run again, or a fresh descriptor. -/
inductive Next where
  | rerun (k : Killed)
  | fresh (d : Nat)
  deriving DecidableEq, Repr

/-- Is a context RUNNING and fetching? -/
def fetching (s : State) (p c : Nat) : Bool :=
  match ctxOf s p c with | some x => x.st = .running && !x.preempting && x.slot.isSome | none => false

/-- The next item of a queue: fetch passes over a descriptor whose context is not RUNNING, unless it finishes with an error
that needs no context (R124, R464); a second exclusive request waits (R468). -/
def nextItem (s : State) (p qn : Nat) (q : Queue) : Option Next :=
  let mine := s.cmd.killed.filter (fun k => k.p = p && k.q = qn && !k.backoff && fetching s p k.ctx)
  match mine.foldl (fun a k => match a with
      | none => some k
      | some b => if ringPos q k.entry < ringPos q b.entry then some k else a) none with
  | some k => if dExcl k.desc && (pad s p).excl.isSome then none else some (.rerun k)
  | none =>
    if (pad s p).state ≠ .opened then none
    else match nextDesc s p q with
      | none => none
      | some d =>
        let st := fetchStatus s p q d
        if (ctxOf s p (dContext d)).isNone || st = 0x0304 || st = 0x0305 then some (.fresh d)
        else if fetching s p (dContext d) && !(dExcl d && st = 0 && (pad s p).excl.isSome) then some (.fresh d)
        else none

/-- Priority of an item's context. -/
def itemPrio (s : State) (p : Nat) : Next → Nat
  | .rerun k => ((ctxOf s p k.ctx).map (·.prio)).getD 0
  | .fresh d => ((ctxOf s p (dContext d)).map (·.prio)).getD 7

/-- The queue that fetches next: strict priority, round robin within one priority (R464). -/
def pickQueue (s : State) (p : Nat) : Option (Nat × Next) :=
  let last := (pad s p).lastQueue
  let items := (pad s p).queues.filterMap (fun e => (nextItem s p e.1 e.2).map (fun i => (e.1, i)))
  let turn := fun (q : Nat) => (q + 127 - last) % 64
  items.foldl (fun a e => match a with
    | none => some e
    | some b =>
      let x := itemPrio s p e.2
      let y := itemPrio s p b.2
      if y < x || (x = y && turn e.1 < turn b.1) then some e else a) none

/-- Pre-empt a context (R470, R474 row 13). -/
def preemptCtx (s : State) (p c : Nat) : State := stopCtx (meter s p 13 1) p c .preempt .ready

/-- Take the slot of an IDLE or WAITING context: a WAITING context's commands are killed, its state stays (R112, R463). -/
def evict (s : State) (p c : Nat) : State :=
  match ctxOf s p c with
  | none => s
  | some x => if x.st = .waiting then stopCtx s p c .control .waiting else freeSlot s p c

/-- An EXCL command was fetched: its context becomes exclusive (R467). -/
def becomeExclusive (s : State) (p c id : Nat) : State :=
  let s := updPad s p (fun d => { d with excl := some (c, id) })
  (pad s p).ctxs.foldl (fun s e =>
    if e.1 = c || e.2.slot.isNone then s
    else if e.2.st = .running then (if e.2.preempting then s else preemptCtx s p e.1)
    else evict s p e.1) s

/-- Take a command into the table of fetched commands, on a thread (R108, R118, R207, R637). -/
def takeCmd (s : State) (id : Nat) (c : Cmd) : State :=
  let s := { s with cmd.live := Tbl.set s.cmd.live id c }
  let s := updPad s c.p (fun d => { d with lastQueue := c.q })
  let s := traceCmd s c 4 0
  if c.exclOn then becomeExclusive s c.p c.ctx id else s

/-- The copy of the transform slot that an XWRITE or XCOPY names, taken at its fetch (R363). -/
def slotNamed (s : State) (p d : Nat) : Option Nat :=
  if dOpcode d = 0x51 || dOpcode d = 0x52 then some (getP s p 0x61 (bits (dArg d 3) 27 24 + 1)) else none

/-- One fetch of paddock p. -/
def doFetch (s : State) (p : Nat) : State :=
  if !fetchOpen s p then s
  else match freeThreads s p, pickQueue s p with
  | th :: _, some (qn, .rerun k) =>
    (match queueOf s p qn with
    | none => s
    | some q => match readVa s p (q.sqBase + 64 * k.entry) 64 with
      | .error _ => s
      | .ok b =>
        let d := beNat b
        let ep := ((ctxOf s p k.ctx).map (·.epoch)).getD 0
        let st := fetchStatus s p q d
        takeCmd { s with cmd.killed := s.cmd.killed.filter (fun x => x.id ≠ k.id) } k.id
          { p := p, q := qn, entry := k.entry, desc := dStamp d ep, ctx := k.ctx, epoch := ep, order := k.order, reruns := k.reruns,
            thread := th, at_ := ns s, status := st, slot := slotNamed s p d, holds := k.holds, aborted := k.aborted, inst := k.inst,
            kind := if isColl (dOpcode d) then 2 else 0,
            expired := k.expired, exclOn := dExcl d && st = 0 })
  | th :: _, some (qn, .fresh d) =>
    (match queueOf s p qn with
    | none => s
    | some q =>
      let id := s.cmd.nextCmd
      let ep := ((ctxOf s p (dContext d)).map (·.epoch)).getD 0
      let st := fetchStatus s p q d
      let s := updQueue { s with cmd.nextCmd := id + 1 } p qn (fun q => { q with next := (q.next + 1) % 2 ^ q.sqLog })
      let (s, inst, st) := if st = 0 then collFetch s id p qn d else (s, none, st)
      let s := takeCmd (bump s p 0x80 1 1) id
        { p := p, q := qn, entry := q.next, desc := dStamp d ep, ctx := dContext d, epoch := ep, order := id, thread := th,
          at_ := ns s, status := st, slot := slotNamed s p d, inst := inst, kind := if isColl (dOpcode d) then 2 else 0, exclOn := dExcl d && st = 0 }
      wakeFor s p qn)
  | _, _ => s

/-! ### Commit -/

/-- A command that is ready commits; one refused at its fetch commits its error once it may start (R118, R125, R127). -/
def doCommandCommit (s : State) (id : Nat) : State :=
  match cmdOf s id with
  | none => s
  | some c =>
    if c.inner then s
    else if c.phase = .ready || (c.phase = .fetched && c.status ≠ 0 && mayStart s id c) then tryCommit s id else s

/-- A commit has waited too long for its completion ring (R121). -/
def doCqStall (s : State) (id : Nat) : State :=
  match cmdOf s id with
  | none => s
  | some c => match queueOf s c.p c.q with
    | none => s
    | some q => if c.phase = .ready && !c.inner && cqRoom s c.p q = .full then park s c 0 0 true 0x030C false else s

/-! ### The opcodes of this chapter -/

def doNop (s : State) (id : Nat) : State := withCmd s id 0x00 (fun s _ => finish s id [] 0)

/-- TIMESTAMP writes the fabric time of its commit to ARG0. -/
def doTimestamp (s : State) (id : Nat) : State :=
  withCmd s id 0x01 (fun s c => withDest s id c (dArg c.desc 0) 8 (fun s pls =>
    finish (holdDest s id pls) id [.stamp pls] 0))

/-- ALLOC reserves its pages and address at once and maps them at its commit (R139 to R141, R670). -/
def doAlloc (s : State) (id : Nat) : State :=
  withCmd s id 0xA0 (fun s c =>
    let p := c.p
    let n := dArg c.desc 0
    let size := allocPage (bits (dArg c.desc 1) 1 0)
    let want := dArg c.desc 2
    let w := (pad s p).window
    if n = 0 || n % size ≠ 0 || (want ≠ 0 && (want % size ≠ 0 || want < w.1 || w.1 + w.2 < want + n)) then failCmd s id 0x0309
    else match pickVa s p want n size, pickPages s p n size with
      | some va, some pages =>
        if winCount < (winUsed s).length + l0Needed s p va n size then failCmd s id 0x0310
        else
          let s := updPad (fresh1 (fresh1 s)) p (fun d =>
            { d with allocs := d.allocs ++ [{ va := va, size := n, psize := size, pages := pages, mapped := false }] })
          finish s id [.addAlloc va (!bit (dArg c.desc 1) 8)] va
      | _, _ => failCmd s id 0x0310)

/-- FREE removes the mapping and starts the invalidation; it commits once that has ended (R142, R446). -/
def doFree (s : State) (id : Nat) : State :=
  withCmd s id 0xA1 (fun s c =>
    if c.inval.isSome then s
    else
      let va := dArg c.desc 0
      let n := dArg c.desc 1
      match (pad s c.p).allocs.find? (fun a => a.va = va && a.size = n && a.mapped) with
      | none => failCmd s id 0x0311
      | some a =>
        let i := s.rick.nextInval
        let s := invalidate (unmapAlloc s c.p a) c.p va n id
        updCmd s id (fun c => { c with freed := some va, inval := some i, effects := [.dropAlloc va] }))

/-- SIGNAL sets or adds at its commit (R136, R137). -/
def doSignal (s : State) (id : Nat) : State :=
  withCmd s id 0xB0 (fun s c =>
    let a := dArg c.desc 0
    let v := dArg c.desc 1
    if a % 8 ≠ 0 then failCmd s id 0x0312
    else withDest s id c a 8 (fun s pls =>
      let s := holdDest s id pls
      if !bit (dArg c.desc 2) 0 then
        (let es := writeEffects pls (beBytes 8 v)
         if pls.any (fun e => match e.1 with | .lot .. => true | _ => false) then
           (if c.acksDue = 0 && c.effects.isEmpty then becomeReady s id c es 0 else s)
         else finish s id es 0)
      else match pls with
        | [(.rick x sel, _)] => if (heldFor s id x 8).isSome then s else finish s id [.sig (.rick x sel) true v] 0
        | _ => withBytes s id c a 8 (fun s b =>
            if c.acksDue = 0 then becomeReady s id c (writeEffects pls (beBytes 8 (beNat b + v))) 0 else s)))

/-- Does a WAIT's condition hold for a word (R138)? -/
def waitHolds (d word : Nat) : Bool := if bit (dArg d 2) 0 then word = dArg d 1 else dArg d 1 ≤ word

/-- A WAIT whose context lost its slot: the context becomes READY when the condition holds; a word outside the rick is
looked at again by the rerun (R138, R463). -/
def waitKilled (s : State) (id : Nat) : State :=
  match s.cmd.killed.find? (fun k => k.id = id && dOpcode k.desc = 0xB1) with
  | none => s
  | some k => match access s k.p (dArg k.desc 0) 8 false with
    | .at_ (.rick a sel) =>
      if (heldFor s id a 8).isNone && waitHolds k.desc (beNat (readPlace s k.p (.rick a sel) 8)) then unwait s k.p k.ctx else s
    | _ => unwait s k.p k.ctx

/-- WAIT looks at its word: true, it commits; false, its context is WAITING (R113, R136, R138). -/
def doWaitCmd (s : State) (id : Nat) : State :=
  if (cmdOf s id).isNone then waitKilled s id else
  withCmd s id 0xB1 (fun s c =>
    let a := dArg c.desc 0
    if a % 8 ≠ 0 then failCmd s id 0x0312
    else if c.expired then failCmd s id 0x0314
    else withBytes s id c a 8 (fun s b =>
      if waitHolds c.desc (beNat b) then finish (unwait s c.p c.ctx) id [] 0
      else updCtx (updCmd s id (fun c => { c with ext := [], asked := [], waitOn := some a })) c.p c.ctx
        (fun x => if x.st = .running && !x.preempting then { x with st := .waiting } else x)))

/-- The timeout of a WAIT, counted from its first attempt (R138). -/
def doWaitTimeout (s : State) (id : Nat) : State :=
  match cmdOf s id with
  | some c =>
    if dOpcode c.desc = 0xB1 && dArg c.desc 3 ≠ 0 && c.status = 0 && c.phase = .started then
      failCmd (unwait s c.p c.ctx) id 0x0314
    else if dOpcode c.desc = 0xB1 && dArg c.desc 3 ≠ 0 && c.status = 0 then updCmd s id (fun c => { c with expired := true })
    else s
  | none => match s.cmd.killed.find? (fun k => k.id = id && dOpcode k.desc = 0xB1 && dArg k.desc 3 ≠ 0) with
    | none => s
    | some k => unwait { s with cmd.killed := s.cmd.killed.map (fun x => if x.id = id then { x with expired := true } else x) } k.p k.ctx

end Sys2Proof.Machine
end

