-- ==== Sys2Proof/Machine/Sward.lean ====
section
/-! DEFINITION. Sward programs: their checks, tile steps, checkpoints and resumption, and faults in the array (R334 to R360). -/

namespace Sys2Proof.Machine
open Sys2Proof

/-! ### Programs (R341 to R347) -/

/-- An operand descriptor, 32 bytes. -/
def oBase (o : Nat) : Nat := bits o 255 192
def oRows (o : Nat) : Nat := bits o 191 160
def oCols (o : Nat) : Nat := bits o 159 128
def oStride (o : Nat) : Nat := bits o 127 96
def oScale (o : Nat) : Nat := bits o 95 32
def oFmt (o : Nat) : Nat := bits o 31 27
def oTrans (o : Nat) : Bool := bit o 26

/-- An instruction, 16 bytes. -/
def iOp (x : Nat) : Nat := bits x 127 122
def iD (x : Nat) : Nat := bits x 121 118
def iA (x : Nat) : Nat := bits x 117 114
def iB (x : Nat) : Nat := bits x 113 110
def iC (x : Nat) : Nat := bits x 109 106
def iMode (x : Nat) : Nat := bits x 105 103
def iRounding (x seed : Nat) : Rounding := { mode := iMode x, sat := bit x 102, seed := seed, stream := bits x 63 32 }

/-- A program: operand descriptors and instructions. -/
structure Program where
  ops : List Nat
  ins : List Nat
  deriving DecidableEq, Repr, Inhabited

/-- Bytes of a program after its header, where the header is good. -/
def programBody (h : Nat) : Option Nat :=
  let n := bits h 463 460
  let m := bits h 459 449
  if bits h 511 480 ≠ 0x53575250 || bits h 479 464 ≠ 1 || n = 0 || m = 0 || 1024 < m || bits h 448 0 ≠ 0 then none
  else some (32 * n + 16 * m)

/-- The program of a header and body. -/
def programOf (h : Nat) (body : Bytes) : Program :=
  let n := bits h 463 460
  { ops := (List.range n).map (fun k => beNat ((body.drop (32 * k)).take 32)),
    ins := (List.range (bits h 459 449)).map (fun k => beNat ((body.drop (32 * n + 16 * k)).take 16)) }

/-- Does a descriptor break its table? -/
def operandBad (o : Nat) : Bool :=
  vaEnd ≤ oBase o || oRows o = 0 || 2 ^ 31 < oRows o || oCols o = 0 || 2 ^ 31 < oCols o || bits o 25 0 ≠ 0

/-- Does an instruction break its table? -/
def instrBad (n x : Nat) : Bool :=
  (iOp x ≠ 1 && iOp x ≠ 2) || n ≤ iD x || n ≤ iA x || (iOp x = 1 && n ≤ iB x) || (iOp x = 2 && (iB x ≠ 15 || iC x ≠ 15)) ||
  (iC x ≠ 15 && n ≤ iC x) || bits x 101 64 ≠ 0 || bits x 31 0 ≠ 0

/-- The code that one instruction's formats, mode, extent and shapes give; 0 where all are good (R311, R312, R317, R325, R344,
R345). -/
def instrStatus (p : Program) (x : Nat) : Nat :=
  let o := fun k => p.ops.getD k 0
  let d := o (iD x)
  let a := o (iA x)
  if iOp x = 1 then
    let b := o (iB x)
    let c := if iC x = 15 then none else some (o (iC x))
    if !mmaFormats (oFmt a) (oFmt b) (oFmt d) (c.map oFmt) then 0x0801
    else if 4 < iMode x then 0x0802
    else if oCols a = 0 || 2 ^ 31 < oCols a then 0x0803
    else if fmtClass (oFmt a) = 3 && oCols a % 32 ≠ 0 then 0x0804
    else if oRows b ≠ oCols a || oRows d ≠ oRows a || oCols d ≠ oCols b || (match c with | some c => oRows c ≠ oRows d || oCols c ≠ oCols d | none => false) then 0x0812
    else 0
  else
    if !convertIn (oFmt a) || !convertOut (oFmt d) then 0x0801
    else if 4 < iMode x then 0x0802
    else if oRows a ≠ oRows d || oCols a ≠ oCols d || ((isMx (oFmt d) || isMx (oFmt a)) && oCols d % 32 ≠ 0) then 0x0812
    else 0

/-- The first code a program's checks give (R347). -/
def programStatus (p : Program) : Nat :=
  if p.ops.any operandBad || p.ins.any (instrBad p.ops.length) then 0x0810
  else if p.ops.any (fun o => 0x11 < oFmt o || oFmt o = 0x0D) then 0x0801
  else ((p.ins.map (instrStatus p)).find? (· ≠ 0)).getD 0

/-- The accumulator region of an instruction's class, in bytes (R306). -/
def regionOf (p : Program) (x : Nat) : Nat :=
  if iOp x = 2 then 0 else match fmtClass (oFmt (p.ops.getD (iA x) 0)) with
    | 1 => 49152 | 2 => 49152 | 3 => 327680 | 6 => 65536 | _ => 32768

/-- E of an instruction: the exponents of the FP64 slice class. -/
def exponentBytes (p : Program) (x : Nat) : Nat :=
  if iOp x = 1 && fmtClass (oFmt (p.ops.getD (iA x) 0)) = 6 then 2 * (oRows (p.ops.getD (iD x) 0) + oCols (p.ops.getD (iD x) 0)) else 0

/-- Bytes a checkpoint area needs (R354). -/
def ckptNeed (s : State) (pn : Nat) (p : Program) : Nat :=
  let top := fun (f : Nat → Nat) => (p.ins.map f).foldl max 0
  4096 + top (exponentBytes p) + popCount 64 (pad s pn).tussocks * top (regionOf p)

/-- K-span and cycles of an MMA (R348). -/
def spanOf (p : Program) (x : Nat) : Nat × Nat :=
  let a := oFmt (p.ops.getD (iA x) 0)
  let b := oFmt (p.ops.getD (iB x) 0)
  let four := fun f => f = 0x00 || f = 0x03 || f = 0x08
  match fmtClass a with
  | 4 => (128, 512) | 5 => (32, 384) | 6 => (16, 576)
  | _ => if four a && four b then (1024, 512) else (512, 512)

/-- Tiles of an instruction: down, across. -/
def tileGrid (p : Program) (x : Nat) : Nat × Nat :=
  let d := p.ops.getD (iD x) 0
  (ceilDiv (oRows d) 64, ceilDiv (oCols d) 64)

/-! ### Operand bytes (R343, R346) -/

/-- Storage rows of a descriptor and the elements of one. -/
def storage (o : Nat) : Nat × Nat := if oTrans o then (oCols o, oRows o) else (oRows o, oCols o)

/-- The ranges that an operand's elements, and its scales, take. K runs along the rows of A and the columns of B; the scale of
row or column r for block b lies at SCALE_BASE + r × ⌈L / 32⌉ + b with L the extent along K (DEDUCED, log 24). -/
def operandRanges (o lanes k : Nat) : List (Nat × Nat) :=
  let (rows, len) := storage o
  (List.range rows).map (fun r => (oBase o + oStride o * r, packedBytes (oFmt o) len)) ++
  (if isMx (oFmt o) then [(oScale o, lanes * ceilDiv k 32)] else [])

/-- What a command wrote at a place, if it did: the byte of its newest write. -/
def overlay (es : List Effect) (pl : Place) : Option Byte :=
  es.foldl (fun acc e => match e, pl with
    | .wr (.rick a _) bs, .rick b _ => if a ≤ b && b < a + bs.length then bs[b - a]? else acc
    | .wr (.host a) bs, .host b => if a ≤ b && b < a + bs.length then bs[b - a]? else acc
    | .wr (.lot l a) bs, .lot m b => if l = m && a ≤ b && b < a + bs.length then bs[b - a]? else acc
    | _, _ => acc) none

/-- A byte as a command sees it: its own writes first, then the rick, or what it gathered from outside (R346). -/
def cmdByte (s : State) (c : Cmd) (va : Nat) : Byte :=
  match access s c.p va 1 false with
  | .at_ pl => match overlay c.effects pl with
    | some b => b
    | none => match pl with
      | .rick .. => (readPlace s c.p pl 1).getD 0 0
      | _ => ((c.ext.find? (fun x => x.1 ≤ va && va < x.1 + x.2.length)).bind (fun x => x.2[va - x.1]?)).getD 0
  | _ => 0

/-- A run of bytes as a command sees it. -/
def cmdBytes (s : State) (c : Cmd) (va n : Nat) : Bytes := (List.range n).map (fun i => cmdByte s c (va + i))

/-- Element (r, q) of an operand as its encoding. -/
def elementAt (s : State) (c : Cmd) (o r q : Nat) : Nat :=
  let (row, pos) := if oTrans o then (q, r) else (r, q)
  let w := fmtBits (oFmt o)
  let va := oBase o + oStride o * row
  if 8 ≤ w then leNat (cmdBytes s c (va + pos * (w / 8)) (w / 8))
  else
    let b := w * pos
    bits (leNat (cmdBytes s c (va + b / 8) ((b % 8 + w + 7) / 8))) (b % 8 + w - 1) (b % 8)

/-- Element (r, q) as a value, under the scale of lane r or q for its block along K. -/
def valueAt (s : State) (c : Cmd) (o r q : Nat) (alongCols : Bool) (k : Nat) : Num :=
  let x := elementAt s c o r q
  if isMx (oFmt o) then
    let (lane, pos) := if alongCols then (r, q) else (q, r)
    mxValue (oFmt o) (cmdByte s c (oScale o + lane * ceilDiv k 32 + pos / 32)).toNat x
  else decodeNum (oFmt o) x

/-- Was a scale of 0xFF read for a lane? -/
def laneScaleNan (s : State) (c : Cmd) (o lane k : Nat) : Nat :=
  flagIf (isMx (oFmt o) && (cmdBytes s c (oScale o + lane * ceilDiv k 32) (ceilDiv k 32)).contains 0xFF) stScaleNan

/-! ### One tile (R304, R344, R345) -/

/-- The value of element (i, j) of D before rounding, and its status. -/
def elementOfD (s : State) (c : Cmd) (p : Program) (x i j : Nat) : Num × Nat :=
  let a := p.ops.getD (iA x) 0
  let k := oCols a
  if iOp x = 2 then (valueAt s c a i j true k, laneScaleNan s c a i k)
  else
    let b := p.ops.getD (iB x) 0
    let as := (List.range k).map (fun q => valueAt s c a i q true k)
    let bs := (List.range k).map (fun q => valueAt s c b q j false k)
    let cv := if iC x = 15 then none else some (valueAt s c (p.ops.getD (iC x) 0) i j true k)
    let (v, st) := dot (fmtClass (oFmt a)) as bs cv (iMode x = 3)
    (v, joinFlags [st, laneScaleNan s c a i k, laneScaleNan s c b j k])

/-- Bytes to be written at an address. -/
abbrev Writes := List (Nat × Bytes)

/-- Pack elements at a bit offset of a row, keeping the bits around them. -/
def packAt (s : State) (c : Cmd) (f va pos : Nat) (es : List Nat) : Nat × Bytes :=
  let w := fmtBits f
  let b := w * pos
  let n := (b % 8 + w * es.length + 7) / 8
  let start := va + b / 8
  if 8 ≤ w then (start, packElems f es)
  else
    let old := leNat (cmdBytes s c start n)
    let new := es.foldr (fun e a => e % 2 ^ w + a * 2 ^ w) 0
    let hi := old / 2 ^ (b % 8 + w * es.length)
    (start, leBytes n (old % 2 ^ (b % 8) + new * 2 ^ (b % 8) + hi * 2 ^ (b % 8 + w * es.length)))

/-- The writes and status of one tile of D, with the elements written as NaN and saturated. -/
def tileWrites (s : State) (c : Cmd) (p : Program) (x tile : Nat) : Writes × Nat × Nat × Nat :=
  let d := p.ops.getD (iD x) 0
  let f := oFmt d
  let (_, across) := tileGrid p x
  let i0 := 64 * (tile / across)
  let j0 := 64 * (tile % across)
  let ni := min 64 (oRows d - i0)
  let nj := min 64 (oCols d - j0)
  let m := iRounding x (dArg c.desc 3)
  let vals := (List.range ni).map (fun i => (List.range nj).map (fun j => elementOfD s c p x (i0 + i) (j0 + j)))
  let st := joinFlags (vals.map (fun r => joinFlags (r.map (·.2))))
  -- elements of each logical row, and the scales an MX format adds
  let coded : List (List Nat × List (Nat × Nat) × Nat × Nat × Nat) := vals.zipIdx.map (fun r =>
    let i := i0 + r.2
    if isMx f then
      let bs := (chunksOf 32 3 (r.1.map (·.1))).zipIdx.map (fun b => (mxBlock f m i (j0 + 32 * b.2) b.1, j0 / 32 + b.2))
      ((bs.map (·.1.2.1)).flatten, bs.map (fun b => (oScale d + i * ceilDiv (oCols d) 32 + b.2, b.1.1)), joinFlags (bs.map (·.1.2.2)),
       bs.foldl (fun a b => a + (if b.1.1 = 0xFF then b.1.2.1.length else 0)) 0, 0)
    else
      let cs := r.1.zipIdx.map (fun e => roundOut f m i (j0 + e.2) e.1.1)
      (cs.map (·.1), [], joinFlags (cs.map (·.2)), (cs.filter (fun e => bit e.2 7)).length, (cs.filter (fun e => bit e.2 5)).length))
  let codes := fun i j => ((coded[i]?.map (·.1)).getD []).getD j 0
  let elems : Writes :=
    if oTrans d then (List.range nj).map (fun j => packAt s c f (oBase d + oStride d * (j0 + j)) i0 ((List.range ni).map (fun i => codes i j)))
    else (List.range ni).map (fun i => packAt s c f (oBase d + oStride d * (i0 + i)) j0 ((List.range nj).map (codes i)))
  let scales : Writes := ((coded.map (·.2.1)).flatten).map (fun e => (e.1, [BitVec.ofNat 8 e.2]))
  (elems ++ scales, join st (joinFlags (coded.map (·.2.2.1))), (coded.map (·.2.2.2.1)).foldl (· + ·) 0, (coded.map (·.2.2.2.2)).foldl (· + ·) 0)

/-- Add writes to a command's effects; none where a destination faults. -/
def addWrites (s : State) (p : Nat) (ws : Writes) : Except Access (List Effect) :=
  ws.foldl (fun acc w => match acc with
    | .error e => .error e
    | .ok es => match accessAll s p w.1 w.2.length true with
      | .error e => .error e
      | .ok pls => .ok (es ++ writeEffects pls w.2)) (.ok [])

/-- Compute one tile of a command's current instruction. -/
def computeTile (s : State) (id : Nat) (p : Program) (x tile : Nat) : State :=
  match cmdOf s id with
  | none => s
  | some c =>
    let (ws, st, nans, sats) := tileWrites s c p x tile
    match addWrites s c.p ws with
    | .error (.fault code l) => park s c (dArg c.desc 0) l true code true
    | .error _ => s
    | .ok es => countArith (updCmd s id (fun c => { c with
        effects := c.effects ++ es, run := c.run.map (fun r => { r with status := join r.status st }) })) c.p (nans, sats)

/-! ### Placement (R359, R360) -/

/-- Steps queued on a tussock. -/
def queuedOn (s : State) (k : Nat) : Nat :=
  (s.cmd.live.map (fun e => ((e.2.run.map (fun r => (r.opened.filter (fun o => o.2.2.2 = k)).length)).getD 0))).foldl (· + ·) 0

/-- The tussock for a step: beside the island of its data, least queued, lowest number. -/
def placeStep (s : State) (p : Nat) (used : List Nat) (va : Nat) : Option Nat :=
  let ok := (setBits 64 (usable s p)).filter (fun k => !used.contains k)
  let near := match access s p va 1 false with
    | .at_ (.rick a _) => ok.filter (fun k => k / 16 = granuleOf a % 4)
    | _ => []
  (if near.isEmpty then ok else near).foldl (fun b k => match b with
    | none => some k
    | some x => if queuedOn s k < queuedOn s x then some k else some x) none

/-- The first A row of a tile. -/
def tileData (p : Program) (x tile : Nat) : Nat :=
  let a := p.ops.getD (iA x) 0
  let i0 := 64 * (tile / (tileGrid p x).2)
  if oTrans a then oBase a else oBase a + oStride a * i0

/-- Start tiles of the running instruction while there are tiles and tussocks, with fuel. One tile takes one tussock: its K is
never divided (R350 allows that, DESIGN CHOICE, log 25). -/
def openTiles (id : Nat) (p : Program) : Nat → State → State
  | 0, s => s
  | fuel + 1, s => match cmdOf s id with
    | none => s
    | some c => match c.run with
      | none => s
      | some r =>
        let x := p.ins.getD r.instr 0
        let (down, across) := tileGrid p x
        if down * across ≤ r.tile then s
        else match placeStep s c.p (r.opened.map (fun o => o.2.2.2)) (tileData p x r.tile) with
          | none => s
          | some k => openTiles id p fuel (updCmd s id (fun c => { c with
              run := some { r with tile := r.tile + 1, opened := r.opened ++ [(r.tile, 0, 0, k)] } }))

/-! ### SWARD_RUN (R341 to R358) -/

/-- Gather ranges that a program reads, and check the ranges it writes; then go on. -/
def withRanges (s : State) (id : Nat) (c : Cmd) (rs : List (Nat × Nat)) (f : State → State) : State :=
  match rs.foldl (fun (acc : State × Got) r => match acc.2 with
      | .fault .. => acc
      | .stop _ => acc
      | g => match gather acc.1 id c.p r.1 r.2 with
        | (s, .bytes _) => (s, g)
        | x => x) (s, .bytes []) with
  | (s, .bytes _) => f s
  | (s, .wait) => s
  | (s, .fault va code level) => park s c va level false code true
  | (s, .stop code) => failCmd s id code

/-- Check and hold the ranges that a program writes. -/
def withDests (s : State) (id : Nat) (c : Cmd) : List (Nat × Nat) → (State → State) → State
  | [], f => f s
  | r :: t, f => withDest s id c r.1 r.2 (fun s pls => withDests (holdDest s id pls) id c t f)

/-- The ranges of the operands an instruction reads. -/
def instrReads (p : Program) (x : Nat) : List (Nat × Nat) :=
  let o := fun k => p.ops.getD k 0
  let k := oCols (o (iA x))
  operandRanges (o (iA x)) (oRows (o (iA x))) k ++
  (if iOp x = 1 then operandRanges (o (iB x)) (oCols (o (iB x))) k ++
    (if iC x = 15 then [] else operandRanges (o (iC x)) 0 0) else [])

/-- The ranges it writes. -/
def instrWrites (p : Program) (x : Nat) : List (Nat × Nat) :=
  let d := p.ops.getD (iD x) 0
  operandRanges d (oRows d) (oCols d)

/-- DESC_DIGEST of a descriptor (*Checkpoint record*). -/
def descDigest (d : Nat) : Nat := bits (sha384 (beBytes 64 (d - bits d 483 476 * 2 ^ 476))) 383 320

/-- The checkpoint record of a context that matches a command (R356). -/
def matchingCkpt (s : State) (c : Cmd) : Option Ckpt :=
  (ctxOf s c.p c.ctx).bind (fun x => x.ckpts.find? (fun k =>
    k.cmdId = dId c.desc && k.queue = c.q && k.entry = c.entry && k.digest = descDigest c.desc))

/-- Instructions and tiles that a checkpoint says are finished, computed again: the same bits (R329, R353). -/
def restoreTiles (s : State) (id : Nat) (p : Program) (k : Ckpt) : State :=
  let all := fun (x : Nat) => let (a, b) := tileGrid p x; List.range (a * b)
  let s := (List.range k.instr).foldl (fun s i => let x := p.ins.getD i 0; (all x).foldl (fun s t => computeTile s id p x t) s) s
  let x := p.ins.getD k.instr 0
  ((List.range k.tile).filter (fun t => !k.opened.any (fun o => o.1 = t))).foldl (fun s t => computeTile s id p x t) s

/-- Begin a program, from its start or from a checkpoint (R353, R356). -/
def startRun (s : State) (id : Nat) (c : Cmd) (p : Program) : State :=
  let fuel := popCount 64 (usable s c.p) + 1
  if c.reruns = 0 then openTiles id p fuel (updCmd s id (fun c => { c with run := some {} }))
  else match matchingCkpt s c with
  | none =>
    let s := clearCkpts s c.p c.ctx (fun k => k.queue = c.q && k.entry = c.entry)
    let s := geqCmd (addO s (pidx c.p 0x60) 8 1 64) c 0x0817 0 []
    openTiles id p fuel (updCmd s id (fun c => { c with run := some {} }))
  | some k =>
    let s := addO s (pidx c.p 0x60) 7 1 64
    let s := updCmd s id (fun c => { c with run := some { instr := k.instr, tile := k.tile, status := k.status, resumes := k.resumes + 1 } })
    let s := restoreTiles s id p k
    let s := k.opened.foldl (fun s o => match cmdOf s id with
      | none => s
      | some c => match c.run with
        | none => s
        | some r => match placeStep s c.p (r.opened.map (fun o => o.2.2.2)) (tileData p (p.ins.getD k.instr 0) o.1) with
          | none => updCmd s id (fun c => { c with run := some { r with opened := r.opened ++ [(o.1, o.2.1, o.2.2, (setBits 64 (usable s c.p)).getD 0 0)] } })
          | some t => updCmd s id (fun c => { c with run := some { r with opened := r.opened ++ [(o.1, o.2.1, o.2.2, t)] } })) s
    openTiles id p fuel s

/-- Sward work takes the device out of IDLE (R333). -/
def wakeArray (s : State) : State := if s.pow.st = 1 then { s with pow.st := 0 } else s

/-- The program of a command, where it can be read now. -/
def withProgram (s : State) (id : Nat) (c : Cmd) (f : State → Program → State) : State :=
  withBytes s id c (dArg c.desc 0) 64 (fun s hb =>
    match programBody (beNat hb) with
    | none => failCmd s id 0x0810
    | some n => withBytes s id c (dArg c.desc 0 + 64) n (fun s b => f s (programOf (beNat hb) b)))

/-- SWARD_RUN: checks, then the first tiles. While the power brake holds, no new command is issued (R332). -/
def doSwardRun (s : State) (id : Nat) : State :=
  withCmd s id 0x50 (fun s c =>
    let a := dArg c.desc
    if c.run.isSome || s.pow.brake.isSome then s
    else if a 4 ≠ 0 || a 5 ≠ 0 then failCmd s id 0x0301
    else if noTussock s c.p ≠ 0 then failCmd s id (noTussock s c.p)
    else if a 0 % 64 ≠ 0 then failCmd s id 0x0810
    else if a 1 % 4096 ≠ 0 then failCmd s id 0x0309
    else withProgram s id c (fun s p =>
      if programStatus p ≠ 0 then failCmd s id (programStatus p)
      else if a 1 ≠ 0 && a 2 < ckptNeed s c.p p then failCmd s id 0x0816
      else withDests s id c ((p.ins.map (instrWrites p)).flatten) (fun s =>
        withRanges s id c ((p.ins.map (instrReads p)).flatten) (fun s => startRun (wakeArray s) id c p))))

/-- The program as the running command reads it again. -/
def runProgram (s : State) (c : Cmd) : Program :=
  let h := beNat (cmdBytes s c (dArg c.desc 0) 64)
  programOf h (cmdBytes s c (dArg c.desc 0 + 64) ((programBody h).getD 0))

/-- After a step: the next instruction once every tile is written, or the end of the program (R346). -/
def nextInstr (s : State) (id : Nat) (p : Program) : State :=
  match cmdOf s id with
  | none => s
  | some c => match c.run with
    | none => s
    | some r =>
      let (down, across) := tileGrid p (p.ins.getD r.instr 0)
      if !r.opened.isEmpty || r.tile < down * across then openTiles id p 65 s
      else if r.instr + 1 < p.ins.length then
        openTiles id p 65 (updCmd s id (fun c => { c with run := some { r with instr := r.instr + 1, tile := 0 } }))
      else conclude s id c c.effects (swardResult 0 r.resumes r.status)

/-- A single-bit error in a word of tussock k's scratch is corrected (R334). -/
def scratchCorrected (k : Nat) (s : State) (word : Nat) : State := logDev (addO s 0x1800 6 1 64) 0x0807 1 [k, word]

/-- A tussock finishes one tile step: one K-span of an MMA, or one tile of a CONVERT (R348, R351). -/
def doTileStepDone (s : State) (k id : Nat) (corrected : List Nat) : State :=
  match cmdOf s id with
  | none => s
  | some c => match c.run with
    | none => s
    | some r => match r.opened.find? (fun o => o.2.2.2 = k) with
      | none => s
      | some (tile, k0, kn, _) =>
        if r.boundary.contains k || islandOut s (15 + k / 8) then s
        else
          let p := runProgram s c
          let x := p.ins.getD r.instr 0
          let kk := oCols (p.ops.getD (iA x) 0)
          let (span, cycles) := spanOf p x
          let next := if iOp x = 2 then kk else kn + span
          let s := if iOp x = 2 then meterFreeCycles s c.p else active (useCtx (meter s c.p 1 cycles) c.p c.ctx 0 cycles) c.p c.ctx 0 cycles
          let s := corrected.foldl (scratchCorrected k) (progress s c.p c.ctx)
          let stop := c.killWaits && r.stop
          let note := fun (r : Run) => if stop then { r with boundary := k :: r.boundary } else r
          if kk ≤ next then
            let s := updCmd s id (fun c => { c with run := c.run.map (fun r => note { r with opened := r.opened.filter (fun o => o.2.2.2 ≠ k) }) })
            let s := computeTile s id p x tile
            if stop then s else nextInstr s id p
          else
            updCmd s id (fun c => { c with run := c.run.map (fun r => note { r with
              opened := r.opened.map (fun o => if o.2.2.2 = k then (tile, k0, next, k) else o) }) })

/-- The bytes of a checkpoint area (*Checkpoint area layout*); the images' layout is the hardware's own. -/
def ckptArea (s : State) (c : Cmd) (p : Program) (r : Run) : Bytes :=
  let x := p.ins.getD r.instr 0
  let d := p.ops.getD (iD x) 0
  let a := p.ops.getD (iA x) 0
  let k := oCols a
  let entries := (r.opened.map (fun o => beBytes 32 (pack [(64, o.1), (32, o.2.1), (32, o.2.2.1), (128, 0)]))).flatten
  let head := beBytes 4 r.instr ++ beBytes 2 r.opened.length ++ beBytes 2 r.status ++ beBytes 8 r.tile
  let exps := if exponentBytes p x = 0 then [] else
    ((List.range (oRows d)).map (fun i => beBytes 2 (ofSigned 16 (sliceExp ((List.range k).map (fun q => valueAt s c a i q true k)))))).flatten ++
    ((List.range (oCols d)).map (fun j => beBytes 2 (ofSigned 16 (sliceExp ((List.range k).map (fun q => valueAt s c (p.ops.getD (iB x) 0) q j false k)))))).flatten
  let images := (r.opened.map (fun o => (List.range (regionOf p x)).map (fun b => Config.accumulatorByte (o.1 * 2 ^ 64 + o.2.2.1) b))).flatten
  fit 64 head ++ fit (4096 - 64) entries ++ exps ++ images

/-- The 64 bytes of a checkpoint record. -/
def ckptRecord (k : Ckpt) : Bytes :=
  beBytes 64 (pack [(32, k.cmdId), (16, k.entry), (6, k.queue), (1, 1), (9, 0), (64, k.digest), (64, k.base), (16, k.status),
    (16, sat 65535 k.resumes), (288, 0)])

/-- Every tussock has reached its boundary and the accumulators are spilled: area, record, then the kill (R353). -/
def doCheckpointWritten (s : State) (id : Nat) : State :=
  match cmdOf s id with
  | none => s
  | some c => match c.run with
    | none => s
    | some r =>
      if !c.killWaits || !r.stop || !r.opened.all (fun o => r.boundary.contains o.2.2.2) then s
      else
        let p := runProgram s c
        let area := ckptArea s c p r
        match ctxOf s c.p c.ctx with
        | none => endDeferredKill s id
        | some x =>
          match (List.range 64).find? (fun n => !x.ckpts.any (fun k => k.slot = n)), accessAll s c.p (dArg c.desc 1) area.length true with
          | some slot, .ok pls =>
            let k : Ckpt := { cmdId := dId c.desc, entry := c.entry, queue := c.q, digest := descDigest c.desc, base := dArg c.desc 1,
                              status := r.status, resumes := r.resumes, instr := r.instr, tile := r.tile, slot := slot,
                              opened := r.opened.map (fun o => (o.1, o.2.1, o.2.2.1)) }
            let s := putPlaces s c.p pls area
            let s := match accessAll s c.p (x.area + 0x3000 + 64 * slot) 64 true with
              | .ok q => putPlaces s c.p q (ckptRecord k)
              | .error _ => s
            endDeferredKill (updCtx s c.p c.ctx (fun x => { x with ckpts := x.ckpts ++ [k] })) id
          | _, _ => endDeferredKill s id

/-! ### Faults in the array (R335 to R339) -/

/-- Retire a tussock (R336, R337). -/
def retireTussock (s : State) (k cause : Nat) : State :=
  if bit s.sward.tussockRetired k then s
  else fire (cairn { s with sward.tussockRetired := s.sward.tussockRetired + 2 ^ k } 0x0809 3 true 0 [k, cause]) 741

/-- An uncorrectable scratch error: the command that used the tussock is killed and runs again (R335, R336). -/
def doScratchUncorrectable (s : State) (k : Nat) : State :=
  let users := (s.cmd.live.filter (fun e => (e.2.run.map (fun r => r.opened.any (fun o => o.2.2.2 = k))).getD false)).map (·.1)
  let s := addO s 0x1800 7 1 32
  let s := fire (logDev s 0x0808 (if users.isEmpty then 0 else 2) [k]) 742
  let s := killBatch s users .island
  let now := s.sys.uptime
  let errs := (k, now) :: s.sward.scratchErrs.filter (fun e => now < e.2 + 86400 * 10 ^ 9)
  let s := { s with sward.scratchErrs := errs }
  if 3 ≤ (errs.filter (fun e => e.1 = k)).length then retireTussock s k 1 else s

/-- SELFTEST takes a tussock of the Commons, or a retired one (R339). -/
def doSelftest (s : State) (k : Nat) : State × Option Nat :=
  if bit (freeTussocks s) k || (bit s.sward.tussockRetired k && !s.sward.selftest.contains k) then
    ({ s with sward.selftest := s.sward.selftest ++ [k] }, some 0)
  else (s, some 0x080B)

/-- The self-test ends (R336, R339). -/
def doSelftestDone (s : State) (k : Nat) (ok : Bool) : State :=
  if !s.sward.selftest.contains k then s
  else
    let s := { s with sward.selftest := s.sward.selftest.filter (· ≠ k) }
    let s := setO (setO s 0x1800 4 (if ok then 0 else 0x080A)) 0x1800 5 k
    if ok then { s with sward.tussockRetired := less s.sward.tussockRetired (2 ^ k) } else retireTussock s k 2

end Sys2Proof.Machine
end

