-- ==== Sys2Proof/Machine/Transport.lean ====
section
/-! DEFINITION. Beluth transport: the opcodes WRITE, READ, ATOMIC, DISPATCH and COPY, the commands on queue pairs, the packets
of the protocol, retransmission and congestion control (R207 to R258). -/

namespace Sys2Proof.Machine
open Sys2Proof

/-! ### Queue pairs (R211 to R217, R260) -/

/-- QP_CREATE: the status with which it finishes. -/
def doQpCreate (s : State) (p : Nat) (arg : Nat) : State × Option Nat :=
  let qpn := bits arg 127 104
  let type := bits arg 103 100
  let entry := cfgP s p 0x52 6 + 1024 * (qpn % 2 ^ 18)
  if bits arg 81 0 ≠ 0 || (type ≠ 1 && type ≠ 2) || qpPad qpn ≠ p || Tbl.has s.net.qps qpn then (s, some 0x0602)
  else if paired s && rowBundles (if bit qpn 17 = secondHalf s then ownRow s p else otherRow s p) = 0 then (s, some 0x0602)
  else if paired s && bit qpn 17 ≠ secondHalf s then (emit s (.pair 5 qpn p 0), some 0)
  else if cfgP s p 0x52 7 ≤ qpn % 2 ^ 18 then (s, some 0x060A)
  else match accessAll s p entry 1024 true with
    | .error _ => (s, some 0x0602)
    | .ok pls =>
      if pls.any (fun e => match e.1 with | .rick .. => false | _ => true) then (s, some 0x0602)
      else
        let s := putPlaces s p pls (List.replicate 1024 0)
        ({ s with net.qps := Tbl.set s.net.qps qpn { type := type, recvCtx := bits arg 99 88, recvQ := bits arg 87 82 } }, some 0)

/-- The QP that a control write names: an error code, or its number (R216, R217). -/
def qpNamed (s : State) (p qpn : Nat) : Except Nat Qp :=
  match Tbl.find s.net.qps qpn with
  | none => .error 0x0601
  | some q => if qpPad qpn ≠ p || q.type = 3 then .error 0x0601 else .ok q

/-- QP_MODIFY to INIT: the MTU is checked and fixed. -/
def qpToInit (s : State) (qpn : Nat) (q : Qp) (arg : Nat) : State × Option Nat :=
  let mtu := bits arg 227 224
  if q.st ≠ 0 then (s, some 0x0603)
  else if mtu < 8 || 12 < mtu then (s, some 0x0602)
  else (updQp s qpn (fun q => { q with st := 1, mtu := mtu }), some 0)

/-- A path at its start (R217, R256). -/
def newPath (s : State) (l psn : Nat) : QPath :=
  { link := l, tx := psn, rate := (getO s 0x1600 7 : Nat), rxBase := psn }

/-- QP_MODIFY to READY, from INIT with its peer and paths, or from DRAINED. -/
def qpToReady (s : State) (p qpn : Nat) (q : Qp) (arg : Nat) : State × Option Nat :=
  if q.st = 4 then (updQp s qpn (fun q => { q with st := 2 }), some 0)
  else if q.st ≠ 1 then (s, some 0x0603)
  else
    let n := bits arg 186 183 + 1
    let links := (List.range n).map (fun k => bits arg (182 - 6 * k) (177 - 6 * k))
    let peer := bits arg 210 187
    if links.any (fun l => !bit (pad s p).links l) || (q.type = 2 && qpPad peer ≠ p) then (s, some 0x0602)
    else
      let psn := bits arg 86 55
      (updQp s qpn (fun q => { q with
        st := 2, node := bits arg 223 211, peer := peer, paths := links.map (fun l => newPath s l psn),
        rto := (getO s 0x1600 2 : Nat), expiries := 0, srtt := 0 }), some 0)

/-- QP_MODIFY to DRAINED: no new commands; DRAINED when no message is open. -/
def qpToDrained (s : State) (qpn : Nat) (q : Qp) : State × Option Nat :=
  if q.st ≠ 2 then (s, some 0x0603) else (drainCheck (updQp s qpn (fun q => { q with draining := true })) qpn, some 0)

/-- QP_MODIFY to RESET: path, sequence and rate state cleared; the MSG quarantine kept. What open messages had placed is
released with undefined contents (DEDUCED, log 19). -/
def qpToReset (s : State) (qpn : Nat) (q : Qp) : State × Option Nat :=
  if q.st ≠ 1 && q.st ≠ 4 && q.st ≠ 3 then (s, some 0x0603)
  else
    let s := q.rx.foldl (fun s m => (rickParts (m.placed.map (fun e => (e.1, e.2.length)))).foldl freeFill s) s
    (updQp s qpn (fun q => { type := q.type, recvCtx := q.recvCtx, recvQ := q.recvQ, quar := q.quar, readDone := q.readDone,
                             lastErr := q.lastErr, retx := q.retx }), some 0)

/-- QP_MODIFY (R216). -/
def doQpModify (s : State) (p arg : Nat) : State × Option Nat :=
  let qpn := bits arg 255 232
  if bits arg 54 0 ≠ 0 then (s, some 0x0602)
  else match qpNamed s p qpn with
  | .error e => (s, some e)
  | .ok q => match bits arg 231 228 with
    | 0 => qpToReset s qpn q
    | 1 => qpToInit s qpn q arg
    | 2 => qpToReady s p qpn q arg
    | 4 => qpToDrained s qpn q
    | 3 => (s, some 0x0603)
    | _ => (s, some 0x0602)

/-- QP_DESTROY (R216). -/
def doQpDestroy (s : State) (p v : Nat) : State × Option Nat :=
  let qpn := v % 2 ^ 24
  if v ≠ qpn then (s, some 0x0602)
  else match qpNamed s p qpn with
  | .error e => (s, some e)
  | .ok q => if q.st ≠ 0 then (s, some 0x0603) else ({ s with net.qps := Tbl.erase s.net.qps qpn }, some 0)

/-! ### Opcodes -/

/-- The code with which a transport command on a QP finishes before it sends; 0 where none applies (R222). -/
def qpCmdStatus (s : State) (p qpn : Nat) : Nat :=
  match Tbl.find s.net.qps qpn with
  | none => 0x0601
  | some q => if qpPad qpn ≠ p || q.type = 3 then 0x0601 else if q.st ≠ 2 || q.draining then 0x0604 else 0

/-- Is a length outside 1 to 2^32 (R221)? -/
def lenBad (n : Nat) : Bool := n = 0 || 2 ^ 32 < n

/-- A command goes on once its QP is resident and has room for one more message (R215, R232). -/
def withQp (s : State) (qpn : Nat) (f : State → State) : State :=
  if !msgRoom (qp s qpn) then s
  else match admitQp s qpn with
    | none => s
    | some s => f s

/-- Note a message that a command opened, and that it waits for one more. -/
def noteMsg (s : State) (id qpn msg : Nat) : State :=
  updCmd s id (fun c => { c with msgs := c.msgs ++ [(qpn, msg)], due := c.due + 1 })

/-- The message that the next message of a rerun replaces: the newest aborted one in its place among the command's messages
(R246). -/
def replacesOn (c : Cmd) (qpn : Nat) : Option Nat :=
  ((c.aborted.filter (fun a => a.1 = qpn && a.2.2 = c.msgs.length)).reverse[0]?).map (·.2.1)

/-- Open a WRITE message of a command and send what may leave (R208, R219, R230, R237, R246). -/
def openWrite (s : State) (id : Nat) (c : Cmd) (qpn dst : Nat) (bs : Bytes) (imm : Nat) (recv sched : Bool) : State :=
  let q := qp s qpn
  let msg := nextMsgOf q
  let s := if bs.length ≤ 256 then smallOp s c.thread else s
  let s := openMsg s qpn { msg := msg, epoch := c.epoch, cmd := some id, kind := 0, entries := [], last := (0, []), bytes := bs.length,
                           todo := cutPackets (2 ^ q.mtu) (bs.length + 1) dst bs, cid := dId c.desc, imm := imm, recv := recv,
                           replaces := replacesOn c qpn, sched := sched }
  pump (noteMsg s id qpn msg) qpn

/-- WRITE: one message sprayed over the QP; it commits on COMMIT_ACK (R220 to R222, R242). -/
def doWrite (s : State) (id : Nat) : State :=
  withCmd s id 0x20 (fun s c =>
    let a := dArg c.desc
    let qpn := a 3
    if !c.msgs.isEmpty then s
    else if 2 ^ 24 ≤ qpn || 2 ^ 33 ≤ a 4 || a 5 ≠ 0 then failCmd s id 0x0301
    else if lenBad (a 1) then failCmd s id 0x0609
    else if qpCmdStatus s c.p qpn ≠ 0 then failCmd s id (qpCmdStatus s c.p qpn)
    else if vaEnd < a 2 + a 1 then failCmd s id 0x0A01
    else match takeSegments s id c (a 1) with
    | (s, false) => s
    | (s, true) => withQp s qpn (fun s => withBytes s id c (a 0) (a 1) (fun s b =>
        openWrite s id c qpn (a 2) b (bits (a 4) 31 0) (bit (a 4) 32) false)))

/-- READ: a READ_REQ whose response is placed in the local destination (R223, R252). -/
def doRead (s : State) (id : Nat) : State :=
  withCmd s id 0x21 (fun s c =>
    let a := dArg c.desc
    let qpn := a 3
    if !c.msgs.isEmpty then s
    else if 2 ^ 24 ≤ qpn || a 4 ≠ 0 || a 5 ≠ 0 then failCmd s id 0x0301
    else if lenBad (a 1) then failCmd s id 0x0609
    else if qpCmdStatus s c.p qpn ≠ 0 then failCmd s id (qpCmdStatus s c.p qpn)
    else if vaEnd < a 2 + a 1 then failCmd s id 0x0A01
    else match takeSegments s id c (a 1) with
    | (s, false) => s
    | (s, true) => withQp s qpn (fun s => withDest s id c (a 0) (a 1) (fun s pls =>
        let s := holdDest s id pls
        let msg := nextMsgOf (qp s qpn)
        let s := if a 1 ≤ 256 then smallOp s c.thread else s
        let n := (qp s qpn).paths.length
        let m : TxMsg := { msg := msg, epoch := c.epoch, cmd := some id, kind := 4, entries := [], last := (0, []), bytes := a 1,
                           limit := getO s 0x1600 1 }
        sendRequest (noteMsg s id qpn msg) qpn 4 m (a 2) (beBytes 16 (pack [(64, a 1), (16, 2 ^ n - 1), (48, 0)])))))

/-- ATOMIC: up to 64 entries in one ATOMIC_REQ, at the time of issue (R225, R226). -/
def doAtomic (s : State) (id : Nat) : State :=
  withCmd s id 0x24 (fun s c =>
    let a := dArg c.desc
    let qpn := a 3
    let n := a 1 % 64 + 1
    if !c.msgs.isEmpty then s
    else if 2 ^ 24 ≤ qpn || a 4 ≠ 0 || a 5 ≠ 0 then failCmd s id 0x0301
    else if 64 ≤ a 1 then failCmd s id 0x0609
    else if a 0 % 32 ≠ 0 || a 2 % 8 ≠ 0 then failCmd s id 0x0309
    else if qpCmdStatus s c.p qpn ≠ 0 then failCmd s id (qpCmdStatus s c.p qpn)
    else withQp s qpn (fun s => withDest s id c (a 2) (8 * n) (fun s pls =>
      let s := holdDest s id pls
      withBytes s id c (a 0) (32 * n) (fun s b =>
        let msg := nextMsgOf (qp s qpn)
        let m : TxMsg := { msg := msg, epoch := c.epoch, cmd := some id, kind := 6, entries := [], last := (0, []), bytes := 32 * n }
        sendRequest (noteMsg (smallOp s c.thread) id qpn msg) qpn 6 m 0 b))))

/-- The lot a DISPATCH goes to (R172). -/
def dispatchLot (s : State) (p arg0 aff : Nat) : Option Nat :=
  let held := (pad s p).lots
  let kind := fun l => ((lotEntry s l).map (fun e => bits e 219 216)).getD 0
  if bit arg0 32 then
    (let l := arg0 % 2 ^ 32
     if held.contains l && (kind l = 1 || kind l = 3) then some l else none)
  else match held.find? (fun l => kind l = 1 && (match lotEntry s l with
      | some e => bits e 159 96 ≤ aff && aff < bits e 159 96 + bits e 95 32
      | none => false)) with
  | some l => some l
  | none =>
    let busy := fun l => (s.tp.outst.filter (fun e => e.2.kind = 5 && e.2.lot = l)).length
    (held.filter (fun l => kind l = 1 || kind l = 3)).foldl (fun b l => match b with
      | none => some l
      | some x => if busy l < busy x || (busy l = busy x && l < x) then some l else some x) none

/-- DISPATCH: one transaction to a lot; it commits on DISPATCH_DONE (R172, R173). -/
def doDispatch (s : State) (id : Nat) : State :=
  withCmd s id 0x2C (fun s c =>
    let a := dArg c.desc
    if 0 < c.due then s
    else if 2 ^ 33 ≤ a 0 || a 3 ≠ 0 || a 4 ≠ 0 || a 5 ≠ 0 then failCmd s id 0x0301
    else match dispatchLot s c.p (a 0) (a 1) with
    | none => failCmd s id 0x0309
    | some lot =>
      if (moduleFor s lot).isNone then failCmd s id 0x0501
      else
        let s := updCmd s id (fun c => { c with due := 1 })
        issueTp s { p := c.p, ctx := c.ctx, epoch := c.epoch, kind := 5, cmd := id, lot := lot, off := a 1, len := 0, req := 0,
                    module_ := 0, limit := getO s 0x1400 6 } (a 2) [])

/-- Write bytes over a command's destination: at once where nothing outside has to answer, else once every die has. -/
def finishWrite (s : State) (id : Nat) (c : Cmd) (pls : List (Place × Nat)) (bs : Bytes) (result : Nat) : State :=
  if pls.any (fun e => match e.1 with | .lot .. => true | _ => false) then
    (if c.acksDue = 0 && c.effects.isEmpty then becomeReady s id c (writeEffects pls bs) result else s)
  else finish s id (writeEffects pls bs) result

/-- COPY between two local ranges (R220). -/
def doCopy (s : State) (id : Nat) : State :=
  withCmd s id 0x2D (fun s c =>
    let a := dArg c.desc
    if a 3 ≠ 0 || a 4 ≠ 0 || a 5 ≠ 0 then failCmd s id 0x0301
    else if lenBad (a 1) then failCmd s id 0x0609
    else match takeSegments s id c (a 1) with
    | (s, false) => s
    | (s, true) => withDest s id c (a 2) (a 1) (fun s pls =>
        withBytes (holdDest s id pls) id c (a 0) (a 1) (fun s b =>
          finishWrite (if a 1 ≤ 256 then smallOp s c.thread else s) id c pls b 0)))

/-! ### What follows a message -/

/-- Progress of a QP (R255). -/
def qpProgress (s : State) (qpn : Nat) : State :=
  updQp s qpn (fun q => { q with expiries := 0, rto := max (getO s 0x1600 2 : Nat) (2 * q.srtt / 1000) })

/-- One of a command's messages has committed at its receiver; the last one commits the command, or ends a kill that
waited (R133, R242). -/
def messageDone (s : State) (id : Nat) : State :=
  match cmdOf s id with
  | none => s
  | some c =>
    let s := updCmd (progress s c.p c.ctx) id (fun c => { c with due := c.due - 1 })
    if 1 < c.due then s
    else if c.killWaits then endDeferredKill s id
    else conclude s id c c.effects c.result

/-- A message of a QP ends with an error: its command finishes with the code, or its instance fails (R224, R407). -/
def messageFailed (s : State) (qpn : Nat) (m : TxMsg) (code : Nat) : State :=
  let s := endMsg s qpn m.msg (m.kind = 5)
  match m.cmd, m.inst with
  | some id, _ =>
    (match cmdOf s id with
    | none => s
    | some c => if c.killWaits && dCoi c.desc then endDeferredKill s id else failCmd s id code)
  | none, some (g, n) =>
    { s with sheaf.groups := s.sheaf.groups.map (fun e => if e.1 = g then
        (g, { e.2 with insts := e.2.insts.map (fun i => if i.num = n && i.failed = 0 then { i with failed := code } else i) }) else e) }
  | none, none => s

/-- A QP fails: its messages end, their commands finish with the code, its group's open instances fail with 0x090C (R216,
R407). -/
def qpError (s : State) (qpn code : Nat) : State :=
  let q := qp s qpn
  let s := q.tx.foldl (fun s m => messageFailed s qpn m (if m.inst.isSome then 0x090C else code)) s
  let s := qpDead s qpn code
  match q.group with
  | none => s
  | some g => { s with sheaf.groups := s.sheaf.groups.map (fun e => if e.1 = g then
      (g, { e.2 with insts := e.2.insts.map (fun i => if i.failed = 0 then { i with failed := 0x090C } else i) }) else e) }

/-- Send again what a paddock's QPs hold back for want of room in the retransmit buffer (R210). -/
def pumpPad (s : State) (p : Nat) : State :=
  (s.net.qps.filter (fun e => qpPad e.1 = p && !e.2.tx.isEmpty)).foldl (fun s e => pump s e.1) s

/-- Send a packet again, with RETX (R240, R255). -/
def resend (s : State) (qpn l : Nat) (u : Nat × Bytes) : State :=
  let s := updQp s qpn (fun q => { q with retx := q.retx + 1 })
  sendOn (bump s (qpPad qpn) 0x53 3 1) (qpPad qpn) qpn l (retxHeader u.1 (ns s)) u.2 false

/-- The link of the path that a header names. -/
def linkOf (s : State) (qpn h : Nat) : Nat := (((qp s qpn).paths[bPath h]?).map (·.link)).getD 0

/-! ### Receiving messages (R233 to R243) -/

/-- How far PSN a lies ahead of b. -/
def psnAhead (a b : Nat) : Nat := (a + 2 ^ 32 - b) % 2 ^ 32

/-- Was a PSN already received on a path? -/
def psnSeen (pa : QPath) (psn : Nat) : Bool := 2 ^ 31 ≤ psnAhead psn pa.rxBase || pa.got.contains psn

/-- The highest PSN below which every packet has arrived, with fuel. -/
def advanceBase : Nat → Nat → List Nat → Nat × List Nat
  | 0, b, g => (b, g)
  | n + 1, b, g => if g.contains b then advanceBase n ((b + 1) % 2 ^ 32) (g.filter (· ≠ b)) else (b, g)

/-- One-way delay of a packet (R256). -/
def owdOf (s : State) (h : Nat) : Nat :=
  let d := (ns s + 2 ^ 24 - bTime h) % 2 ^ 24
  if 2 ^ 23 ≤ d then 0 else d

/-- Send the ACK of a path (R236, R251). -/
def ackPath (s : State) (qpn i : Nat) : State :=
  match (qp s qpn).paths[i]? with
  | none => s
  | some pa =>
    let sack := (List.range 256).foldl (fun a k => if pa.got.contains ((pa.rxBase + 1 + k) % 2 ^ 32) then a + 2 ^ k else a) 0
    let s := updQp s qpn (fun q => { q with paths := q.paths.set i { pa with sinceAck := 0 } })
    sendCtl s qpn 2 i 0 0 pa.rxBase 0 (beBytes 40 (pack [(256, sack), (32, pa.owdNew), (32, 0)]))

/-- Note an accepted packet on its path, and acknowledge after ACK_COALESCE of them (R236). -/
def acceptPsn (s : State) (p qpn h : Nat) : State :=
  match (qp s qpn).paths[bPath h]? with
  | none => s
  | some pa =>
    let (b, g) := advanceBase (pa.got.length + 1) pa.rxBase (bPsn h :: pa.got)
    let pa := { pa with rxBase := b, got := g, sinceAck := pa.sinceAck + 1, owdNew := owdOf s h }
    let s := bump (updQp s qpn (fun q => { q with paths := q.paths.set (bPath h) pa })) p 0x53 2 1
    if getO s 0x1600 0x0D ≤ pa.sinceAck then ackPath s qpn (bPath h) else s

/-- What R233 says of a packet's MSG, EPOCH and PSN. -/
inductive Judge where
  | accept | committed | stale | duplicate
  deriving DecidableEq, Repr

/-- The inbound message of a number; a READ's response is kept apart. -/
def rxMsg (q : Qp) (msg : Nat) (resp : Bool) : Option RxMsg := q.rx.find? (fun m => m.msg = msg && m.cmd.isSome = resp)

/-- Is MSG among the 256 most recent seen, or newer (R233)? -/
def inWindowMsg (q : Qp) (msg : Nat) : Bool :=
  match q.newest with
  | none => true
  | some n => let d := (msg + 4096 - n) % 4096; d < 2048 || 4096 - d < 256

/-- Judge a DATA or COMMIT packet. -/
def judge (q : Qp) (h : Nat) : Judge :=
  if q.committed.contains (bMsg h) then .committed
  else if !inWindowMsg q (bMsg h) then .stale
  else match rxMsg q (bMsg h) false with
    | some m => if m.aborted || m.epoch ≠ bEpoch h then .stale
                else if bType h = 0 && (match q.paths[bPath h]? with | some pa => psnSeen pa (bPsn h) | none => true) then .duplicate
                else .accept
    | none => if bType h = 0 && (match q.paths[bPath h]? with | some pa => psnSeen pa (bPsn h) | none => true) then .duplicate else .accept

/-- Note a MSG value seen. -/
def seeMsg (q : Qp) (msg : Nat) : Qp :=
  match q.newest with
  | none => { q with newest := some msg }
  | some n => if (msg + 4096 - n) % 4096 < 2048 then { q with newest := some msg } else q

/-- Change an inbound message, which begins here if it is new. -/
def updRx (s : State) (qpn msg epoch : Nat) (cmd : Option Nat) (f : RxMsg → RxMsg) : State :=
  updQp s qpn (fun q =>
    if (rxMsg q msg cmd.isSome).isSome then
      { q with rx := q.rx.map (fun m => if m.msg = msg && m.cmd.isSome = cmd.isSome then f m else m) }
    else { q with rx := q.rx ++ [f { msg := msg, epoch := epoch, cmd := cmd }] })

/-- Abort an inbound message: what it placed stays held (R245). -/
def abortRx (s : State) (qpn msg epoch : Nat) : State := updRx s qpn msg epoch none (fun m => { m with aborted := true })

/-- Release what a message placed, with undefined contents (R246 to R248). -/
def releaseRx (s : State) (qpn msg : Nat) : State :=
  match rxMsg (qp s qpn) msg false with
  | none => s
  | some m =>
    let s := (rickParts (m.placed.map (fun e => (e.1, e.2.length)))).foldl freeFill s
    drainCheck (updQp s qpn (fun q => { q with rx := q.rx.filter (fun x => !(x.msg = msg && x.cmd.isNone)) })) qpn

/-- The length of the tail of a packet with COMMIT: the summary and one entry for each path of its mask (R219). The
shortest tail that is consistent is taken (DEDUCED, log 20). -/
def tailLength (q : Qp) (payload : Bytes) : Option Nat :=
  ((List.range 17).map (fun n => 24 + 8 * n)).find? (fun t =>
    t ≤ payload.length && 24 < t &&
    (let sum := beNat ((payload.drop (payload.length - t)).take 24)
     popCount 16 (bits sum 63 48) = (t - 24) / 8 && bits sum 33 0 = 0 && bits sum 63 48 < 2 ^ q.paths.length &&
     payload.length - t ≤ bits sum 191 128))

/-- The path entries of a tail: path, first PSN, count. -/
def tailEntries (tail : Bytes) : List (Nat × Nat × Nat) :=
  let sum := beNat (tail.take 24)
  (setBits 16 (bits sum 63 48)).zipIdx.map (fun e =>
    let x := beNat ((tail.drop (24 + 8 * e.2)).take 8)
    (e.1, bits x 63 32, bits x 31 0))

/-- Gaps between rising offsets below a count: (start, length). -/
def gaps : Nat → Nat → List Nat → List (Nat × Nat)
  | at_, count, [] => if at_ < count then [(at_, count - at_)] else []
  | at_, count, k :: t => if at_ < k then (at_, k - at_) :: gaps (k + 1) count t else gaps (k + 1) count t

/-- Rising order, without repeats. -/
def insertUp (k : Nat) : List Nat → List Nat
  | [] => [k]
  | a :: t => if k < a then k :: a :: t else if k = a then a :: t else a :: insertUp k t

/-- The PSNs that a commit lists and a message lacks: path, first, count (R238). -/
def missing (m : RxMsg) (entries : List (Nat × Nat × Nat)) : List (Nat × Nat × Nat) :=
  (entries.map (fun e =>
    let have_ := (m.psns.filter (fun x => x.1 = e.1 && psnAhead x.2 e.2.1 < e.2.2)).foldl (fun l x => insertUp (psnAhead x.2 e.2.1) l) []
    (gaps 0 e.2.2 have_).map (fun g => (e.1, (e.2.1 + g.1) % 2 ^ 32, min g.2 (2 ^ 28 - 1))))).flatten

/-- Post a receive-side record (R241, R243). -/
def receiveRecord (s : State) (p qpn h sum : Nat) : State :=
  let q := qp s qpn
  match queueOf s p q.recvQ with
  | none => stale s p
  | some x =>
    postRecord s p q.recvQ (recordNat (bits sum 127 96) 0 0x20 q.recvCtx (bEpoch h) q.recvQ 1 0 x.head (ns s)
      (bits sum 95 64 * 2 ^ 32 + bSrcQp h)) false

/-- A message commits at its receiver (R241, R246): an aborted message that it replaces is released first; the placed bytes
become observable; the record and COMMIT_ACK follow. -/
def rxCommit (s : State) (on : Port) (p qpn h sum : Nat) (m : RxMsg) : State :=
  let pls := m.placed.map (fun e => (e.1, e.2.length))
  let host := pls.any (fun e => match e.1 with | .host _ => true | _ => false)
  if host && !hostOpen s p then sendNak (abortRx s qpn m.msg m.epoch) on p h 0x0401 []
  else if !placesOpen s p pls then sendNak (abortRx (refuse s p 0x0407 [qpn]) qpn m.msg m.epoch) on p h 0x0407 []
  else
    let s := if bit sum 46 then releaseRx s qpn (bits sum 45 34) else s
    let s := m.placed.foldl (fun s e => putPlace s p e.1 e.2) s
    let s := updQp s qpn (fun q => { q with rx := q.rx.filter (fun x => !(x.msg = m.msg && x.cmd.isNone)),
                                            committed := (m.msg :: q.committed).take 256 })
    let s := if bit sum 47 then receiveRecord s p qpn h sum else s
    drainCheck (sendBack s on qpn 10 h 0 []) qpn

/-- Bytes of a transfer from its packets, by rising offset; none where they leave a hole. -/
def assemble (n : Nat) (parts : List (Nat × Bytes)) : Option Bytes :=
  let bs := (parts.foldl (fun (acc : List (Nat × Bytes)) e =>
    (acc.takeWhile (fun x => x.1 < e.1)) ++ [e] ++ (acc.dropWhile (fun x => x.1 < e.1))) []).foldl
      (fun acc e => match acc with
        | none => none
        | some b => if e.1 = b.length then some (b ++ e.2) else none) (some [])
  match bs with
  | some b => if b.length = n then some b else none
  | none => none

/-- A collective message commits: its body joins its instance (R397, R399, R403). -/
def collCommit (s : State) (on : Port) (p qpn h : Nat) (m : RxMsg) : State :=
  let q := qp s qpn
  let s' := updQp s qpn (fun q => { q with rx := q.rx.filter (fun x => !(x.msg = m.msg && x.cmd.isNone)),
                                           committed := (m.msg :: q.committed).take 256 })
  match q.group, m.inst, assemble m.bytes m.data with
  | some g, some n, some body =>
    if bits (beNat (body.take 16)) 63 32 ≠ n then stale s' p
    else
      let from_ := bits (beNat (body.take 16)) 31 20
      let s := { s' with sheaf.groups := s'.sheaf.groups.map (fun e => if e.1 = g then
          (g, if e.2.insts.any (fun i => i.num = n) then
                { e.2 with insts := e.2.insts.map (fun i => if i.num = n then { i with got := i.got ++ [(from_, m.msg, body)] } else i) }
              else { e.2 with insts := e.2.insts ++ [{ num := n, got := [(from_, m.msg, body)] }] }) else e) }
      drainCheck (sendBack s on qpn 10 h 0 []) qpn
  | _, _, _ => stale s' p

/-- The check at a commit (R238): every listed PSN and all the bytes, or a NAK that lists what is missing. -/
def commitCheck (s : State) (on : Port) (p qpn h : Nat) (tail : Bytes) : State :=
  match rxMsg (qp s qpn) (bMsg h) false with
  | none => s
  | some m =>
    let sum := beNat (tail.take 24)
    let miss := missing m (tailEntries tail)
    if !miss.isEmpty || m.bytes ≠ bits sum 191 128 then sendNak s on p h 0 miss
    else if (qp s qpn).type = 3 then collCommit s on p qpn h m
    else rxCommit s on p qpn h sum m

/-- The group of a COLLECTIVE QP. -/
def groupOf (s : State) (qpn : Nat) : Option Group := (qp s qpn).group.bind (getPair s.sheaf.groups)

/-- The full instance number of a collective packet, in the window from the oldest instance not ended (R396, R397). -/
def recoverInst (g : Group) (addr : Nat) : Option Nat :=
  let d := (bits addr 56 32 + 2 ^ 25 - g.ended % 2 ^ 25) % 2 ^ 25
  let n := g.ended + d
  if d < 2 ^ 24 && n < 2 ^ 32 && !(n < g.nextInst && !g.insts.any (fun i => i.num = n)) then some n else none

/-- What a message's data come to. -/
def noteData (s : State) (p qpn h : Nat) (data : Bytes) (f : RxMsg → RxMsg) : State :=
  let s := updQp s qpn (fun q => seeMsg q (bMsg h))
  let s := updRx s qpn (bMsg h) (bEpoch h) none (fun m =>
    f { m with psns := m.psns ++ [(bPath h, bPsn h)], bytes := m.bytes + data.length, lastAt := ns s })
  acceptPsn s p qpn h

/-- Split a packet's payload into data and tail. -/
def splitTail (q : Qp) (h : Nat) (payload : Bytes) : Option (Bytes × Bytes) :=
  if !bCommit h then some (payload, [])
  else (tailLength q payload).map (fun t => (payload.take (payload.length - t), payload.drop (payload.length - t)))

/-- Place the data of an accepted packet of a message (R235). `id` is the waiting access, where the packet waited before. -/
def placeData (s : State) (id : Option Nat) (on : Port) (pkt : Packet) (p qpn va : Nat) (data place : Bytes) (tail : Bytes) : State :=
  let h := pkt.hdr.toNat
  let drop := fun (s : State) => match id with | some i => endInner s i | none => s
  match accessAll s p va place.length true with
  | .error (.fault c l) => if c = 0x0405 then sendNak (abortRx (drop s) qpn (bMsg h) (bEpoch h)) on p h c []
      else faultInbound (abortRx (drop s) qpn (bMsg h) (bEpoch h)) on p h va c l 2 true
  | .error (.needAts b) =>
    let (s, i) := match id with | some i => (s, i) | none => (beginInner s p (.dataPacket on pkt), s.cmd.nextCmd)
    (match askAts s i p b with
     | (s, .stop c) => sendNak (abortRx (endInner s i) qpn (bMsg h) (bEpoch h)) on p h c []
     | (s, _) => s)
  | .error (.at_ _) => drop s
  | .ok pls =>
    let s := drop s
    let parts := (pls.foldl (fun (acc : List (Place × Bytes) × Bytes) e => (acc.1 ++ [(e.1, acc.2.take e.2)], acc.2.drop e.2)) ([], place)).1
    let s := noteData s p qpn h data (fun m => { m with placed := m.placed ++ parts })
    if tail.isEmpty then s else commitCheck s on p qpn h tail

/-- A packet whose data fall in the view of a receive binding: whole rows are transformed, each placed by its number (R365
to R368). -/
def viewData (s : State) (id : Option Nat) (on : Port) (pkt : Packet) (p qpn : Nat) (row bind slot : Nat) (data tail : Bytes) : State :=
  let h := pkt.hdr.toNat
  let n := slInBytes slot
  let off := bAddr h - bits bind 191 128
  let bad := fun (s : State) (code : Nat) =>
    let s := match id with | some i => endInner s i | none => s
    sendNak (abortRx s qpn (bMsg h) (bEpoch h)) on p h code []
  if !slValid slot || slotBad slot then bad s 0x0813
  else if off % n ≠ 0 || data.length % n ≠ 0 then bad s 0x0815
  else if noTussock s p ≠ 0 then bad s (noTussock s p)
  else if s.pow.brake.isSome && (rxMsg (qp s qpn) (bMsg h) false).isNone then
    (if id.isSome then s else beginInner s p (.dataPacket on pkt))
  else
    let s := if (rxMsg (qp s qpn) (bMsg h) false).isNone then
        updRx s qpn (bMsg h) (bEpoch h) none (fun m => { m with slots := copySlots s p qpn })
      else s
    match (if slKind slot = 1 && !isMx (slW slot) then readVa s p (slBase slot) (wBytes slot) else .ok []) with
    | .error (.fault c l) => faultInbound (abortRx (match id with | some i => endInner s i | none => s) qpn (bMsg h) (bEpoch h)) on p h (slBase slot) c l 2 false
    | .error _ => bad s 0x0813
    | .ok w =>
      let (s, out, _) := rowsTransform s p slot (off / n) w data
      let _ := row
      placeData s id on pkt p qpn (bits bind 127 64 + off / n * slOutBytes slot) data out tail

/-- Data of a collective message: kept by offset until the commit (R396, R403). -/
def collData (s : State) (on : Port) (p qpn h : Nat) (data tail : Bytes) : State :=
  match (groupOf s qpn).bind (fun g => recoverInst g (bAddr h)) with
  | none => stale s p
  | some n =>
    match rxMsg (qp s qpn) (bMsg h) false with
    | some m => if m.inst ≠ some n then stale s p else
        (let s := noteData s p qpn h data (fun m => { m with data := m.data ++ [(bits (bAddr h) 31 0, data)] })
         if tail.isEmpty then s else commitCheck s on p qpn h tail)
    | none =>
      let s := noteData s p qpn h data (fun m => { m with inst := some n, data := m.data ++ [(bits (bAddr h) 31 0, data)] })
      if tail.isEmpty then s else commitCheck s on p qpn h tail

/-- A DATA packet that has passed the receive check. -/
def dataArrived (s : State) (id : Option Nat) (on : Port) (pkt : Packet) (p qpn : Nat) : State :=
  let h := pkt.hdr.toNat
  let q := qp s qpn
  let drop := fun (s : State) => match id with | some i => endInner s i | none => s
  match judge q h with
  | .committed => drop (if bCommit h then sendBack s on qpn 10 h 0 [] else bump s p 0x53 6 1)
  | .stale => drop (stale s p)
  | .duplicate =>
    drop (if bCommit h then (match splitTail q h pkt.payload with
      | some (_, tail) => commitCheck (bump s p 0x53 6 1) on p qpn h tail
      | none => dropUnmatched s) else bump s p 0x53 6 1)
  | .accept => match splitTail q h pkt.payload with
    | none => drop (dropUnmatched s)
    | some (data, tail) =>
      if q.type = 3 then collData (drop s) on p qpn h data tail
      else match bindingFor s p qpn (bAddr h) with
        | some (row, bind) =>
          if data.isEmpty then placeData s id on pkt p qpn (bAddr h) data data tail
          else
            let slots := match rxMsg q (bMsg h) false with | some m => m.slots | none => copySlots s p qpn
            viewData s id on pkt p qpn row bind ((getPair slots row).getD 0) data tail
        | none => placeData s id on pkt p qpn (bAddr h) data data tail

/-- A DATA packet arrives. -/
def doDataPacket (s : State) (on : Port) (pkt : Packet) : State :=
  match receive s on pkt 0 with
  | (s, none) => s
  | (s, some (p, qpn)) => dataArrived s none on pkt p qpn

/-- A COMMIT packet arrives (R237, R238, R242). -/
def doCommitPacket (s : State) (on : Port) (pkt : Packet) : State :=
  let h := pkt.hdr.toNat
  match receive s on pkt 1 with
  | (s, none) => s
  | (s, some (p, qpn)) =>
    let n := popCount 16 (bits (beNat (pkt.payload.take 24)) 63 48)
    if pkt.payload.length ≠ 24 + 8 * n || bits (beNat (pkt.payload.take 24)) 33 0 ≠ 0 then dropUnmatched s
    else match judge (qp s qpn) h with
    | .committed => sendBack s on qpn 10 h 0 []
    | .stale => stale s p
    | _ =>
      let s := updQp s qpn (fun q => seeMsg q (bMsg h))
      let s := updRx s qpn (bMsg h) (bEpoch h) none (fun m => { m with lastAt := ns s })
      commitCheck s on p qpn h pkt.payload

/-! ### Acknowledgements and congestion control (R236, R251, R256, R257) -/

/-- The rate of a path after an acknowledgement. -/
def ackRate (s : State) (q : Qp) (pa : QPath) (owd : Nat) : QPath :=
  let now := ns s
  let keep := (now, owd) :: pa.owds.filter (fun e => now < e.1 + 10000000)
  let base := keep.foldl (fun a e => min a e.2) owd
  let qd : Rat := ((owd - base : Nat) : Rat)
  let target : Rat := (getO s 0x1600 6 : Nat)
  let pa := { pa with owds := keep }
  if qd ≤ target then
    (if !bit (link s pa.link).throttled 0 then { pa with rate := min (pa.rate + (getO s 0x1600 8 : Nat)) 800 } else pa)
  else if q.srtt ≤ ((now - pa.lastDec : Nat) : Rat) then
    let f : Rat := ((getO s 0x1600 9 : Nat) : Rat) / 1000 * (qd - target) / qd
    { pa with rate := max (pa.rate * (1 - min f (((getO s 0x1600 0x0A : Nat) : Rat) / 1000))) (getO s 0x1600 0x0B : Nat), lastDec := now }
  else pa

/-- An ACK of one path. -/
def doAckPacket (s : State) (on : Port) (pkt : Packet) : State :=
  let h := pkt.hdr.toNat
  match receive s on pkt 2 with
  | (s, none) => s
  | (s, some (p, qpn)) =>
    let q := qp s qpn
    match q.paths[bPath h]? with
    | none => stale s p
    | some pa =>
      let body := beNat pkt.payload
      let cum := bPsn h
      let sacks := (setBits 256 (bits body 319 64)).map (fun i => (cum + 1 + i) % 2 ^ 32)
      if pkt.payload.length ≠ 40 || bits body 31 0 ≠ 0 then dropUnmatched s
      else if bMsg h ≠ 0 || bEpoch h ≠ 0 || 2 ^ 31 ≤ psnAhead pa.tx cum || sacks.any (fun x => psnAhead pa.tx x = 0 || 2 ^ 31 ≤ psnAhead pa.tx x) then stale s p
      else
        let covered := fun (u : Nat × Nat × Bytes) => (psnAhead cum u.1 ≠ 0 && psnAhead cum u.1 < 2 ^ 31) || sacks.contains u.1
        let freed := pa.unacked.filter covered
        let q := match freed.getLast? with
          | none => q
          | some u =>
            let rtt : Rat := (((ns s + 2 ^ 24 - bTime u.2.1) % 2 ^ 24 : Nat) : Rat)
            { q with srtt := q.srtt + (rtt - q.srtt) / 8 }
        let owd := if synced s then bits body 63 32 else (match freed.getLast? with
          | some u => (ns s + 2 ^ 24 - bTime u.2.1) % 2 ^ 24 / 2
          | none => bits body 63 32)
        let pa' := ackRate s q { pa with unacked := pa.unacked.filter (fun u => !covered u) } owd
        let s := updQp s qpn (fun _ => { q with paths := q.paths.set (bPath h) pa' })
        if freed.isEmpty then s else pumpPad (qpProgress s qpn) p

/-! ### Replies (R224, R239 to R242, R250) -/

/-- The open outbound message that a NAK or COMMIT_ACK concerns: an own message first, else the response to a READ that this
QP serves (DEDUCED, log 21). -/
def repliedMsg (s : State) (qpn h : Nat) (own : Bool) : Option TxMsg :=
  let ok := fun (m : TxMsg) => m.msg = bMsg h && m.epoch = bEpoch h && !m.aborting
  match (qp s qpn).tx.find? (fun m => ok m && m.kind ≠ 5 && (own || m.kind = 0)) with
  | some m => some m
  | none => (qp s qpn).tx.find? (fun m => ok m && m.kind = 5)

/-- The ranges of a NAK. -/
def nakRanges (payload : Bytes) : List (Nat × Nat × Nat) :=
  (chunksOf 8 256 (payload.drop 8)).map (fun b => let x := beNat b; (bits x 31 28, bits x 63 32, bits x 27 0))

/-- Send what a commit's check missed, then the commit again (R240). -/
def resendMissing (s : State) (qpn : Nat) (m : TxMsg) (ranges : List (Nat × Nat × Nat)) : State :=
  let q := qp s qpn
  let s := ranges.foldl (fun s r => match q.paths[r.1]? with
    | none => s
    | some pa => (pa.unacked.filter (fun u => psnAhead u.1 r.2.1 < r.2.2 && u.2.1 ≠ m.last.1)).foldl (fun s u => resend s qpn pa.link u.2) s) s
  if m.sealed_ then resend (updMsg s qpn m.msg (m.kind = 5) (fun m => { m with sentAt := ns s })) qpn (linkOf s qpn m.last.1) m.last else s

/-- A NAK arrives. -/
def doNakPacket (s : State) (on : Port) (pkt : Packet) : State :=
  let h := pkt.hdr.toNat
  match receive s on pkt 3 with
  | (s, none) => s
  | (s, some (p, qpn)) =>
    let head := beNat (pkt.payload.take 8)
    let status := bits head 63 48
    if pkt.payload.length ≠ 8 + 8 * bits head 47 32 || bits head 31 0 ≠ 0 then dropUnmatched s
    else match repliedMsg s qpn h (status ≠ 0) with
    | none => stale s p
    | some m =>
      if status = 0 then resendMissing s qpn m (nakRanges pkt.payload)
      else if status = 0x060E then qpError s qpn 0x060E
      else pumpPad (messageFailed (qpProgress s qpn) qpn m status) p

/-- A COMMIT_ACK arrives (R242). -/
def doCommitAck (s : State) (on : Port) (pkt : Packet) : State :=
  let h := pkt.hdr.toNat
  match receive s on pkt 10 with
  | (s, none) => s
  | (s, some (p, qpn)) => match repliedMsg s qpn h false with
    | none => stale s p
    | some m =>
      if !m.sealed_ then stale s p
      else
        let s := qpProgress (endMsg s qpn m.msg (m.kind = 5)) qpn
        pumpPad (match m.cmd with | some id => messageDone s id | none => s) p

/-! ### Reads and atomics (R223 to R229, R252 to R254) -/

/-- A READ_REQ arrives: the responder gathers the bytes and answers with a response message. -/
def doReadReq (s : State) (on : Port) (pkt : Packet) : State :=
  let h := pkt.hdr.toNat
  match receive s on pkt 4 with
  | (s, none) => s
  | (s, some (p, qpn)) =>
    let body := beNat pkt.payload
    if pkt.payload.length ≠ 16 || bits body 47 0 ≠ 0 then dropUnmatched s
    else if (txMsg s qpn (bMsg h) true).isSome || s.cmd.heldReads.any (fun e => match e.2 with
        | .readReq _ k => bDstQp k.hdr.toNat = qpn && bMsg k.hdr.toNat = bMsg h
        | _ => false) then bump s p 0x53 6 1
    else if lenBad (bits body 127 64) then sendNak s on p h 0x0609 []
    else beginInner s p (.readReq on pkt)

/-- The open request that a response answers (R250). -/
def requestOf (s : State) (qpn h kind : Nat) : Option (TxMsg × Nat × Cmd) :=
  match (qp s qpn).tx.find? (fun m => m.kind = kind && m.msg = bMsg h && m.epoch = bEpoch h && !m.aborting) with
  | none => none
  | some m => match m.cmd with
    | none => none
    | some id => (cmdOf s id).map (fun c => (m, id, c))

/-- A READ's response is complete: COMMIT_ACK, and the command commits with the bytes placed (R237, R238). -/
def readComplete (s : State) (on : Port) (p qpn h id : Nat) (m : RxMsg) (sum : Nat) (entries : List (Nat × Nat × Nat)) : State :=
  let miss := missing m entries
  if !miss.isEmpty || m.bytes ≠ bits sum 191 128 then sendNak s on p h 0 miss
  else
    let es := m.placed.map (fun e => Effect.wr e.1 e.2)
    let s := updQp s qpn (fun q => { q with rx := q.rx.filter (fun x => x.cmd ≠ some id), readDone := bMsg h :: q.readDone })
    let s := sendBack s on qpn 10 h 0 []
    let s := qpProgress (endMsg s qpn (bMsg h) false) qpn
    let s := updCmd s id (fun c => { c with due := 0 })
    match cmdOf s id with
    | none => s
    | some c => if m.placed.any (fun e => match e.1 with | .lot .. => true | _ => false) then becomeReady (pumpPad s p) id c es 0
                else finish (pumpPad s p) id es 0

/-- A READ_RESP packet arrives. -/
def doReadResp (s : State) (on : Port) (pkt : Packet) : State :=
  let h := pkt.hdr.toNat
  match receive s on pkt 5 with
  | (s, none) => s
  | (s, some (p, qpn)) =>
    let q := qp s qpn
    match requestOf s qpn h 4 with
    | none => if bCommit h && q.readDone.contains (bMsg h) then sendBack s on qpn 10 h 0 [] else stale s p
    | some (req, id, c) =>
      match splitTail q h pkt.payload with
      | none => dropUnmatched s
      | some (data, tail) =>
        let sum := beNat (tail.take 24)
        let done := fun (s : State) => match rxMsg (qp s qpn) (bMsg h) true with
          | some m => if tail.isEmpty then s else readComplete s on p qpn h id m sum (tailEntries tail)
          | none => s
        if (match q.paths[bPath h]? with | some pa => psnSeen pa (bPsn h) | none => true) then done (bump s p 0x53 6 1)
        else
          let base := bAddr req.last.1
          let off := bAddr h - base
          if !data.isEmpty && (bAddr h < base || req.bytes < off + data.length) then stale s p
          else match accessAll s p (dArg c.desc 0 + off) data.length true with
            | .error (.fault code l) => park s c (dArg c.desc 0 + off) l true code true
            | .error _ => s
            | .ok pls =>
              let parts := (pls.foldl (fun (acc : List (Place × Bytes) × Bytes) e => (acc.1 ++ [(e.1, acc.2.take e.2)], acc.2.drop e.2)) ([], data)).1
              let s := updRx s qpn (bMsg h) (bEpoch h) (some id) (fun m => { m with
                psns := m.psns ++ [(bPath h, bPsn h)], bytes := m.bytes + data.length, lastAt := ns s, placed := m.placed ++ parts })
              done (progress (acceptPsn s p qpn h) c.p c.ctx)

/-- An ATOMIC_REQ arrives: a kept response is sent again; otherwise its entries are performed as one unit (R225 to R228). -/
def doAtomicReq (s : State) (on : Port) (pkt : Packet) : State :=
  let h := pkt.hdr.toNat
  match receive s on pkt 6 with
  | (s, none) => s
  | (s, some (p, qpn)) =>
    match (qp s qpn).kept.find? (fun e => e.1 = bMsg h) with
    | some (_, olds) => sendBack s on qpn 7 h 0 olds
    | none =>
      if s.cmd.heldReads.any (fun e => match e.2 with
          | .atomicReq _ k => bDstQp k.hdr.toNat = qpn && bMsg k.hdr.toNat = bMsg h
          | _ => false) then bump s p 0x53 6 1
      else if pkt.payload.isEmpty || pkt.payload.length % 32 ≠ 0 || 2048 < pkt.payload.length then sendNak s on p h 0x0608 []
      else beginInner s p (.atomicReq on pkt)

/-- An ATOMIC_RESP arrives: the result array becomes visible with the issuer record (R229); a kill that waited for it takes
place (R133). -/
def doAtomicResp (s : State) (on : Port) (pkt : Packet) : State :=
  let h := pkt.hdr.toNat
  match receive s on pkt 7 with
  | (s, none) => s
  | (s, some (p, qpn)) => match requestOf s qpn h 6 with
    | none => stale s p
    | some (m, id, c) =>
      if pkt.payload.length ≠ m.bytes / 4 then stale s p
      else
        let s := qpProgress (endMsg s qpn (bMsg h) false) qpn
        let s := updCmd (progress s c.p c.ctx) id (fun c => { c with due := 0 })
        if c.killWaits then endDeferredKill s id
        else match accessAll s p (dArg c.desc 2) pkt.payload.length true with
          | .ok pls => finishWrite s id c pls pkt.payload 0
          | .error (.fault code l) => park s c (dArg c.desc 2) l true code true
          | .error _ => s

/-- No ATOMIC_RESP within 20 µs (R229). -/
def doAtomicTimeout (s : State) (id : Nat) : State :=
  match s.net.qps.findSome? (fun e => (e.2.tx.find? (fun m => m.kind = 6 && m.cmd = some id && !m.aborting)).map (fun m => (e.1, m))) with
  | none => s
  | some (qpn, m) => messageFailed s qpn m 0x0607

/-- A kept response expires (R228). -/
def doAtomicResponseExpiry (s : State) (qpn msg : Nat) : State :=
  if Tbl.has s.net.qps qpn then updQp s qpn (fun q => { q with kept := q.kept.filter (fun e => e.1 ≠ msg) }) else s

/-- A READ has not committed within FABRIC_READ_TIMEOUT: it finishes with 0x0606, and ABORT goes to the responder (R252). -/
def doReadTimeout (s : State) (id : Nat) : State :=
  if s.net.qps.any (fun e => e.2.tx.any (fun m => m.kind = 4 && m.cmd = some id && !m.aborting)) then failCmd s id 0x0606 else s

/-! ### Aborts (R244 to R248) -/

/-- ABORT: the message is aborted and keeps its bytes held; a response in progress stops. -/
def doAbort (s : State) (on : Port) (pkt : Packet) : State :=
  let h := pkt.hdr.toNat
  match receive s on pkt 8 with
  | (s, none) => s
  | (s, some (_, qpn)) =>
    let s := if (rxMsg (qp s qpn) (bMsg h) false).isSome then abortRx s qpn (bMsg h) (bEpoch h) else s
    let s := (s.cmd.heldReads.filter (fun e => match e.2 with
      | .readReq _ k => bDstQp k.hdr.toNat = qpn && bMsg k.hdr.toNat = bMsg h
      | _ => false)).foldl (fun s e => endInner s e.1) s
    let s := if (txMsg s qpn (bMsg h) true).isSome then endMsg s qpn (bMsg h) true else s
    drainCheck (sendBack s on qpn 9 h 0 []) qpn

/-- ABORT_ACK, matched on MSG alone (R250). -/
def doAbortAck (s : State) (on : Port) (pkt : Packet) : State :=
  let h := pkt.hdr.toNat
  match receive s on pkt 9 with
  | (s, none) => s
  | (s, some (p, qpn)) =>
    if (qp s qpn).tx.any (fun m => m.msg = bMsg h && m.kind ≠ 5 && m.aborting) then
      pumpPad (qpProgress (endMsg s qpn (bMsg h) false) qpn) p
    else stale s p

/-- ABANDON: the aborted message's bytes are released with undefined contents (R247). -/
def doAbandon (s : State) (on : Port) (pkt : Packet) : State :=
  match receive s on pkt 11 with
  | (s, none) => s
  | (s, some (_, qpn)) => releaseRx s qpn (bMsg pkt.hdr.toNat)

/-- An inbound message without a packet for 20 ms is discarded (R248). -/
def doOrphaned (s : State) (qpn msg : Nat) : State :=
  match Tbl.find s.net.qps qpn with
  | none => s
  | some q =>
    if (rxMsg q msg false).isSome then logPad (bump (releaseRx s qpn msg) (qpPad qpn) 0x53 9 1) (qpPad qpn) 0x060C 0 [qpn, msg] else s

/-- A MSG quarantine ends (R232). -/
def doMsgQuarantineEnd (s : State) (qpn msg : Nat) : State :=
  if Tbl.has s.net.qps qpn then
    updQp s qpn (fun q => { q with quar := q.quar.filter (· ≠ msg), readDone := q.readDone.filter (· ≠ msg) })
  else s

/-! ### Timers (R236, R255) -/

/-- ACK_INTERVAL has passed since an unacknowledged packet arrived on a path. -/
def doAckIntervalExpiry (s : State) (qpn path : Nat) : State :=
  match (qp s qpn).paths[path]? with
  | none => s
  | some pa => if 0 < pa.sinceAck && stillReady s qpn then ackPath s qpn path else s

/-- Is anything of a QP unanswered? -/
def retxRuns (q : Qp) : Bool := q.paths.any (fun pa => !pa.unacked.isEmpty) || q.tx.any (fun m => m.sealed_ || m.aborting)

/-- The retransmit timer of a QP expires (R255). -/
def doRetxTimerExpiry (s : State) (qpn : Nat) : State :=
  match Tbl.find s.net.qps qpn with
  | none => s
  | some q =>
    if !retxRuns q || (q.st ≠ 2 && q.st ≠ 4) then s
    else if getO s 0x1600 4 ≤ q.expiries + 1 then qpError s qpn 0x0605
    else
      let s := updQp s qpn (fun q => { q with expiries := q.expiries + 1 })
      let wait := q.tx.filter (fun m => m.sealed_ || m.aborting)
      let s := q.paths.foldl (fun s pa => match pa.unacked with
        | [] => s
        | u :: _ => if wait.any (fun m => m.last.1 = u.2.1) then s else resend s qpn pa.link u.2) s
      let s := wait.foldl (fun s m => resend s qpn (linkOf s qpn m.last.1) m.last) s
      let least : Rat := (getO s 0x1600 0x0B : Nat)
      updQp s qpn (fun q => { q with
        paths := q.paths.map (fun pa => { pa with rate := max (pa.rate / 2) least }),
        rto := min (2 * q.rto) (getO s 0x1600 3 : Nat) })

/-! ### Accesses that waited -/

/-- Go on with one inbound access. -/
def inboundWork (s : State) (e : Held) : State :=
  match e.2 with
  | .readReq on pkt => serveReadReq s e.1 on pkt
  | .atomicReq on pkt => serveAtomic s e.1 on pkt
  | .tpRead m h => serveTpRead s e.1 m.val h.toNat
  | .tpWrite m h data => serveTpWrite s e.1 m.val h.toNat data
  | .dataPacket on pkt =>
    (let h := pkt.hdr.toNat
     match cmdOf s e.1 with
     | none => s
     | some c =>
       if !stillReady s (bDstQp h) then endInner s e.1
       else if c.status ≠ 0 then sendNak (abortRx (endInner s e.1) (bDstQp h) (bMsg h) (bEpoch h)) on c.p h c.status []
       else dataArrived s (some e.1) on pkt c.p (bDstQp h))
  | _ => endInner s e.1

end Sys2Proof.Machine
end

