-- ==== Sys2Proof/Machine/Moe.lean ====
section
/-! DEFINITION. The opcodes XWRITE, XCOPY, MOE_DISPATCH and MOE_COMBINE (R361 to R373). -/

namespace Sys2Proof.Machine
open Sys2Proof

/-- Book the tussock cycles that a piece of work took to the context that ran it (R474, R485). -/
def bookCycles (s0 s : State) (p c : Nat) : State :=
  let n := getP s p 0x30 1 - getP s0 p 0x30 1
  active (useCtx s p c 0 n) p c 0 n

/-- The W matrix of a slot, where it has one that can be read as stored. -/
def withW (s : State) (id : Nat) (c : Cmd) (slot : Nat) (f : State → Bytes → State) : State :=
  if slKind slot = 1 && !isMx (slW slot) then withBytes s id c (slBase slot) (wBytes slot) f else f s []

/-- The code with which a length of a transform finishes; 0 where it is good (R364). -/
def xLength (slot n : Nat) : Nat :=
  if n % slInBytes slot ≠ 0 || 2 ^ 32 ≤ n / slInBytes slot * slOutBytes slot then 0x0814 else 0

/-! ### XWRITE and XCOPY (R341, R342, R364) -/

/-- XWRITE: the rows are transformed and sent as a WRITE. -/
def doXwrite (s : State) (id : Nat) : State :=
  withCmd s id 0x51 (fun s c =>
    let a := dArg c.desc
    let qpn := bits (a 3) 23 0
    let slot := c.slot.getD 0
    if !c.msgs.isEmpty || s.pow.brake.isSome then s
    else if 2 ^ 28 ≤ a 3 || 2 ^ 33 ≤ a 4 || a 5 ≠ 0 then failCmd s id 0x0301
    else if noTussock s c.p ≠ 0 then failCmd s id (noTussock s c.p)
    else if !slValid slot || slotBad slot then failCmd s id 0x0813
    else if lenBad (a 1) then failCmd s id 0x0609
    else if xLength slot (a 1) ≠ 0 then failCmd s id (xLength slot (a 1))
    else if qpCmdStatus s c.p qpn ≠ 0 then failCmd s id (qpCmdStatus s c.p qpn)
    else if vaEnd < a 2 + a 1 / slInBytes slot * slOutBytes slot then failCmd s id 0x0A01
    else match takeSegments s id c (a 1) with
    | (s, false) => s
    | (s, true) => withQp s qpn (fun s => withBytes s id c (a 0) (a 1) (fun s b => withW s id c slot (fun s w =>
        let (s', out, st) := rowsTransform (wakeArray s) c.p slot 0 w b
        let s := bookCycles s s' c.p c.ctx
        let s := updCmd s id (fun c => { c with result := swardResult 0 0 st })
        openWrite s id c qpn (a 2) out (bits (a 4) 31 0) (bit (a 4) 32) false))))

/-- XCOPY: the rows are transformed and copied locally. -/
def doXcopy (s : State) (id : Nat) : State :=
  withCmd s id 0x52 (fun s c =>
    let a := dArg c.desc
    let slot := c.slot.getD 0
    if s.pow.brake.isSome || c.acksDue ≠ 0 then s
    else if 2 ^ 28 ≤ a 3 || a 3 % 2 ^ 24 ≠ 0 || a 4 ≠ 0 || a 5 ≠ 0 then failCmd s id 0x0301
    else if noTussock s c.p ≠ 0 then failCmd s id (noTussock s c.p)
    else if !slValid slot || slotBad slot then failCmd s id 0x0813
    else if lenBad (a 1) then failCmd s id 0x0609
    else if xLength slot (a 1) ≠ 0 then failCmd s id (xLength slot (a 1))
    else match takeSegments s id c (a 1) with
    | (s, false) => s
    | (s, true) => withDest s id c (a 2) (a 1 / slInBytes slot * slOutBytes slot) (fun s pls =>
        withBytes (holdDest s id pls) id c (a 0) (a 1) (fun s b => withW s id c slot (fun s w =>
          let (s', out, st) := rowsTransform (wakeArray s) c.p slot 0 w b
          conclude (bookCycles s s' c.p c.ctx) id c (writeEffects pls out) (swardResult 0 0 st)))))

/-! ### MoE descriptor, 64 bytes -/
def moX (d : Nat) : Nat := bits d 511 448
def moWg (d : Nat) : Nat := bits d 447 384
def moRoute (d : Nat) : Nat := bits d 383 320
def moGate (d : Nat) : Nat := bits d 319 256
def moY (d : Nat) : Nat := bits d 255 192
def moOut (d : Nat) : Nat := bits d 191 128
def moTokens (d : Nat) : Nat := bits d 127 112
def moDim (d : Nat) : Nat := bits d 111 96
def moExperts (d : Nat) : Nat := bits d 95 88 + 1
def moTop (d : Nat) : Nat := bits d 87 85 + 1
def moXf (d : Nat) : Nat := bits d 84 80
def moWf (d : Nat) : Nat := bits d 79 75
def moOf (d : Nat) : Nat := bits d 74 70
def moRounding (d : Nat) : Rounding := { mode := bits d 69 67, sat := bit d 66 }
def moSlot (d : Nat) : Nat := bits d 65 61

/-- Formats that a combine or a roster row may write. -/
def outFmtOk (f : Nat) : Bool := (3 ≤ f && f ≤ 7) || (0x0E ≤ f && f ≤ 0x11)

/-- Does a MoE descriptor break its table? -/
def moeBad (d : Nat) : Bool :=
  moTokens d = 0 || moDim d < 32 || 16384 < moDim d || moDim d % 32 ≠ 0 || moExperts d < moTop d ||
  (moXf d ≠ 0x0E && moXf d ≠ 0x0F) || (moWf d ≠ 0x0E && moWf d ≠ 0x0F) || !outFmtOk (moOf d) ||
  3 < bits d 69 67 || (15 < moSlot d && moSlot d ≠ 0x1F) || bits d 60 0 ≠ 0

/-- Does a route entry break its table? -/
def routeBad (r : Nat) : Bool := bits r 101 96 ≠ 0 || bits r 79 64 ≠ 0 || (bit r 103 && bits r 127 104 ≠ 0)
def roCapacity (r : Nat) : Nat := bits r 95 80

/-- Numbers of n bytes each. -/
def numsOf (n : Nat) (bs : Bytes) : List Nat := (chunksOf n (bs.length + 1) bs).map beNat

/-- Row r of a matrix of FMT elements, cols to a row. -/
def matrixRow (f cols : Nat) (bs : Bytes) (r : Nat) : List Num :=
  let n := packedBytes f cols
  rowValues f cols ((bs.drop (n * r)).take n)

/-- Column j of such a matrix. -/
def matrixCol (f rows cols : Nat) (bs : Bytes) (j : Nat) : List Num :=
  (List.range rows).map (fun r => decodeNum f (elemOf f bs (r * cols + j)))

/-! ### The gate (R369) -/

/-- Is value a smaller than b as a number? Zeros of either sign are equal. -/
def numLess (a b : Num) : Bool := a.lt b && !(a.isZero && b.isZero)

/-- Put an expert among others in falling order of l; ties go to the lower index. -/
def insertBest (e : Nat × Num) : List (Nat × Num) → List (Nat × Num)
  | [] => [e]
  | a :: t => if numLess a.2 e.2 then e :: a :: t else a :: insertBest e t

/-- log2(e) in FP32, 0x3FB8_AA3B. -/
def log2e : Num := decodeNum 0x10 0x3FB8AA3B

/-- The gate of one token from its logits: expert, weight as FP32, and status, in ascending expert order; none where a
logit is a NaN. -/
def gateOf (k : Nat) (l : List Num) : Option (List (Nat × Nat × Nat)) :=
  if l.any Num.isNan then none
  else
    let best := (l.zipIdx.foldl (fun acc e => insertBest (e.2, e.1) acc) []).take k
    let sel := (List.range l.length).filterMap (fun e => best.find? (fun b => b.1 = e))
    let m := (best[0]?.map (·.2)).getD Num.zero
    let x := sel.map (fun e => crExp2 (rne32 ((rne32 (addIeee e.2 m.negate false)).mul log2e)))
    let sum := match x with
      | [] => Num.zero
      | a :: t => t.foldl (fun a b => rne32 (addIeee a b false)) a
    some ((sel.zip x).map (fun e => let g := codeQuot 0x10 {} 0 0 e.2 sum; (e.1.1, g.1, g.2)))

/-- One choice of a token: token, place among its choices, expert, weight, slot, dropped. -/
structure Choice where
  tok : Nat
  pos : Nat
  expert : Nat
  weight : Nat
  slot : Nat
  dropped : Bool
  deriving DecidableEq, Repr, Inhabited

/-- Slots in ascending token order, and within a token in ascending expert order (R370). -/
def choicesOf (caps : List Nat) (gates : List (Nat × List (Nat × Nat × Nat))) : List Choice :=
  (gates.map (fun g => g.2.zipIdx.map (fun e => (g.1, e)))).flatten.foldl (fun acc e =>
    let x := e.2.1
    let n := (acc.filter (fun c => c.expert = x.1)).length
    acc ++ [{ tok := e.1, pos := e.2.2, expert := x.1, weight := x.2.1, slot := n, dropped := caps.getD x.1 0 ≤ n }]) []

/-- A gate record. -/
def gateRecord (c : Choice) : Bytes :=
  beBytes 8 (pack [(8, c.expert), (1, 1), (1, b2n c.dropped), (6, 0), (16, c.slot), (32, c.weight)])

/-- A gate record of a token that is not sent: VALID 0; the manual states no other field (free). -/
def gateFree (n : Nat) : Bytes :=
  let v := (Config.freeRandom n).toNat
  beBytes 8 (pack [(8, v), (1, 0), (1, 0), (6, 0), (16, v / 2 ^ 8), (32, v / 2 ^ 24)])

/-- The logits of token t. -/
def logits (d : Nat) (xb wb : Bytes) (t : Nat) : List Num :=
  let xs := matrixRow (moXf d) (moDim d) xb t
  (List.range (moExperts d)).map (fun e =>
    rne32 (dot 4 xs (matrixCol (moWf d) (moDim d) (moExperts d) wb e) none false).1)

/-- Everything that a MOE_DISPATCH computes: choices, the records of every token in order, NaN tokens, status. -/
structure Gating where
  choices : List Choice
  records : Bytes
  nan : List Nat
  status : Nat
  deriving DecidableEq, Repr, Inhabited

def gating (d : Nat) (caps : List Nat) (xb wb : Bytes) (free : Nat) : Gating :=
  let all := (List.range (moTokens d)).map (fun t => (t, gateOf (moTop d) (logits d xb wb t)))
  let good := all.filterMap (fun e => e.2.map (fun g => (e.1, g)))
  let cs := choicesOf caps good
  { choices := cs,
    records := (all.map (fun e => match e.2 with
      | some _ => ((cs.filter (fun c => c.tok = e.1)).map gateRecord).flatten
      | none => ((List.range (moTop d)).map (fun r => gateFree (free + e.1 * 8 + r))).flatten)).flatten,
    nan := all.filterMap (fun e => if e.2.isNone then some e.1 else none),
    status := joinFlags (good.map (fun e => joinFlags (e.2.map (·.2.2)))) }

/-! ### Descriptor, routes and slot -/

/-- The descriptor and routes of a MoE command, where they can be read and keep their tables (R373). -/
def withMoe (s : State) (id : Nat) (c : Cmd) (f : State → Nat → List Nat → State) : State :=
  let a := dArg c.desc
  if s.pow.brake.isSome then s
  else if (List.range 5).any (fun k => a (k + 1) ≠ 0) then failCmd s id 0x0301
  else if noTussock s c.p ≠ 0 then failCmd s id (noTussock s c.p)
  else if a 0 % 64 ≠ 0 then failCmd s id 0x0818
  else withBytes s id c (a 0) 64 (fun s db =>
    let d := beNat db
    if moeBad d then failCmd s id 0x0818
    else withBytes s id c (moRoute d) (16 * moExperts d) (fun s rb =>
      let rs := numsOf 16 rb
      if rs.any routeBad then failCmd s id 0x0818 else f s d rs))

/-- The slot that the rows pass through, if any (R371): copied when the descriptor is first read. -/
def moeSlot (s : State) (id : Nat) (c : Cmd) (d : Nat) : State × Option Nat × Nat :=
  if moSlot d = 0x1F then (s, none, 0)
  else
    let x := c.slot.getD (getP s c.p 0x61 (moSlot d + 1))
    let s := updCmd s id (fun c => { c with slot := some x })
    if !slValid x || slotBad x then (s, none, 0x0813)
    else if slInCols x ≠ moDim d || slIn x ≠ moXf d then (s, none, 0x0818)
    else (s, some x, 0)

/-- Bytes of one dispatched row. -/
def moeRow (d : Nat) (x : Option Nat) : Nat := match x with | some x => slOutBytes x | none => 2 * moDim d

/-- The rows of an expert, in SLOT order: the token rows, through the transform where there is one; the row number of a
transform is the token's (DEDUCED: the row counted from the start of the command's input, R362). -/
def expertRows (s : State) (c : Cmd) (d : Nat) (x : Option Nat) (w xb : Bytes) (ts : List Nat) : State × Bytes × Nat :=
  let n := 2 * moDim d
  ts.foldl (fun (acc : State × Bytes × Nat) t =>
    let row := (xb.drop (n * t)).take n
    match x with
    | none => (acc.1, acc.2.1 ++ row, acc.2.2)
    | some x =>
      let (s, out, st) := rowTransform acc.1 c.p x t w row
      (s, acc.2.1 ++ out, join acc.2.2 st)) (s, [], 0)

/-- The tokens sent to an expert, in SLOT order. -/
def tokensOf (g : Gating) (e : Nat) : List Nat := (g.choices.filter (fun c => c.expert = e && !c.dropped)).map (·.tok)

/-- Destination of an expert's rows. -/
def roDest (r : Nat) : Nat := bits r 63 0

/-- The first code that the QPs and remote ranges of the experts in use give; 0 where all are good (R222). -/
def routeStatus (s : State) (p : Nat) (rs : List Nat) (g : Gating) (row : Nat) : Nat :=
  ((rs.zipIdx.map (fun r =>
    let n := (tokensOf g r.2).length
    if n = 0 || bit r.1 103 then 0
    else if qpCmdStatus s p (bits r.1 127 104) ≠ 0 then qpCmdStatus s p (bits r.1 127 104)
    else if vaEnd < roDest r.1 + n * row then 0x0A01 else 0)).find? (· ≠ 0)).getD 0

/-- Open the messages of the experts that have none yet, in ascending order, while their QPs have room (R371). -/
def sendExperts (s : State) (id : Nat) (d : Nat) (x : Option Nat) (w xb : Bytes) (g : Gating) (es : List (Nat × Nat)) : State :=
  (es.foldl (fun (acc : State × Bool) e =>
    if !acc.2 then acc
    else match cmdOf acc.1 id with
    | none => acc
    | some c =>
      let qpn := bits e.1 127 104
      let n := c.msgs.length
      let s' := withQp acc.1 qpn (fun s =>
        let ts := tokensOf g e.2
        let (s, bs, _) := expertRows s c d x w xb ts
        let s := openWrite s id c qpn (roDest e.1) bs ts.length (bit e.1 102) false
        updCmd s id (fun c => { c with due := c.due - 1 }))
      (s', ((cmdOf s' id).map (fun c => c.msgs.length)).getD 0 ≠ n)) (s, true)).1

/-- MOE_DISPATCH (R369 to R371): gate, records, local copies, one message to each remote expert. A dispatch whose QPs have no
room for a message goes on when its row is issued again (log 14). -/
def doMoeDispatch (s : State) (id : Nat) : State :=
  withCmd s id 0x58 (fun s c =>
    if c.acksDue ≠ 0 || (!c.effects.isEmpty && c.due = 0) then s
    else withMoe s id c (fun s d rs => match moeSlot s id c d with
    | (s, _, 0x0813) => failCmd s id 0x0813
    | (s, _, 0x0818) => failCmd s id 0x0818
    | (s, x, _) =>
      let n := 2 * moDim d
      withBytes s id c (moX d) (n * moTokens d) (fun s xb =>
        withBytes s id c (moWg d) (n * moExperts d) (fun s wb =>
          withW s id c (x.getD 0) (fun s w =>
            let g := gating d (rs.map roCapacity) xb wb c.order
            let row := moeRow d x
            let used := rs.zipIdx.filter (fun r => !(tokensOf g r.2).isEmpty)
            let remote := used.filter (fun r => !bit r.1 103)
            let locals := used.filter (fun r => bit r.1 103)
            if !c.effects.isEmpty then sendExperts s id d x w xb g (remote.drop c.msgs.length)
            else if routeStatus s c.p rs g row ≠ 0 then failCmd s id (routeStatus s c.p rs g row)
            else withDest s id c (moGate d) (8 * moTokens d * moTop d) (fun s gp =>
              withDests (holdDest s id gp) id c (locals.map (fun r => (roDest r.1, (tokensOf g r.2).length * row))) (fun s =>
                let s0 := s
                let s := (List.range (moTokens d)).foldl (fun s _ => meterFreeCycles s c.p) (wakeArray s)
                let (s, es, st) := locals.foldl (fun (acc : State × List Effect × Nat) r =>
                  let (s, bs, st) := expertRows acc.1 c d x w xb (tokensOf g r.2)
                  match accessAll s c.p (roDest r.1) bs.length true with
                  | .ok pls => (s, acc.2.1 ++ writeEffects pls bs, join acc.2.2 st)
                  | .error _ => (s, acc.2.1, join acc.2.2 st)) (s, writeEffects gp g.records, g.status)
                let drops := (g.choices.filter (·.dropped)).length
                let s := addO (addO s (pidx c.p 0x60) 9 drops 64) (pidx c.p 0x60) 0x0A g.nan.length 64
                let s := g.nan.foldl (fun s t => geqCmd s c 0x0819 0 [t]) s
                let s := bookCycles s0 s c.p c.ctx
                let st := remote.foldl (fun a r => join a (expertRows s c d x w xb (tokensOf g r.2)).2.2) st
                let s := updCmd s id (fun c => { c with effects := es, result := swardResult drops 0 st, due := remote.length })
                if remote.isEmpty then conclude s id c es (swardResult drops 0 st)
                else sendExperts s id d x w xb g remote)))))))

/-! ### MOE_COMBINE (R372) -/

/-- The gate records of token t that take part: weight and row of Y; none where one names an expert the descriptor has not
(the manual states no result: free). -/
def combineTerms (caps : List Nat) (gates : List Nat) : Option (List (Num × Nat)) :=
  let used := gates.filter (fun g => bit g 55 && !bit g 54)
  if used.any (fun g => caps.length ≤ bits g 63 56) then none
  else some (used.map (fun g => (decodeNum 0x10 (bits g 31 0), (caps.take (bits g 63 56)).foldl (· + ·) 0 + bits g 47 32)))

/-- One row of OUT before rounding. -/
def combineRow (d : Nat) (terms : List (Num × List Num)) : List Num :=
  (List.range (moDim d)).map (fun i =>
    let ps := terms.map (fun t => t.1.mul (t.2.getD i Num.zero))
    if ps.isEmpty then Num.zero else sumNums ps (bits d 69 67 = 3 || ps.all Num.isNegZero))

/-- MOE_COMBINE: the exact weighted sums of the experts' outputs. -/
def doMoeCombine (s : State) (id : Nat) : State :=
  withCmd s id 0x59 (fun s c =>
    if c.acksDue ≠ 0 then s
    else withMoe s id c (fun s d rs =>
      let n := 2 * moDim d
      let out := packedBytes (moOf d) (moDim d)
      let caps := rs.map roCapacity
      withBytes s id c (moGate d) (8 * moTokens d * moTop d) (fun s gb =>
        let terms := (List.range (moTokens d)).map (fun t =>
          combineTerms caps (numsOf 8 ((gb.drop (8 * moTop d * t)).take (8 * moTop d))))
        let rows := (terms.map (fun t => (t.getD []).map (·.2))).flatten
        withDest s id c (moOut d) (out * moTokens d) (fun s pls =>
          withRanges (holdDest s id pls) id c (rows.map (fun r => (moY d + n * r, n))) (fun s =>
            match cmdOf s id with
            | none => s
            | some c =>
              let s0 := s
              let (s, bs, st) := terms.zipIdx.foldl (fun (acc : State × Bytes × Nat) t =>
                let s := meterFreeCycles acc.1 c.p
                match t.1 with
                | none => (fresh1 s, acc.2.1 ++ freeBytes s out, acc.2.2)
                | some ts =>
                  let xs := combineRow d (ts.map (fun e => (e.1, rowValues (moXf d) (moDim d) (cmdBytes s c (moY d + n * e.2) n))))
                  let (b, st) := codeRow (moOf d) (moRounding d) t.2 xs
                  (countArith s c.p (rowCounts (moOf d) (moRounding d) t.2 xs), acc.2.1 ++ b, join acc.2.2 st)) (wakeArray s, [], 0)
              conclude (bookCycles s0 s c.p c.ctx) id c (writeEffects pls bs) (swardResult 0 0 st))))))

end Sys2Proof.Machine
end

