-- ==== Sys2Proof/Machine/Sheaf.lean ====
section
/-! DEFINITION. The Sheaf: the messages each algorithm sends, exact accumulators and their images, instances, grants, and the
opcodes 0x80 to 0x85, 0x90 and 0x91 (R382 to R411). -/

namespace Sys2Proof.Machine
open Sys2Proof

/-! ### Which messages an algorithm sends (*Algorithms*) -/

/-- A message of a collective: stage, destination, the pieces it carries, and what it carries of them: 0 the sender's own
contributions, 1 sums so far, 2 results. -/
abbrev Xfer := Nat × Nat × List Nat × Nat

/-- The shape of a collective: opcode, algorithm, members, box, root. -/
structure Shape where
  op : Nat
  algo : Nat
  n : Nat
  x : Nat
  y : Nat
  root : Nat
  deriving DecidableEq, Repr, Inhabited

/-- The other members in rotated order, SELF + 1 first (R414). -/
def others (n m : Nat) : List Nat := (List.range (n - 1)).map (fun k => (m + 1 + k) % n)

/-- Depth of a position in the tree of fan-out 8, with fuel. -/
def treeDepth : Nat → Nat → Nat
  | 0, _ => 0
  | f + 1, q => if q = 0 then 0 else treeDepth f ((q - 1) / 8) + 1

/-- Does position a lie at or below position b? -/
def treeUnder : Nat → Nat → Nat → Bool
  | 0, a, b => a = b
  | f + 1, a, b => a = b || (a ≠ 0 && treeUnder f ((a - 1) / 8) b)

/-- The deepest level of the tree. -/
def Shape.deepest (h : Shape) : Nat := treeDepth 6 (h.n - 1)
/-- Position of a member, and the member at a position. -/
def Shape.pos (h : Shape) (m : Nat) : Nat := (m + h.n - h.root) % h.n
def Shape.at (h : Shape) (q : Nat) : Nat := (q + h.root) % h.n
/-- All pieces. -/
def Shape.all (h : Shape) : List Nat := List.range h.n
/-- Place of a member in the box. -/
def Shape.cx (h : Shape) (m : Nat) : Nat := m % h.x
def Shape.cy (h : Shape) (m : Nat) : Nat := m / h.x % h.y
def Shape.cz (h : Shape) (m : Nat) : Nat := m / (h.x * h.y)

/-- Members on a line of the box through m, other than m: 0 along x, 1 along y, 2 along z. -/
def Shape.line (h : Shape) (axis m : Nat) : List Nat :=
  (others h.n m).filter (fun d =>
    (axis = 0 || h.cx d = h.cx m) && (axis = 1 || h.cy d = h.cy m) && (axis = 2 || h.cz d = h.cz m))

/-- Does the collective reduce? -/
def Shape.reduces (h : Shape) : Bool := h.op = 0x80 || h.op = 0x81 || h.op = 0x82 || h.op = 0x85

/-- Stages of the reduce phase; an ALLGATHER over the tree gathers pieces upward in the same stages. -/
def Shape.upStages (h : Shape) : Nat :=
  if h.reduces || (h.op = 0x83 && h.algo = 3) then
    (match h.algo with | 1 => 1 | 2 => h.n - 1 | 3 => h.deepest | _ => 3)
  else 0

/-- Sends of member m in the reduce phase. -/
def Shape.upSends (h : Shape) (m : Nat) : List Xfer :=
  match h.algo with
  | 1 => if h.op = 0x81 then (if m = h.root then [] else [(0, h.root, h.all, 0)])
         else (others h.n m).map (fun d => (0, d, [d], 0))
  | 2 => (List.range (h.n - 1)).map (fun s => (s, (m + 1) % h.n, [(m + 2 * h.n - s - 1) % h.n], 1))
  | 3 =>
    let q := h.pos m
    if q = 0 then []
    else if h.op = 0x83 then [(h.deepest - treeDepth 6 q, h.at ((q - 1) / 8), h.all.filter (fun k => treeUnder 6 (h.pos k) q), 2)]
    else [(h.deepest - treeDepth 6 q, h.at ((q - 1) / 8), h.all, 1)]
  | _ =>
    (h.line 0 m).map (fun d => (0, d, h.all.filter (fun k => h.cx k = h.cx d), 0)) ++
    (h.line 1 m).map (fun d => (1, d, h.all.filter (fun k => h.cx k = h.cx d && h.cy k = h.cy d), 1)) ++
    (h.line 2 m).map (fun d => (2, d, [d], 1))

/-- Sends of member m in the result phase; stages count from 0. -/
def Shape.downSends (h : Shape) (m : Nat) : List Xfer :=
  let spread := h.op = 0x80 || h.op = 0x83 || h.op = 0x85
  match h.algo with
  | 1 =>
    if spread then (others h.n m).map (fun d => (0, d, [m], 2))
    else if h.op = 0x84 && m = h.root then (others h.n m).map (fun d => (0, d, h.all, 2))
    else []
  | 2 =>
    let far := (h.root + h.n - m) % h.n
    if spread then (List.range (h.n - 1)).map (fun s => (s, (m + 1) % h.n, [(m + h.n - s) % h.n], 2))
    else if h.op = 0x81 && far ≠ 0 then (List.range (h.n - far)).map (fun s => (s, (m + 1) % h.n, [(m + h.n - s) % h.n], 2))
    else if h.op = 0x84 && far ≠ 1 && 1 < h.n then [((m + h.n - h.root) % h.n, (m + 1) % h.n, h.all, 2)]
    else []
  | 3 =>
    if h.op = 0x81 then []
    else
      let q := h.pos m
      ((h.all.filter (fun d => h.pos d ≠ 0 && (h.pos d - 1) / 8 = q)).map (fun d => (treeDepth 6 q, d, h.all, 2)))
  | _ =>
    if spread then
      (h.line 2 m).map (fun d => (0, d, [m], 2)) ++
      (h.line 1 m).map (fun d => (1, d, h.all.filter (fun k => h.cx k = h.cx m && h.cy k = h.cy m), 2)) ++
      (h.line 0 m).map (fun d => (2, d, h.all.filter (fun k => h.cx k = h.cx m), 2))
    else if h.op = 0x81 then
      ((h.line 2 m).filter (fun d => h.cz d = h.cz h.root)).map (fun d => (0, d, [m], 2)) ++
      (if h.cz m = h.cz h.root then
        ((h.line 1 m).filter (fun d => h.cy d = h.cy h.root)).map (fun d => (1, d, h.all.filter (fun k => h.cx k = h.cx m && h.cy k = h.cy m), 2))
       else []) ++
      (if h.cz m = h.cz h.root && h.cy m = h.cy h.root then
        ((h.line 0 m).filter (fun d => d = h.root)).map (fun d => (2, d, h.all.filter (fun k => h.cx k = h.cx m), 2))
       else [])
    else if h.op = 0x84 then
      (if m = h.root then (h.line 2 m).map (fun d => (0, d, h.all, 2)) else []) ++
      (if h.cx m = h.cx h.root && h.cy m = h.cy h.root then (h.line 1 m).map (fun d => (1, d, h.all, 2)) else []) ++
      (if h.cx m = h.cx h.root then (h.line 0 m).map (fun d => (2, d, h.all, 2)) else [])
    else []

/-- Every message member m sends, in order. Where the manual leaves an opcode's part of an algorithm open, the plan is the
model's own (DESIGN CHOICE, log 26). -/
def Shape.sends (h : Shape) (m : Nat) : List Xfer :=
  (if h.upStages = 0 then [] else h.upSends m) ++
  (h.downSends m).map (fun e => (e.1 + h.upStages, e.2.1, e.2.2.1, e.2.2.2))

/-- Every message member m receives, as (sender, message), by stage within each sender. -/
def Shape.recvs (h : Shape) (m : Nat) : List (Nat × Xfer) :=
  ((others h.n m).map (fun r => ((h.sends r).filter (fun e => e.2.1 = m)).map (fun e => (r, e)))).flatten

/-! ### Accumulators and images (R383 to R390) -/

/-- What an element has received: finite values, and one NaN or infinity for each flag. -/
abbrev Elem := List Num

/-- Class, exponent of the LSB, segments, and elements in a chunk (*Accumulator classes*). -/
def accClass (f : Nat) : Nat × Int × Nat × Nat :=
  match f with
  | 0x01 => (1, 0, 3, 1024) | 0x02 => (1, 0, 3, 1024) | 0x06 => (1, -9, 3, 1024) | 0x07 => (1, -16, 3, 1024)
  | 0x0F => (1, -24, 3, 1024) | 0x11 => (3, -1074, 68, 64) | _ => (2, -149, 10, 256)

/-- The finite sum of an element as a multiple of the LSB. -/
def accInt (lsb : Int) (a : Elem) : Int :=
  let d := a.foldl (fun t x => t.add x.dyad) Dyad.zero
  if lsb ≤ d.e then d.m * (2 ^ (d.e - lsb).toNat : Nat) else d.m / (2 ^ (lsb - d.e).toNat : Nat)

/-- The flag byte of an element: NaN, +∞, −∞ seen. -/
def accFlags (a : Elem) : Nat :=
  b2n (a.any (Num.isInf true)) + 2 * b2n (a.any (Num.isInf false)) + 4 * b2n (a.any Num.isNan)

/-- Does a signed number fit n segments? -/
def fitsSegs (n : Nat) (v : Int) : Bool := -(2 ^ (32 * n - 1) : Nat) ≤ v && v < (2 ^ (32 * n - 1) : Nat)

/-- An accumulator image of elements (R389, R390): the smallest window. -/
def imageOf (f count : Nat) (es : List Elem) : Bytes :=
  let (cls, lsb, segs, _) := accClass f
  let vs := es.map (accInt lsb)
  let fl := es.map accFlags
  let lo := if vs.all (· = 0) then 0 else
    ((List.range segs).filter (fun k => vs.all (fun (v : Int) => v % ((2 ^ (32 * k) : Nat) : Int) = 0))).foldl max 0
  let ws : List Int := vs.map (fun (v : Int) => v / ((2 ^ (32 * lo) : Nat) : Int))
  let n := ((List.range segs).find? (fun k => ws.all (fitsSegs (k + 1)))).getD (segs - 1) + 1
  let flagged := fl.any (· ≠ 0)
  beBytes 8 (pack [(2, cls), (1, b2n flagged), (7, lo), (7, n), (11, es.length), (32, count), (4, 0)]) ++
  (ws.map (fun w => beBytes (4 * n) (ofSigned (32 * n) w))).flatten ++
  (if flagged then fl.map (BitVec.ofNat 8) else [])

/-- Bytes of the image that begins here, by its header. -/
def imageBytes (h : Nat) : Nat := 8 + bits h 46 36 * bits h 53 47 * 4 + (if bit h 61 then bits h 46 36 else 0)

/-- Read an image of n elements: elements, count, the rest; none where it breaks its table. -/
def imageRead (f n : Nat) (bs : Bytes) : Option (List Elem × Nat × Bytes) :=
  let (cls, lsb, segs, _) := accClass f
  let h := beNat (bs.take 8)
  let k := bits h 53 47
  let lo := bits h 60 54
  if bs.length < 8 || bits h 63 62 ≠ cls || bits h 46 36 ≠ n || k = 0 || segs < lo + k || bits h 3 0 ≠ 0 || bs.length < imageBytes h then none
  else
    let body := (bs.drop 8).take (n * k * 4)
    let fl := if bit h 61 then ((bs.drop (8 + n * k * 4)).take n).map (·.toNat) else List.replicate n 0
    if fl.any (8 ≤ ·) then none
    else
      let es := (List.range n).map (fun i =>
        let v := toSigned (32 * k) (beNat ((body.drop (i * k * 4)).take (k * 4)))
        let x : Num := ({ m := v, e := lsb + 32 * (lo : Int) } : Dyad).num false
        let g := fl.getD i 0
        [x] ++ (if bit g 2 then [Num.nan] else []) ++ (if bit g 1 then [Num.inf false] else []) ++ (if bit g 0 then [Num.inf true] else []))
      some (es, bits h 35 4, bs.drop (imageBytes h))

/-! ### Pieces -/

/-- Elements of piece k: first and one past the last (*Collective opcodes*). -/
def pieceRange (e n k : Nat) : Nat × Nat := (k * e / n, (k + 1) * e / n)

/-- What a collective works on: shape, elements, input and output format, operator. -/
structure Work where
  h : Shape
  elems : Nat
  fin : Nat
  fout : Nat
  op : Nat
  round : Rounding
  deriving DecidableEq, Repr, Inhabited

/-- Bytes of one element: bytes themselves where nothing is reduced. -/
def Work.inBytes (w : Work) : Nat := if w.h.reduces then fmtBits w.fin / 8 else 1
def Work.outBytes (w : Work) : Nat := if w.h.reduces then fmtBits w.fout / 8 else 1
def Work.piece (w : Work) (k : Nat) : Nat × Nat := pieceRange w.elems w.h.n k
def Work.pieceLen (w : Work) (k : Nat) : Nat := (w.piece k).2 - (w.piece k).1
/-- Do partial results travel as images? A partial MAX or MIN is a value of the format (DESIGN CHOICE, log 27). -/
def Work.images (w : Work) : Bool := w.op = 0

/-- A partial result of pieces, and the contributions in it. -/
structure Part where
  accs : List Elem
  count : Nat
  deriving DecidableEq, Repr, Inhabited

/-- The largest or smallest of an element's contributions, or all of them for a sum. -/
def Work.merge (w : Work) (a b : Elem) : Elem := if w.images then a ++ b else [extreme (w.op = 1) (a ++ b)]

/-- Elements of raw values. -/
def rawAccs (f : Nat) (bs : Bytes) (n : Nat) : List Elem := (List.range n).map (fun i => [decodeNum f (elemOf f bs i)])

/-- Split a list at piece lengths. -/
def splitLens {α : Type} : List Nat → List α → List (List α)
  | [], _ => []
  | n :: t, l => l.take n :: splitLens t (l.drop n)

/-- Read consecutive images that hold n elements, chunk by chunk, with fuel. -/
def readImages (f : Nat) : Nat → Nat → Bytes → Option (List Elem × Nat)
  | 0, _, _ => none
  | fuel + 1, n, bs =>
    let c := (accClass f).2.2.2
    if n = 0 then (if bs.isEmpty then some ([], 0) else none)
    else match imageRead f (min c n) bs with
    | none => none
    | some (es, count, rest) => (readImages f fuel (n - min c n) rest).map (fun r => (es ++ r.1, max count r.2))

/-- What a received body of kind 0 or 1 adds: one part for each of its pieces; none where it is malformed (R388, 0x0908). -/
def Work.readPart (w : Work) (ks : List Nat) (kind : Nat) (body : Bytes) : Option (List (Nat × Part)) :=
  let lens := ks.map w.pieceLen
  let n := lens.foldl (· + ·) 0
  let data := body.drop 16
  if kind = 0 || !w.images then
    if data.length ≠ n * w.inBytes then none
    else some (ks.zip ((splitLens lens (rawAccs w.fin data n)).map (fun a => { accs := a, count := 1 })))
  else (readImages w.fin (n + 1) n data).map (fun r => ks.zip ((splitLens lens r.1).map (fun a => { accs := a, count := r.2 })))

/-! ### An instance at one member -/

/-- The first eight bytes of R399's digest. -/
def paramDigest (g : Group) (d : Nat) : Nat :=
  bits (sha384 ((g.members.map (beBytes 8)).flatten ++ beBytes 1 (dOpcode d) ++ beBytes 8 (dArg d 1) ++ beBytes 8 (dArg d 4) ++
    beBytes 8 (dArg d 5))) 383 320

/-- The instance header of a member's messages. -/
def instHeader (g : Group) (d n : Nat) : Bytes := beBytes 16 (pack [(64, paramDigest g d), (32, n), (12, g.self), (20, 0)])

/-- The shape of a command over a group. -/
def shapeOf (g : Group) (d : Nat) : Shape :=
  let (x, y, _) := g.sides
  let len := if dOpcode d = 0x85 then 4 else dArg d 1
  { op := dOpcode d, algo := algoFor g (cAlgo d) len, n := g.size, x := x, y := y,
    root := if dOpcode d = 0x81 || dOpcode d = 0x84 then cRoot d else 0 }

/-- The work of a command: a BARRIER is an ALLREDUCE of one INT32 zero with SUM (R404). -/
def workOf (g : Group) (d n : Nat) : Work :=
  let h := shapeOf g d
  if dOpcode d = 0x85 then { h := h, elems := 1, fin := 2, fout := 2, op := 0, round := {} }
  else if h.reduces then
    { h := h, elems := dArg d 1 / (fmtBits (cIn d) / 8), fin := cIn d, fout := cOut d, op := cOp d,
      round := { mode := cMode d, sat := cSat d, seed := dArg d 5, stream := n } }
  else { h := h, elems := dArg d 1, fin := 1, fout := 1, op := 0, round := {} }

/-- The j-th message committed from a sender. -/
def Inst.gotFrom (i : Inst) (r : Nat) : List Bytes := (i.got.filter (fun e => e.1 = r)).map (·.2.2)

/-- Received messages matched with the plan, before a stage: sender, plan, body; the messages of one sender commit in the
order in which it sends them. -/
def matched (rs : List (Nat × Xfer)) (i : Inst) (before : Nat) : List (Nat × Xfer × Bytes) :=
  (rs.foldl (fun (acc : List (Nat × Nat) × List (Nat × Xfer × Bytes)) e =>
    let j := (getPair acc.1 e.1).getD 0
    (setPair acc.1 e.1 (j + 1),
     match (i.gotFrom e.1)[j]? with
     | some b => if e.2.1 < before then acc.2 ++ [(e.1, e.2, b)] else acc.2
     | none => acc.2)) ([], [])).2

/-- Have all messages of the stages before this one arrived? -/
def stageOpen (rs : List (Nat × Xfer)) (i : Inst) (t : Nat) : Bool :=
  (matched rs i t).length = (rs.filter (fun e => e.2.1 < t)).length

/-- This member's own contribution to piece k. -/
def ownPart (w : Work) (src : Bytes) (k : Nat) : Part :=
  let (a, b) := w.piece k
  { accs := rawAccs w.fin ((src.drop (a * w.inBytes)).take ((b - a) * w.inBytes)) (b - a), count := 1 }

/-- Own and received contributions to piece k before a stage. -/
def partOf (w : Work) (i : Inst) (rs : List (Nat × Xfer)) (t k : Nat) : Part :=
  (matched rs i t).foldl (fun a e =>
    if e.2.1.2.2.2 = 2 || !e.2.1.2.2.1.contains k then a
    else match (w.readPart e.2.1.2.2.1 e.2.1.2.2.2 e.2.2).bind (fun l => (l.find? (fun x => x.1 = k)).map (·.2)) with
    | none => a
    | some p => { accs := (a.accs.zip p.accs).map (fun x => w.merge x.1 x.2), count := a.count + p.count })
    (ownPart w (i.src.getD []) k)

/-- The rounded values of a piece, and their status (R385 to R387). -/
def roundPiece (w : Work) (k : Nat) (p : Part) : Bytes :=
  packElems w.fout ((p.accs.zipIdx.map (fun e =>
    let v := if w.images then sumNums e.1 (w.round.mode = 3) else extreme (w.op = 1) e.1
    (roundOut w.fout w.round 0 ((w.piece k).1 + e.2) v).1)))

/-- The bytes of result piece k before a stage: received, or this member's own to round, or its own source. -/
def resultOf (w : Work) (i : Inst) (self : Nat) (rs : List (Nat × Xfer)) (t k : Nat) : Bytes :=
  match (matched rs i t).find? (fun e => e.2.1.2.2.2 = 2 && e.2.1.2.2.1.contains k) with
  | some e =>
    ((splitLens (e.2.1.2.2.1.map (fun j => w.pieceLen j * w.outBytes)) (e.2.2.drop 16)).getD (e.2.1.2.2.1.findIdx (· = k)) [])
  | none =>
    if w.h.reduces then roundPiece w k (partOf w i rs t k)
    else
      let (a, b) := w.piece k
      if w.h.op = 0x83 then (if k = self then i.src.getD [] else []) else ((i.src.getD []).drop a).take (b - a)

/-- The chunks of a body of contributions: its bytes, cut at the chunks of its range (R410). -/
def Work.chunks (w : Work) (i : Inst) (rs : List (Nat × Xfer)) (x : Xfer) : List Bytes :=
  let (t, _, ks, kind) := x
  let c := (accClass w.fin).2.2.2
  if kind = 0 then
    let src := i.src.getD []
    let bs := (ks.map (fun k => (src.drop ((w.piece k).1 * w.inBytes)).take (w.pieceLen k * w.inBytes))).flatten
    chunksOf (c * w.inBytes) (bs.length + 1) bs
  else
    let ps := ks.map (partOf w i rs t)
    let es := (ps.map (·.accs)).flatten
    let count := (ps.map (·.count)).foldl max 0
    (chunksOf c (es.length + 1) es).map (fun b =>
      if w.images then imageOf w.fin count b
      else packElems w.fin (b.map (fun a => (roundOut w.fin {} 0 0 (extreme (w.op = 1) a)).1)))

/-- The parts of a message's body: with a home for each where the parts are contributions. -/
def Work.parts (w : Work) (i : Inst) (self : Nat) (rs : List (Nat × Xfer)) (x : Xfer) : List Bytes :=
  if x.2.2.2 = 2 then [(x.2.2.1.map (resultOf w i self rs x.1)).flatten] else w.chunks i rs x

/-! ### Sending (R396 to R410) -/

/-- The QP of a group that leads to a member. -/
def groupQp (p : Nat) (g : Group) (m : Nat) : Nat := p * 2 ^ 18 + g.qpBase + m

/-- Is a message of an instance still open towards a member? -/
def openTo (s : State) (p : Nat) (g : Group) (key n m : Nat) : Bool :=
  (qp s (groupQp p g m)).tx.any (fun x => x.inst = some (key, n))

/-- Open one message: the instance header and the parts, packet by packet; contributions leave on the path of their chunk's
home. -/
def openColl (s : State) (p : Nat) (g : Group) (key : Nat) (i : Inst) (dst : Nat) (sched : Bool) (homes : Bool) (parts : List Bytes) : State :=
  let qpn := groupQp p g dst
  let q := qp s qpn
  let np := g.links.length
  let head := instHeader g i.desc i.num
  let base := i.num % 2 ^ 25 * 2 ^ 32
  let cut := (parts.zipIdx.foldl (fun (acc : Nat × List (Nat × Bytes) × List (Nat × Nat)) e =>
    let bs := if e.2 = 0 then head ++ e.1 else e.1
    let ps := cutPackets (2 ^ q.mtu) (bs.length + 1) (base + acc.1) bs
    (acc.1 + bs.length, acc.2.1 ++ ps, acc.2.2 ++ ps.map (fun _ => (e.2 % np, e.2 / np))))
    (0, [], []))
  let (len, todo, lanes) := if parts.isEmpty then (16, [(base, head)], []) else cut
  let m : TxMsg := { msg := nextMsgOf q, epoch := 0, cmd := none, kind := 0, entries := [], last := (0, []), bytes := len,
                     todo := todo, lanes := if homes then lanes else [], cid := dId i.desc, inst := some (key, i.num), sched := sched }
  let s := openMsg s qpn m
  pump (updInst s key i.num (fun i => { i with sentAny := true })) qpn

/-- Open what may be opened of a plan: every message whose stage is open, whose predecessor to the same member is
acknowledged, and whose QP has room. -/
def sendPlan (s : State) (p : Nat) (key n : Nat) (sched : Bool) (sends : List Xfer) (rs : List (Nat × Xfer))
    (body : Group → Inst → Xfer → List Bytes) : State :=
  sends.foldl (fun s x =>
    match getPair s.sheaf.groups key with
    | none => s
    | some g => match g.insts.find? (fun i => i.num = n) with
      | none => s
      | some i =>
        let qpn := groupQp p g x.2.1
        if i.sent.contains (x.1, x.2.1) || !stageOpen rs i x.1 || openTo s p g key n x.2.1 || !msgRoom (qp s qpn) then s
        else match admitQp s qpn with
        | none => s
        | some s =>
          let s := updInst s key n (fun i => { i with sent := i.sent ++ [(x.1, x.2.1)] })
          openColl s p g key i x.2.1 sched (x.2.2.2 ≠ 2) (body g i x)) s

/-! ### Draining and grants (R410) -/

/-- The bytes of a message that have arrived without a gap. -/
def prefixOf (m : RxMsg) : Bytes :=
  let ds := m.data.foldl (fun (acc : List (Nat × Bytes)) e =>
    (acc.takeWhile (fun x => x.1 < e.1)) ++ [e] ++ (acc.dropWhile (fun x => x.1 < e.1))) []
  ds.foldl (fun b e => if e.1 = b.length then b ++ e.2 else b) []

/-- Whole images at the front of some bytes, with fuel. -/
def imagesIn : Nat → Bytes → Nat
  | 0, _ => 0
  | f + 1, bs =>
    if bs.length < 8 then 0
    else
      let n := imageBytes (beNat (bs.take 8))
      if bs.length < n then 0 else imagesIn f (bs.drop n) + 1

/-- Chunks of a sender's j-th message that have arrived; `cut` counts the chunks at the front of its data. -/
def chunksHere (s : State) (p : Nat) (g : Group) (i : Inst) (r j total : Nat) (cut : Bytes → Nat) : Nat :=
  if j < (i.gotFrom r).length then total
  else if j ≠ (i.gotFrom r).length then 0
  else match (qp s (groupQp p g r)).rx.find? (fun m => m.inst = some i.num && !m.aborted) with
  | none => 0
  | some m => cut ((prefixOf m).drop 16)

/-- Chunks at the front of the data of a collective's message. -/
def Work.cutOf (w : Work) (kind : Nat) (bs : Bytes) : Nat :=
  if kind = 1 && w.images then imagesIn (bs.length + 1) bs else bs.length / ((accClass w.fin).2.2.2 * w.inBytes)

/-- Send the grants of chunks that have drained in one stage (R410). -/
def grantStage (s : State) (p : Nat) (g : Group) (key : Nat) (i : Inst) (rs : List (Nat × Xfer)) (t : Nat)
    (total : List Nat → Nat) (cut : Nat → Bytes → Nat) : State :=
  let mine := rs.filter (fun e => e.2.1 = t && e.2.2.2.2 ≠ 2)
  match mine with
  | [] => s
  | (_, x0) :: _ =>
    let all := total x0.2.2.1
    let done := mine.foldl (fun a e =>
      let j := ((rs.filter (fun y => y.1 = e.1)).filter (fun y => y.2.1 < t)).length
      min a (chunksHere s p g i e.1 j all (cut e.2.2.2.2))) all
    let np := g.links.length
    (List.range np).foldl (fun s h =>
      let new := (done + np - 1 - h) / np
      let old := ((i.drained.find? (fun e => e.1 = t && e.2.1 = h)).map (·.2.2)).getD 0
      if new ≤ old then s
      else
        let s := updInst s key i.num (fun i => { i with drained := i.drained.filter (fun e => !(e.1 = t && e.2.1 = h)) ++ [(t, h, new)] })
        ((List.range (new - old)).map (fun k => old + k)).foldl (fun s q =>
          mine.foldl (fun s e => sendCtl s (groupQp p g e.1) 12 h 0 0 0 (i.num % 2 ^ 25 * 2 ^ 32)
            (beBytes 8 (pack [(4, h), (28, 0), (32, q + g.slots + 1)]))) s) s) s

/-- Chunks of the range that some pieces make up. -/
def Work.chunkCount (w : Work) (ks : List Nat) : Nat := ceilDiv ((ks.map w.pieceLen).foldl (· + ·) 0) (accClass w.fin).2.2.2

/-! ### The end of an instance -/

/-- Is a command still to run again? -/
def isKilled (s : State) (id : Nat) : Bool := s.cmd.killed.any (fun k => k.id = id)

/-- Count the contributions of an instance: bytes by reducer, operations of the paddock (0x1A01, R474). -/
def countColl (s : State) (p gnum : Nat) (g : Group) (w : Work) (rs : List (Nat × Xfer)) (i : Inst) : State :=
  if !w.h.reduces then s
  else
    let ms := (matched rs i (2 * w.h.n + 8)).filter (fun e => e.2.1.2.2.2 ≠ 2)
    let np := g.links.length
    let own := ((List.range w.h.n).filter (fun k => ms.any (fun e => e.2.1.2.2.1.contains k))).foldl (fun a k => a + w.pieceLen k) 0
    let own := if w.h.n = 1 then w.elems else own
    let s := addO s 0x1A01 (64 + gnum % 16 + 1) (own * w.inBytes) 64
    let s := ms.foldl (fun s e =>
      let c := (accClass w.fin).2.2.2
      let n := (e.2.1.2.2.1.map w.pieceLen).foldl (· + ·) 0
      let each := (e.2.2.length - 16) / (ceilDiv n c + (if n = 0 then 1 else 0))
      (List.range (ceilDiv n c)).foldl (fun s k => addO s 0x1A01 (g.links.getD (k % np) 0 + 1) each 64) s) s
    let ops := own + ms.foldl (fun a e => a + (e.2.1.2.2.1.map w.pieceLen).foldl (· + ·) 0) 0
    let s := meter s p 9 ops
    useCtx s p (dContext i.desc) 4 ops

/-- An instance fails here: its command finishes with the code, its messages end, and the instance with them (R399, R407). -/
def failInst (s : State) (p : Nat) (g : Group) (key : Nat) (i : Inst) : State :=
  let s := (List.range g.size).foldl (fun s m =>
    let qpn := groupQp p g m
    ((qp s qpn).tx.filter (fun x => x.inst = some (key, i.num))).foldl (fun s x => endMsg s qpn x.msg false) s) s
  match i.cmd with
  | none => s
  | some id =>
    if isKilled s id then s
    else
      let s := match cmdOf s id with
        | some c => if c.status = 0 && c.phase ≠ .ready then failCmd s id i.failed else s
        | none => s
      closeInst s key i.num

/-- The destination of a collective at this member: address, bytes, pieces; none where it writes nothing (R404). -/
def collDest (g : Group) (w : Work) (d : Nat) : Option (Nat × List Nat) :=
  match dOpcode d with
  | 0x81 => if g.self = w.h.root then some (dArg d 2, w.h.all) else none
  | 0x82 => some (dArg d 2, [g.self])
  | 0x85 => none
  | _ => some (dArg d 2, w.h.all)

/-- Are all the member's own messages opened and acknowledged? -/
def allSent (s : State) (p : Nat) (g : Group) (key : Nat) (i : Inst) (sends : List Xfer) : Bool :=
  sends.all (fun x => i.sent.contains (x.1, x.2.1) && !openTo s p g key i.num x.2.1)

/-- Commit a command whose instance has all it needs (R404). -/
def completeColl (s : State) (p : Nat) (g : Group) (key : Nat) (w : Work) (i : Inst) (sends : List Xfer) (rs : List (Nat × Xfer)) (id : Nat) (c : Cmd) : State :=
  let top := w.h.upStages + 2 * w.h.n + 8
  let got := (matched rs i top).length = rs.length
  match collDest g w c.desc with
  | none =>
    let sent := allSent s p g key i sends
    if sent && (dOpcode c.desc ≠ 0x85 || got) then conclude s id c [] 0 else s
  | some (va, ks) =>
    if !got then s
    else
      let bs := (ks.map (resultOf w i g.self rs top)).flatten
      match accessAll s p va bs.length true with
      | .error (.fault code l) => park s c va l true code true
      | .error _ => s
      | .ok pls => conclude s id c (writeEffects pls bs) 0

/-- Has a message of an instance a digest other than this member's, or a malformed image (R399, 0x0908)? -/
def instCheck (g : Group) (w : Work) (i : Inst) (rs : List (Nat × Xfer)) : Nat :=
  if i.got.any (fun e => bits (beNat (e.2.2.take 16)) 127 64 ≠ paramDigest g i.desc) then 0x0906
  else if (matched rs i (w.h.upStages + 2 * w.h.n + 8)).any (fun e =>
      e.2.1.2.2.2 ≠ 2 && (w.readPart e.2.1.2.2.1 e.2.1.2.2.2 e.2.2).isNone) then 0x0908
  else 0

/-- Go on with one instance of a collective opcode. -/
def advanceColl (s : State) (p gnum : Nat) (g : Group) (i : Inst) : State :=
  let key := groupKey p gnum
  let w := workOf g i.desc i.num
  let rs := w.h.recvs g.self
  let sends := w.h.sends g.self
  let bad := if i.cmd.isSome then instCheck g w i rs else 0
  if i.failed ≠ 0 then failInst s p g key i
  else if bad ≠ 0 then
    failInst (updInst (if bad = 0x0906 then addO s 0x1A00 5 1 32 else s) key i.num (fun i => { i with failed := bad })) p g key { i with failed := bad }
  else match i.cmd with
  | none => s
  | some id =>
    let live := (cmdOf s id).isSome
    if isKilled s id then s
    else if i.src.isNone then (if live then s else closeInst s key i.num)
    else
      let s := (List.range (w.h.upStages)).foldl (fun s t => grantStage s p g key i rs t w.chunkCount w.cutOf) s
      let s := sendPlan s p key i.num (cSched i.desc) sends rs (fun g i x => w.parts i g.self rs x)
      let i := (((getPair s.sheaf.groups key).bind (fun g => g.insts.find? (fun j => j.num = i.num)))).getD i
      let s := match cmdOf s id with
        | some c => if c.status = 0 && c.phase = .started && c.acksDue = 0 then completeColl s p g key w i sends rs id c else s
        | none => s
      match cmdOf s id with
      | some _ => s
      | none =>
        if isKilled s id then s
        else if allSent s p g key i sends && (matched rs i (w.h.upStages + 2 * w.h.n + 8)).length = rs.length then
          closeInst (countColl s p gnum g w rs i) key i.num
        else s

/-! ### Commands -/

/-- The local part of a collective: check the destination, gather the source, and give the instance what it contributes. -/
def startColl (s : State) (id : Nat) (op : Nat) (src : Group → Cmd → Option (Nat × Nat)) : State :=
  withCmd s id op (fun s c =>
    match c.inst with
    | none => s
    | some (gn, n) =>
      let key := groupKey c.p gn
      match (getPair s.sheaf.groups key).bind (fun g => (g.insts.find? (fun i => i.num = n)).map (fun i => (g, i))) with
      | none => failCmd s id 0x0902
      | some (g, i) =>
        if i.src.isSome && i.sentAny then s
        else if oldestInst g + 2 ^ 24 ≤ n then s
        else
          let w := workOf g c.desc n
          let go := fun (s : State) (b : Bytes) => updInst s key n (fun i => { i with src := some b, cmd := some id })
          let gather := fun (s : State) => match src g c with
            | none => go s (List.replicate 4 0)
            | some (va, len) => if len = 0 then go s [] else withBytes s id c va len go
          match collDest g w c.desc with
          | none => gather s
          | some (va, ks) =>
            let n := (ks.map w.pieceLen).foldl (· + ·) 0 * w.outBytes
            if n = 0 then gather s else withDest s id c va n (fun s pls => gather (holdDest s id pls)))

/-- The source of a reduction: the whole vector. -/
def wholeSource (_ : Group) (c : Cmd) : Option (Nat × Nat) := some (dArg c.desc 0, dArg c.desc 1)

def doAllreduce (s : State) (id : Nat) : State := startColl s id 0x80 wholeSource
def doReduce (s : State) (id : Nat) : State := startColl s id 0x81 wholeSource
def doReduceScatter (s : State) (id : Nat) : State := startColl s id 0x82 wholeSource
/-- ALLGATHER contributes piece SELF. -/
def doAllgather (s : State) (id : Nat) : State :=
  startColl s id 0x83 (fun g c => let (a, b) := pieceRange (dArg c.desc 1) g.size g.self; some (dArg c.desc 0, b - a))
/-- BROADCAST contributes the root's vector. -/
def doBroadcast (s : State) (id : Nat) : State :=
  startColl s id 0x84 (fun g c => some (dArg c.desc 0, if g.self = cRoot c.desc then dArg c.desc 1 else 0))
/-- BARRIER contributes one INT32 zero. -/
def doBarrier (s : State) (id : Nat) : State := startColl s id 0x85 (fun _ _ => none)

/-- Slots of a reducer that groups have reserved (R393). -/
def slotsTaken (s : State) (r : Nat) : Nat :=
  s.sheaf.groups.foldl (fun a e => a + (if e.2.links.contains r || 64 + e.2.num % 16 = r then e.2.slots else 0)) 0

/-- Slots that a paddock's groups have reserved (R394). -/
def padSlots (s : State) (p : Nat) : Nat :=
  (s.sheaf.groups.filter (fun e => e.1 / 64 = p)).foldl (fun a e => a + e.2.slots * (e.2.links.length + 1)) 0

/-- Slots reserved in the device (0x1A00.04). -/
def allSlots (s : State) : Nat := s.sheaf.groups.foldl (fun a e => a + e.2.slots * (e.2.links.length + 1)) 0

/-- The group that a descriptor asks for, and the code with which it is refused; 0 where all is good (R393 to R395). -/
def groupAsked (s : State) (p h : Nat) (es : List Nat) : Group × Nat :=
  let n := es.length
  let self := bits h 226 215
  let base := bits h 214 197
  let np := bits h 196 193 + 1
  let slots := bits h 192 188
  let links := (setBits 64 (pad s p).links).take np
  let box := bits h 187 176
  let num := bits h 255 240
  let g : Group := { num := num, self := self, members := es, qpBase := base, links := links, slots := slots, box := box }
  let (x, y, z) := (bits box 11 8 + 1, bits box 7 4 + 1, bits box 3 0 + 1)
  let me := es.getD self 0
  let qps := (List.range n).filter (· ≠ self)
  if 64 ≤ num || n = 0 || 4096 < n || n ≤ self || slots = 0 || 16 < slots || bits h 175 0 ≠ 0 || links.length ≠ np ||
     (box ≠ 0 && x * y * z ≠ n) || es.any (fun e => bits e 26 0 ≠ 0) then (g, 0x0901)
  else if bits me 63 51 ≠ nodeId s || bits me 50 45 ≠ p || bits me 44 27 ≠ base then (g, 0x0901)
  else if (getPair s.sheaf.groups (groupKey p num)).isSome then (g, 0x0901)
  else if qps.any (fun m => cfgP s p 0x52 7 ≤ base + m || 2 ^ 18 ≤ base + m || Tbl.has s.net.qps (p * 2 ^ 18 + base + m)) then (g, 0x0901)
  else if (links ++ [64 + num % 16]).any (fun r => 16 < slotsTaken s r + slots) || (pad s p).sheaf < padSlots s p + slots * (np + 1) then (g, 0x0903)
  else (g, 0)

/-- The QP to a member of a new group (R393). -/
def groupPeer (s : State) (p : Nat) (g : Group) (m : Nat) : State :=
  let e := g.members.getD m 0
  let q : Qp := { type := 3, st := 2, node := bits e 63 51, peer := bits e 50 45 * 2 ^ 18 + bits e 44 27 + g.self,
                  paths := g.links.map (fun l => newPath s l 0), rto := (getO s 0x1600 2 : Nat), group := some (groupKey p g.num) }
  { s with net.qps := Tbl.set s.net.qps (groupQp p g m) q }

/-- GROUP_CREATE (R393 to R395). -/
def doGroupCreate (s : State) (id : Nat) : State :=
  withCmd s id 0x90 (fun s c =>
    let a := dArg c.desc
    if (List.range 5).any (fun k => a (k + 1) ≠ 0) then failCmd s id 0x0301
    else if a 0 % 32 ≠ 0 then failCmd s id 0x0901
    else withBytes s id c (a 0) 32 (fun s hb =>
      let h := beNat hb
      let n := bits h 239 227
      if n = 0 || 4096 < n then failCmd s id 0x0901
      else withBytes s id c (a 0 + 32) (8 * n) (fun s eb =>
        let (g, st) := groupAsked s c.p h (numsOf 8 eb)
        if st ≠ 0 then failCmd s id st
        else
          let s := ((List.range n).filter (· ≠ g.self)).foldl (fun s m => groupPeer s c.p g m) s
          finish { s with sheaf.groups := s.sheaf.groups ++ [(groupKey c.p g.num, g)] } id [] 0)))

/-- GROUP_DESTROY (R400). -/
def doGroupDestroy (s : State) (id : Nat) : State :=
  withCmd s id 0x91 (fun s c =>
    let a := dArg c.desc
    let key := groupKey c.p (a 0)
    if 64 ≤ a 0 || (List.range 5).any (fun k => a (k + 1) ≠ 0) then failCmd s id 0x0301
    else match getPair s.sheaf.groups key with
    | none => failCmd s id 0x0902
    | some g =>
      if !g.insts.isEmpty then failCmd s id 0x0909
      else
        let s := { s with net.qps := s.net.qps.filter (fun e => e.2.group ≠ some key),
                          sheaf.groups := s.sheaf.groups.filter (fun e => e.1 ≠ key) }
        finish s id [] 0)

/-- COLL_TIMEOUT has passed since the fetch of a collective that has not committed (R407). -/
def doCollTimeout (s : State) (id : Nat) : State :=
  let mark := fun (s : State) (p : Nat) (i : Option (Nat × Nat)) => match i with
    | some (gn, n) => updInst s (groupKey p gn) n (fun i => if i.failed = 0 then { i with failed := 0x0905 } else i)
    | none => s
  match cmdOf s id with
  | some c => if c.inst.isSome && c.status = 0 && c.phase ≠ .ready then failCmd (mark s c.p c.inst) id 0x0905 else s
  | none => match s.cmd.killed.find? (fun k => k.id = id && k.inst.isSome) with
    | none => s
    | some k =>
      let s := mark { s with cmd.killed := s.cmd.killed.filter (fun k => k.id ≠ id) } k.p k.inst
      let s := endEntry (k.holds.foldl freeFill s) k.p k.q k.entry
      let s := updQueue (bump s k.p 0x80 2 1) k.p k.q (fun q => { q with lastErr := 0x0905 })
      let ep := ((ctxOf s k.p k.ctx).map (·.epoch)).getD 0
      let head := ((queueOf s k.p k.q).map (·.head)).getD 0
      queueCheck (postRecord s k.p k.q (recordNat (dId k.desc) 0x0905 (dOpcode k.desc) k.ctx ep k.q 2 k.reruns head (ns s) 0) (dIrq k.desc)) k.p k.q

/-- A kill has waited COLL_KILL_WAIT for a member that contributed (R406). -/
def doCollKillWaitExpiry (s : State) (id : Nat) : State :=
  match cmdOf s id with
  | some c => if c.killWaits && contributed s c then failCmd s id 0x0904 else s
  | none => s

/-- A GRANT arrives: it raises the LIMIT of one home for one instance, or is dropped and counted (R410). -/
def doGrant (s : State) (on : Port) (pkt : Packet) : State :=
  let h := pkt.hdr.toNat
  match receive s on pkt 12 with
  | (s, none) => s
  | (s, some (p, qpn)) =>
    let x := beNat pkt.payload
    if pkt.payload.length ≠ 8 || bits x 59 32 ≠ 0 then dropUnmatched s
    else match (qp s qpn).group, groupOf s qpn with
    | some key, some g =>
      (match recoverInst g (bAddr h) with
      | none => stale s p
      | some n =>
        let m := qpn % 2 ^ 18 - g.qpBase
        let path := bits x 63 60
        if !g.insts.any (fun i => i.num = n) || bits x 31 0 ≤ limitOf s qpn (key, n) path then stale s p
        else
          let s := updInst s key n (fun i => { i with
            limits := i.limits.filter (fun e => !(e.1 = m && e.2.1 = path)) ++ [(m, path, bits x 31 0)] })
          pump s qpn)
    | _, _ => stale s p

end Sys2Proof.Machine
end

