-- ==== Sys2Proof/Machine/Roster.lean ====
section
/-! DEFINITION. ROSTER_STEP: page partials, the exact merge of its two rounds, and the root's output (R374 to R379, R391, R392). -/

namespace Sys2Proof.Machine
open Sys2Proof

/-! ### Roster row, 64 bytes -/
def roSeq (r : Nat) : Nat := bits r 511 480
def roActive (r : Nat) : Bool := bit r 479
def roQ (r : Nat) : Nat := bits r 471 464
def roKv (r : Nat) : Nat := bits r 463 456
def roDim (r : Nat) : Nat := 64 * 2 ^ bits r 455 454
def roQf (r : Nat) : Nat := bits r 453 449
def roKf (r : Nat) : Nat := bits r 448 444
def roOf (r : Nat) : Nat := bits r 443 439
def roRounding (r : Nat) : Rounding := { mode := bits r 438 436, sat := bit r 435 }
def roPages (r : Nat) : Nat := bits r 431 416
def roScale (r : Nat) : Num := decodeNum 0x10 (bits r 415 384)
def roList (r : Nat) : Nat := bits r 383 320
def roQBase (r : Nat) : Nat := bits r 319 256
def roOut (r : Nat) : Nat := bits r 255 192

/-- Does an active row break its table (R379)? -/
def rowBad (r : Nat) : Bool :=
  bits r 478 472 ≠ 0 || bits r 434 432 ≠ 0 || bits r 191 0 ≠ 0 || roQ r = 0 || roKv r = 0 || roQ r % roKv r ≠ 0 ||
  bits r 455 454 = 3 || (roQf r ≠ 0x0E && roQf r ≠ 0x0F) ||
  (roKf r ≠ 0x0E && roKf r ≠ 0x0F && roKf r ≠ 6 && roKf r ≠ 7) || !outFmtOk (roOf r) || 3 < bits r 438 436

/-- Does a page entry break its layout (R379)? -/
def pageBad (e : Nat) : Bool := bits e 6 0 = 0 || 64 < bits e 6 0 || bits e 31 7 ≠ 0

/-- Bytes of a page: K then V, 64 positions of every KV head. -/
def pageBytes (r : Nat) : Nat := 2 * roKv r * 64 * roDim r * (fmtBits (roKf r) / 8)

/-! ### Page partials (R374) -/

/-- A page partial. -/
structure Partial where
  seq : Nat
  head : Nat
  nan : Bool
  tokens : Nat
  first : Nat
  m : Int
  /-- L and O, as FP32 encodings -/
  terms : List Nat
  deriving DecidableEq, Repr, Inhabited

/-- Its bytes. -/
def Partial.bytes (x : Partial) : Bytes :=
  beBytes 16 (pack [(32, x.seq), (8, x.head), (1, b2n x.nan), (7, x.tokens), (16, 0), (32, x.first), (32, ofSigned 32 x.m)]) ++
  (x.terms.map (leBytes 4)).flatten

/-- The next partial in some bytes, of a head of dim dimensions. -/
def partialRead (dim : Nat) (bs : Bytes) : Partial :=
  let h := beNat (bs.take 16)
  { seq := bits h 127 96, head := bits h 95 88, nan := bit h 87, tokens := bits h 86 80, first := bits h 63 32,
    m := toSigned 32 (bits h 31 0), terms := (List.range (dim + 1)).map (fun i => leNat ((bs.drop (16 + 4 * i)).take 4)) }

/-- The smallest whole number not below a value. -/
def ceilNum : Num → Int
  | .fin neg m e =>
    let d : Int := if neg then -(m : Int) else m
    if 0 ≤ e then d * ((2 ^ e.toNat : Nat) : Int) else -((-d) / ((2 ^ (-e).toNat : Nat) : Int))
  | _ => 0

/-- The page partial of one head: queries, keys and values as numbers. M outside 32 bits has no stated value: it is free. -/
def partialOf (seq head first : Nat) (scale : Num) (q : List Num) (ks vs : List (List Num)) (free : Nat) : Partial :=
  let dim := q.length
  let s2 := ks.map (fun k => rne32 ((rne32 (dot 4 q k none false).1).mul scale))
  let base : Partial := { seq := seq, head := head, nan := true, tokens := ks.length, first := first, m := 0, terms := List.replicate (dim + 1) 0 }
  if s2.any (fun x => !x.isFin) then base
  else
    let top := match s2 with
      | [] => Num.zero
      | x :: t => t.foldl (fun a b => if a.lt b then b else a) x
    let c := ceilNum top
    let m : Int := if -(2 ^ 31 : Int) ≤ c && c < (2 ^ 31 : Int) then c else toSigned 32 (Config.freeChoice free % 2 ^ 32)
    let w := s2.map (fun x => crExp2 (rne32 (sumNums [x, ({ m := -m, e := 0 } : Dyad).num false] false)))
    let l := (roundOut 0x10 {} 0 0 (sumNums w false)).1
    let o := (List.range dim).map (fun i =>
      (roundOut 0x10 {} 0 0 (sumNums ((w.zip vs).map (fun e => e.1.mul (e.2.getD i Num.zero))) false)).1)
    { base with nan := false, m := m, terms := l :: o }

/-- Numbers of one token position of a page: K (0) or V (1), KV head, token. -/
def pageNums (r : Nat) (page : Bytes) (part kv tok : Nat) : List Num :=
  let f := roKf r
  let dim := roDim r
  let at_ := ((part * roKv r + kv) * 64 + tok) * dim
  (List.range dim).map (fun i => decodeNum f (elemOf f page (at_ + i)))

/-- The partials of one page, one for each query head. -/
def pagePartials (r entry : Nat) (q page : Bytes) (free : Nat) : List Partial :=
  let n := bits entry 6 0
  (List.range (roQ r)).map (fun h =>
    let kv := h / (roQ r / roKv r)
    let qs := (List.range (roDim r)).map (fun i => decodeNum (roQf r) (elemOf (roQf r) q (h * roDim r + i)))
    partialOf (roSeq r) h (bits entry 63 32) (roScale r) qs
      ((List.range n).map (pageNums r page 0 kv)) ((List.range n).map (pageNums r page 1 kv)) (free + h))

/-! ### The merge (R391, R392) -/

/-- Heads of a step: row and query head, in order. -/
def headsOf (rows : List Nat) : List (Nat × Nat) := (rows.map (fun r => (List.range (roQ r)).map (fun h => (r, h)))).flatten

/-- All partials in an instance's bytes, in order, row by row; each row's length comes with its dimension. -/
def readPartials (rows : List Nat) : Nat → Bytes → List Partial
  | 0, _ => []
  | f + 1, bs =>
    if bs.length < 16 then []
    else
      let seq := bits (beNat (bs.take 16)) 127 96
      let dim := ((rows.find? (fun r => roSeq r = seq)).map roDim).getD 64
      partialRead dim bs :: readPartials rows f (bs.drop (20 + 4 * dim))

/-- The partials of a head. -/
def Inst.partials (i : Inst) (r h : Nat) : List Partial :=
  (readPartials i.rows ((i.src.getD []).length) (i.src.getD [])).filter (fun x => x.seq = roSeq r && x.head = h)

/-- The largest M of a head's own partials, −2^31 where there is none (R391). -/
def ownM (i : Inst) (r h : Nat) : Int := (i.partials r h).foldl (fun a x => max a x.m) (-(2 ^ 31))

/-- What a member contributes to the first round: one INT32 for each head. -/
def roundOne (i : Inst) : Bytes := ((headsOf i.rows).map (fun e => leBytes 4 (ofSigned 32 (ownM i e.1 e.2)))).flatten

/-- The record of one head on its way to the root. -/
structure Merge where
  seq : Nat
  head : Nat
  nan : Bool
  mstar : Nat
  pages : Nat
  terms : List Elem
  deriving DecidableEq, Repr, Inhabited

/-- The terms of the partials of a head, scaled to M* and truncated (R392). -/
def ownMerge (i : Inst) (r h : Nat) (mstar : Int) : Merge :=
  let ps := i.partials r h
  let good := ps.filter (fun x => !x.nan)
  { seq := roSeq r, head := h, nan := ps.any (·.nan), mstar := ofSigned 32 mstar, pages := ps.length,
    terms := (List.range (roDim r + 1)).map (fun k =>
      good.map (fun x => trunc149 ((decodeNum 0x10 (x.terms.getD k 0)).shift (x.m - mstar)))) }

/-- The bytes of a merge image. -/
def Merge.bytes (x : Merge) : Bytes :=
  beBytes 16 (pack [(32, x.seq), (8, x.head), (1, b2n x.nan), (23, 0), (32, x.mstar), (32, x.pages)]) ++ imageOf 0x10 x.pages x.terms

/-- Read merge images, with fuel; none where one breaks its table. -/
def readMerges : Nat → Bytes → Option (List Merge)
  | 0, bs => if bs.isEmpty then some [] else none
  | f + 1, bs =>
    if bs.isEmpty then some []
    else
      let h := beNat (bs.take 16)
      let n := bits (beNat ((bs.drop 16).take 8)) 46 36
      match imageRead 0x10 n (bs.drop 16) with
      | none => none
      | some (es, _, rest) =>
        if bits h 86 64 ≠ 0 then none
        else (readMerges f rest).map (fun t =>
          { seq := bits h 127 96, head := bits h 95 88, nan := bit h 87, mstar := bits h 63 32, pages := bits h 31 0, terms := es } :: t)

/-- Do two lists name the same heads with the same dimension (R378)? -/
def sameHeads (a b : List Merge) : Bool :=
  a.length = b.length && (a.zip b).all (fun e => e.1.seq = e.2.seq && e.1.head = e.2.head && e.1.terms.length = e.2.terms.length)

/-- Add one member's records to another's. -/
def addMerges (a b : List Merge) : List Merge :=
  (a.zip b).map (fun e => { e.1 with
    nan := e.1.nan || e.2.nan, pages := e.1.pages + e.2.pages, terms := (e.1.terms.zip e.2.terms).map (fun t => t.1 ++ t.2) })

/-! ### The plan of a step -/

/-- The first round: ALLREDUCE of the heads' M with MAX; AUTO picks its algorithm by its length. -/
def rosterWork (g : Group) (i : Inst) : Work :=
  let n := (headsOf i.rows).length
  let (x, y, _) := g.sides
  { h := { op := 0x80, algo := algoFor g 0 (4 * n), n := g.size, x := x, y := y, root := 0 }, elems := n, fin := 2, fout := 2, op := 1, round := {} }

/-- The second round: to member 0, DIRECT up to 64 members and over the tree beyond. -/
def mergeShape (g : Group) : Shape :=
  { op := 0x81, algo := if g.size ≤ 64 then 1 else 3, n := g.size, x := 1, y := 1, root := 0 }

/-- Stages of the first round. -/
def firstStages (w : Work) : Nat := w.h.upStages + 2 * w.h.n

/-- A message of the second round: kind 3. -/
def asMerge (t : Nat) (x : Xfer) : Xfer := (x.1 + t, x.2.1, [], 3)

def rosterSends (g : Group) (w : Work) : List Xfer := w.h.sends g.self ++ ((mergeShape g).sends g.self).map (asMerge (firstStages w))
def rosterRecvs (g : Group) (w : Work) : List (Nat × Xfer) :=
  w.h.recvs g.self ++ ((mergeShape g).recvs g.self).map (fun e => (e.1, asMerge (firstStages w) e.2))

/-- M* of every head, once the first round is complete. -/
def mstars (w : Work) (i : Inst) (self : Nat) (rs : List (Nat × Xfer)) : List Int :=
  let i1 := { i with src := some (roundOne i) }
  let bs := ((List.range w.h.n).map (resultOf w i1 self rs (firstStages w))).flatten
  (List.range w.elems).map (fun k => toSigned 32 (leNat ((bs.drop (4 * k)).take 4)))

/-- This member's own records of the second round. -/
def ownMerges (w : Work) (i : Inst) (self : Nat) (rs : List (Nat × Xfer)) : List Merge :=
  ((headsOf i.rows).zip (mstars w i self rs)).map (fun e => ownMerge i e.1.1 e.1.2 e.2)

/-- Records received in the second round before a stage. -/
def gotMerges (i : Inst) (rs : List (Nat × Xfer)) (t : Nat) : List (Option (List Merge)) :=
  ((matched rs i t).filter (fun e => e.2.1.2.2.2 = 3)).map (fun e => readMerges e.2.2.length (e.2.2.drop 16))

/-- The records this member passes on: summed; where members disagree, one after the other, so that the root sees it
(DESIGN CHOICE, log 26). -/
def mergesAt (w : Work) (i : Inst) (self : Nat) (rs : List (Nat × Xfer)) (t : Nat) : List Merge :=
  (gotMerges i rs t).foldl (fun a b => match b with
    | none => a
    | some b => if sameHeads a b then addMerges a b else a ++ b) (ownMerges w i self rs)

/-- The parts of a message of a step. -/
def rosterParts (g : Group) (i : Inst) (x : Xfer) : List Bytes :=
  let w := rosterWork g i
  let rs := rosterRecvs g w
  if x.2.2.2 = 3 then (mergesAt w i g.self rs x.1).map Merge.bytes
  else w.parts { i with src := some (roundOne i) } g.self rs x

/-- Whole merge records at the front of some bytes, with fuel. -/
def mergesIn : Nat → Bytes → Nat
  | 0, _ => 0
  | f + 1, bs =>
    if bs.length < 24 then 0
    else
      let n := 16 + imageBytes (beNat ((bs.drop 16).take 8))
      if bs.length < n then 0 else mergesIn f (bs.drop n) + 1

/-! ### The root's output (R375) -/

/-- The rows of OUT and their status: L of zero has no stated quotient, and its head is free. -/
def rosterOut (s : State) (i : Inst) (ms : List Merge) : State × List (Nat × Bytes) × Nat :=
  i.rows.foldl (fun (acc : State × List (Nat × Bytes) × Nat) r =>
    let heads := ms.filter (fun m => m.seq = roSeq r)
    let (s, bs, st) := heads.foldl (fun (a : State × Bytes × Nat) m =>
      let l := sumNums (m.terms.getD 0 []) false
      let f := roOf r
      let n := packedBytes f (roDim r)
      if m.nan then (a.1, a.2.1 ++ packElems f (List.replicate (roDim r) (nanCode f)), join a.2.2 stNanOut)
      else if l.isZero then (fresh1 a.1, a.2.1 ++ freeBytes a.1 n, a.2.2)
      else
        let cs := (List.range (roDim r)).map (fun k => codeQuot f (roRounding r) 0 k (sumNums (m.terms.getD (k + 1) []) false) l)
        (a.1, a.2.1 ++ packElems f (cs.map (·.1)), join a.2.2 (joinFlags (cs.map (·.2))))) (acc.1, [], 0)
    (s, acc.2.1 ++ [(roOut r, bs)], join acc.2.2 st)) (s, [], 0)

/-- Effects that write several runs; none where a destination faults. -/
def runEffects (s : State) (p : Nat) (ws : List (Nat × Bytes)) : Except Access (List Effect) := addWrites s p ws

/-- Page partials that an instance's own bytes hold. -/
def partialCount (i : Inst) : Nat := (readPartials i.rows ((i.src.getD []).length) (i.src.getD [])).length

/-- Complete a step: the root writes OUT, the others write nothing (R404, R405). -/
def completeRoster (s : State) (p : Nat) (g : Group) (key : Nat) (i : Inst) (w : Work) (sends : List Xfer) (rs : List (Nat × Xfer)) (id : Nat) (c : Cmd) : State :=
  let top := firstStages w + 2 * g.size + 8
  if (matched rs i top).length ≠ rs.length then s
  else if g.self ≠ 0 then
    (if allSent s p g key i sends then conclude s id c [] (swardResult (partialCount i) 0 0) else s)
  else
    let own := ownMerges w i g.self rs
    let others := gotMerges i rs top
    if others.any (fun b => match b with | none => false | some b => !sameHeads own b) then
      failInst (updInst s key i.num (fun i => { i with failed := 0x081B })) p g key { i with failed := 0x081B }
    else
      let (s, ws, st) := rosterOut s i (mergesAt w i g.self rs top)
      match runEffects s p ws with
      | .error (.fault code l) => park s c ((ws[0]?.map (·.1)).getD 0) l true code true
      | .error _ => s
      | .ok es => conclude s id c es (swardResult (partialCount i) 0 st)

/-- Count the merge terms of a step (R474). -/
def countRoster (s : State) (p gnum : Nat) (g : Group) (i : Inst) (rs : List (Nat × Xfer)) : State :=
  let own := (readPartials i.rows ((i.src.getD []).length) (i.src.getD [])).foldl (fun a x => a + x.terms.length) 0
  let got := (gotMerges i rs (firstStages (rosterWork g i) + 2 * g.size + 8)).foldl (fun a b => a + (b.getD []).foldl (fun a m => a + m.terms.length) 0) 0
  let bytes := (i.got.map (fun e => e.2.2.length - 16)).foldl (· + ·) 0
  let s := addO s 0x1A01 (64 + gnum % 16 + 1) (4 * own) 64
  let s := addO s 0x1A01 (g.links.getD 0 0 + 1) bytes 64
  useCtx (meter s p 9 (own + got)) p (dContext i.desc) 4 (own + got)

/-- A digest that differs, or a malformed image. -/
def rosterCheck (g : Group) (i : Inst) (w : Work) (rs : List (Nat × Xfer)) : Nat :=
  if i.got.any (fun e => bits (beNat (e.2.2.take 16)) 127 64 ≠ paramDigest g i.desc) then 0x0906
  else if (gotMerges i rs (firstStages w + 2 * g.size + 8)).any (·.isNone) then 0x0908 else 0

/-- Go on with one instance of a ROSTER_STEP. -/
def advanceRoster (s : State) (p gnum : Nat) (g : Group) (i : Inst) : State :=
  let key := groupKey p gnum
  let fail := fun (s : State) (code : Nat) => failInst (updInst s key i.num (fun i => { i with failed := code })) p g key { i with failed := code }
  if i.failed ≠ 0 then failInst s p g key i
  else match i.cmd with
  | none => s
  | some id =>
    if i.got.any (fun e => bits (beNat (e.2.2.take 16)) 127 64 ≠ paramDigest g i.desc) then fail (addO s 0x1A00 5 1 32) 0x0906
    else if isKilled s id then s
    else if i.src.isNone then (if (cmdOf s id).isSome then s else closeInst s key i.num)
    else
      let w := rosterWork g i
      let rs := rosterRecvs g w
      let sends := rosterSends g w
      if rosterCheck g i w rs ≠ 0 then fail s (rosterCheck g i w rs)
      else
        let n := (headsOf i.rows).length
        let s := (List.range w.h.upStages).foldl (fun s t => grantStage s p g key i rs t w.chunkCount w.cutOf) s
        let s := (List.range 8).foldl (fun s t => grantStage s p g key i rs (firstStages w + t) (fun _ => n) (fun _ bs => mergesIn (bs.length + 1) bs)) s
        let s := sendPlan s p key i.num false sends rs rosterParts
        let i := (((getPair s.sheaf.groups key).bind (fun g => g.insts.find? (fun j => j.num = i.num)))).getD i
        let s := match cmdOf s id with
          | some c => if c.status = 0 && c.phase = .started && c.acksDue = 0 then completeRoster s p g key i w sends rs id c else s
          | none => s
        match cmdOf s id with
        | some _ => s
        | none =>
          if isKilled s id then s
          else if allSent s p g key i sends && (matched rs i (firstStages w + 2 * g.size + 8)).length = rs.length then
            closeInst (countRoster s p gnum g i rs) key i.num
          else s

/-- Go on with every open instance of every group. -/
def advanceGroups (s : State) : State :=
  s.sheaf.groups.foldl (fun s e => e.2.insts.foldl (fun s i =>
    match (getPair s.sheaf.groups e.1).bind (fun g => (g.insts.find? (fun j => j.num = i.num)).map (fun i => (g, i))) with
    | none => s
    | some (g, i) =>
      if dOpcode i.desc = 0x60 then advanceRoster s (e.1 / 64) (e.1 % 64) g i
      else advanceColl s (e.1 / 64) (e.1 % 64) g i) s) s

/-! ### The command -/

/-- The page entries of a row. -/
def withLists (s : State) (id : Nat) (c : Cmd) : List Nat → List (Nat × List Nat) → (State → List (Nat × List Nat) → State) → State
  | [], acc, f => f s acc
  | r :: t, acc, f =>
    if roPages r = 0 then withLists s id c t (acc ++ [(r, [])]) f
    else withBytes s id c (roList r) (16 * roPages r) (fun s b => withLists s id c t (acc ++ [(r, numsOf 16 b)]) f)

/-- The partials of every page of every row. -/
def allPartials (s : State) (c : Cmd) (ls : List (Nat × List Nat)) : List Partial :=
  (ls.map (fun e =>
    let q := cmdBytes s c (roQBase e.1) (roQ e.1 * roDim e.1 * 2)
    (e.2.zipIdx.map (fun x =>
      pagePartials e.1 x.1 q (cmdBytes s c (bits x.1 127 64) (pageBytes e.1)) ((c.order * 65536 + x.2) * 256))).flatten)).flatten

/-- Does an earlier uncommitted step of the paddock name the same bank (R376)? -/
def bankBusy (s : State) (id : Nat) (c : Cmd) : Bool :=
  s.cmd.live.any (fun e => e.1 ≠ id && e.2.p = c.p && dOpcode e.2.desc = 0x60 && dArg e.2.desc 0 = dArg c.desc 0 && e.2.order < c.order) ||
  s.cmd.killed.any (fun k => k.p = c.p && dOpcode k.desc = 0x60 && dArg k.desc 0 = dArg c.desc 0 && k.order < c.order)

/-- ROSTER_STEP: one copy of the bank, then the partials of every local page; the merge goes on in the Sheaf. -/
def doRosterStep (s : State) (id : Nat) : State :=
  withCmd s id 0x60 (fun s c =>
    match c.inst with
    | none => s
    | some (gn, n) =>
      let key := groupKey c.p gn
      match (getPair s.sheaf.groups key).bind (fun g => (g.insts.find? (fun i => i.num = n)).map (fun i => (g, i))) with
      | none => failCmd s id 0x0902
      | some (g, i) =>
        if i.src.isSome && i.sentAny then s
        else if s.pow.brake.isSome || bankBusy s id c || oldestInst g + 2 ^ 24 ≤ n then s
        else if noTussock s c.p ≠ 0 then failCmd s id (noTussock s c.p)
        else
          let count := getP s c.p 0x60 6
          let bank := getP s c.p 0x60 (4 + dArg c.desc 0)
          let go := fun (s : State) (rows : List Nat) =>
            let rows := rows.filter roActive
            if rows.any rowBad then failCmd s id 0x081A
            else
              let s := updInst s key n (fun i => { i with rows := rows })
              withLists s id c rows [] (fun s ls =>
                if ls.any (fun e => e.2.any pageBad) then failCmd s id 0x081C
                else
                  let reads := (ls.map (fun e => (roQBase e.1, roQ e.1 * roDim e.1 * 2) :: e.2.map (fun x => (bits x 127 64, pageBytes e.1)))).flatten
                  let dests := if g.self = 0 then rows.map (fun r => (roOut r, roQ r * packedBytes (roOf r) (roDim r))) else []
                  withDests s id c dests (fun s => withRanges s id c reads (fun s =>
                    match cmdOf s id with
                    | none => s
                    | some c =>
                      let s0 := s
                      let ps := allPartials s c ls
                      let s := (ls.map (·.2.length)).foldl (fun s k => (List.range k).foldl (fun s _ => meterFreeCycles s c.p) s) (wakeArray s)
                      let s := bookCycles s0 s c.p c.ctx
                      updInst s key n (fun i => { i with src := some ((ps.map Partial.bytes).flatten), cmd := some id }))))
          if !i.rows.isEmpty then go s i.rows
          else if count = 0 then go s []
          else withBytes s id c bank (64 * count) (fun s b => go s (numsOf 64 b)))

end Sys2Proof.Machine
end

