-- ==== Sys2Proof/Machine/Contexts.lean ====
section
/-! DEFINITION. Queue creation and destruction, context controls, priorities, slots, time slices and pre-emption (R107,
R113, R114, R122, R148, R149, R462 to R473, R672). Each control answers the code it finishes with, or none where its answer
comes later. -/

namespace Sys2Proof.Machine
open Sys2Proof

/-! ### Queues -/

/-- QUEUE_CREATE (R114, R148, *QUEUE_CREATE argument*). -/
def doQueueCreate (s : State) (p a : Nat) : State × Option Nat :=
  let q := bits a 255 250
  let sqLog := bits a 235 231
  let cqLog := bits a 230 226
  let sq := bits a 191 128
  let cq := bits a 127 64
  let st := (pad s p).state
  let size := 64 * 2 ^ sqLog
  if st ≠ .fenced && st ≠ .opened && st ≠ .fallow then (s, some 0x0201)
  else if bit a 248 || bits a 219 192 ≠ 0 || bits a 63 0 ≠ 0 || (queueOf s p q).isSome ||
      sqLog < 4 || 16 < sqLog || cqLog < 4 || 16 < cqLog || sq % size ≠ 0 || !mapsToGranule s p sq size ||
      (match accessAll s p cq (32 * 2 ^ cqLog) true with | .ok _ => false | .error (.needAts _) => false | .error _ => true)
    then (s, some 0x0309)
  else if (pad s p).queuesHeld ≤ (pad s p).queues.length then (s, some 0x0205)
  else
    let x : Queue := { any := bit a 249, ctx := bits a 247 236, sqLog := sqLog, cqLog := cqLog, vector := bits a 225 220,
                       sqBase := sq, cqBase := cq }
    (updPad s p (fun d => { d with queues := Tbl.set d.queues q x }), some 0)

/-- QUEUE_DESTROY: the queue closes, and is freed when its last fetched command has ended (R122). -/
def doQueueDestroy (s : State) (p q : Nat) (path : Path) (tag : Tag) : State × Option Nat :=
  match queueOf s p q with
  | none => (s, some 0x0309)
  | some x =>
    if x.st = 3 then (s, some 0x0309)
    else (queueCheck (updQueue s p q (fun x => { x with st := 3, closeTag := some (path, tag) })) p q, none)

/-- The DRAIN_TIMEOUT of a QUEUE_DESTROY passes: the rest is killed and reported (R122, R132). -/
def doQueueDestroyTimeout (s : State) (p q : Nat) : State :=
  match queueOf s p q with
  | none => s
  | some x =>
    if x.st ≠ 3 then s
    else
      let s := updQueue s p q (fun x => { x with expired := true })
      let ids := (s.cmd.live.filter (fun e => e.2.p = p && e.2.q = q && !e.2.inner)).map (·.1)
      let s := killBatch s ids .control
      queueCheck (abandon s (fun k => k.p = p && k.q = q)) p q

/-! ### Context controls -/

/-- CONTEXT_DEFINE (R107, R113). -/
def doContextDefine (s : State) (p a : Nat) : State × Option Nat :=
  let c := bits a 127 116
  let va := bits a 63 0
  if bits a 115 64 ≠ 0 || va % 16384 ≠ 0 || !mapsToGranule s p va 16384 then (s, some 0x0309)
  else if (ctxOf s p c).isSome then (s, some 0x0313)
  else match accessAll s p va 16384 true with
    | .error _ => (s, some 0x0309)
    | .ok pls =>
      let s := putPlaces s p pls (List.replicate 16384 0)
      (updPad s p (fun d => { d with ctxs := Tbl.set d.ctxs c { area := va } }), some 0)

/-- DESTROY (R113, R149). -/
def doDestroy (s : State) (p c : Nat) (path : Path) (tag : Tag) : State × Option Nat :=
  match ctxOf s p c with
  | none => (s, some 0x0313)
  | some x =>
    if (pad s p).queues.any (fun e => !e.2.any && e.2.ctx = c) || x.closing then (s, some 0x030B)
    else if x.st = .idle || x.st = .killed then
      (updCtx s p c (fun x => { x with forced := true, closing := true, closeTag := some (path, tag) }), none)
    else (updCtx s p c (fun x => { x with closing := true, closeTag := some (path, tag) }), none)

/-- DESTROY's wait ends without IDLE (R149). -/
def doDestroyTimeout (s : State) (p c : Nat) : State :=
  match ctxOf s p c with
  | none => s
  | some x => match x.closeTag with
    | some (path, tag) =>
      if x.closing && !x.forced then
        respond (updCtx s p c (fun x => { x with closing := false, closeTag := none })) path tag 2 (pidx p 0x50) 4 0x030B []
      else s
    | none => s

/-- FORCE_DESTROY: kill, report, destroy once the last kill is done (R113, R149). A DESTROY that still waits ends without
its context in IDLE. -/
def doForceDestroy (s : State) (p c : Nat) (path : Path) (tag : Tag) : State × Option Nat :=
  match ctxOf s p c with
  | none => (s, some 0x0313)
  | some x =>
    if x.forced then (s, some 0x030B)
    else
      let s := match x.closeTag with
        | some (pa, t) => respond s pa t 2 (pidx p 0x50) 4 0x030B []
        | none => s
      let s := stopCtx s p c .control .killed
      (updCtx s p c (fun x => { x with forced := true, closing := true, closeTag := some (path, tag) }), none)

/-- KILL (R113). -/
def doKill (s : State) (p c : Nat) : State × Option Nat :=
  if (ctxOf s p c).isNone then (s, some 0x0313) else (stopCtx s p c .control .killed, some 0)

/-- RESUME (R113). -/
def doResume (s : State) (p c : Nat) : State × Option Nat :=
  match ctxOf s p c with
  | some x => if x.st = .parked then (ready s p c, some 0) else (s, some 0x0313)
  | none => (s, some 0x0313)

/-- REVIVE: killed commands are reported as abandoned and the context is IDLE, once the last kill is done (R113, R132). -/
def doRevive (s : State) (p c : Nat) (path : Path) (tag : Tag) : State × Option Nat :=
  match ctxOf s p c with
  | some x => if x.st = .killed && !x.forced && x.reviveTag.isNone then
      (updCtx s p c (fun x => { x with reviveTag := some (path, tag) }), none) else (s, some 0x0313)
  | none => (s, some 0x0313)

/-- CONTEXT_CONTROL (R113, R149, R672). -/
def doContextControl (s : State) (p v : Nat) (path : Path) (tag : Tag) : State × Option Nat :=
  let c := bits v 11 0
  match bits v 15 12 with
  | 1 => doDestroy s p c path tag
  | 2 => doForceDestroy s p c path tag
  | 3 => doKill s p c
  | 4 => doResume s p c
  | 5 => doRevive s p c path tag
  | _ => (s, some 0x0106)

/-- Finish what waited for the last kill of a context: a destruction, or a REVIVE. -/
def finishCtx (p c : Nat) (s : State) : State :=
  match ctxOf s p c with
  | none => s
  | some x =>
    if (x.forced || x.reviveTag.isSome) && (ctxCmds s p c).isEmpty && !x.advanceDue then
      let s := abandon s (fun k => k.p = p && k.ctx = c)
      if x.forced then
        let s := removeCtx s p c
        (match x.closeTag with | some (path, tag) => respond s path tag 2 (pidx p 0x50) 4 0 [] | none => s)
      else
        let s := updCtx s p c (fun x => { x with st := .idle, reviveTag := none })
        (match x.reviveTag with | some (path, tag) => respond s path tag 2 (pidx p 0x50) 4 0 [] | none => s)
    else s

/-- Every context that waits for its last kill. -/
def finishAllCtx (s : State) : State :=
  s.pads.foldl (fun s e => e.2.ctxs.foldl (fun s x => if x.2.forced || x.2.reviveTag.isSome then finishCtx e.1 x.1 s else s) s) s

/-- The quarantine of an old epoch ends; an advance that waited for it takes place (R111). -/
def doEpochQuarantineEnd (s : State) (p c e : Nat) : State :=
  let s := updCtx s p c (fun x => { x with quarantine := x.quarantine.filter (· ≠ e) })
  match ctxOf s p c with
  | some x => if x.advanceWaits && !x.quarantine.contains ((x.epoch + 1) % 256) then advanceEpoch s p c else s
  | none => s

/-- CTX_PRIORITY_SET (R465). -/
def doCtxPrioritySet (s : State) (p v : Nat) : State × Option Nat :=
  let c := bits v 11 0
  if 7 < bits v 15 12 || (ctxOf s p c).isNone then (s, some 0x0309)
  else (updCtx s p c (fun x => { x with prio := bits v 15 12 }), some 0)

/-! ### Slots (R462, R463) -/

/-- Slots of the paddock that a context occupies. -/
def usedSlots (s : State) (p : Nat) : List Nat := (pad s p).ctxs.filterMap (fun e => e.2.slot)
/-- The lowest free slot. -/
def freeSlotOf (s : State) (p : Nat) : Option Nat :=
  (List.range (pad s p).slots).find? (fun k => !(usedSlots s p).contains k)

/-- The least element of some contexts by a key, ties to the lowest number. -/
def leastCtx (l : List (Nat × Ctx)) (key : Ctx → Nat × Nat) : Option (Nat × Ctx) :=
  l.foldl (fun a e => match a with
    | none => some e
    | some b =>
      let x := key e.2
      let y := key b.2
      if x.1 < y.1 || (x.1 = y.1 && x.2 < y.2) then some e else a) none

/-- The READY context that is served first (R462): highest priority, READY longest, lowest number. An exclusive context
keeps the others out (R467), and a waiting epoch advance keeps its context out of RUNNING (R111). -/
def firstReady (s : State) (p : Nat) : Option (Nat × Ctx) :=
  leastCtx ((pad s p).ctxs.filter (fun e => e.2.st = .ready && !e.2.advanceWaits && !e.2.advanceDue &&
    (match (pad s p).excl with | some (c, _) => e.1 = c | none => true))) (fun x => (7 - x.prio, x.readySince))

/-- The context whose slot rule 1 of R463 takes. -/
def looseSlot (s : State) (p : Nat) : Option (Nat × Ctx) :=
  leastCtx ((pad s p).ctxs.filter (fun e => e.2.slot.isSome && (e.2.st = .idle || e.2.st = .waiting))) (fun x => (x.grantedAt, 0))

/-- The RUNNING context that rule 2 or 3 of R463 pre-empts for a waiting one. -/
def victim (s : State) (p prio : Nat) : Option (Nat × Ctx) :=
  let run := (pad s p).ctxs.filter (fun e => e.2.st = .running && e.2.slot.isSome && !e.2.preempting &&
    (match (pad s p).excl with | some (c, _) => e.1 ≠ c | none => true))
  match leastCtx (run.filter (fun e => e.2.prio < prio)) (fun x => (x.prio, x.grantedAt)) with
  | some e => some e
  | none => leastCtx (run.filter (fun e => e.2.prio = prio && 1000 * getP s p 0x20 5 ≤ ns s - e.2.grantedAt))
      (fun x => (x.grantedAt, 0))

/-- A free slot, or one that rule 1 frees, goes to the first READY context, whose save area is loaded (R113, R462, R463). -/
def doSlotGrant (s : State) (p : Nat) : State :=
  if (pad s p).state ≠ .opened && (pad s p).state ≠ .draining then s
  else match firstReady s p with
  | none => s
  | some (c, x) =>
    let s := match accessAll s p x.area 16384 false with
      | .error (.fault 0x0A03 _) => strike s p false
      | _ => s
    let s := if (freeSlotOf s p).isSome then s else match looseSlot s p with | some (l, _) => evict s p l | none => s
    match freeSlotOf s p with
    | none => s
    | some k => updCtx s p c (fun x => { x with st := .running, slot := some k, grantedAt := ns s, progress := ns s })

/-- The scheduler pre-empts a context for one that waits (R463, R470). -/
def doPreemption (s : State) (p c : Nat) : State :=
  match firstReady s p with
  | none => s
  | some (_, w) =>
    if (freeSlotOf s p).isSome || (looseSlot s p).isSome then s
    else match victim s p w.prio with
      | some (v, _) => if v = c then preemptCtx s p c else s
      | none => s

/-- The last command of a pre-empted context has been killed: epoch, slot, READY (R472, R473). -/
def doPreemptionEpochAdvance (s : State) (p c : Nat) : State :=
  match ctxOf s p c with
  | none => s
  | some x =>
    if x.preempting && (ctxCmds s p c).isEmpty then
      ready (updCtx (freeSlot (advanceEpoch s p c) p c) p c (fun x => { x with preempting := false })) p c
    else s

/-- A time slice ends: an equal waiter that finds no other slot pre-empts the context, else the slice restarts (R463). -/
def doTimeSliceExpiry (s : State) (p c : Nat) : State :=
  match ctxOf s p c with
  | none => s
  | some x =>
    if x.st ≠ .running || x.preempting then s
    else
      let held := match (pad s p).excl with | some (e, _) => e = c | none => false
      match firstReady s p with
      | some (_, w) =>
        if x.prio ≤ w.prio && !held then
          (if (freeSlotOf s p).isSome || (looseSlot s p).isSome then s else preemptCtx s p c)
        else updCtx s p c (fun x => { x with grantedAt := ns s })
      | none => updCtx s p c (fun x => { x with grantedAt := ns s })

/-- EXCL_LIMIT passes: exclusivity ends, the command runs on (R468). -/
def doExclExpired (s : State) (p : Nat) : State :=
  match (pad s p).excl with
  | none => s
  | some (_, id) =>
    let s' := updPad s p (fun d => { d with excl := none })
    match cmdOf s id with
    | some c => geqCmd s' c 0x0320 0 []
    | none => s'

/-- NOPRE_LIMIT passes: the deferred kill proceeds, unless something else still holds it (R133, R353, R406, R469). -/
def doNopreExpired (s : State) (id : Nat) : State :=
  match cmdOf s id with
  | none => s
  | some c =>
    if c.killWaits && dNopre c.desc then
      let s := geqCmd s c 0x0321 2 []
      if killMustWait s c .control then s else endDeferredKill s id
    else s

end Sys2Proof.Machine
end

