-- ==== Sys2Proof/Machine/Records.lean ====
section
/-! DEFINITION. The signed records: allotment records and meter snapshots (R59 to R61, R479 to R484). -/

namespace Sys2Proof.Machine
open Sys2Proof

/-- Names of the device's signing keys: attestation and configuration. -/
def attestKey : Nat := 0
def configKey : Nat := 1

/-- PAIR_HALF: this half is the secondary of a unit. -/
def pairHalf (s : State) : Nat := b2n (paired s && secondHalf s)

/-- Does paddock p span the pair (R575)? -/
def spans (s : State) (p : Nat) : Bool := paired s && secondary s p ≠ 0 && primaryRow s p ≠ 0

/-- Insert into an ascending list. -/
def insertAsc (a : Nat) : List Nat → List Nat
  | [] => [a]
  | b :: t => if a ≤ b then a :: b :: t else b :: insertAsc a t
/-- Sort ascending. -/
def sortAsc (l : List Nat) : List Nat := l.foldr insertAsc []

/-- The manifest entry of a held lot, from the current manifest or as it was when the lot was held (R161). -/
def lotEntryKept (s : State) (lot : Nat) : Nat :=
  match lotEntry s lot with
  | some e => e
  | none => (s.tp.oldEntries.find? (fun e => bits e 255 224 = lot)).getD 0

/-- LOT_DIGEST: the held lots' manifest entries in ascending lot identifier order. -/
def lotDigest (s : State) (p : Nat) : Nat :=
  sha384 ((sortAsc (pad s p).lots).map (fun l => beBytes 32 (lotEntryKept s l))).flatten

/-- A signature over the first 416 bytes, as 96 bytes. -/
def signed (key : Nat) (body : Bytes) (n : Nat) : Bytes := body ++ beBytes 96 (Config.sign key body n).toNat

/-- SHA-384 of the previous record of a paddock number; zero where there is none. -/
def digestOr0 (b : Bytes) : Nat := if b.isEmpty then 0 else sha384 b

/-- The allotment record of paddock p in a state, carrying a nonce (*Allotment record, 512 bytes*). -/
def allotRecord (s : State) (p state nonce : Nat) : Bytes :=
  let d := pad s p
  let body := beBytes 416 (pack [(32, 0x50414452), (16, 1), (16, 0x200), (64, Config.deviceUid.toNat), (32, 0x00030100),
    (32, d.claimCvn), (64, ns s), (32, d.allotSeq + 1), (2, 0), (6, p), (8, state), (3, 0), (1, pairHalf s),
    (12, cfg s 0x1700 1), (16, d.tag), (14, 0), (1, b2n (spans s p)), (1, b2n (confidential s p)), (32, d.keyGen),
    (64, d.tussocks), (128, d.granules), (64, d.links), (256, d.bundles), (16, d.qp), (16, d.slots), (16, d.queuesHeld),
    (16, d.tlb), (16, d.sheaf), (16, d.lots.length), (16, cfgP s p 0x20 1), (16, 0), (384, lotDigest s p),
    (384, digestOr0 d.record), (256, nonce), (1280, 0)])
  signed attestKey body s.fresh

/-- A meter snapshot of paddock p (*Meter snapshot, 512 bytes*): cumulative meters, and its place in the chain (R480). -/
def snapRecord (s : State) (p : Nat) (final gap : Bool) (periodEnd : Nat) : Bytes :=
  let d := pad s p
  let body := beBytes 416 (pack ([(32, 0x4D545253), (16, 1), (16, 0x200), (64, Config.deviceUid.toNat), (32, 0x00030100),
    (32, d.snapSeq + 1), (32, d.allotSeq), (64, d.periodStart), (64, periodEnd), (2, 0), (6, p), (8, d.state.code), (3, 0),
    (1, pairHalf s), (12, cfg s 0x1700 1), (16, d.tag), (16, cfgP s p 0x20 1), (4, 0), (1, b2n gap), (1, b2n s.acct.estimated),
    (1, b2n (d.allotSeq ≠ d.allotAtPeriod)), (1, b2n final), (24, 0)] ++
    (List.range 13).map (fun k => (64, getP s p 0x30 (k + 1))) ++ (List.range 5).map (fun k => (64, getP s p 0x31 (k + 1))) ++
    [(384, d.snapPrev), (1344, 0)]))
  signed attestKey body s.fresh

/-- Form a snapshot: signed, chained and put in the queue for the meter journal; none without a root, none while 256 wait
(R479, R482, R490). -/
def formSnapshot (s : State) (p : Nat) (final gap : Bool) (periodEnd : Nat) : State :=
  if s.sec.st = 2 then s
  else if 256 ≤ (s.store.work.filter (fun w => match w with | .snapshot .. => true | _ => false)).length then
    logPad s p 0x0322 0 [(pad s p).snapSeq]
  else
    let rcd := snapRecord s p final gap periodEnd
    let s := updPad (fresh1 s) p (fun d => { d with snapSeq := d.snapSeq + 1, snapPrev := sha384 rcd, periodStart := periodEnd,
                                                     allotAtPeriod := d.allotSeq })
    flash s (.snapshot p rcd)

/-- Ask SEC for a record that carries a nonce (R59). -/
def askRecord (s : State) (p nonce : Nat) : State := updPad s p (fun d => { d with signing := d.signing ++ [nonce] })

/-- Journal a counter: its identifier and new value (R614, R615). -/
def journalCounter (s : State) (id v : Nat) : State := journal s 7 [id, v]

/-- Counter identifiers: BOOT_COUNT, CVN reservation, ALLOT_SEQUENCE and KEY_GENERATION of a paddock. -/
def ctrBoot : Nat := 0
def ctrCvn : Nat := 1
def ctrAllot (p : Nat) : Nat := 256 + p
def ctrKeyGen (p : Nat) : Nat := 512 + p

/-- A record is signed: its sequence is journaled, then it is published and its source fires (R59, R615). -/
def publishRecord (s : State) (p state nonce : Nat) : State :=
  let s := journalCounter s (ctrAllot p) ((pad s p).allotSeq + 1)
  let rcd := allotRecord s p state nonce
  firePad (updPad (fresh1 s) p (fun d => { d with record := rcd, allotSeq := d.allotSeq + 1, signing := d.signing.drop 1 })) p 3

end Sys2Proof.Machine
end

