-- ==== Sys2Proof/Machine/Paddocks.lean ====
section
/-! DEFINITION. Paddocks: claims and releases, the state machine and its control commands, fence pushes, faults, and the
allotment record (R29 to R61, R162 to R167, R273, R438, R499, R663 to R665, R667, R669). -/

namespace Sys2Proof.Machine
open Sys2Proof

/-- Change a paddock's state; its state-change source fires. -/
def setPState (s : State) (p : Nat) (st : PState) : State := firePad (updPad s p (fun d => { d with state := st })) p 0

/-! ### Link pools (R273) -/

/-- Credits of each paddock pool by channel (*Virtual channels*). -/
def poolCredits : List (Nat × Nat) := [(0, 24), (1, 18), (2, 2), (4, 18)]

/-- The POOL_MAP control frame. -/
def poolMapCtl (pool tag : Nat) (valid : Bool) : Nat := pack [(8, 4), (7, pool), (16, tag), (1, b2n valid), (96, 0)]
/-- The CREDIT control frame. -/
def creditCtl (vc pool n : Nat) (abs : Bool) : Nat := pack [(8, 2), (3, vc), (7, pool), (16, n), (1, b2n abs), (93, 0)]

/-- Bind a free pool of a link to a paddock: POOL_MAP, then CREDIT frames. -/
def bindPool (p tag : Nat) (s : State) (l : Nat) : State :=
  let k := link s l
  match (List.range 16).find? (fun n => !k.pools.any (fun e => e.1 = n)) with
  | none => s
  | some n =>
    let s := updLink s l (fun k => { k with pools := k.pools ++ [(n, p)] })
    let s := sendControl s l (poolMapCtl n tag true)
    poolCredits.foldl (fun s e => sendControl s l (creditCtl e.1 n e.2 true)) s

/-- Unbind a paddock's pool of a link. -/
def unbindPool (p : Nat) (s : State) (l : Nat) : State :=
  match (link s l).pools.find? (fun e => e.2 = p) with
  | none => s
  | some (n, _) =>
    let s := updLink s l (fun k => { k with pools := k.pools.filter (fun e => e.1 ≠ n) })
    sendControl s l (poolMapCtl n (pad s p).tag false)

/-- Rename the tag of a paddock's pool (R44). -/
def retagPool (p tag : Nat) (s : State) (l : Nat) : State :=
  match (link s l).pools.find? (fun e => e.2 = p) with
  | none => s
  | some (n, _) => sendControl s l (poolMapCtl n tag true)

/-! ### Claims (R40 to R44, R664) -/

/-- Are all bundles, granules … of a mask free or held already? -/
def maskOk (want held free : Nat) : Bool := less want (join held free) = 0

/-- Level-2 entries of a window, as addresses. -/
def windowGiBs (w : Nat × Nat) : List Nat := (List.range (w.2 / 2 ^ 30)).map (fun i => w.1 + i * 2 ^ 30)

/-- The committed window. -/
def wantWindow (s : State) (p : Nat) : Nat × Nat :=
  let n := cfgP s p 0x50 0x0E
  if n = 0 then (0, 0) else (cfgP s p 0x50 0x0D, n)

/-- Level-1 pages that the window still needs. -/
def windowPagesNeeded (s : State) (p : Nat) : Nat :=
  ((windowGiBs (wantWindow s p)).filter (fun va => (winPage s p (winKey1 va)).isNone)).length

/-- The part of a claim that lies in the secondary falls short of the minima of R29 (R575). -/
def otherShort (s : State) (p : Nat) : Bool :=
  let r := otherRow s p
  let c := resCounts r
  r ≠ 0 && (rowGranules r = 0 || rowBundles r = 0 || rowLinks r = 0 || (List.range 4).any (fun k => c.getD k 0 = 0))

/-- The part of a claim that lies in the secondary is taken by another paddock that is not EMPTY (R576). -/
def otherTaken (s : State) (p : Nat) : Bool :=
  let r := otherRow s p
  let rest := (s.pads.filter (fun e => e.1 ≠ p && e.2.state ≠ .empty)).map (fun e => otherRow s e.1)
  r ≠ 0 && (rest.any (fun x => meet (r / 2 ^ 448) (x / 2 ^ 448) ≠ 0 || meet (rowBundles r) (rowBundles x) ≠ 0) ||
    (List.range 5).any (fun k => totalCounts.getD k 0 < (r :: rest).foldl (fun a x => a + (resCounts x).getD k 0) 0))

/-- The first check of R664 that a FENCE or OPEN fails; 0 where all pass. -/
def claimCheck (s : State) (p : Nat) (opening : Bool) : Nat :=
  let d := pad s p
  let tag := cfgP s p 0 6
  let lots := wantLots s p
  let counts := wantCounts s p
  let held := heldCounts s p
  let free := freeCounts s
  let gr := wantGranules s p
  let newLinks := setBits 64 (less (wantLinks s p) d.links)
  let root := cfgP s p 0x40 1
  let minima : List Nat := [1, 1, 1, 1, 0]
  if s.sec.st = 2 && !opening then 0x0B0C
  else if tag = 0 || s.pads.any (fun e => e.1 ≠ p && e.2.tag = tag) then 0x0208
  else if lots.any (fun l => (lotEntry s l).isNone) then 0x0209
  else if !elsewhere s p && (gr = 0 || wantBundles s p = 0 || wantLinks s p = 0 ||
      (List.range 5).any (fun k => counts.getD k 0 < minima.getD k 0 || held.getD k 0 + free.getD k 0 < minima.getD k 0) ||
      join d.granules s.com.free = 0 || join d.bundles (freeBundles s) = 0 ||
      (d.links = 0 && (List.range 64).all (fun l => 16 ≤ (link s l).pools.length))) then 0x0205
  else if !secondHalf s && otherShort s p then 0x0205
  else if !secondHalf s && otherTaken s p then 0x0202
  else if !maskOk (wantTussocks s p) d.tussocks (freeTussocks s) || !maskOk gr d.granules s.com.free ||
      !maskOk (wantBundles s p) d.bundles (freeBundles s) ||
      (List.range 5).any (fun k => held.getD k 0 + free.getD k 0 < counts.getD k 0) ||
      lots.any (fun l => !d.lots.contains l && (s.tp.lotsDirty.contains l || s.pads.any (fun e => e.1 ≠ p && e.2.lots.contains l))) ||
      newLinks.any (fun l => 16 ≤ (link s l).pools.length) then 0x0202
  else if root ≠ 0 && !(granuleOf root < 124 && bit gr (granuleOf root)) then 0x0A06
  else if (!opening || tag ≠ d.tag) && (linkKey s tag).isNone then 0x0B06
  else if opening && confidential s p && (d.bounceH2d.isNone || d.bounceD2h.isNone) then 0x0B08
  else if opening && (windowGiBs (wantWindow s p)).any (fun va => (slotOf s p va 2).toOption.isNone) then 0x0A09
  else if opening && winCount < (winUsed s).length + windowPagesNeeded s p then 0x0205
  else 0

/-- Draw a fresh key for each granule of a mask, and raise KEY_GENERATION where there is one (R420, R499, R500). -/
def drawKeys (s : State) (p mask : Nat) : State :=
  let gs := setBits 124 mask
  let s := gs.foldl (fun s g => fresh1 { s with rick.granuleKeys := Tbl.set s.rick.granuleKeys g (drawnKey s.fresh) }) s
  if gs.isEmpty then s
  else updPad (journalCounter s (ctrKeyGen p) ((pad s p).keyGen + 1)) p (fun d => { d with keyGen := (d.keyGen + 1) % 2 ^ 32 })

/-- Claim what the committed configuration names and the paddock does not hold yet (R40): counts only rise here. -/
def claim (s : State) (p : Nat) : State :=
  let d := pad s p
  let tag := cfgP s p 0 6
  let c := wantCounts s p
  let newG := less (wantGranules s p) d.granules
  let s := { s with com.free := less s.com.free newG }
  let newL := setBits 64 (less (wantLinks s p) d.links)
  let s := if d.tag ≠ 0 && d.tag ≠ tag then (setBits 64 d.links).foldl (retagPool p tag) s else s
  let s := updPad s p (fun d => { d with
    tussocks := join d.tussocks (wantTussocks s p), granules := join d.granules (wantGranules s p),
    links := join d.links (wantLinks s p), bundles := join d.bundles (wantBundles s p),
    qp := max d.qp (c.getD 0 0), slots := max d.slots (c.getD 1 0), queuesHeld := max d.queuesHeld (c.getD 2 0),
    tlb := max d.tlb (c.getD 3 0), sheaf := max d.sheaf (c.getD 4 0),
    lots := d.lots ++ (wantLots s p).eraseDups.filter (fun l => !d.lots.contains l), tag := tag, claimCvn := s.obj.cvn })
  drawKeys (newL.foldl (bindPool p tag) s) p newG

/-! ### Releases (R40, R45, R46) -/

/-- Granules leave a paddock: keys destroyed, zeroising queued (R45, R46). -/
def releaseGranules (s : State) (p mask : Nat) : State :=
  let gs := setBits 124 mask
  let s := gs.foldl (fun s g => { s with rick.granuleKeys := Tbl.erase s.rick.granuleKeys g }) s
  updPad { s with com.zeroising := s.com.zeroising ++ gs } p (fun d => { d with granules := less d.granules mask })

/-- Give back every held resource that the committed configuration no longer names. -/
def releaseUnnamed (s : State) (p : Nat) : State :=
  let d := pad s p
  let c := wantCounts s p
  let s := releaseGranules s p (less d.granules (wantGranules s p))
  let s := (setBits 64 (less d.links (wantLinks s p))).foldl (unbindPool p) s
  let lots := wantLots s p
  let gone := d.lots.filter (fun l => !lots.contains l)
  let s := { s with tp.lotsDirty := s.tp.lotsDirty ++ gone }
  updPad s p (fun d => { d with
    tussocks := wantTussocks s p, links := wantLinks s p, bundles := wantBundles s p, qp := c.getD 0 0, slots := c.getD 1 0,
    queuesHeld := c.getD 2 0, tlb := c.getD 3 0, sheaf := c.getD 4 0, lots := d.lots.filter (fun l => lots.contains l) })

/-- Contexts beyond the slots that an OPEN leaves lose them: IDLE and WAITING ones first, then by pre-emption. -/
def trimSlots (s : State) (p : Nat) : State :=
  let beyond := (pad s p).ctxs.filter (fun e => match e.2.slot with | some k => (pad s p).slots ≤ k | none => false)
  beyond.foldl (fun s e => if e.2.st = .running then preemptCtx s p e.1 else evict s p e.1) s

/-- Second-level entries beyond what the units hold go, least recently used first. -/
def trimTlb (s : State) (p : Nat) : State :=
  let mine := s.rick.tlb.filter (fun e => e.1 = p)
  { s with rick.tlb := s.rick.tlb.filter (fun e => e.1 ≠ p) ++ mine.drop (mine.length - tlbRoom s p) }

/-! ### Fence tables (R162 to R164) -/

/-- Dies that hold one of some lots, ascending. -/
def diesOf (s : State) (lots : List Nat) : List Nat := (List.range 16).filter (fun d => lots.any (fun l => dieOf s l = some d))

/-- Send a TABLE_WRITE of a paddock's lots to a die. -/
def sendTable (p gen : Nat) (lots : List Nat) (s : State) (die : Nat) : State :=
  match (liveModules s die).head? with
  | none => s
  | some m =>
    let ls := sortAsc lots
    let words := (List.range (ceilDiv ls.length 4)).map (fun w =>
      BitVec.ofNat 128 (pack ((List.range 4).map (fun k => (32, ls.getD (4 * w + k) 0)))))
    sendSide s m (sbHeader 1 p 0 gen die words.length (ls.length * 2 ^ 72)) words

/-- Send a FENCE_REQ on one live module of every side that reaches a die (R163): 1 ACTIVATE, 2 REMOVE, 3 HARD. -/
def sendFence (p action gen : Nat) (s : State) (die : Nat) : State :=
  (sideModules s die).foldl (fun s m => sendSide s m (sbHeader 4 p action gen die 0 0) []) s

/-- The fence table of a paddock on a die. -/
def fenceOf (s : State) (p die : Nat) : Option FenceTable := (pad s p).tables.find? (fun t => t.die = die && t.active)

/-- The answers a fence request to a die brings: one for each side that reaches it, as die × 2 + side. -/
def fenceKeys (s : State) (die : Nat) : List Nat :=
  match sideModules s die with
  | [] => [2 * die]
  | ms => ms.map (fun m => 2 * die + (if m < 12 then 0 else 1))

/-- Dies whose active table differs from the paddock's lots there (R164). -/
def staleDies (s : State) (p : Nat) (lots : List Nat) : List Nat :=
  ((diesOf s lots) ++ ((pad s p).tables.map (·.die))).eraseDups.filter (fun d =>
    let here := sortAsc (lots.filter (fun l => dieOf s l = some d))
    match fenceOf s p d with
    | some t => !(t.lots = here)
    | none => !here.isEmpty)

/-- Put the tables of a new generation on dies: the command waits for their answers. -/
def pushTables (s : State) (p cmd : Nat) (dies lots old : List Nat) : State :=
  let gen := ((pad s p).fenceGen + 1) % 65536
  let s := updPad s p (fun d => { d with
    fenceGen := gen,
    pend := some { cmd := cmd, stage := 0, tables := dies, fences := [], gen := gen, accepted := ns s, old := old } })
  dies.foldl (fun s die => sendTable p gen (lots.filter (fun l => dieOf s l = some die)) s die) s

/-- A control command finishes with a result; a failure is logged (R663). -/
def endPend (s : State) (p code : Nat) : State :=
  let cmd := ((pad s p).pend.map (·.cmd)).getD 0
  let s := updPad s p (fun d => { d with pend := none, result := code })
  if code = 0 then s else logPad s p code 2 [cmd]

/-! ### The allocator window at OPEN (R438, R667, R669) -/

/-- Remove an allocation that the new window leaves outside. -/
def dropOutside (p : Nat) (s : State) (a : Allocation) : State :=
  let s := if a.mapped then unmapAlloc s p a else s
  logPad (dropAlloc (invalidate s p a.va a.size 0) p a.va) p 0x0315 0 [a.va, a.size]

/-- Write the window's level-2 entries, taking a level-1 page for each GiB that has none. -/
def windowEntry (p : Nat) (s : State) (va : Nat) : State :=
  let s := if (winPage s p (winKey1 va)).isSome then s else takeWinPage s p (winKey1 va)
  if (pad s p).allocs.any (fun a => a.psize = 2 ^ 30 && a.mapped && overlap a.va a.size va (2 ^ 30)) then s
  else match winPage s p (winKey1 va), slotOf s p va 2 with
    | some l1, .ok slot => putPte s slot (ptePointer l1)
    | _, _ => s

/-- Bring the committed window into force: allocations outside it go, with the entries of the old window. -/
def openWindow (s : State) (p : Nat) : State :=
  let old := (pad s p).window
  let new := wantWindow s p
  let out := (pad s p).allocs.filter (fun a => !(new.1 ≤ a.va && a.va + a.size ≤ new.1 + new.2))
  let s := out.foldl (dropOutside p) s
  let gone := (windowGiBs old).filter (fun va => !(new.1 ≤ va && va < new.1 + new.2))
  let s := gone.foldl (fun s va => match slotOf s p va 2 with | .ok a => putPte s a 0 | .error _ => s) s
  let keys := (windowGiBs new).map winKey1
  let s := updPad s p (fun d => { d with
    window := new, winPages := d.winPages.filter (fun e => e.2 % 2 = 1 && keys.contains (winKey1 (e.2 / 2 * 2 ^ 21)) || keys.contains e.2) })
  let s := if gone.isEmpty then s else invalidate s p old.1 old.2 0
  (windowGiBs new).foldl (windowEntry p) s

/-! ### Destruction (R45, R48, R217) -/

/-- Does no other paddock that is not EMPTY carry the paddock's tag? -/
def lastOfTag (s : State) (p : Nat) : Bool := !s.pads.any (fun e => e.1 ≠ p && e.2.tag = (pad s p).tag && e.2.state ≠ .empty)

/-- Everything a paddock holds goes: contexts, queues, QPs, groups, keys, pools, transactions and cached translations. No
record is posted. -/
def clearPaddock (s : State) (p : Nat) : State :=
  let d := pad s p
  let s := (setBits 64 d.links).foldl (unbindPool p) s
  let s := releaseGranules s p d.granules
  let lone := lastOfTag s p
  { s with
    cmd.killed := s.cmd.killed.filter (fun k => k.p ≠ p), cmd.live := s.cmd.live.filter (fun e => e.2.p ≠ p),
    cmd.heldReads := s.cmd.heldReads.filter (fun h => match Tbl.find s.cmd.live h.1 with | some c => c.p ≠ p | none => true),
    net.qps := s.net.qps.filter (fun e => qpPad e.1 ≠ p),
    net.linkKeys := if lone then Tbl.erase s.net.linkKeys d.tag else s.net.linkKeys,
    sheaf.groups := s.sheaf.groups.filter (fun e => e.1 / 64 ≠ p),
    tp.outst := s.tp.outst.map (fun e => if e.2.p = p then (e.1, { e.2 with attached := false }) else e),
    host.outst := s.host.outst.map (fun e => if e.2.p = p then (e.1, { e.2 with attached := false }) else e),
    host.ats := s.host.ats.filter (fun e => e.2.p ≠ p),
    rick.tlb := s.rick.tlb.filter (fun e => e.1 ≠ p), rick.streams := s.rick.streams.filter (fun e => e.1 ≠ p),
    rick.walks := s.rick.walks.filter (fun w => w.p ≠ p),
    tp.lotsDirty := s.tp.lotsDirty ++ d.lots,
    flt.gate := less s.flt.gate (2 ^ p),
    pads := Tbl.upd s.pads p (fun d => { ({} : Paddock) with
      pend := d.pend, result := d.result, allotSeq := d.allotSeq, record := d.record, signing := d.signing, keyGen := d.keyGen,
      nonceIx := d.nonceIx, fenceGen := d.fenceGen, usageSeq := d.usageSeq, snapSeq := d.snapSeq, snapPrev := d.snapPrev,
      snap := d.snap, v := d.v, buckets := d.buckets, trace := d.trace, traceFirst := d.traceFirst,
      traceLost := d.traceLost, latched := d.latched, geqSeqs := d.geqSeqs, mirrorTail := d.mirrorTail,
      usageTail := d.usageTail, mirrorNext := d.mirrorNext, mirrorRing := d.mirrorRing, state := d.state }) }

/-! ### Faults (R51, R55, R665) -/

/-- A paddock fault: the pending command ends with 0x0204, every context is killed, the Hedgerow refuses all traffic. A
paddock in FAULTED or EMPTY is only logged. While TRN is wedged the kills wait for its reset (R559). -/
def paddockFault (s : State) (p code : Nat) : State :=
  let d := pad s p
  if d.state = .faulted then
    (if d.pend.isSome then endPend (logPad s p code 3 []) p 0x0204 else logPad s p code 0 [])
  else if d.state = .empty && d.pend.isNone then logPad s p code 0 []
  else
    let s := if d.pend.isSome then endPend s p 0x0204 else s
    let s := updPad s p (fun d => { d with cause := code })
    let s := setPState s p .faulted
    let s := if trnOut s then
        (pad s p).ctxs.foldl (fun s e => updCtx ((ctxCmds s p e.1).foldl (fun s id => updCmd s id (fun c => { c with killWaits := true })) s)
          p e.1 (fun x => { x with st := .killed, advanceDue := true, preempting := false })) s
      else (pad s p).ctxs.foldl (fun s e => stopCtx s p e.1 .fault .killed) s
    logPad (faultQps s p code) p code 3 []

/-- Fault every paddock of a list. -/
def faultPads (s : State) (ps : List Nat) (code : Nat) : State := ps.foldl (fun s p => paddockFault s p code) s

/-! ### Key tables whose read-back fails (R503) -/

/-- Does a key of a paddock sit in the key table of an island: bounce keys in HST, granule and selector keys in the RCK
islands, the job key of its tag in PAIR and the LNK islands (*Key destinations*)? -/
def keyIn (s : State) (i : Nat) (d : Paddock) : Bool :=
  if i = 3 then d.bounceH2d.isSome || d.bounceD2h.isSome
  else if 11 ≤ i && i ≤ 14 then d.sels.any (fun e => e.2.st ≠ 0) || (setBits 124 d.granules).any (fun g => g % 4 = i - 11)
  else (i = 10 || (23 ≤ i && i ≤ 38)) && Tbl.has s.net.linkKeys d.tag

/-- A zeroise in the key table of an island read back wrong: every paddock whose key sat in that table in state s is FAULTED
with 0x0B13. -/
def zeroFailed (s t : State) (i : Nat) : State :=
  let who := (s.pads.filter (fun e => e.2.state ≠ .empty && keyIn s i e.2)).map (·.1)
  faultPads (cairn t 0x0B13 (if who.isEmpty then 0 else 3) true 0 [i]) who 0x0B13

/-! ### The end of a RELEASE -/

/-- Does a RELEASE of paddock p zeroise a key in the key table of an island? -/
def releaseZeroes (s : State) (p i : Nat) : Bool :=
  keyIn s i (pad s p) && (i = 3 || (11 ≤ i && i ≤ 14) || lastOfTag s p)

/-- Requests that wait for something of the paddock are answered: it is gone. -/
def answerWaiting (s : State) (p : Nat) : State :=
  let d := pad s p
  let s := d.queues.foldl (fun s e => match e.2.closeTag with
    | some (path, tag) => respond s path tag 2 (pidx p 0x50) 2 0 []
    | none => s) s
  let s := d.ctxs.foldl (fun s e => match e.2.closeTag with
    | some (path, tag) => respond s path tag 2 (pidx p 0x50) 4 0 []
    | none => match e.2.reviveTag with
      | some (path, tag) => respond s path tag 2 (pidx p 0x50) 4 0x0313 []
      | none => s) s
  d.sels.foldl (fun s e => match e.2.lockTag with
    | some (path, tag) => respond s path tag 2 (pidx p 0x70) 9 0x0B0B []
    | none => s) s

/-- The end of a RELEASE: the FINAL snapshot, then everything is given back and the paddock is EMPTY (R48, R479). A key table that
keeps one of its keys ends it as a paddock fault does (R503, R51). -/
def finishRelease (s : State) (p : Nat) : State :=
  let i := ((pad s p).pend.map (·.stuck)).getD 0
  if releaseZeroes s p i then
    let t := updPad (answerWaiting s p) p (fun d => { d with sels := [], bounceH2d := none, bounceD2h := none })
    zeroFailed s { t with net.linkKeys := if lastOfTag s p then Tbl.erase t.net.linkKeys (pad s p).tag else t.net.linkKeys } i
  else
    let s := if (pad s p).state ≠ .empty then formSnapshot s p true false (ns s) else s
    endPend (setPState (clearPaddock (answerWaiting s p) p) p .empty) p 0

/-! ### The ends of the other commands -/

/-- The meters start at zero when the paddock leaves EMPTY (R474). -/
def clearMeters (s : State) (p : Nat) : State :=
  (List.range 5).foldl (fun s k => setP s p 0x31 (k + 1) 0) ((List.range 13).foldl (fun s k => setP s p 0x30 (k + 1) 0) s)

/-- FENCE ends. -/
def finishFence (s : State) (p : Nat) : State :=
  let s := updPad (clearMeters s p) p (fun d => { d with energy := 0, periodStart := ns s, allotAtPeriod := d.allotSeq })
  endPend (setPState s p .fenced) p 0

/-- A failed FENCE gives back what it claimed; its lots were never active, and its link key stays. -/
def failFence (s : State) (p code : Nat) : State :=
  let t := clearPaddock s p
  endPend { t with net.linkKeys := s.net.linkKeys, tp.lotsDirty := s.tp.lotsDirty } p code

/-- What a paddock holds, as masks, counts, tag and lots. -/
def holdings (d : Paddock) : List Nat :=
  [d.tussocks, d.granules, d.links, d.bundles, d.qp, d.slots, d.queuesHeld, d.tlb, d.sheaf, d.tag] ++ d.lots

/-- A failed OPEN gives back what it newly claimed; the paddock stays in its state (R41). -/
def failOpen (s : State) (p code : Nat) : State :=
  let o := ((pad s p).pend.map (·.old)).getD []
  if o.isEmpty then endPend s p code
  else
    let g := fun k => o.getD k 0
    let s := releaseGranules s p (less (pad s p).granules (g 1))
    let s := (setBits 64 (less (pad s p).links (g 2))).foldl (unbindPool p) s
    let s := if (pad s p).tag ≠ g 9 then (setBits 64 (g 2)).foldl (retagPool p (g 9)) s else s
    endPend (updPad s p (fun d => { d with
      tussocks := g 0, links := g 2, bundles := g 3, qp := g 4, slots := g 5, queuesHeld := g 6, tlb := g 7, sheaf := g 8,
      tag := g 9, lots := o.drop 10 })) p code

/-- OPEN has its tables in force: it releases, sets up the window and asks for a record (R40, R59, R667). -/
def openCommit (s : State) (p : Nat) : State :=
  let s := openWindow (trimTlb (trimSlots (releaseUnnamed s p) p) p) p
  askRecord (updPad s p (fun d => { d with pend := d.pend.map (fun x => { x with stage := 2 }) })) p 0

/-- OPEN ends: fetch is enabled. -/
def finishOpen (s : State) (p : Nat) : State :=
  let s := setPState s p .opened
  let s := (pad s p).queues.foldl (fun s e => wakeFor s p e.1) s
  endPend s p 0

/-- RECOVER ends: gate removed, contexts stay KILLED. -/
def finishRecover (s : State) (p : Nat) : State :=
  endPend (setPState { s with flt.gate := less s.flt.gate (2 ^ p) } p .fallow) p 0

/-- Does a mirror request of the paddock still wait for the other half (R576)? -/
def mirrorWaits (s : State) (p : Nat) : Bool := s.pair.mirrorOut.any (fun m => m.2.1 = p)

/-- Go on with a pending command once every answer of its stage is in. -/
def pendStep (s : State) (p : Nat) : State :=
  match (pad s p).pend with
  | none => s
  | some x =>
    if !x.tables.isEmpty || !x.fences.isEmpty then s
    else if x.stage = 0 && (pad s p).tables.any (fun t => t.gen = x.gen && !t.active) then
      let dies := ((pad s p).tables.filter (fun t => t.gen = x.gen && !t.active)).map (·.die)
      let s := updPad s p (fun d => { d with pend := some { x with stage := 1, fences := (dies.map (fenceKeys s)).flatten } })
      dies.foldl (sendFence p 1 x.gen) s
    else if x.stage = 2 || mirrorWaits s p then s
    else match x.cmd with
      | 1 => finishFence s p
      | 2 => openCommit s p
      | 4 => if x.stage = 3 then s else finishRelease s p
      | 5 => finishRecover s p
      | _ => s

/-- A RELEASE whose last command has ended sends REMOVE to every die of the paddock's lots (R164). -/
def releaseStep (s : State) (p : Nat) : State :=
  match (pad s p).pend with
  | none => s
  | some x =>
    if x.cmd = 4 && x.stage = 3 && (padCmds s p).isEmpty then
      let dies := diesOf s (pad s p).lots
      let s := updPad s p (fun d => { d with pend := some { x with stage := 4, fences := (dies.map (fenceKeys s)).flatten } })
      pendStep (dies.foldl (sendFence p 2 (pad s p).fenceGen) s) p
    else s

/-- Every RELEASE that waits for its commands. -/
def releaseAll (s : State) : State := s.pads.foldl (fun s e => if e.2.pend.isSome then releaseStep s e.1 else s) s

/-! ### Control commands (R48 to R50, R663) -/

/-- The primary sends a control command to the other half; that of a paddock with resources there waits for its
acknowledgement (R576). -/
def mirrorCmd (s : State) (p cmd : Nat) : State :=
  if paired s && !secondHalf s then
    let n := s.pair.mirrorNext
    let s := if secondary s p = 0 then s else { s with pair.mirrorOut := s.pair.mirrorOut ++ [(n, p, cmd)] }
    emit { s with pair.mirrorNext := n + 1 } (.pair 1 n p cmd)
  else s

/-- Begin a pending command with nothing to wait for yet. -/
def beginPend (s : State) (p cmd stage : Nat) : State :=
  updPad s p (fun d => { d with pend := some { cmd := cmd, stage := stage, tables := [], fences := [], gen := d.fenceGen, accepted := ns s } })

/-- FENCE (R40 to R44, R48, R164). -/
def startFence (s : State) (p : Nat) : State :=
  let s := beginPend s p 1 1
  let code := claimCheck s p false
  if code ≠ 0 then endPend s p code
  else
    let s := mirrorCmd (claim s p) p 1
    let dies := diesOf s (pad s p).lots
    if dies.isEmpty then pendStep s p else pushTables s p 1 dies (pad s p).lots []

/-- OPEN (R40, R48, R164). -/
def startOpen (s : State) (p : Nat) : State :=
  let s := beginPend s p 2 1
  let code := claimCheck s p true
  if code ≠ 0 then endPend s p code
  else
    let old := holdings (pad s p)
    let s := mirrorCmd (claim s p) p 2
    let lots := (pad s p).lots.filter (fun l => (wantLots s p).contains l)
    let dies := staleDies s p lots
    let s := updPad s p (fun d => { d with pend := d.pend.map (fun x => { x with old := old }) })
    if dies.isEmpty then pendStep s p else pushTables s p 2 dies lots old

/-- Kill every command of a paddock with no record, waiting only for atomics in flight (R48, R52, R133). -/
def killForRelease (s : State) (p : Nat) : State :=
  let s := (padCmds s p).foldl (fun s id => match cmdOf s id with
    | none => s
    | some c => if dCoi c.desc && 0 < c.due then updCmd s id (fun c => { c with killWaits := true }) else killCmd s id) s
  (pad s p).ctxs.foldl (fun s e => updCtx (advanceEpoch s p e.1) p e.1 (fun x => { x with st := .killed })) s

/-- RELEASE (R48). -/
def startRelease (s : State) (p stuck : Nat) : State :=
  let s := updPad (beginPend s p 4 3) p (fun d => { d with pend := d.pend.map (fun x => { x with stuck := stuck }) })
  releaseStep (mirrorCmd (killForRelease s p) p 4) p

/-- RECOVER: tables of a new generation on every die of the paddock's lots (R48, R164). -/
def startRecover (s : State) (p : Nat) : State :=
  let s := mirrorCmd (beginPend s p 5 1) p 5
  let dies := diesOf s (pad s p).lots
  if dies.isEmpty then pendStep s p else pushTables s p 5 dies (pad s p).lots []

/-- DRAIN takes effect: fetch stops (R48). -/
def startDrain (s : State) (p : Nat) : State :=
  setPState (updPad s p (fun d => { d with drainFrom := ns s, result := 0 })) p .draining

/-- Is a control command allowed from the paddock's state (R48)? -/
def controlAllowed (st : PState) : Nat → Bool
  | 1 => st = .empty
  | 2 => st = .fenced || st = .fallow
  | 3 => st = .opened
  | 4 => st = .fenced || st = .fallow || st = .faulted
  | 5 => st = .faulted
  | _ => false

/-- In SPLIT a paddock with resources in the other half takes RELEASE only (R580). -/
def splitForeign (s : State) (p : Nat) : Bool := s.pair.st = 4 && (s.pair.mirrorEntries.contains p || otherRow s p ≠ 0)

/-- PADDOCK_CONTROL: refused at once, or accepted and run (R48 to R50, R580, R663). `stuck` is the island whose key table fails
the read-back of a RELEASE's zeroise, 0 for none. -/
def doPaddockControl (s : State) (p v : Nat) (stuck : Nat := 0) : State × Option Nat :=
  let d := pad s p
  if splitForeign s p && v ≠ 4 then (s, some 0x0E05)
  else if d.pend.isSome then (s, some 0x0203)
  else if !controlAllowed d.state v then (s, some 0x0201)
  else match v with
    | 1 => (startFence s p, some 0)
    | 2 => (startOpen s p, some 0)
    | 3 =>
      let s := mirrorCmd s p 3
      (if mirrorWaits s p then s else startDrain s p, some 0)
    | 4 => (startRelease { s with pair.mirrorEntries := s.pair.mirrorEntries.filter (· ≠ p) } p stuck, some 0)
    | _ => (startRecover s p, some 0)

/-! ### Drains (R48) -/

/-- The last fetched command of a DRAINING paddock has ended. -/
def doDrained (s : State) (p : Nat) : State :=
  if (pad s p).state = .draining && (padCmds s p).isEmpty then
    logPad (setPState s p .fallow) p 0x020F 0 [ns s - (pad s p).drainFrom]
  else s

/-- DRAIN_TIMEOUT: the rest is killed and runs again once the paddock is OPEN. -/
def doDrainTimeout (s : State) (p : Nat) : State :=
  if (pad s p).state = .draining then
    let n := (padCmds s p).length
    let s := (pad s p).ctxs.foldl (fun s e => if (ctxCmds s p e.1).isEmpty then s else stopCtx s p e.1 .control .ready) s
    logPad (setPState s p .fallow) p 0x020C 2 [n]
  else s

/-- Paddocks that are not EMPTY. -/
def notEmpty (s : State) : List Nat := (s.pads.filter (fun e => e.2.state ≠ .empty)).map (·.1)

/-! ### Zeroising and records -/

/-- The zeroising of a granule ends: it enters the Commons unless a repair is due (R46, R47, R430). -/
def doGranuleZeroised (s : State) (g : Nat) (ok : Bool) : State :=
  if !s.com.zeroising.contains g || islandOut s (11 + g % 4) then s
  else
    let s := rickZero { s with com.zeroising := s.com.zeroising.filter (· ≠ g) } (g * 2 ^ 28) (2 ^ 28)
    if ok then (if 124 ≤ g || bit (join (join s.com.repairDue s.com.retired) s.com.kept) g then s else { s with com.free := join s.com.free (2 ^ g) })
    else cairn (logDev { s with com.kept := join s.com.kept (2 ^ g) } 0x020D 3 [g]) 0x020D 3 true 0 [g]

/-- A write of ALLOT_NONCE (R59, R490). -/
def doAllotNonce (s : State) (p nonce : Nat) : State × Option Nat :=
  if (pad s p).state = .empty then (s, some 0x0201)
  else if s.sec.st = 2 then (s, some 0x0B0C)
  else (askRecord s p nonce, some 0)

/-- SEC finishes signing the oldest record asked for; an OPEN that waits for it ends (R59). -/
def doAllotmentRecordSigned (s : State) (p : Nat) : State :=
  match (pad s p).signing with
  | [] => s
  | n :: _ =>
    if s.sec.st = 2 then s
    else
      let opening := n = 0 && (match (pad s p).pend with | some x => x.cmd = 2 && x.stage = 2 | none => false)
      let s := publishRecord s p (if opening then 2 else (pad s p).state.code) n
      if opening then finishOpen s p else s

end Sys2Proof.Machine
end

