-- ==== Sys2Proof/Machine/TenancyPort.lean ====
section
/-! DEFINITION. The Tenancy Port: flits, transactions and their answers, the sideband, fence tables and fence answers, the
Resource Manifest, modules and side resets (R150 to R177). -/

namespace Sys2Proof.Machine
open Sys2Proof

/-! ### Transactions that a die issues (R56, R57, R169) -/

/-- The paddock and the status a die's transaction meets before its target is looked at. -/
def tpCheck (s : State) (h kind len : Nat) : Nat :=
  let p := bits h 251 246
  let d := pad s p
  if bits h 255 252 ≠ kind || bits h 245 240 ≠ 0 || bits h 203 200 ≠ 0 || len = 0 || 4096 < len || bits h 191 176 ≠ len ||
      bits h 199 192 ≠ (if kind = 2 then ceilDiv len 256 else 0) then 0x0107
  else if d.state = .empty || d.state = .faulted || !d.lots.contains (bits h 175 144) then 0x020B
  else 0

/-- A READ or WRITE of a die: a broken header is dropped, a gated paddock's entry is discarded, a refusal is counted and
answered (R57, R154, R558). -/
def tpInbound (s : State) (m : Fin 24) (h : Nat) (kind len : Nat) (i : Instr) : State :=
  let p := bits h 251 246
  if gated s p || islandOut s (sideOf m.val) then discard s (sideOf m.val)
  else match tpCheck s h kind len with
  | 0 => beginInner s p i
  | 0x0107 => s
  | _ => tpAnswer (refuse s p 0x020B [bits h 175 144]) m.val h (kind + 2) 0x020B []

/-- TP_READ: served once nothing holds its bytes (R129, R169). -/
def doTpRead (s : State) (m : Fin 24) (h : BitVec 256) : State :=
  tpInbound s m h.toNat 1 (bits h.toNat 191 176) (.tpRead m h)

/-- TP_WRITE. -/
def doTpWrite (s : State) (m : Fin 24) (h : BitVec 256) (data : Bytes) : State :=
  tpInbound s m h.toNat 2 data.length (.tpWrite m h data)

/-! ### Answers to Dunaz (R110, R155, R156, R173) -/

/-- The outstanding transaction that an answer belongs to: tag neither quarantined nor unknown, same paddock, context, epoch
and kind, attached, and the epoch still the context's own. Otherwise the answer is dropped and counted. -/
def tpMatch (s : State) (h kind : Nat) : State × Option (Nat × TpOut) :=
  let t := bits h 239 224
  let p := bits h 251 246
  if s.tp.quar.contains t then (stale s p, none)
  else match Tbl.find s.tp.outst t with
  | none => (stale s p, none)
  | some o =>
    if o.kind ≠ kind || o.p ≠ p || bits h 223 216 ≠ o.epoch % 256 || bits h 215 204 ≠ o.ctx % 4096 then (stale s p, none)
    else
      let s := { s with tp.outst := Tbl.erase s.tp.outst t }
      let cur := match ctxOf s p o.ctx with | some x => x.epoch = o.epoch | none => (cmdOf s o.cmd).any (·.inner)
      if !o.attached then ((if o.cmd = 0 then s else stale s p), none)
      else if !cur then (stale s p, none)
      else (s, some (t, o))

/-- A die answered with an error (0x0507, 0x0508). -/
def dieError (status : Nat) : Nat := if status = 0x0508 then 0x0508 else 0x0507

/-- READ_DATA brings bytes that a command gathers. -/
def doReadData (s : State) (m : Fin 24) (h : BitVec 256) (data : Bytes) : State :=
  let h := h.toNat
  if gated s (bits h 251 246) || islandOut s (sideOf m.val) then discard s (sideOf m.val)
  else match tpMatch s h 1 with
  | (s, none) => s
  | (s, some (_, o)) =>
    if bits h 79 64 ≠ 0 || data.length ≠ o.len then failCmd s o.cmd 0x0507
    else progress (updCmd s o.cmd (fun c => { c with ext := c.ext ++ [(o.req, data)], asked := c.asked.filter (· ≠ o.req) })) o.p o.ctx

/-- WRITE_ACK: the last one makes its command ready. -/
def doWriteAck (s : State) (m : Fin 24) (h : BitVec 256) : State :=
  let h := h.toNat
  if gated s (bits h 251 246) || islandOut s (sideOf m.val) then discard s (sideOf m.val)
  else match tpMatch s h 2 with
  | (s, none) => s
  | (s, some (_, o)) =>
    if bits h 79 64 ≠ 0 then failCmd s o.cmd 0x0507
    else
      let s := progress (updCmd s o.cmd (fun c => { c with acksDue := c.acksDue - 1 })) o.p o.ctx
      match cmdOf s o.cmd with
      | some c => if c.acksDue = 0 && c.phase = .started && c.due = 0 then
          updCmd s o.cmd (fun c => { c with phase := .ready, readyAt := ns s }) else s
      | none => s

/-- DISPATCH_DONE commits its command (R173). -/
def doDispatchDone (s : State) (m : Fin 24) (h : BitVec 256) : State :=
  let h := h.toNat
  if gated s (bits h 251 246) || islandOut s (sideOf m.val) then discard s (sideOf m.val)
  else match tpMatch s h 5 with
  | (s, none) => s
  | (s, some (_, o)) =>
    if bits h 79 64 ≠ 0 then failCmd s o.cmd (dieError (bits h 79 64))
    else finish (progress s o.p o.ctx) o.cmd [] 0

/-- RESPONSE_TIMEOUT: a read or dispatch finishes with 0x0509, its tag is quarantined (R156). -/
def doResponseTimeout (s : State) (t : Nat) : State :=
  match Tbl.find s.tp.outst t with
  | none => s
  | some o =>
    if o.kind = 2 then s
    else
      let s := { s with tp.outst := Tbl.erase s.tp.outst t, tp.quar := s.tp.quar ++ [t] }
      if o.attached then failCmd s o.cmd 0x0509 else s

/-- The quarantine of a tag ends. -/
def doTpTagQuarantineEnd (s : State) (t : Nat) : State := { s with tp.quar := s.tp.quar.filter (· ≠ t) }

/-! ### Flits (R154) -/

/-- One transaction of a header flit. -/
def slotWork (m : Fin 24) (s : State) (h : BitVec 256) (data : Bytes) : State :=
  match bits h.toNat 255 252 with
  | 1 => doTpRead s m h
  | 2 => doTpWrite s m h data
  | 3 => doReadData s m h data
  | 4 => doWriteAck s m h
  | 6 => doDispatchDone s m h
  | _ => s

/-- The transactions of the slots that VALID names, each with its share of the data flits. -/
def slotsWork (m : Fin 24) (flit : Bytes) (ctl : Nat) : State → State := fun s =>
  (((List.range 7).filter (fun k => bit ctl (224 + k))).foldl (fun (acc : State × Bytes) k =>
    let h := BitVec.ofNat 256 (beNat ((flit.drop (32 + 32 * k)).take 32))
    let n := bits h.toNat 199 192
    (slotWork m acc.1 h ((acc.2.take (256 * n)).take (bits h.toNat 191 176)), acc.2.drop (256 * n))) (s, flit.drop 256)).1

/-- A NAK on the sideband with the last intact SEQ. -/
def nakFlit (s : State) (m : Nat) : State :=
  let k := tpm s m
  let s := updTpm s m (fun k => { k with nakked := true })
  sendSide s m (sbHeader 12 0 0 0 (k.die.getD 0) 0 (k.rx.getD 0xFFF * 2 ^ 68)) []

/-- A header flit with its data flits: checked, acknowledged through later ACK_SEQ fields, and worked on in slot order. -/
def doHeaderFlit (s : State) (m : Fin 24) (flit : Bytes) : State :=
  let k := tpm s m.val
  if !k.up || k.gated || islandOut s (sideOf m.val) then discard s (sideOf m.val)
  else
    let ctl := beNat (flit.take 32)
    let seq := bits ctl 251 240
    let want := match k.rx with | some r => (r + 1) % 4096 | none => 0
    let whole := flit.length = 256 * (1 + bits ctl 239 232)
    let crc := (crc32c (beBytes 32 (ctl - bits ctl 31 0) ++ flit.drop 32)).toNat
    if !whole || bits ctl 31 0 ≠ crc || bits ctl 255 252 ≠ 1 || bit ctl 231 || bits ctl 210 32 ≠ 0 then
      (if k.nakked then s else nakFlit s m.val)
    else if (want + 4096 - seq) % 4096 ≠ 0 && (want + 4095 - seq) % 4096 < 256 then s
    else if seq ≠ want then (if k.nakked then s else nakFlit s m.val)
    else
      let s := if k.nakked then logDev s 0x0505 1 [m.val, seq] else s
      let s := updTpm s m.val (fun k => { k with rx := some seq, nakked := false })
      let s := if bit ctl 211 then
          updTpm s m.val (fun k => { k with replay := k.replay.filter (fun e => 256 ≤ (bits ctl 223 212 + 4096 - e.1) % 4096) })
        else s
      slotsWork m flit ctl s

/-- Retrain a module: it is down until it trains again. -/
def retrainModule (s : State) (m : Nat) : State :=
  fire (updTpm s m (fun k => { k with up := false, nakked := false, tx := 0, rx := none, replay := [] })) (576 + m)

/-- Is a sideband message from a die well formed: its type, no payload but where its type has one, reserved bits zero, and
no ARG bit outside a mask (R158)? -/
def sideOk (h type words argMask : Nat) (actionOk : Bool) : Bool :=
  bits h 127 120 = type && bits h 91 88 = 0 && bits h 87 80 = words && less (bits h 79 0) argMask = 0 &&
  (actionOk || bits h 113 112 = 0)

/-- A sideband message that is discarded: counted and logged (R158). -/
def sideBad (s : State) (m h : Nat) : State :=
  logDev { s with tp.sideBad := s.tp.sideBad + 1 } 0x050B 0 [m, bits h 127 120]

/-- SIDEBAND_NAK: replay from the next header flit, or retrain after eight replays (R154). -/
def doSidebandNak (s : State) (m : Fin 24) (h : BitVec 128) : State :=
  let h := h.toNat
  if !sideOk h 12 0 (0xFFF * 2 ^ 68) false then sideBad s m.val h
  else
    let last := bits h 79 68
    let keep := (tpm s m.val).replay.filter (fun e => 256 ≤ (last + 4096 - e.1) % 4096)
    if keep.any (fun e => 8 ≤ e.2.2) then logDev (retrainModule s m.val) 0x0506 1 [m.val]
    else
      let s := updTpm s m.val (fun k => { k with replay := keep.map (fun e => (e.1, e.2.1, e.2.2 + 1)) })
      keep.foldl (fun s e => emit s (.flit m.val e.2.1)) s

/-! ### Fence tables (R162 to R167) -/

/-- A push fails: FENCE gives everything back, OPEN what it newly claimed, RECOVER leaves the paddock in FAULTED (R48). -/
def pushFailed (s : State) (p code : Nat) : State :=
  match ((pad s p).pend.map (·.cmd)).getD 0 with
  | 1 => failFence s p code
  | 2 => failOpen s p code
  | _ => endPend s p code

/-- A die stored a table: it stays inactive until its ACTIVATE. A table pushed again after a side reset is activated at
once (R162, R175). -/
def doTableAck (s : State) (m : Fin 24) (h : BitVec 128) : State :=
  let h := h.toNat
  if !sideOk h 2 0 0 false then sideBad s m.val h
  else
    let p := bits h 119 114
    let die := bits h 95 92
    let gen := bits h 111 96
    let d := pad s p
    match d.pend with
    | some x =>
      if x.gen = gen && x.tables.contains die then
        let here := sortAsc ((if x.cmd = 2 then d.lots.filter (fun l => (wantLots s p).contains l) else d.lots).filter (fun l => dieOf s l = some die))
        pendStep (updPad s p (fun d => { d with
          tables := d.tables.filter (fun t => !(t.die = die && !t.active)) ++ [{ die := die, gen := gen, lots := here, active := false }],
          pend := some { x with tables := x.tables.filter (· ≠ die) } })) p
      else s
    | none =>
      if d.tables.any (fun t => t.die = die && t.gen = gen && !t.active) then
        sendFence p 1 gen { s with tp.fencesOut := s.tp.fencesOut ++ (fenceKeys s die).map (fun k => (p, k, 1)) } die
      else s

/-- TABLE_NAK fails the push (R162). -/
def doTableNak (s : State) (m : Fin 24) (h : BitVec 128) : State :=
  let h := h.toNat
  if !sideOk h 3 0 (0xFFFF * 2 ^ 64) false then sideBad s m.val h
  else
    let p := bits h 119 114
    match (pad s p).pend with
    | some x => if x.gen = bits h 111 96 && x.tables.contains (bits h 95 92) then pushFailed s p 0x020A else s
    | none => s

/-- TABLE_TIMEOUT passes without a TABLE_ACK (R162). -/
def doFencePushFailed (s : State) (p die : Nat) : State :=
  match (pad s p).pend with
  | some x => if x.tables.contains die then pushFailed s p 0x020A else s
  | none => s

/-- The table of a generation is in force on a die: it replaces the older one, whose other lots must be cleaned (R165). -/
def activateTable (s : State) (p die gen : Nat) : State :=
  let d := pad s p
  let old := ((d.tables.filter (fun t => t.die = die && t.active && t.gen ≠ gen)).map (·.lots)).flatten
  let new := ((d.tables.filter (fun t => t.die = die && t.gen = gen)).map (·.lots)).flatten
  let s := { s with tp.lotsDirty := s.tp.lotsDirty ++ old.filter (fun l => !new.contains l && !s.tp.lotsDirty.contains l) }
  updPad s p (fun d => { d with tables := (d.tables.filter (fun t => t.die ≠ die || t.gen = gen)).map (fun t =>
    if t.die = die then { t with active := true } else t) })

/-- FENCE_ACK: the last one of a stage lets the pending command go on (R164). -/
def doFenceAck (s : State) (m : Fin 24) (h : BitVec 128) : State :=
  let h := h.toNat
  if !sideOk h 5 0 0 true || bits h 113 112 = 0 then sideBad s m.val h
  else
    let p := bits h 119 114
    let die := bits h 95 92
    let act := bits h 113 112
    let gen := bits h 111 96
    let key := 2 * die + (if m.val < 12 then 0 else 1)
    let s := { s with tp.fencesOut := s.tp.fencesOut.filter (fun f => !(f.1 = p && f.2.1 = key && f.2.2 = act)) }
    match (pad s p).pend with
    | some x =>
      if x.gen = gen && x.fences.contains key && (act = 1 || (act = 2 && x.cmd = 4)) then
        let rest := x.fences.filter (· ≠ key)
        let s := updPad s p (fun d => { d with pend := some { x with fences := rest } })
        let s := if rest.any (fun k => k / 2 = die) then s
          else if act = 1 then activateTable s p die gen
          else updPad s p (fun d => { d with tables := d.tables.filter (fun t => t.die ≠ die) })
        pendStep s p
      else s
    | none => if act = 1 && !s.tp.fencesOut.any (fun f => f.1 = p && f.2.1 / 2 = die) then activateTable s p die gen else s

/-- No FENCE_ACK within 1 µs: ISOLATE, the die's modules are gated, its paddocks fault; a pending RECOVER stays where it was
with 0x0502 (R48, R167). -/
def doFenceMissed (s : State) (p die : Nat) : State :=
  let waits := (match (pad s p).pend with | some x => x.fences.any (fun k => k / 2 = die) | none => false) ||
    s.tp.fencesOut.any (fun f => f.1 = p && f.2.1 / 2 = die)
  if !waits then s
  else
    let hit := (s.pads.filter (fun e => e.2.lots.any (fun l => dieOf s l = some die))).map (·.1)
    let s := (sideModules s die).foldl (fun s m => sendSide s m (sbHeader 6 0 0 0 die 0 0) []) s
    let s := ((List.range 24).filter (fun m => (tpm s m).die = some die)).foldl (fun s m => updTpm s m (fun k => { k with gated := true })) s
    let s := { s with tp.fencesOut := s.tp.fencesOut.filter (fun f => f.2.1 / 2 ≠ die) }
    let s := fire (addO s 0x1400 7 1 32) 600
    hit.foldl (fun s q => match (pad s q).pend with
      | some x => if x.cmd = 5 && x.fences.any (fun k => k / 2 = die) then endPend s q 0x0502 else paddockFault s q 0x0502
      | none => paddockFault s q 0x0502) s

/-- BREACH: the paddock of the target lot faults (R55, R169). -/
def doBreach (s : State) (m : Fin 24) (h : BitVec 128) (words : List (BitVec 128)) : State :=
  let h := h.toNat
  if !sideOk h 7 1 (2 ^ 80 - 2 ^ 26) false || words.length ≠ 1 then sideBad s m.val h
  else paddockFault (fire s 602) (bits h 119 114) 0x020B

/-- LOT_CLEAN: the lot may be claimed again (R165, R170). -/
def doLotClean (s : State) (m : Fin 24) (h : BitVec 128) : State :=
  let h := h.toNat
  if !sideOk h 8 0 (0xFFFFFFFF * 2 ^ 48) false then sideBad s m.val h
  else { s with tp.lotsDirty := s.tp.lotsDirty.filter (· ≠ bits h 79 48) }

/-- TABLE_REPORT: a table whose generation differs is pushed again (R175). -/
def doTableReport (s : State) (m : Fin 24) (h : BitVec 128) : State :=
  let h := h.toNat
  if !sideOk h 11 0 (3 * 2 ^ 78) false then sideBad s m.val h
  else
    let p := bits h 119 114
    let die := bits h 95 92
    match fenceOf s p die with
    | none => s
    | some t =>
      if bit h 79 && bits h 111 96 = t.gen then s
      else
        let s := updPad s p (fun d => { d with tables := d.tables.map (fun x => if x.die = die then { x with active := false } else x) })
        sendTable p t.gen t.lots s die

/-! ### The Resource Manifest and modules (R153, R159 to R161) -/

/-- Entries of a manifest's payload words. -/
def manifestEntries (words : List (BitVec 128)) : List Nat :=
  (chunksOf 2 (words.length) (words.drop 1)).map (fun w => (w.getD 0 0).toNat * 2 ^ 128 + (w.getD 1 0).toNat)

/-- Are numbers strictly rising? -/
def rising : List Nat → Bool
  | a :: b :: t => a < b && rising (b :: t)
  | _ => true

/-- Does a manifest break its format (R159, R160)? -/
def manifestBad (s : State) (hd : Nat) (es : List Nat) (words : Nat) : Bool :=
  let die := bits hd 87 84
  let n := bits hd 79 72
  bits hd 83 80 ≠ 1 || n = 0 || 64 < n || bits hd 71 0 ≠ 0 || words ≠ 1 + 2 * n || !rising (es.map (fun e => bits e 255 224)) ||
  es.any (fun e => bits e 223 220 ≠ die || bits e 219 216 = 0 || 3 < bits e 219 216 || bits e 175 160 ≠ 0 || bits e 31 0 ≠ 0 ||
    s.tp.manifests.any (fun x => x.1 ≠ die && x.2.entries.any (fun y => bits y 255 224 = bits e 255 224)))

/-- A die's manifest: refused, or accepted; paddocks whose lots it omits or changes fault, and after a side reset the die is
asked for its tables (R159 to R161, R175). -/
def doManifest (s : State) (m : Fin 24) (h : BitVec 128) (words : List (BitVec 128)) : State :=
  let h := h.toNat
  let hd := (words.getD 0 0).toNat
  let es := manifestEntries words
  let die := bits hd 87 84
  if !sideOk h 13 words.length 0 false || words.isEmpty then sideBad s m.val h
  else if manifestBad s hd es words.length then
    let s := ((List.range 24).filter (fun k => (tpm s k).die = some die || k = m.val)).foldl (fun s k =>
      updTpm s k (fun k => { k with up := false, failed := true })) s
    logDev s 0x0503 2 [die]
  else
    let old := ((Tbl.find s.tp.manifests die).map (·.entries)).getD []
    let gone := old.filter (fun e => !es.contains e)
    let lots := gone.map (fun e => bits e 255 224)
    let hit := (s.pads.filter (fun e => e.2.lots.any (fun l => lots.contains l))).map (·.1)
    let s := { s with tp.manifests := Tbl.set s.tp.manifests die { header := hd, entries := es },
                      tp.oldEntries := s.tp.oldEntries ++ gone,
                      tp.sideBusy := s.tp.sideBusy.filter (· ≠ (if m.val < 12 then 0 else 1)) }
    let s := if hit.isEmpty then s else faultPads (fire s 601) hit 0x0504
    s.pads.foldl (fun s e => if e.2.tables.any (fun t => t.die = die) then
      sendSide s m.val (sbHeader 10 e.1 0 0 die 0 0) [] else s) s

/-- A module completes its training. -/
def doModuleLinkUp (s : State) (m : Fin 24) (die : Fin 16) : State :=
  fire (updTpm s m.val (fun _ => { up := true, die := some die.val })) (576 + m.val)

/-- A module fails: its traffic moves to the other modules of its die; a die that no module reaches faults its paddocks
(R153). -/
def doModuleTrainingFailed (s : State) (m : Fin 24) : State :=
  let k := tpm s m.val
  let s := fire (updTpm s m.val (fun k => { k with up := false, failed := true, replay := [] })) (576 + m.val)
  match k.die with
  | none => s
  | some die =>
    match leastBusy s (liveModules s die) with
    | some n => k.replay.foldl (fun s e =>
        let h := BitVec.ofNat 256 (beNat ((e.2.1.drop 32).take 32))
        sendTp s n (bits h.toNat 251 246) h ((e.2.1.drop 256).take (bits h.toNat 191 176))) s
    | none =>
      let hit := (s.pads.filter (fun e => e.2.lots.any (fun l => dieOf s l = some die))).map (·.1)
      faultPads (logDev s 0x0501 (if hit.isEmpty then 0 else 3) [die]) hit 0x0501

/-- The steps of a side reset: commands that used the side are killed, SIDE_RESET is sent, its modules retrain (R175). -/
def sideReset (s : State) (side : Nat) : State :=
  let mine := fun m => (if m < 12 then 0 else 1) = side
  let ids := ((s.tp.outst.filter (fun e => e.2.attached && e.2.cmd ≠ 0 && mine e.2.module_)).map (fun e => e.2.cmd)).eraseDups
  let s := { s with flt.state := Tbl.set s.flt.state (4 + side) 2, flt.wedged := s.flt.wedged.filter (· ≠ 4 + side),
                    flt.killed := Tbl.set s.flt.killed (4 + side) (ids.filter (fun id => !(cmdOf s id).any (·.inner))).length }
  let s := ids.foldl (fun s id => if (cmdOf s id).any (·.inner) then updCmd s id (fun c => { c with asked := [] }) else s) s
  let s := killBatch s ids .island
  let ms := (List.range 24).filter (fun m => mine m && (tpm s m).die.isSome)
  let s := ms.foldl (fun s m => sendSide s m (sbHeader 9 0 0 0 ((tpm s m).die.getD 0) 0 (side * 2 ^ 79)) []) s
  let s := ms.foldl (fun s m => updTpm (retrainModule s m) m (fun k => { k with gated := false })) s
  let s := { s with tp.sideBusy := if ms.isEmpty then s.tp.sideBusy else side :: s.tp.sideBusy.filter (· ≠ side),
                    tp.outst := s.tp.outst.filter (fun e => !mine e.2.module_) }
  logDev (fire s (603 + side)) 0x050A (if ids.isEmpty then 0 else 2) [side, ids.length]

/-- SIDE_RESET: 1 side A, 2 side B. -/
def doSideReset (s : State) (v : Nat) : State × Option Nat := (sideReset s (v - 1), some 0)

end Sys2Proof.Machine
end

