-- ==== Sys2Proof/Machine/HostFn.lean ====
section
/-! DEFINITION. The host function: read completions and their tags, translations, Bus Master Enable, MSI-X, function-level
resets and the bounce floor (R178 to R205, R448, R671). -/

namespace Sys2Proof.Machine
open Sys2Proof

/-! ### Read completions (R187 to R193, R204) -/

/-- Discard the data of a read: its command is detached from it. -/
def readBad (s : State) (t : Nat) : State :=
  { s with host.outst := Tbl.upd s.host.outst t (fun o => { o with attached := false, bad := true, got := [] }) }

/-- Does a bounce chunk pass R204? Its header comes first in the data read. -/
def chunkOk (s : State) (o : HostOut) (data : Bytes) (key : Nat) : Bool :=
  let d := pad s o.p
  let h := beNat (data.take 32)
  d.bounceH2d = some key && bits h 167 162 = o.p && !bit h 175 && bits h 161 128 = o.chunk.getD 0 &&
  d.bounceFloor ≤ bits h 255 192 && bits h 174 168 = 0 && 0 < bits h 191 176 && bits h 191 176 ≤ 4096

/-- The bytes that a completed read gives; of a chunk, its plaintext, and beyond that nothing the manual states. -/
def readBytes (s : State) (o : HostOut) (data : Bytes) : Bytes :=
  if o.chunk.isSome then
    let n := bits (beNat (data.take 32)) 191 176
    let b := (data.drop 32).take (min n o.len)
    b ++ freeBytes s (o.len - b.length)
  else data.take o.len

/-- Does the read still belong to its context's attempt (R189)? -/
def readCurrent (s : State) (o : HostOut) : Bool :=
  match ctxOf s o.p o.ctx with | some x => x.epoch = o.epoch | none => (cmdOf s o.cmd).any (·.inner)

/-- A completion of a host read: quarantined tags, killed commands, cleared Bus Master Enable, errors, poison, and the data
at the last one. -/
def doHostCompletion (s : State) (t status : Nat) (poisoned : Bool) (data : Bytes) (key : Nat) (last : Bool) : State :=
  if s.host.quar.contains t then logDev (addO s 0x1500 7 1 32) 0x0408 0 [t]
  else match Tbl.find s.host.outst t with
  | none => s
  | some o =>
    if gated s o.p || islandOut s 3 then discard s 3
    else
      let free := fun (s : State) => if last then { s with host.outst := Tbl.erase s.host.outst t } else s
      if !o.attached then free (if o.bad then s else stale s o.p)
      else if !readCurrent s o then free (stale (readBad s t) o.p)
      else if !hostOpen s o.p then free s
      else if status ≠ 0 then free (failCmd (readBad s t) o.cmd 0x0403)
      else if poisoned then free (failCmd (readBad s t) o.cmd 0x0409)
      else
        let all := o.got ++ data
        let s := hostBytes s o.p data.length
        if !last then { s with host.outst := Tbl.set s.host.outst t { o with got := all } }
        else
          let s := { s with host.outst := Tbl.erase s.host.outst t }
          if o.chunk.isSome && !chunkOk s o all key then failCmd s o.cmd 0x0406
          else
            let b := readBytes s o all
            let s := if b.length = all.length then s else fresh1 s
            progress (updCmd s o.cmd (fun c => { c with ext := c.ext ++ [(o.req, b)], asked := c.asked.filter (· ≠ o.req) })) o.p o.ctx

/-- A read gets no completion in time: its tag is quarantined, AER reports it, its command finishes (R187, R188). -/
def doCplTimeout (s : State) (t : Nat) : State :=
  match Tbl.find s.host.outst t with
  | none => s
  | some o =>
    let s := { s with host.outst := Tbl.erase s.host.outst t, host.quar := s.host.quar ++ [t] }
    let s := fire (emit s (.aer o.p t)) 723
    if o.attached && readCurrent s o then failCmd s o.cmd 0x0402 else s

/-- The quarantine of a tag ends (R188). -/
def doHostTagQuarantineEnd (s : State) (t : Nat) : State := { s with host.quar := s.host.quar.filter (· ≠ t) }

/-! ### ATS (R185, R186, R448) -/

/-- An ATS translation comes back: it fills the paddock's entries, or is discarded and asked for again after an overlapping
invalidation. A command that needs a permission it lacks meets that at its next access. -/
def doAtsTranslationCompletion (s : State) (n host size : Nat) (r w : Bool) : State :=
  match getPair s.host.ats n with
  | none => s
  | some a =>
    if a.done then s
    else if a.stale then
      emit { s with host.ats := s.host.ats.filter (fun e => e.1 ≠ n) ++ [(s.host.nextAts, { a with stale := false })],
                    host.nextAts := s.host.nextAts + 1 } (.ats a.p s.host.nextAts a.base)
    else
      let s := { s with host.ats := setPair s.host.ats n { a with host := host, size := max 4096 size, r := r, w := w, done := true, cmd := none } }
      tlbFill s a.p a.base (max 4096 size)

/-- An ATS Invalidation Request: matching translations go; pending ones in its range become stale; the reads issued under
them are noted (R186, R448). -/
def doAtsInvalidationRequest (s : State) (vf itag base size : Nat) : State :=
  let hit := s.host.ats.filter (fun e => e.2.p = vf && overlap e.2.base e.2.size base size)
  let tags := (s.host.outst.filter (fun e => e.2.p = vf && hit.any (fun a => a.2.done && a.2.host ≤ e.2.addr && e.2.addr < a.2.host + a.2.size))).map (·.1)
  { s with host.ats := (s.host.ats.filter (fun e => !(e.2.p = vf && e.2.done && overlap e.2.base e.2.size base size))).map (fun e =>
             if e.2.p = vf && overlap e.2.base e.2.size base size then (e.1, { e.2 with stale := true }) else e),
           rick.tlb := s.rick.tlb.filter (fun e => !(e.1 = vf && overlap e.2.1 e.2.2.1 base size)),
           host.atsInv := s.host.atsInv ++ [(vf, itag, base, size, tags)] }

/-- Once every read issued under the removed translations has ended, the Invalidation Completion goes (R186). -/
def doInvalidationCompletion (s : State) (vf itag : Nat) : State :=
  match s.host.atsInv.find? (fun e => e.1 = vf && e.2.1 = itag) with
  | none => s
  | some e =>
    if e.2.2.2.2.any (fun t => Tbl.has s.host.outst t) then s
    else emit { s with host.atsInv := s.host.atsInv.erase e } (.atsDone vf itag)

/-! ### Bus Master Enable and MSI-X (R192 to R194) -/

/-- Commands of paddock p with a read outstanding. -/
def readers (s : State) (p : Nat) : List Nat :=
  ((s.host.outst.filter (fun e => e.2.p = p && e.2.attached)).map (fun e => e.2.cmd)).eraseDups

/-- Bus Master Enable is cleared (R193). -/
def doBusMasterEnableClear (s : State) (fn : Fn) : State :=
  let s := updFunc s fn (fun f => { f with enabled := true, master := false })
  match fn with
  | none => s
  | some n =>
    let ids := readers s n.val
    let s := { s with host.outst := s.host.outst.map (fun e => if e.2.p = n.val then (e.1, { e.2 with attached := false, bad := true, got := [] }) else e) }
    ids.foldl (fun s id => failCmd s id 0x0401) s

/-- Send the pending vectors that may go. -/
def sendPending (s : State) (fn : Fn) : State :=
  let go := (func s fn).pba.filter (func s fn).unmasked.contains
  let s := updFunc s fn (fun f => { f with pba := f.pba.filter (fun v => !f.unmasked.contains v) })
  (go.reverse).foldl (fun s v => emit s (.msix fn v)) s

/-- Bus Master Enable is set: records that waited are written in order, pending vectors go (R192, R194). Only an enabled
function has it set. -/
def doBusMasterEnableSet (s : State) (fn : Fn) : State :=
  if (func s fn).inReset then s
  else
    let s := updFunc s fn (fun f => { f with enabled := true, master := true })
    let s := match fn with
      | some n => (pad s n.val).queues.foldl (fun s e => drainCq n.val e.1 e.2.waiting.length s) s
      | none => s
    sendPending s fn

/-- A vector is unmasked (R192). -/
def doMsixVectorUnmask (s : State) (fn : Fn) (v : Nat) : State :=
  let s := updFunc s fn (fun f => { f with unmasked := if f.unmasked.contains v then f.unmasked else v :: f.unmasked })
  let f := func s fn
  if f.pba.contains v && f.master && !f.inReset then
    emit (updFunc s fn (fun f => { f with pba := f.pba.filter (· ≠ v) })) (.msix fn v)
  else s

/-! ### Function-level reset (R195 to R200, R671) -/

/-- A reset of VF n begins; while one runs it is absorbed. -/
def flr (s : State) (p : Nat) : State :=
  if (Tbl.get s.host.vfs p).inReset then s
  else
    let s := { s with host.vfs := Tbl.upd s.host.vfs p (fun f => { f with inReset := true }) }
    let n := (padCmds s p).length
    let s := (pad s p).ctxs.foldl (fun s e => stopCtx s p e.1 .flr .killed) s
    if n = 0 then s else logPad s p 0x0404 2 [n]

/-- The reset ends: queues go with no records, the Stile is IDLE, vectors are masked, Bus Master Enable is 0. What killed
commands held is released with undefined contents. -/
def doFlrComplete (s : State) (p : Nat) : State :=
  if !(Tbl.get s.host.vfs p).inReset || s.host.outst.any (fun e => e.2.p = p) || !(padCmds s p).isEmpty then s
  else
    let gone := s.cmd.killed.filter (fun k => k.p = p)
    let s := gone.foldl (fun s k =>
      let s := clearCkpts (k.holds.foldl freeFill s) p k.ctx (fun x => x.queue = k.q && x.entry = k.entry)
      k.aborted.foldl (fun s m => sendOn s p m.1 (((qp s m.1).paths[0]?.map (·.link)).getD 0)
        (qpHeader s m.1 11 true false 0 0 m.2.1 0 0 0) [] false) s) s
    let s := { s with cmd.killed := s.cmd.killed.filter (fun k => k.p ≠ p) }
    let s := (pad s p).queues.foldl (fun s e => match e.2.closeTag with
      | some (path, tag) => respond s path tag 2 (pidx p 0x50) 2 0 []
      | none => s) s
    let s := updPad s p (fun d => { d with queues := [] })
    { s with host.vfs := Tbl.upd s.host.vfs p (fun f =>
        { f with inReset := false, master := false, stile := 0, unmasked := [], pba := [] }) }

/-- A Function Level Reset of every VF (R200). -/
def flrAll (s : State) : State := allPads.foldl flr s

/-- VF Enable is cleared. -/
def doVfEnableClear (s : State) : State :=
  let s := flrAll s
  fire { s with host.vfs := s.host.vfs.map (fun e => (e.1, { e.2 with enabled := false })) } 724

/-- The draft equals the committed version again, without an owner. -/
def resetDraft (s : State) : State := { s with obj.draft := s.obj.committed, obj.draftOwner := none }

/-- A Function Level Reset of the PF. -/
def doPfFunctionLevelReset (s : State) : State :=
  let s := flrAll s
  let s := if s.obj.draftOwner = some .pf then resetDraft s else s
  fire (updFunc s none (fun f => { f with master := false, stile := 0, unmasked := [], pba := [] })) 721

/-- A hot reset. -/
def doHotReset (s : State) : State := fire (flrAll s) 722

/-- The PCIe link goes down; LINK_STATE reads 0. -/
def doPcieLinkDown (s : State) : State := fire (setO (flrAll s) 0x1500 1 0) 720

/-- Host link training ends. -/
def doHostLinkTrained (s : State) (rate width : Nat) : State :=
  fire (setO (setO (setO s 0x1500 1 2) 0x1500 2 rate) 0x1500 3 width) 720

/-- BOUNCE_FLOOR rises only (R205); a function in reset discards the write. -/
def doBounceFloor (s : State) (p v : Nat) : State :=
  if (Tbl.get s.host.vfs p).inReset then s
  else updPad s p (fun d => { d with bounceFloor := max d.bounceFloor v })

end Sys2Proof.Machine
end

