-- ==== Sys2Proof/Machine/Keys.lean ====
section
/-! DEFINITION. Key envelopes and where keys live, sealed weights, trust anchors, management sessions, one-way settings
and debug access (R491 to R507, R511 to R518, R661, R662). -/

namespace Sys2Proof.Machine
open Sys2Proof

/-! ### Install nonces (R494) -/

/-- The device's install nonce, and that of paddock p. -/
def deviceNonce (s : State) : Nat := (Config.freeRandom (65 * s.sec.nonceIx + 64)).toNat
def padNonce (s : State) (p : Nat) : Nat := (Config.freeRandom (65 * (pad s p).nonceIx + p)).toNat
/-- Replace them. -/
def newDeviceNonce (s : State) : State := { s with sec.nonceIx := s.sec.nonceIx + 1 }
def newPadNonce (s : State) (p : Nat) : State := updPad s p (fun d => { d with nonceIx := d.nonceIx + 1 })

/-! ### Envelopes (R492 to R495, R661) -/

def eDest (e : Nat) : Nat := bits e 1887 1880
def eSlot (e : Nat) : Nat := bits e 1879 1872
def ePad (e : Nat) : Nat := bits e 1871 1866
def eTag (e : Nat) : Nat := bits e 1863 1848
def eNext (e : Nat) : Bool := bit e 1847
def eSwitch (e : Nat) : Nat := bits e 1839 1776
def eNonce (e : Nat) : Nat := bits e 1663 1408

/-- Check 1: does an envelope break its format? PADDOCK is used only through +0x70.02. -/
def envBroken (e : Nat) (paddockPath : Bool) : Bool :=
  let d := eDest e
  bits e 1919 1888 ≠ 0x4B455931 || bits e 1865 1864 ≠ 0 || bits e 1846 1840 ≠ 0 || bits e 1775 1664 ≠ 0 ||
  (d ≠ 2 && eTag e ≠ 0) || (d ≠ 2 && d ≠ 5 && eNext e) || (!eNext e && eSwitch e ≠ 0) ||
  ((d = 2 || d = 3 || d = 4 || d = 5 || d = 6) && eSlot e ≠ 0) || (!paddockPath && ePad e ≠ 0)

/-- Checks 1 to 4 of R661, with NO_ROOT before them (R490): the code of the first that fails, or 0. -/
def envCheck (s : State) (e : Nat) (paddockPath destOk : Bool) (nonce : Nat) (f : Facts) : Nat :=
  if s.sec.st = 2 then 0x0B0C
  else if envBroken e paddockPath then 0x0B01
  else if !destOk then 0x0B04
  else if eNonce e ≠ nonce then 0x0B03
  else if f.key.isNone then 0x0B02 else 0

/-- The name of the key that an envelope carries. -/
def unwrapped (f : Facts) : Nat := namedKey ((f.key.map (·.toNat)).getD 0)

/-! ### Link and time keys (R498) -/

/-- Install a key in a record: as the next key, or at once in place of the current one; a refusal gives its code. -/
def keyInto (now : Nat) (k : LinkKey) (v : Nat) (next : Bool) (t : Nat) : Except Nat LinkKey :=
  if next then (if t < now + 1000000 || k.cur.isNone then .error 0x0B07 else .ok { k with next := some (v, t) })
  else .ok { cur := some v, next := none, old := k.cur.map (fun c => (c, now)) }

/-- The primary of a unit sends an installed key to the secondary, under the pair key (R578). -/
def keyToPeer (s : State) (v p dest : Nat) : State :=
  if paired s && !secondHalf s && s.pair.pairKey.isSome then emit s (.pair 4 v p dest) else s

/-- DEST 2: the job key of a tag; the table holds 64 tags. -/
def installLink (s : State) (e v : Nat) : State × Nat :=
  let tag := eTag e
  if !eNext e && !Tbl.has s.net.linkKeys tag && 64 ≤ s.net.linkKeys.length then (s, 0x0B05)
  else match keyInto (ns s) (Tbl.get s.net.linkKeys tag) v (eNext e) (eSwitch e) with
    | .error c => (s, c)
    | .ok k => ({ s with net.linkKeys := Tbl.set s.net.linkKeys tag k,
                         net.keyWear := if eNext e then s.net.keyWear else s.net.keyWear.filter (fun x => x.1 ≠ tag) }, 0)

/-- DEST 5: the fabric time key. -/
def installTime (s : State) (e v : Nat) : State × Nat :=
  match keyInto (ns s) s.ftm.key v (eNext e) (eSwitch e) with
  | .error c => (s, c)
  | .ok k => ({ s with ftm.key := k }, 0)

/-- KEY_INSTALL at 0x1D00.03 (R495): the nonce changes whatever becomes of the envelope. -/
def doKeyInstall (s : State) (data : Bytes) (f : Facts) : State × Option Nat :=
  let e := beNat data
  let code := envCheck s e false (eDest e = 2 || eDest e = 5) (deviceNonce s) f
  let s := newDeviceNonce s
  if code ≠ 0 then (s, some code)
  else
    let (s, c) := if eDest e = 2 then installLink s e (unwrapped f) else installTime s e (unwrapped f)
    (if c = 0 then keyToPeer s (unwrapped f) 0 (eDest e) else s, some c)

/-- Is a destination allowed at +0x70.02 of paddock p (*Key destinations*, R496)? -/
def padDest (s : State) (p e : Nat) : Bool :=
  ePad e = p && (pad s p).state ≠ .empty && (pad s p).state ≠ .faulted &&
  (match eDest e with
    | 1 => 1 ≤ eSlot e && eSlot e ≤ 63
    | 2 => eTag e = cfgP s p 0 6
    | 3 => true
    | 4 => true
    | _ => false)

/-- Deliver a key to its destination of paddock p (R496, R497). -/
def installPad (s : State) (p e v : Nat) : State × Nat :=
  let d := pad s p
  match eDest e with
  | 1 =>
    if (Tbl.get d.sels (eSlot e)).st ≠ 0 then (s, 0x0B05)
    else (updPad s p (fun d => { d with sels := Tbl.set d.sels (eSlot e) { st := 1, key := v } }), 0)
  | 2 => installLink s e v
  | 3 => if d.bounceH2d.isSome then (s, 0x0B05) else (updPad s p (fun d => { d with bounceH2d := some v, bounceFloor := 0 }), 0)
  | _ => if d.bounceD2h.isSome then (s, 0x0B05) else (updPad s p (fun d => { d with bounceD2h := some v, bounceTx := 0 }), 0)

/-- KEY_INSTALL at +0x70.02 of paddock p. -/
def doPaddockKeyInstall (s : State) (p : Nat) (data : Bytes) (f : Facts) : State × Option Nat :=
  let e := beNat data
  let code := envCheck s e true (padDest s p e) (padNonce s p) f
  let s := newPadNonce s p
  if code ≠ 0 then (s, some code)
  else
    let (s, c) := installPad s p e (unwrapped f)
    (if c = 0 then keyToPeer s (unwrapped f) p (eDest e) else s, some c)

/-! ### Clearing keys (R497, R503, R662) -/

/-- A selector becomes empty; a SEAL_LOCK that waits on it ends without a match. -/
def clearSel (s : State) (p k : Nat) : State :=
  let e := Tbl.get (pad s p).sels k
  let s := updPad s p (fun d => { d with sels := Tbl.erase d.sels k })
  match e.lockTag with
  | some (path, tag) => respond s path tag 2 (pidx p 0x70) 9 0x0B0B []
  | none => s

/-- Clear every selector of every paddock that is bound to a set (R504, R519). -/
def clearSet (s : State) (id : Nat) : State :=
  s.pads.foldl (fun s e => (e.2.sels.filter (fun x => 2 ≤ x.2.st && x.2.set = id)).foldl (fun s x => clearSel s e.1 x.1) s) s

/-- KEY_CLEAR at 0x1D00.04: a tag's link key, or the fabric time key. -/
def doKeyClear (s : State) (v : Nat) : State × Option Nat :=
  let d := bits v 31 24
  let tag := bits v 15 0
  if bits v 23 16 ≠ 0 then (s, some 0x0106)
  else if d = 2 then
    (if s.pads.any (fun e => (e.2.state = .opened || e.2.state = .draining) && e.2.tag = tag) && Tbl.has s.net.linkKeys tag then (s, some 0x0B05)
     else ({ s with net.linkKeys := Tbl.erase s.net.linkKeys tag }, some 0))
  else if d = 5 && tag = 0 then ({ s with ftm.key := {} }, some 0)
  else (s, some 0x0B04)

/-- KEY_CLEAR at +0x70.03 of paddock p: a selector's key, or a bounce key. -/
def doPaddockKeyClear (s : State) (p v : Nat) : State × Option Nat :=
  let d := bits v 15 8
  let k := bits v 7 0
  if d = 1 && 1 ≤ k && k ≤ 63 then (clearSel s p k, some 0)
  else if d = 3 && k = 0 then (updPad s p (fun d => { d with bounceH2d := none }), some 0)
  else if d = 4 && k = 0 then (updPad s p (fun d => { d with bounceD2h := none }), some 0)
  else (s, some 0x0B04)

/-- Zeroise every key of paddock p: selectors, bounce keys, granule keys, and the link key of its tag (*Zeroisation
triggers*). -/
def zeroPaddockKeys (s : State) (p : Nat) : State :=
  let d := pad s p
  let s := d.sels.foldl (fun s e => clearSel s p e.1) s
  let s := updPad s p (fun d => { d with bounceH2d := none, bounceD2h := none })
  { s with rick.granuleKeys := s.rick.granuleKeys.filter (fun e => !bit d.granules e.1),
           net.linkKeys := if d.state = .empty then s.net.linkKeys else Tbl.erase s.net.linkKeys d.tag }

/-- Zeroise every key in every table (a reset of SEC, SECURE_ERASE). -/
def zeroAllKeys (s : State) : State :=
  let s := s.pads.foldl (fun s e => zeroPaddockKeys s e.1) s
  { s with net.linkKeys := [], ftm.key := {}, rick.granuleKeys := [] }

/-- Keys that sit in the key table of an island: DEST 3 and 4 in HST, time keys in FTM and LNK, selector and granule keys in RCK,
job keys in PAIR and LNK. -/
def keysIn (s : State) (i : Nat) : Nat :=
  let time := b2n s.ftm.key.cur.isSome + b2n s.ftm.key.next.isSome
  if i = 3 then (s.pads.map (fun e => b2n e.2.bounceH2d.isSome + b2n e.2.bounceD2h.isSome)).sum
  else if i = 9 then time
  else if i = 10 then s.net.linkKeys.length
  else if 11 ≤ i && i ≤ 14 then
    (s.pads.map (fun e => (e.2.sels.filter (fun x => x.2.st ≠ 0)).length)).sum + (s.rick.granuleKeys.filter (fun e => e.1 % 4 = i - 11)).length
  else if 23 ≤ i && i ≤ 38 then s.net.linkKeys.length + time
  else 0

/-- What a request came to, from state s: where it zeroised a key in a table that fails its read-back, the paddocks of that table are
FAULTED (R503). -/
def readBack (s : State) (f : Facts) (r : State × Option Nat) : State × Option Nat :=
  if f.stuck ≠ 0 && keysIn r.1 f.stuck < keysIn s f.stuck then (zeroFailed s r.1 f.stuck, r.2) else r

/-- KEY_MASK_REFRESH: every engine draws a mask and rewrites its key table; what the keys are does not change (R501). -/
def doKeyMaskRefresh (s : State) : State := { s with sec.maskDraws := s.sec.maskDraws + 1 }

/-! ### Sealed weights (R504 to R507, R519) -/

def gSet (h : Nat) : Nat := bits h 735 672
def gVersion (h : Nat) : Nat := bits h 671 640
def gMask (h : Nat) : Nat := bits h 511 384
def gDigest (h : Nat) : Nat := bits h 383 0

/-- Does a grant header break its table? -/
def grantBroken (h : Nat) : Bool :=
  bits h 767 736 ≠ 0x5345414C || bits h 639 627 = 0 || 4096 < bits h 639 627 || bits h 639 627 ≤ bits h 626 615 ||
  bits h 613 512 ≠ 0 || bits h 511 508 ≠ 0

/-- The kept grant of a set. -/
def grantOf (s : State) (id : Nat) : Option (Nat × Nat) := (s.sec.grants.find? (fun g => g.1 = id)).map (·.2)

/-- SEAL_GRANT: a newer grant replaces the kept one and clears the selectors bound to it (R504). -/
def doSealGrant (s : State) (data : Bytes) (f : Facts) : State × Option Nat :=
  let h := beNat (data.take 96)
  let e := beNat (data.drop 96)
  let nonce := sha384 (data.take 96) / 2 ^ 128
  if s.sec.st ≠ 2 && grantBroken h then (s, some 0x0B01)
  else
    let code := envCheck s e false (eDest e = 6) nonce f
    if code ≠ 0 then (s, some code)
    else
      let id := gSet h
      match grantOf s id with
      | some (old, _) =>
        if gVersion h ≤ gVersion old then (s, some 0x0B09)
        else
          let s := clearSet (journal s 8 [0x1D02, id, h]) id
          ({ s with sec.grants := s.sec.grants.map (fun g => if g.1 = id then (id, h, unwrapped f) else g) }, some 0)
      | none =>
        if 16 ≤ s.sec.grants.length then (s, some 0x0B09)
        else
          let s := journal s 8 [0x1D02, id, h]
          ({ s with sec.grants := s.sec.grants ++ [(id, h, unwrapped f)] }, some 0)

/-- SEAL_BIND: the set key into an empty selector, in LOAD (R505). -/
def doSealBind (s : State) (p a : Nat) : State × Option Nat :=
  let id := bits a 127 64
  let k := bits a 63 58
  if bits a 57 0 ≠ 0 || k = 0 then (s, some 0x0106)
  else match grantOf s id with
    | none => (s, some 0x0B09)
    | some (h, key) =>
      if less (gMask h) (pad s p).granules ≠ 0 || (bit h 614 && !confidential s p) then (s, some 0x0B09)
      else if (Tbl.get (pad s p).sels k).st ≠ 0 then (s, some 0x0B05)
      else (updPad s p (fun d => { d with sels := Tbl.set d.sels k { st := 2, key := key, set := id } }), some 0)

/-- Has an uncommitted command of paddock p written through selector k? -/
def writersThrough (s : State) (p k : Nat) : Bool :=
  s.cmd.live.any (fun e => e.2.p = p && e.2.usesSelW.contains k) ||
  s.net.qps.any (fun e => e.1 / 2 ^ 18 = p && e.2.rx.any (fun m => m.placed.any (fun x => match x.1 with | .rick _ sel => sel = k | _ => false)))

/-- SEAL_LOCK: from here writes through the selector fault; the answer comes with the digest (R507). -/
def doSealLock (s : State) (p k : Nat) (path : Path) (tag : Tag) : State × Option Nat :=
  let e := Tbl.get (pad s p).sels k
  if e.st ≠ 2 || e.locking then (s, some 0x0B0A)
  else (updPad s p (fun d => { d with sels := Tbl.set d.sels k { e with locking := true, lockTag := some (path, tag) } }), none)

/-- The lock of a selector ends with a state and a code. -/
def endLock (s : State) (p k st code : Nat) : State :=
  let e := Tbl.get (pad s p).sels k
  let s := updPad s p (fun d => { d with sels := Tbl.set d.sels k { e with st := st, locking := false, lockTag := none } })
  match e.lockTag with
  | some (path, tag) => respond s path tag 2 (pidx p 0x70) 9 code []
  | none => s

/-- The wait for writers has passed DRAIN_TIMEOUT. -/
def doSealLockTimeout (s : State) (p k : Nat) : State :=
  if (Tbl.get (pad s p).sels k).locking && writersThrough s p k then endLock s p k 2 0x0B14 else s

/-- The digest of the granules' ciphertext is there (R507). -/
def doSealDigestDone (s : State) (p k digest : Nat) : State :=
  let e := Tbl.get (pad s p).sels k
  if !e.locking || writersThrough s p k then s
  else if (grantOf s e.set).any (fun g => gDigest g.1 = digest) then endLock s p k 3 0
  else endLock (logPad s p 0x0B0B 2 [e.set]) p k 2 0x0B0B

/-- SEAL_REVOKE: the grant of a set goes, and its selectors are cleared. -/
def doSealRevoke (s : State) (id : Nat) : State × Option Nat :=
  let s := if (grantOf s id).isSome then journal s 8 [0x1D02, id, 0] else s
  ({ clearSet s id with sec.grants := s.sec.grants.filter (fun g => g.1 ≠ id) }, some 0)

/-! ### Sessions and anchors (R511 to R514) -/

/-- UDP_SESSION_OPEN: an envelope with DEST 7, a certificate and a signature (R511). -/
def doUdpSessionOpen (s : State) (data : Bytes) (f : Facts) : State × Option Nat :=
  let e := beNat (data.take 240)
  let k := eSlot e
  let code := if data.length < 336 then 0x0B10 else envCheck s e false (eDest e = 7 && k < 8) (deviceNonce s) f
  let s := newDeviceNonce s
  if code ≠ 0 then (s, some code)
  else if s.sec.anchors.getD 0 0 = 0 || !f.sigOk || (data.length ≠ 336 && !f.certOk) then (s, some 0x0B10)
  else (fire { s with sec.sessions := Tbl.set s.sec.sessions (k + 1) { key := unwrapped f, used := s.sys.uptime } } 750, some 0)

/-- 600 s have passed in a session without a served datagram (R513). -/
def doSessionIdleTimeout (s : State) (k : Nat) : State := { s with sec.sessions := Tbl.erase s.sec.sessions (k + 1) }

/-- ANCHOR_SET: [row, key, signature]; an empty row is filled, a filled one replaced under its own signature (R514). -/
def doAnchorSet (s : State) (data : Bytes) (f : Facts) : State × Option Nat :=
  let row := beNat (data.take 4)
  let key := beNat ((data.drop 4).take 96)
  if (data.length ≠ 100 && data.length ≠ 196) || row = 0 || 2 < row then (s, some 0x0B0F)
  else if s.sec.anchors.getD (row - 1) 0 ≠ 0 && !(data.length = 196 && f.sigOk) then (s, some 0x0B0F)
  else
    let s := journal s 8 [0x1D01, row, key]
    ({ s with sec.anchors := s.sec.anchors.set (row - 1) key }, some 0)

/-! ### One-way settings, debug access, erasure (R516 to R518) -/

/-- MIN_SV_RAISE: between the current minimum and the running SECURITY_VERSION; the OTP counter allows 64 raises. -/
def doMinSvRaise (s : State) (v : Nat) : State × Option Nat :=
  if v < s.sec.minSv || s.sys.securityVersion < v || (v ≠ s.sec.minSv && 64 ≤ s.sec.svRaises) then (s, some 0x0106)
  else ({ s with sec.minSv := v, sec.svRaises := if v = s.sec.minSv then s.sec.svRaises else s.sec.svRaises + 1 }, some 0)

/-- DEBUG_LOCK_SET. -/
def doDebugLockSet (s : State) : State × Option Nat := ({ s with sec.debugLock := true }, some 0)

/-- An internal JTAG access to an island (R517): never to SEC, never while DEBUG_LOCK is set. -/
def doJtagDebugAccess (s : State) (island : Nat) : State :=
  if s.sec.debugLock || island = 2 || 38 < island then s
  else
    let hit := notEmpty s
    let s := s.pads.foldl (fun s e => zeroPaddockKeys s e.1) s
    let s := { s with sec.debugOpened := true }
    faultPads (fire (logDev s 0x0B11 (if hit.isEmpty then 0 else 3) [island]) 749) hit 0x0B11

/-- SECURE_ERASE with a signed token, while every paddock is EMPTY (R518). -/
def doSecureErase (s : State) (f : Facts) : State × Option Nat :=
  if s.pads.any (fun e => e.2.state ≠ .empty) then (s, some 0x0201)
  else if !f.sigOk then (s, some 0x0B02)
  else
    let s := journal (zeroAllKeys s) 8 [0x1D00]
    ({ s with sec.grants := [], sec.anchors := [0, 0], sec.sessions := [], sec.spdm := [], pair.pairKey := none,
              obj.requireSigned := false }, some 0)

end Sys2Proof.Machine
end

