-- ==== Sys2Proof/Machine/Rick.lean ====
section
/-! DEFINITION. PT_WRITE and PT_QUERY, page walks and range invalidations, PREFETCH, ADVISE and INVALIDATE, fault batches,
mowing and rick repair (R422 to R451). -/

namespace Sys2Proof.Machine
open Sys2Proof

/-! ### PT_WRITE (R436, R437) -/

/-- An entry of a PT_WRITE. -/
def ptVa (e : Nat) : Nat := bits e 127 71
def ptLevel (e : Nat) : Nat := bits e 70 68
def ptPte (e : Nat) : Nat := bits e 63 0

/-- The entries of a payload, in order. -/
def ptEntries (data : Bytes) : List Nat := (chunksOf 16 data.length data).map beNat

/-- The rick frame or table page that an entry names, with its size (R670). -/
def pteNames (pte level : Nat) : List (Nat × Nat) :=
  let a := bits pte 51 12 * 4096
  if !bit pte 63 then []
  else if !bit pte 62 then [(a, 4096)]
  else if bits pte 61 60 = 0 then [(a / leafSize pte level * leafSize pte level, leafSize pte level)] else []

/-- The slot of an entry, where its path is valid. -/
def ptSlot (s : State) (p e : Nat) : Nat := (slotOf s p (ptVa e) (ptLevel e)).toOption.getD 0

/-- What a slot holds once a PT_WRITE has written its entries. -/
def ptAfter (s : State) (slots : List (Nat × Nat)) (slot : Nat) : Nat :=
  match slots.reverse.find? (fun x => x.1 = slot) with
  | some x => x.2
  | none => tableNat s slot 8

/-- Does an entry break R434: a 64 KiB page whose sixteen entries are not all equal after the write? -/
def ptGroupBad (s : State) (slots : List (Nat × Nat)) (slot pte : Nat) : Bool :=
  bit pte 63 && bit pte 10 && !((List.range 16).all (fun k => ptAfter s slots (slot / 128 * 128 + 8 * k) = pte))

/-- Does an entry break its table or the frame rule? TARGET 3 stands in paired mode only (R433). -/
def ptBad (s : State) (p e : Nat) : Bool :=
  let pte := ptPte e
  let level := ptLevel e
  pte ≠ 0 && (!bit pte 63 || pteBadFormat pte level || pteBadFrame s p (ptVa e) pte level ||
    (bit pte 62 && bits pte 61 60 = 3 && !paired s))

/-- Does an entry meet the allocator window or a page of an allocation (0x0A0A)? -/
def ptMeets (s : State) (p e : Nat) : Bool :=
  let d := pad s p
  ((d.state = .opened || d.state = .draining || d.state = .fallow) &&
    overlap (ptVa e) (levelRange (ptLevel e)) d.window.1 d.window.2) ||
  (pteNames (ptPte e) (ptLevel e)).any (fun f => d.allocs.any (fun a => a.pages.any (fun b => overlap b a.psize f.1 f.2)))

/-- Does a slot lie in a poisoned line that the payload does not write whole (R425, R667)? -/
def ptPoisoned (s : State) (slots : List (Nat × Nat)) (slot : Nat) : Bool :=
  s.rick.poisoned.contains (slot / 64) &&
  !((List.range 8).all (fun k => slots.any (fun x => x.1 = slot / 64 * 64 + 8 * k)))

/-- The first check of R436 that an entry fails; 0 where it passes. -/
def ptCheck (s : State) (p : Nat) (slots : List (Nat × Nat)) (e : Nat) : Nat :=
  let level := ptLevel e
  if 4 < level || bits e 67 64 ≠ 0 || ptVa e % levelRange level ≠ 0 then 0x0A06
  else match slotOf s p (ptVa e) level with
    | .ok slot =>
      if ptBad s p e || ptGroupBad s slots slot (ptPte e) then 0x0A06
      else if ptMeets s p e then 0x0A0A
      else if ptPoisoned s slots slot then 0x0A04 else 0
    | .error 0x0A04 => if ptBad s p e then 0x0A06 else if ptMeets s p e then 0x0A0A else 0x0A04
    | .error code => code

/-- The first failure of a PT_WRITE, in the order of R436. -/
def ptWriteCheck (s : State) (p : Nat) (data : Bytes) : Nat :=
  if data.length % 16 ≠ 0 || data.isEmpty || 1024 < data.length then 0x0103
  else if (pad s p).state = .empty || (pad s p).state = .faulted then 0x0A0B
  else
    let es := ptEntries data
    let slots := es.map (fun e => (ptSlot s p e, ptPte e))
    ((es.map (ptCheck s p slots)).find? (· ≠ 0)).getD 0

/-- Note the frame that a slot's new entry names in place of the old one's (R670). -/
def noteMapped (s : State) (p level old new : Nat) : State :=
  updPad s p (fun d => { d with mapped := (pteNames old level).foldl (fun l f => l.erase f) d.mapped ++ pteNames new level })

/-- Start one range invalidation over several ranges (R437, R446). -/
def invalidateAll (s : State) (p : Nat) (rs : List (Nat × Nat)) : State :=
  let t := invalidate s p 0 0 0
  { t with rick.tlb := t.rick.tlb.filter (fun e => !(e.1 = p && rs.any (fun r => overlap e.2.1 e.2.2.1 r.1 r.2))) }

/-- Write one entry at the slot found for it before any was written. -/
def ptPutAt (p : Nat) (acc : State × List (Nat × Nat)) (x : Nat × Nat) : State × List (Nat × Nat) :=
  let (s, old) := acc
  let was := tableNat s x.2 8
  (putPte (noteMapped s p (ptLevel x.1) was (ptPte x.1)) x.2 (ptPte x.1),
   if bit was 63 then old ++ [(ptVa x.1, levelRange (ptLevel x.1))] else old)

/-- PT_WRITE: every entry is checked before any is written; the answer follows the invalidation of what was valid before. -/
def doPtWrite (s : State) (p : Nat) (data : Bytes) (path : Path) (tag : Tag) : State × Option Nat :=
  let code := ptWriteCheck s p data
  if code ≠ 0 then (s, some code)
  else
    let es := (ptEntries data).map (fun e => (e, ptSlot s p e))
    let (t, old) := es.foldl (ptPutAt p) (s, [])
    let whole := fun (l : Nat) => (List.range 8).all (fun k => es.any (fun x => x.2 = 64 * l + 8 * k))
    let t := { t with rick.poisoned := t.rick.poisoned.filter (fun l => !whole l) }
    if old.isEmpty then (t, some 0)
    else ({ invalidateAll t p old with obj.deferred := t.obj.deferred ++ [(path, tag, p, t.rick.nextInval)] }, none)

/-- PT_QUERY_RESULT: a fresh walk of PT_QUERY (R451). -/
def queryResult (s : State) (p : Nat) : Nat :=
  let va := getP s p 0x40 4
  let (pte, level, code) := match (if vaEnd ≤ va then Walk.fault 0x0A01 4 0 else walk s p va) with
    | .leaf pte level => (pte, level, 0)
    | .fault code level pte => (pte, level, code)
  pack [(64, pte), (3, level), (16, code), (45, 0)]

/-! ### Walks (R439 to R441, R446) -/

/-- Running walks of paddock p, or of all. -/
def walksOf (s : State) (p : Nat) : Nat := (s.rick.walks.filter (fun w => w.running && w.p = p)).length
def walksBusy (s : State) : Nat := (s.rick.walks.filter (·.running)).length

/-- The paddock that the next free walker serves: round robin among those with a walk waiting and fewer than 8 walkers. -/
def nextWalker (s : State) : Option Nat :=
  ((List.range 64).map (fun k => (s.rick.walkLast + 1 + k) % 64)).find? (fun p =>
    walksOf s p < 8 && s.rick.walks.any (fun w => !w.running && w.p = p))

/-- Give free walkers their walks, oldest first within a paddock. -/
def startWalks : Nat → State → State
  | 0, s => s
  | fuel + 1, s =>
    if 32 ≤ walksBusy s then s
    else match nextWalker s with
      | none => s
      | some p => match s.rick.walks.find? (fun w => !w.running && w.p = p) with
        | none => s
        | some j => startWalks fuel { s with rick.walkLast := p, rick.walks := s.rick.walks.map (fun w =>
            if w.id = j.id then { w with running := true } else w) }

/-- Queue a walk of an address for a command. -/
def queueWalk (s : State) (id p va : Nat) : State :=
  startWalks 32 { s with rick.walks := s.rick.walks ++ [{ id := s.rick.nextWalk, p := p, va := va, cmd := id }],
                         rick.nextWalk := s.rick.nextWalk + 1 }

/-- The address and length that a memory opcode names, checked (R449): its code, or 0. -/
def rangeCheck (c : Cmd) (free : List Nat) : Nat :=
  let a := dArg c.desc 0
  let n := dArg c.desc 1
  if n = 0 || vaEnd < a + n then 0x0A10 else if free.any (fun k => dArg c.desc k ≠ 0) then 0x0301 else 0

/-- PREFETCH walks its range page by page (R449, R450). -/
def doPrefetch (s : State) (id : Nat) : State :=
  withCmd s id 0xA2 (fun s c =>
    if c.waitOn.isSome then s
    else
      let code := rangeCheck c [2, 3, 4, 5]
      if code ≠ 0 then failCmd s id code
      else queueWalk (updCmd s id (fun c => { c with waitOn := some (dArg c.desc 0) })) id c.p (dArg c.desc 0))

/-- The prefetch goes on at an address, with so many pages loaded; past its range it commits. -/
def prefetchOn (s : State) (id : Nat) (c : Cmd) (va loaded : Nat) : State :=
  let s := updCmd s id (fun c => { c with waitOn := some va, result := loaded })
  if dArg c.desc 0 + dArg c.desc 1 ≤ va then finish s id [] loaded else queueWalk s id c.p va

/-- A walk ends: stale, it starts again; otherwise its page is loaded, or its fault joins the batch (R441, R443, R446). -/
def doWalkComplete (s : State) (n : Nat) : State :=
  match s.rick.walks.find? (fun w => w.id = n && w.running) with
  | none => s
  | some w =>
    if w.stale then
      bump { s with rick.walks := s.rick.walks.map (fun x => if x.id = n then { x with stale := false } else x) } w.p 0x41 4 1
    else
      let s := startWalks 32 { s with rick.walks := s.rick.walks.filter (fun x => x.id ≠ n) }
      let s := bump s w.p 0x41 3 1
      match cmdOf s w.cmd with
      | none => s
      | some c => match walk s w.p w.va with
        | .leaf pte level =>
          let size := leafSize pte level
          let page := w.va / size * size
          let host := bits pte 51 12 * 4096 + w.va % size
          let ats := bits pte 61 60 = 1 && bit pte 11 && (atsFor s w.p host).isNone
          let s := tlbFill s w.p page size
          let s := if ats then (askAts s w.cmd w.p (host / 4096 * 4096)).1 else s
          prefetchOn s w.cmd c (page + size) (c.result + 1)
        | .fault code level _ =>
          let s := recFault s w.p w.va level false 5 code c.ctx 0 (dId c.desc) (dLayer c.desc) (dOper c.desc)
          prefetchOn s w.cmd c ((w.va / 4096 + 1) * 4096) c.result

/-- Every port has acknowledged: FREE and INVALIDATE commit, PT_WRITE answers (R437, R446). -/
def doRangeInvalidationDone (s : State) (n : Nat) : State :=
  match s.rick.invals.find? (fun e => e.1 = n) with
  | none => s
  | some (_, _, _, id) =>
    let s := { s with rick.invals := s.rick.invals.filter (fun e => e.1 ≠ n) }
    let mine := s.obj.deferred.filter (fun d => d.2.2.2 = n)
    let s := { s with obj.deferred := s.obj.deferred.filter (fun d => d.2.2.2 ≠ n) }
    let s := mine.foldl (fun s d => respond s d.1 d.2.1 2 (pidx d.2.2.1 0x40) 3 0 []) s
    match cmdOf s id with
    | some c => if c.inval = some n then finish s id c.effects c.result else s
    | none => s

/-! ### ADVISE and INVALIDATE (R449) -/

/-- Is a second-level entry one of paddock p's that meets [a, a + n)? -/
def tlbIn (p a n : Nat) (e : Nat × Nat × Nat × Bool × Nat) : Bool := e.1 = p && overlap e.2.1 e.2.2.1 a n

/-- Pin entries of a range while no more than a quarter of the paddock's entries are pinned: the entries, and how many. -/
def pinRange (p a n most : Nat) (l : List (Nat × Nat × Nat × Bool × Nat)) : List (Nat × Nat × Nat × Bool × Nat) × Nat :=
  let held := (l.filter (fun e => e.1 = p && e.2.2.2.1)).length
  l.foldl (fun acc e =>
    if tlbIn p a n e && !e.2.2.2.1 && held + acc.2 < most then (acc.1 ++ [(e.1, e.2.1, e.2.2.1, true, e.2.2.2.2)], acc.2 + 1)
    else (acc.1 ++ [e], acc.2)) ([], 0)

/-- Take a range out of the streamed ranges of paddock p. -/
def unstream (p a n : Nat) (l : List (Nat × Nat × Nat)) : List (Nat × Nat × Nat) :=
  (l.map (fun r =>
    if r.1 ≠ p || !overlap r.2.1 r.2.2 a n then [r]
    else ((if r.2.1 < a then [(p, r.2.1, a - r.2.1)] else []) ++
          (if a + n < r.2.1 + r.2.2 then [(p, a + n, r.2.1 + r.2.2 - (a + n))] else [])))).flatten

/-- ADVISE: NORMAL, KEEP, DONTNEED or STREAM. -/
def doAdvise (s : State) (id : Nat) : State :=
  withCmd s id 0xA3 (fun s c =>
    let p := c.p
    let a := dArg c.desc 0
    let n := dArg c.desc 1
    let code := rangeCheck c [3, 4, 5]
    if code ≠ 0 then failCmd s id code
    else if 4 ≤ dArg c.desc 2 then failCmd s id 0x0301
    else match dArg c.desc 2 with
    | 0 =>
      let k := (s.rick.tlb.filter (fun e => tlbIn p a n e && e.2.2.2.1)).length
      finish { s with rick.tlb := s.rick.tlb.map (fun e => if tlbIn p a n e then (e.1, e.2.1, e.2.2.1, false, e.2.2.2.2) else e),
                      rick.streams := unstream p a n s.rick.streams } id [] k
    | 1 =>
      let (l, k) := pinRange p a n (tlbRoom s p / 4) s.rick.tlb
      finish { s with rick.tlb := l } id [] k
    | 2 =>
      let k := (s.rick.tlb.filter (tlbIn p a n)).length
      finish { s with rick.tlb := s.rick.tlb.filter (fun e => !tlbIn p a n e) } id [] k
    | _ => finish { s with rick.streams := s.rick.streams ++ [(p, a, n)] } id [] 0)

/-- Forget cached ATS translations whose pages meet a range of device addresses. -/
def dropAts (s : State) (p a n : Nat) : State :=
  let hosts := (cut s p a n).filterMap (fun e => match walk s p e.1 with
    | .leaf pte level => if bits pte 61 60 = 1 && bit pte 11 then some (bits pte 51 12 * 4096 + e.1 % leafSize pte level, e.2) else none
    | .fault .. => none)
  let hit := fun (x : Ats) => x.p = p && hosts.any (fun h => overlap x.base x.size h.1 h.2)
  { s with host.ats := (s.host.ats.filter (fun e => !(e.2.done && hit e.2))).map (fun e => if hit e.2 then (e.1, { e.2 with stale := true }) else e) }

/-- INVALIDATE: a range invalidation that the command waits for. -/
def doInvalidate (s : State) (id : Nat) : State :=
  withCmd s id 0xA4 (fun s c =>
    if c.inval.isSome then s
    else
      let code := rangeCheck c [2, 3, 4, 5]
      if code ≠ 0 then failCmd s id code
      else
        let i := s.rick.nextInval
        let s := invalidate (dropAts s c.p (dArg c.desc 0) (dArg c.desc 1)) c.p (dArg c.desc 0) (dArg c.desc 1) id
        updCmd s id (fun c => { c with inval := some i }))

/-- FAULT_BATCH has passed since the first record of a batch (R443). -/
def doFaultBatchFlush (s : State) (p : Nat) : State := flushBatch s p

/-! ### Errors found by mowing (R422 to R429) -/

/-- Lines of the rick. -/
def rickLines : Nat := 2 ^ 29

/-- 24 hours in ns. -/
def dayNs : Nat := 86400 * 10 ^ 9

/-- A correctable error: counted and logged; 1,000 in 24 hours in one granule make a repair due (R423, R426). -/
def correctLine (s : State) (line : Nat) : State :=
  let g := line / 2 ^ 22
  let now := s.sys.uptime
  let recent := (g, now) :: s.rick.corrections.filter (fun e => now < e.2 + dayNs)
  let s := { s with rick.corrections := recent }
  let s := if 1000 ≤ (recent.filter (fun e => e.1 = g)).length then { s with com.repairDue := join s.com.repairDue (2 ^ g) } else s
  fire (logDev (addO s 0x1B00 3 1 64) 0x0A0C 1 [g, line]) 738

/-- Entries of the global error queue that a line of granule 124 held are lost, and counted as lost. -/
def loseEntries (s : State) (line : Nat) : State :=
  match s.log.geq.find? (fun e => geqLine e.seq = line) with
  | none => s
  | some e =>
    let s := { s with log.geq := s.log.geq.filter (fun x => x.seq ≠ e.seq) }
    if e.dev then s else addO s (pidx e.p 0x50) 9 1 32

/-- The record of a trace-area line is lost, and the structure skips the line (R634). A lost record stands as no bytes. -/
def loseTrace (s : State) (line : Nat) : State :=
  let hit := fun (e : Nat × Paddock) => (List.range e.2.trace.length).find? (fun i =>
    traceLine s e.1 (e.2.traceFirst + i) = line && !(e.2.trace.getD i []).isEmpty)
  match s.pads.find? (fun e => (hit e).isSome) with
  | none => s
  | some e =>
    let s := updPad s e.1 (fun d => { d with trace := d.trace.set ((hit e).getD 0) [] })
    logPad (addO s 0x2300 6 1 64) e.1 0x0F03 0 [1]

/-- An uncorrectable error found by mowing: the line is poisoned and logged (R424). -/
def poisonLine (s : State) (line : Nat) : State :=
  if s.rick.poisoned.contains line then s
  else
    let g := line / 2 ^ 22
    let s := loseEntries { s with rick.poisoned := line :: s.rick.poisoned, com.repairDue := join s.com.repairDue (2 ^ g) } line
    let s := if g = 125 || g = 126 then loseTrace s line else s
    let s := addO s 0x1B00 4 1 32
    let s := match s.pads.find? (fun e => bit e.2.granules g) with
      | some e => logPad s e.1 0x0A03 0 [line * 64, g]
      | none => logDev s 0x0A03 0 [line * 64, g]
    fire s 739

/-- Mowing has come to a line: the lines on its way showed no error, this one so many symbol errors. A pass that ends is
counted; mowing pauses in DOZE, SLEEP and after a trip (R427, R429). -/
def doMowRead (s : State) (line errors : Nat) : State :=
  if rickLines ≤ line || 2 ≤ s.pow.st then s
  else
    let s := if line < s.rick.mowAt then addO s 0x1B00 2 1 32 else s
    let s := if line + 1 = rickLines then addO { s with rick.mowAt := 0 } 0x1B00 2 1 32 else { s with rick.mowAt := line + 1 }
    if errors = 0 || s.rick.poisoned.contains line then s
    else if errors = 1 then correctLine s line else poisonLine s line

/-! ### Repair (R430 to R432) -/

/-- RICK_REPAIR g: out of the Commons, and under repair. -/
def doRickRepair (s : State) (g : Nat) : State × Option Nat :=
  if s.pads.any (fun e => bit e.2.granules g) || s.com.zeroising.contains g || s.com.repairing.contains g then (s, some 0x0A0D)
  else ({ s with com.free := less s.com.free (2 ^ g), com.repairing := s.com.repairing ++ [g] }, some 0)

/-- The oldest repair ends: the granule, zeroised, returns to the Commons; or it is retired for good. -/
def doRepairDone (s : State) (ok : Bool) : State :=
  match s.com.repairing with
  | [] => s
  | g :: rest =>
    let s := { s with com.repairing := rest }
    let s := if ok then
        let s := rickZero s (g * 2 ^ 28) (2 ^ 28)
        setO { s with com.repairDue := less s.com.repairDue (2 ^ g), com.kept := less s.com.kept (2 ^ g),
                      com.free := if 124 ≤ g || bit s.com.retired g then s.com.free else join s.com.free (2 ^ g) } 0x1B00 9 0
      else
        setO (cairn (logDev { s with com.retired := join s.com.retired (2 ^ g) } 0x0A0E 3 [g]) 0x0A0E 3 true 0 [g]) 0x1B00 9 0x0A0E
    fire s 740

end Sys2Proof.Machine
end

