-- ==== Sys2Proof/Machine/Links.lean ====
section
/-! DEFINITION. Fabric links and pair ports: their states, the link layer, throttling, and the switch of link keys (R261 to
R285). -/

namespace Sys2Proof.Machine
open Sys2Proof

/-! ### Link states (R262, R263) -/

/-- Pair ports UP, as a mask (PAIR_PORTS_UP). -/
def portsUp (s : State) : Nat := ((List.range 4).map (fun k => if (link s (64 + k)).st = .up then 2 ^ k else 0)).foldl (· + ·) 0

/-- Does a command move bytes to or from the other half? -/
def crosses (c : Cmd) : Bool := c.effects.any (fun e => match e with | .wr (.far ..) _ => true | .sig (.far ..) _ _ => true | _ => false)

/-- Live commands whose work crosses between the halves. -/
def crossing (s : State) : List Nat := (s.cmd.live.filter (fun e => crosses e.2)).map (·.1)

/-- What a change of a pair port does to the pairing state: PAIRED and DEGRADED follow the ports, commands that crossed run
again once a port returns, and a half with a role begins a new join (R567, R581). -/
def pairPorts (s : State) (before : Nat) : State :=
  let n := portsUp s
  if s.pair.st = 2 && n ≠ 15 then { s with pair.st := 3 }
  else if s.pair.st = 3 then
    let s := if before = 0 && n ≠ 0 then killBatch s (crossing s) .island else s
    if n = 15 then { s with pair.st := 2 } else s
  else if s.pair.st = 0 && cfg s 0x2000 1 ≠ 0 && meet n (15 - before) ≠ 0 then { s with pair.st := 1 }
  else s

/-- A link changes state; its source fires. -/
def setLState (s : State) (l : Nat) (st : LState) : State :=
  let before := portsUp s
  let s := updLink s l (fun k => { k with st := st })
  if l < 64 then fire s (512 + l) else pairPorts s before

/-- Causes of 0x0703 and RETRAIN_REQ, in the order of the table *Link transitions* (DESIGN CHOICE, log 22): 1 ACK window
missed, 2 eight replays, 3 credit overrun, 4 RETRAIN_REQ received, 5 LINK_RETRAIN. -/
def retrainCtl (cause : Nat) : Nat := pack [(8, 5), (8, cause), (112, 0)]

/-- An UP link enters RETRAIN; the partner is told unless it asked. -/
def toRetrain (s : State) (l cause : Nat) : State :=
  if (link s l).st = .up then
    let s := if cause = 4 then s else sendBare s l (retrainCtl cause)
    setLState (logDev s 0x0703 1 [l, cause]) l .retrain
  else s

/-- Does a link carry frames for a path now (R231, R263)? -/
def linkLive (s : State) (l : Nat) : Bool := (link s l).st = .up || ((link s l).st = .retrain && !(link s l).rebound)

/-- The next live link of a link set after a lost one, in ascending order (R231). -/
def nextLive (s : State) (links l : Nat) : Option Nat :=
  ((List.range 64).map (fun k => (l + 1 + k) % 64)).find? (fun x => x ≠ l && bit links x && linkLive s x)

/-- Rebind one path of a QP off a lost link, and send its unacknowledged packets again at once (R231). -/
def rebindPath (qpn l : Nat) (s : State) (i : Nat) : State :=
  let p := qpPad qpn
  match (qp s qpn).paths[i]? with
  | none => s
  | some pa =>
    if pa.link ≠ l || (qp s qpn).type = 2 then s
    else match nextLive s (pad s p).links l with
      | none => s
      | some x =>
        let s := updQp s qpn (fun q => { q with paths := q.paths.set i { pa with link := x } })
        let s := logPad s p 0x060D 0 [qpn, i, x]
        pa.unacked.foldl (fun s u => resend s qpn x u.2) s

/-- Rebind every path of a link that counts as down (R231). -/
def rebind (s : State) (l : Nat) : State :=
  s.net.qps.foldl (fun s e => (List.range e.2.paths.length).foldl (rebindPath e.1 l) s) s

/-- What a link drops with its buffers. -/
def clearLink (k : Link) : Link :=
  { k with tx := 0, rx := none, nakked := false, replay := [], credits := [], map := [], throttled := 0, rebound := false, waiting := [] }

/-- A link enters DOWN: its replay buffer is discarded, 0x0704 is logged, and its paths are rebound. -/
def toDown (s : State) (l : Nat) : State :=
  let s := setLState (updLink (logDev s 0x0704 0 [l]) l clearLink) l .down
  rebind s l

/-- A commit clears a link's enable (R262). -/
def disableLink (s : State) (l : Nat) : State :=
  if (link s l).st = .disabled then s
  else rebind (setLState (updLink s l clearLink) l .disabled) l

/-- A commit sets a link's enable (R262). -/
def enableLink (s : State) (l : Nat) : State :=
  if (link s l).st = .disabled then setLState s l .down else s

/-- The island of a link or a pair port. -/
def lnkIsland (l : Nat) : Nat := if l < 64 then 23 + l / 4 else 10

/-- Signal on all four lanes. -/
def doSignalDetected (s : State) (l : Nat) : State := if (link s l).st = .down && s.pow.st < 2 && !islandOut s (lnkIsland l) then setLState s l .training else s

/-- The INIT control frame: node identifier. -/
def initCtl (s : State) : Nat := pack [(8, 1), (13, nodeId s), (107, 0)]

/-- Training done and FEC locked. -/
def doTrainingDone (s : State) (l : Nat) : State :=
  if (link s l).st = .training then setLState (sendBare s l (initCtl s)) l .init else s

/-- 1 s without lock. -/
def doTrainingTimeout (s : State) (l : Nat) : State := if (link s l).st = .training then toDown s l else s

/-- Credits of an own pool and channel, all of which are free: every frame is taken from the receive buffer at once
(DESIGN CHOICE, log 23). -/
def ownCredits (k : Link) (pool vc : Nat) : Nat :=
  if pool = 0x7F then (if vc = 3 then 8 else if vc = 5 then 24 else 0)
  else if k.pools.any (fun e => e.1 = pool) then ((poolCredits.find? (fun e => e.1 = vc)).map (·.2)).getD 0
  else 0

/-- The absolute credits of every pool: the device pool, then those bound. -/
def sendCredits (s : State) (l : Nat) : State :=
  let s := [3, 5].foldl (fun s vc => sendControl s l (creditCtl vc 0x7F (ownCredits (link s l) 0x7F vc) true)) s
  (link s l).pools.foldl (fun s e => poolCredits.foldl (fun s c => sendControl s l (creditCtl c.1 e.1 c.2 true)) s) s

/-- The pool map. -/
def sendPoolMap (s : State) (l : Nat) : State :=
  (link s l).pools.foldl (fun s e => sendControl s l (poolMapCtl e.1 (pad s e.2).tag true)) s

/-- INIT from the partner: the sequence counters start again, credits and pool map go out, and the link is UP. -/
def doInitFrame (s : State) (l ctl : Nat) : State :=
  if (link s l).st ≠ .init || bits ctl 127 120 ≠ 1 || bits ctl 106 0 ≠ 0 then s
  else
    let s := updLink s l (fun k => { clearLink k with partner := bits ctl 119 107 })
    sendPoolMap (sendCredits (setLState s l .up) l) l

/-- 1 ms without INIT from the partner. -/
def doInitTimeout (s : State) (l : Nat) : State := if (link s l).st = .init then toDown s l else s

/-! ### Sequence, acknowledgement and replay (R264 to R269) -/

/-- How far SEQ a lies ahead of b. -/
def seqAhead (a b : Nat) : Nat := (a + 65536 - b) % 65536

/-- Free the frames up to an acknowledged SEQ (R266). -/
def freeFrames (s : State) (l seq : Nat) : State :=
  let s := updLink s l (fun k => { k with replay := k.replay.filter (fun e => !(seqAhead seq e.1 < 32768)) })
  drainLink l ((link s l).waiting.length) s

/-- The ACK that a frame carries. -/
def takeAck (s : State) (l h : Nat) : State := if bit h 17 then freeFrames s l (bits h 33 18) else s

/-- Send a frame of the replay buffer again. -/
def sendAgain (s : State) (l : Nat) (e : Nat × Nat × Nat × Packet × Nat) : State :=
  let (seq, vc, pool, pkt, _) := e
  let s := if l < 64 then addO s 0x2301 (l + 1) (2 ^ 64) 256 else s
  emit s (if vc = 7 then .control l (some seq) (link s l).rx (BitVec.ofNat 128 pkt.hdr.toNat) else .frame l vc pool seq (link s l).rx pkt)

/-- The NAK control frame. -/
def nakCtl (good : Nat) : Nat := pack [(8, 3), (16, good), (104, 0)]
/-- The ACK control frame; ACK_SEQ stands in its header. -/
def ackCtl : Nat := pack [(8, 6), (120, 0)]

/-- Discard a frame and every later one until the replay; one NAK with the last good SEQ (R268). -/
def discardFrame (s : State) (l : Nat) : State :=
  let k := link s l
  if k.nakked then s
  else sendBare (updLink s l (fun k => { k with nakked := true })) l (nakCtl (k.rx.getD 65535))

/-- Check a sequenced frame: the state once it is accepted and acknowledged, or none where it is discarded (R266, R268). -/
def acceptFrame (s : State) (l h : Nat) (ok : Bool) : State × Bool :=
  let k := link s l
  if k.st ≠ .up then (s, false)
  else if !ok then (discardFrame s l, false)
  else
    let s := takeAck s l h
    if bits h 49 34 ≠ (match k.rx with | some r => (r + 1) % 65536 | none => 0) then (discardFrame s l, false)
    else
      let s := updLink s l (fun k => { k with rx := some (bits h 49 34), nakked := false })
      (sendBare s l ackCtl, true)

/-- Is a link frame header well formed for its kind and length? -/
def frameOk (h kind len : Nat) : Bool :=
  bits h 63 60 = kind && bits h 3 0 = 0 && bits h 16 4 = len && len ≤ 4144 &&
  (if kind = 2 then bits h 59 57 = 7 else bits h 59 57 ≤ 5)

/-! ### Intrusions (R299 to R301) -/

/-- Offset of a time in the active cycle. -/
def cycleOffset (t : Swathes) (now : Nat) : Nat := if now < t.epoch then 0 else (now - t.epoch) % t.cycle

/-- Does a time lie in an RX entry for the link and sender, widened by half the guard (R299)? -/
def insideRx (s : State) (l src : Nat) : Bool :=
  match s.sw.active with
  | none => true
  | some t =>
    let o := cycleOffset t (ns s)
    t.entries.any (fun x =>
      bits x 127 126 = 2 && bits x 125 120 = l && bits x 119 107 = src &&
      ([o, o + t.cycle].any (fun o => bits x 63 32 ≤ o + t.guard_ / 2 && o ≤ bits x 63 32 + bits x 31 8 + t.guard_ / 2)))

/-- Count a scheduled packet that arrives outside its window. -/
def intrusion (s : State) (l src : Nat) : State :=
  if !s.sw.injecting || insideRx s l src then s
  else
    let n := (getPair s.sw.intruders src).getD 0 + 1
    let s := addO { s with sw.intruders := setPair s.sw.intruders src n } 0x1703 (l + 1) 1 32
    if n = 16 && !s.sw.reported.contains src then
      fire (logDev { s with sw.reported := src :: s.sw.reported } 0x0702 0 [l, src]) (512 + l)
    else s

/-! ### Frames received -/

/-- A DATA frame: checked, credited and handed on; what it carries is the packet row that follows (R268, R271, R275, R276). -/
def doDataFrame (s : State) (l h : Nat) (data : Bytes) (crcOk : Bool) : State :=
  match acceptFrame s l h (crcOk && frameOk h 1 data.length) with
  | (s, false) => s
  | (s, true) =>
    let vc := bits h 59 57
    let pool := bits h 56 50
    let n := ceilDiv (12 + data.length) 256
    let s := if l < 64 then addO s 0x2301 (l + 1) (2 ^ 128) 256 else s
    if ownCredits (link s l) pool vc < n then toRetrain (logDev s 0x070B 1 [l, vc, pool]) l 3
    else
      let s := sendControl s l (creditCtl vc pool n false)
      if vc = 5 then updLink s l (fun k => { k with dropped := k.dropped + 1 })
      else if vc = 4 && l < 64 then intrusion s l (bSrc (beNat (data.take 32)))
      else s

/-- A CREDIT control frame (R271). -/
def doCredit (s : State) (l h ctl : Nat) : State :=
  match acceptFrame s l h (frameOk h 2 16 && bits ctl 127 120 = 2 && bits ctl 92 0 = 0) with
  | (s, false) => s
  | (s, true) =>
    let vc := bits ctl 119 117
    let pool := bits ctl 116 110
    let n := bits ctl 109 94
    let s := updLink s l (fun k => setCredit k pool vc (if bit ctl 93 then n else creditHeld k pool vc + n))
    drainLink l ((link s l).waiting.length) s

/-- A NAK control frame: replay from LAST_GOOD + 1; the eighth replay of one frame sends the link to RETRAIN (R268). -/
def doLinkNak (s : State) (l ctl : Nat) : State :=
  if (link s l).st ≠ .up || bits ctl 127 120 ≠ 3 || bits ctl 103 0 ≠ 0 then s
  else
    let s := freeFrames s l (bits ctl 119 104)
    if (link s l).replay.any (fun e => 7 ≤ e.2.2.2.2) then toRetrain s l 2
    else
      let s := updLink s l (fun k => { k with replay := k.replay.map (fun e => (e.1, e.2.1, e.2.2.1, e.2.2.2.1, e.2.2.2.2 + 1)) })
      (link s l).replay.foldl (fun s e => sendAgain s l e) s

/-- A POOL_MAP control frame (R274). -/
def doPoolMap (s : State) (l h ctl : Nat) : State :=
  match acceptFrame s l h (frameOk h 2 16 && bits ctl 127 120 = 4 && bits ctl 95 0 = 0) with
  | (s, false) => s
  | (s, true) =>
    let pool := bits ctl 119 113
    updLink s l (fun k =>
      let rest := k.map.filter (fun e => e.1 ≠ pool)
      { k with map := if bit ctl 96 then rest ++ [(pool, bits ctl 112 97)] else rest })

/-- RETRAIN_REQ from the partner. -/
def doRetrainReq (s : State) (l ctl : Nat) : State :=
  if bits ctl 127 120 = 5 && bits ctl 111 0 = 0 then toRetrain s l 4 else s

/-- An ACK control frame. -/
def doLinkAck (s : State) (l h : Nat) : State := if (link s l).st = .up && frameOk h 2 16 then takeAck s l h else s

/-- "Throttle asserted" for one path (R256). -/
def throttlePath (s : State) (pa : QPath) : QPath :=
  if pa.lastThr = 0 || getO s 0x1600 0x0C ≤ ns s - pa.lastThr then
    { pa with rate := max (pa.rate / 2) (getO s 0x1600 0x0B : Nat), lastThr := ns s }
  else pa

/-- A THROTTLE control frame from a router (R256, R265). -/
def doThrottle (s : State) (l ctl : Nat) : State :=
  let mask := bits ctl 118 113
  if (link s l).st ≠ .up || bits ctl 127 120 ≠ 7 || bits ctl 112 0 ≠ 0 then s
  else if (link s l).partner ≠ 0x1FFF then updLink s l (fun k => { k with dropped := k.dropped + 1 })
  else if !bit ctl 119 then updLink s l (fun k => { k with throttled := less k.throttled mask })
  else
    let s := updLink s l (fun k => { k with throttled := join k.throttled mask })
    if mask % 4 = 0 then s
    else s.net.qps.foldl (fun s e =>
      let n := (e.2.paths.filter (fun pa => pa.link = l && throttlePath s pa != pa)).length
      if n = 0 || e.2.type = 2 then s
      else bump (updQp s e.1 (fun q => { q with paths := q.paths.map (fun pa => if pa.link = l then throttlePath s pa else pa) })) (qpPad e.1) 0x53 8 n) s

/-- 20 µs without a renewed assertion. -/
def doThrottleExpiry (s : State) (l : Nat) : State := updLink s l (fun k => { k with throttled := 0 })

/-- A sequenced frame has waited 3 µs for its acknowledgement (R267). -/
def doAckWindowExpiry (s : State) (l : Nat) : State := if (link s l).replay.isEmpty then s else toRetrain s l 1

/-- LINK_RETRAIN; a link that is not UP has no such transition (R262). -/
def doLinkRetrain (s : State) (l : Nat) : State × Option Nat := (toRetrain s l 5, some 0)

/-- FEC has locked again: unacknowledged frames are replayed, and credits exchanged (R262). -/
def doRetrainLock (s : State) (l : Nat) : State :=
  if (link s l).st ≠ .retrain || s.pow.st = 2 then s
  else
    let s := updLink s l (fun k => { k with replay := k.replay.map (fun e => (e.1, e.2.1, e.2.2.1, e.2.2.2.1, 0)), nakked := false, rebound := false })
    let s := setLState s l .up
    let s := (link s l).replay.foldl (fun s e => sendAgain s l e) s
    let s := sendCredits s l
    drainLink l ((link s l).waiting.length) s

/-- 1 ms in RETRAIN without lock. -/
def doRetrainTimeout (s : State) (l : Nat) : State := if (link s l).st = .retrain && s.pow.st ≠ 2 then toDown s l else s

/-- A link has been in RETRAIN longer than RETRAIN_REBIND (R263). -/
def doRetrainRebind (s : State) (l : Nat) : State :=
  if (link s l).st = .retrain then rebind (updLink s l (fun k => { k with rebound := true })) l else s

/-- Loss of signal on any lane. -/
def doLossOfSignal (s : State) (l : Nat) : State :=
  if (link s l).st = .up || ((link s l).st = .retrain && s.pow.st ≠ 2) then toDown s l else s

/-! ### Keys (R285, R498) -/

/-- The next key of a record becomes the current one. -/
def switchKey (k : LinkKey) : LinkKey :=
  match k.next with
  | none => k
  | some (v, t) => { cur := some v, next := none, old := k.cur.map (fun c => (c, t)) }

/-- A switch time has come: for a tag's job key, or the fabric time key. -/
def doLinkKeySwitch (s : State) (which : Option Nat) : State :=
  match which with
  | none => { s with ftm.key := switchKey s.ftm.key }
  | some tag =>
    if Tbl.has s.net.linkKeys tag then
      { s with net.linkKeys := Tbl.upd s.net.linkKeys tag switchKey,
               net.keyWear := s.net.keyWear.filter (fun e => e.1 ≠ tag || (Tbl.get s.net.linkKeys tag).next.isNone) }
    else s

end Sys2Proof.Machine
end

