-- ==== Sys2Proof/Machine/Tick.lean ====
section
/-! DEFINITION. The passing of time: one 1 ns cycle of the fabric time island. -/

namespace Sys2Proof.Machine
open Sys2Proof

/-- Units of the counter in one ns (*Fabric time*: the increment is in units of 2^-40 ns). -/
def nsUnit : Nat := 2 ^ 40

/-- One cycle of FTM: the counter adds 2^40 trimmed by the frequency and this interval's slew, modulo 64 bits of ns;
UPTIME counts on its own. -/
def tick (s : State) : State :=
  let inc := ((nsUnit : Int) + s.ftm.freq + s.ftm.slew).toNat
  { s with ftm.time := (s.ftm.time + inc) % 2 ^ 104, sys.uptime := (s.sys.uptime + 1) % 2 ^ 64 }

end Sys2Proof.Machine
end

