-- ==== Sys2Proof/Machine/Time.lean ====
section
/-! DEFINITION. Fabric time: time packets, the discipline, the time states (R286 to R291), and the stops and starts of
scheduled injection that follow from them (R257, R297, R298). -/

namespace Sys2Proof.Machine
open Sys2Proof

/-! ### Scheduled injection -/

/-- The class a waiting scheduled frame has in the unscheduled class. -/
def unschedule (e : Nat × Nat × Nat × Packet) : Nat × Nat × Nat × Packet :=
  if e.1 = 4 then (vcOf (bType e.2.2.2.hdr.toNat), e.2.1, e.2.2.1, e.2.2.2) else e

/-- Move waiting scheduled frames of a link that meet a condition to the unscheduled class, in their order (R297). -/
def unscheduleLink (f : Packet → Bool) (s : State) (l : Nat) : State :=
  let s := updLink s l (fun k => { k with waiting := k.waiting.map (fun e => if e.1 = 4 && f e.2.2.2 then unschedule e else e) })
  drainLink l ((link s l).waiting.length) s

/-- Do the same on every link. -/
def unscheduleAll (f : Nat → Packet → Bool) (s : State) : State :=
  (s.net.links.map (·.1)).foldl (fun s l => if (link s l).waiting.isEmpty then s else unscheduleLink (f l) s l) s

/-- Scheduled injection stops (R291, R297, R298). -/
def stopInjection (s : State) : State :=
  unscheduleAll (fun _ _ => true) { s with sw.injecting := false, sw.resumeAt := false, sw.openSwathes := [] }

/-- Scheduled injection starts at the next cycle boundary (R291, R298). -/
def startInjection (s : State) : State := { s with sw.resumeAt := true }

/-! ### States -/

/-- Forget the delay base of every path: synchronisation was lost or has returned (R257). -/
def clearBases (s : State) : State :=
  { s with net.qps := s.net.qps.map (fun e => (e.1, { e.2 with paths := e.2.paths.map (fun pa => { pa with owds := [] }) })) }

/-- Change the time state. -/
def setTime (s : State) (st : Nat) : State :=
  let was := synced s
  let s := { s with ftm.st := st }
  if was = synced s then s else clearBases s

/-- A step of fabric time, in units of 2^-40 ns (R286). -/
def stepTime (s : State) (d : Int) : State :=
  let t := ((s.ftm.time : Int) + d) % ((2 ^ 104 : Nat) : Int)
  fire (logDev { s with ftm.time := t.toNat } 0x070A 0 [d.natAbs, b2n (d < 0)]) 707

/-- Synchronisation is lost: 0x0701, and scheduled injection stops (R291). -/
def loseSync (s : State) : State :=
  fire (logDev (stopInjection { (setTime s 1) with ftm.good := 0 }) 0x0701 0 [nodeId s, s.ftm.u, s.ftm.parent]) 704

/-- TIME_ROLE becomes 1 or 0 by a commit (R291). -/
def applyTimeRole (s : State) (role : Nat) : State :=
  if role = 1 then
    (if s.ftm.st = 4 then s
     else startInjection { (setTime s 4) with ftm.stratum := 0, ftm.u := 0, ftm.freq := 0, ftm.slew := 0, ftm.parent := nodeId s })
  else if s.ftm.st = 4 then stopInjection (setTime s 0) else s

/-! ### Time packets (R287 to R289) -/

/-- The time in 2^-16 ns, 80 bits. -/
def now80 (s : State) : Nat := s.ftm.time / 2 ^ 24

/-- The link that time packets leave by: the lowest-numbered live one of TIME_LINKS (R289); a pair port for the secondary of
a unit (R578). -/
def timeLink (s : State) : Option Nat :=
  if paired s && secondHalf s then ([64, 65, 66, 67].find? (fun l => (link s l).st = .up)) else (setBits 64 (cfg s 0x1700 0x0A)).find? (fun l => (link s l).st = .up)

/-- The fields of a time packet's payload. -/
structure TimeBody where
  kind : Nat
  st : Nat
  stratum : Nat
  seq : Nat
  gm : Nat
  tSend : Nat
  tEcho : Nat
  tRx : Nat
  corr : Int
  u : Nat
  ok : Bool
  deriving DecidableEq, Repr

/-- Read a payload. -/
def timeBody (pl : Bytes) : TimeBody :=
  let x := beNat pl
  { kind := bits x 383 380, st := bits x 379 376, stratum := bits x 375 368, seq := bits x 367 352, gm := bits x 351 339,
    tSend := bits x 335 256, tEcho := bits x 255 176, tRx := bits x 175 96, corr := toSigned 48 (bits x 95 48), u := bits x 47 32,
    ok := pl.length = 48 && bits x 338 336 = 0 && bits x 31 0 = 0 }

/-- The grandmaster this node names. -/
def gmOf (s : State) : Nat := if s.ftm.st = 4 then nodeId s else (Tbl.get s.ftm.peers s.ftm.parent).gm

/-- A time packet to a node on a link, sealed under the fabric time key; without a key none is sent. -/
def sendTime (s : State) (l dst kind seq tEcho tRx : Nat) : State :=
  match s.ftm.key.cur with
  | none => s
  | some key =>
    let h := dst % 2 ^ 13 * 2 ^ 231 + nodeId s * 2 ^ 218
    let body := pack [(4, kind), (4, s.ftm.st), (8, s.ftm.stratum), (16, seq), (13, gmOf s), (3, 0), (80, now80 s), (80, tEcho),
      (80, tRx), (48, 0), (16, sat 65535 s.ftm.u), (32, 0)]
    toLink s l 3 0x7F 0 { hdr := BitVec.ofNat 256 h, payload := beBytes 48 body, key := key, intact := true }

/-- Check a time packet: a failed tag is logged (R288), a wrong form or node dropped (R218, R280). -/
def timeOk (s : State) (l kind : Nat) (pkt : Packet) : State × Bool :=
  let h := pkt.hdr.toNat
  let b := timeBody pkt.payload
  if (link s l).st ≠ .up then (s, false)
  else if !keyOpens s s.ftm.key pkt then (logDev s 0x0706 0 [l, bSrc h], false)
  else if bDst h ≠ nodeId s || h ≠ bDst h * 2 ^ 231 + bSrc h * 2 ^ 218 || !b.ok || b.kind ≠ kind then (dropUnmatched s, false)
  else (s, true)

/-- A REQ is answered with its arrival time (R287). -/
def doTimeReq (s : State) (l : Nat) (pkt : Packet) : State :=
  match timeOk s l 1 pkt with
  | (s, false) => s
  | (s, true) =>
    let b := timeBody pkt.payload
    sendTime s l (bSrc pkt.hdr.toNat) 2 b.seq b.tSend (ofSigned 80 ((now80 s : Int) - b.corr))

/-- Is a peer a candidate for the parent (R290)? -/
def candidate (p : TimePeer) : Bool := (p.st = 2 || p.st = 3 || p.st = 4) && p.stratum < 20

/-- The committed TIME_PEERS; the secondary of a unit has the primary alone (R578). -/
def timePeers (s : State) : List Nat := if paired s && secondHalf s then [cfg s 0x1700 1] else (List.range (cfg s 0x1701 0)).map (fun k => cfg s 0x1701 (k + 1))

/-- The candidate of lowest (stratum, node identifier). -/
def bestParent (s : State) : Option Nat :=
  ((timePeers s).filter (fun n => candidate (Tbl.get s.ftm.peers n))).foldl (fun a n => match a with
    | none => some n
    | some b =>
      let x := (Tbl.get s.ftm.peers n).stratum
      let y := (Tbl.get s.ftm.peers b).stratum
      if x < y || (x = y && n < b) then some n else some b) none

/-- A RESP adds a sample to its peer's window; the first sample from a candidate starts the acquisition (R290, R291). -/
def doTimeResp (s : State) (l : Nat) (pkt : Packet) : State :=
  match timeOk s l 2 pkt with
  | (s, false) => s
  | (s, true) =>
    let src := bSrc pkt.hdr.toNat
    let b := timeBody pkt.payload
    let old := Tbl.get s.ftm.peers src
    if !(timePeers s).contains src || b.seq ≠ old.seq || b.tEcho ≠ old.t1 then dropUnmatched s
    else
      let t4 : Int := (now80 s : Int) - b.corr
      let a : Int := (b.tRx : Int) - b.tEcho
      let c : Int := t4 - b.tSend
      let p : TimePeer := { samples := ((a + c, a - c) :: old.samples).take 8, st := b.st, stratum := b.stratum, u := b.u, gm := b.gm,
                            fresh := true, seq := old.seq, t1 := old.t1 }
      let s := { s with ftm.peers := Tbl.set s.ftm.peers src p, ftm.lastSample := if s.ftm.parent = src then ns s else s.ftm.lastSample }
      if s.ftm.st = 0 && candidate p then
        { (setTime s 1) with ftm.parent := src, ftm.good := 0, ftm.misses := 0, ftm.lastSample := ns s }
      else s

/-! ### The discipline (R290) -/

/-- TIME_INTERVAL in ns. -/
def intervalNs (s : State) : Nat := getO s 0x1700 0x0B * 1000

/-- The active table's GUARD, or 80 ns; u is held against half of it, in 1/16 ns (R291). -/
def guardNs (s : State) : Nat := match s.sw.active with | some t => t.guard_ | none => 80

/-- ±500 ppm in units of 2^-40 ns per ns. -/
def freqMost : Int := 2 ^ 40 * 500 / 1000000

/-- The sample of least d. -/
def leastDelay (l : List (Int × Int)) : Int :=
  ((l.foldl (fun a e => match a with
    | none => some e
    | some b => if e.1 < b.1 then some e else some b) (none : Option (Int × Int))).map (·.2)).getD 0

/-- Greatest less least offset of a window. -/
def spread (l : List (Int × Int)) : Nat :=
  match l.map (·.2) with
  | [] => 0
  | x :: t => (t.foldl max x - t.foldl min x).toNat

/-- Requests to every peer, on the time link; when the link has changed the windows are cleared (R289, R290). -/
def sendReqs (s : State) : State :=
  match timeLink s with
  | none => s
  | some l =>
    let s := if s.ftm.link = some l then s else
      { s with ftm.link := some l, ftm.peers := s.ftm.peers.map (fun e => (e.1, { e.2 with samples := [] })) }
    (timePeers s).foldl (fun s n =>
      let q := (s.ftm.seq + 1) % 65536
      let s := { s with ftm.seq := q, ftm.peers := Tbl.upd s.ftm.peers n (fun p => { p with seq := q, t1 := now80 s }) }
      sendTime s l n 1 q 0 0) s

/-- HOLDOVER: the uncertainty grows with the time since the last parent sample (R290). -/
def holdU (s : State) : State :=
  if s.ftm.st = 3 then
    { s with ftm.u := s.ftm.uLast + getO s 0x1700 0x0F * (ns s - s.ftm.lastSample) * 16 / 10 ^ 9 }
  else s

/-- An interval without a sample of the parent. -/
def missed (s : State) : State :=
  let s := { s with ftm.misses := s.ftm.misses + 1, ftm.good := 0, ftm.slew := 0 }
  if s.ftm.misses < 4 then holdU s
  else if s.ftm.st = 1 then setTime s 0
  else if s.ftm.st = 2 then fire { (setTime s 3) with ftm.uLast := s.ftm.u, ftm.heldFrom := ns s } 705
  else holdU s

/-- An interval with a sample of the parent: a step, or frequency and slew; then stratum, uncertainty and state. -/
def disciplined (s : State) (n : Nat) (p : TimePeer) : State :=
  let theta := leastDelay p.samples
  let s := { s with ftm.misses := 0, ftm.parent := n, ftm.lastSample := ns s }
  if s.ftm.st = 1 && 1000 * 2 ^ 17 < theta.natAbs then
    let s := stepTime s (theta * 2 ^ 23)
    { s with ftm.good := 0, ftm.slew := 0, ftm.peers := Tbl.upd s.ftm.peers n (fun p => { p with samples := [] }) }
  else
    let iv : Int := (intervalNs s : Nat)
    let freq := max (-freqMost) (min freqMost (s.ftm.freq + theta * 2 ^ 23 / (64 * iv)))
    let s := { s with ftm.freq := freq, ftm.slew := theta * 2 ^ 23 / (4 * iv), ftm.stratum := p.stratum + 1,
                      ftm.u := p.u + getO s 0x1700 0x0E + ceilDiv (spread p.samples) (2 ^ 14) }
    let good := theta.natAbs ≤ 10 * 2 ^ 17 && s.ftm.u ≤ guardNs s * 8
    match s.ftm.st with
    | 1 =>
      let k := if good then s.ftm.good + 1 else 0
      let s := { s with ftm.good := k }
      if 8 ≤ k then startInjection (setTime s 2) else s
    | 2 => if good then s else loseSync s
    | 3 => if good then setTime s 2 else loseSync s
    | _ => s

/-- The end of one interval and the start of the next (R290). -/
def doTimeIntervalTick (s : State) : State :=
  let s :=
    if s.ftm.st = 0 || s.ftm.st = 4 then s
    else match bestParent s with
      | none => missed s
      | some n =>
        let p := Tbl.get s.ftm.peers n
        if p.fresh && !p.samples.isEmpty then disciplined s n p else missed s
  sendReqs { s with ftm.peers := s.ftm.peers.map (fun e => (e.1, { e.2 with fresh := false })) }

/-- HOLDOVER_LIMIT has passed (R291). -/
def doHoldoverExpired (s : State) : State :=
  if s.ftm.st = 3 then fire (logDev (stopInjection (setTime s 0)) 0x070D 0 [nodeId s]) 706 else s

/-- TIME_SET (R287). -/
def doTimeSet (s : State) (v : Nat) : State × Option Nat :=
  if s.ftm.st ≠ 4 then (s, some 0x0705)
  else (stepTime s ((v * 2 ^ 40 : Nat) - (s.ftm.time : Int)), some 0)

end Sys2Proof.Machine
end

