-- ==== Sys2Proof/Machine/Faults.lean ====
section
/-! DEFINITION. Islands and their resets, the watchdogs, the wait graph, hang snapshots and dump slots, and the hard fence
(R542 to R563). -/

namespace Sys2Proof.Machine
open Sys2Proof

/-! ### Logs -/

/-- An entry of device scope in the global error queue and in the Cairn. -/
def logBoth (s : State) (code sev : Nat) (facts : List Nat) : State :=
  cairn (logDev s code sev facts) code sev true 0 facts

/-! ### Object rows that snapshots share (R147) -/

/-- A context's state code. -/
def ctxCode : Option Ctx → Nat
  | none => 0
  | some x => match x.st with
    | .idle => 1 | .ready => 2 | .running => 3 | .waiting => 4 | .parked => 5 | .killed => 6

/-- CONTEXT_INFO of a context. -/
def contextInfo (s : State) (p c : Nat) : Nat :=
  let x := (ctxOf s p c).getD { area := 0 }
  pack [(12, c), (4, ctxCode (ctxOf s p c)), (8, x.epoch), (8, 0), (16, (ctxCmds s p c).length),
    (16, x.slot.getD 0xFFFF), (16, x.lastErr), (16, 0), (32, x.kills)]

/-- A row of QUEUE_INFO. -/
def queueRow (s : State) (p q : Nat) : Nat :=
  match queueOf s p q with
  | none => 0
  | some x => pack [(2, x.st), (6, 0), (16, x.head), (16, x.tail), (16, x.cqTail), (16, x.cqHead), (16, x.lastErr), (40, 0)]

/-! ### The hang snapshot (R554, R555) -/

/-- Sections of the snapshot that an island's buffer fills, where the manual lays their bytes out: queues and resident
contexts by TRN, credits by each LNK. -/
def bufferOf (s : State) (i : Nat) : List (Nat × Bytes) :=
  if i = 6 then
    let qs := (s.pads.map (fun e => e.2.queues.map (fun q => (e.1, q.1)))).flatten
    let cs := (s.pads.map (fun e => (e.2.ctxs.filter (fun c => c.2.slot.isSome)).map (fun c => (e.1, c.1)))).flatten
    (qs.zipIdx.map (fun e => (0x2000 + 16 * e.2,
      beBytes 16 (queueRow s e.1.1 e.1.2 / 2 ^ 40 * 2 ^ 40 + e.1.1 * 2 ^ 34 + e.1.2 * 2 ^ 28)))) ++
    (cs.zipIdx.map (fun e =>
      let (p, c) := e.1
      let mine := (ctxCmds s p c).filterMap (cmdOf s)
      let wait := (mine.filterMap (fun x => if dOpcode x.desc = 0xB1 then x.waitOn else none)).headD 0
      let old := (mine.map (·.at_)).foldl (fun a t => if a = 0 || t < a then t else a) 0
      (0x6000 + 32 * e.2, beBytes 32 (pack [(128, join (contextInfo s p c) (p * 2 ^ 98)), (64, wait), (64, old)]))))
  else if 23 ≤ i then
    ((List.range 4).map (fun k =>
      let l := 4 * (i - 23) + k
      (link s l).credits.map (fun c => (0x1A000 + 204 * l + 12 * (if c.1 = 0x7F then 16 else c.1) + 2 * c.2.1, beBytes 2 c.2.2)))).flatten
  else []

/-- SNAPSHOT_BUFFER_UPDATE: a wedged island, or one out of service, stops updating its buffer. -/
def doSnapshotBufferUpdate (s : State) (i : Nat) : State :=
  if i = 0 || 38 < i || islandOut s i || s.flt.wedged.contains i then s
  else { s with flt.snapBuffers := Tbl.set s.flt.snapBuffers i (ns s, bufferOf s i) }

/-- The slot that a frozen snapshot goes to: an empty one, else the oldest that is read or incomplete (R560). -/
def dumpSlot (s : State) : Option Nat :=
  match s.log.dumps.findIdx? (fun d => d.st = 0) with
  | some k => some k
  | none =>
    let old := (s.log.dumps.zipIdx.filter (fun e => e.1.st = 3 || e.1.st = 4))
    (old.foldl (fun (a : Option (Dump × Nat)) e => match a with
      | none => some e
      | some b => if e.1.boot < b.1.boot || (e.1.boot = b.1.boot && e.1.time < b.1.time) then some e else a) none).map (·.2)

/-- Freeze a snapshot and begin to write it to a slot; no slot free of unread evidence, or one still being written, and it
is skipped with 0x0126 (R554, R560). -/
def freeze (s : State) (cause code : Nat) : State :=
  match dumpSlot s, s.log.frozen with
  | some k, none =>
    let times := s.flt.snapBuffers.map (fun e => (0x100 + 8 * e.1, beBytes 8 e.2.1))
    let data := times ++ (s.flt.snapBuffers.map (·.2.2)).flatten
    flash (fresh1 { s with
      log.dumps := s.log.dumps.set k { st := 1, cause := cause, code := code, boot := s.sys.bootCount, time := ns s, data := data,
                                       free := s.fresh },
      log.frozen := some k }) .dump
  | _, _ => logDev s 0x0126 0 [cause]

/-- Is an offset of the snapshot in a part that the manual lays out byte by byte (*Hang snapshot, 256 KiB*)? -/
def laidOut (a : Nat) : Bool :=
  (0x100 ≤ a && a < 0x1000) || (0x2000 ≤ a && a < 0xA000) || (0x1A000 ≤ a && a < 0x1E000) || 0x2C000 ≤ a

/-- n bytes of a dump from an offset. -/
def dumpBytes (d : Dump) (o n : Nat) : Bytes :=
  (List.range n).map (fun i =>
    let a := o + i
    match d.data.find? (fun e => e.1 ≤ a && a < e.1 + e.2.length) with
    | some e => e.2.getD (a - e.1) 0
    | none => if laidOut a then 0 else Config.freeByte (d.free * 2 ^ 40 + a))

/-- A frozen snapshot is on flash: its slot is unread (R560). -/
def doDumpWritten (s : State) : State :=
  match s.log.frozen with
  | none => s
  | some k =>
    let d := s.log.dumps.getD k {}
    let s := { s with log.dumps := s.log.dumps.set k { d with st := 2, len := 262144, check := (crc32c (dumpBytes d 0 262144)).toNat },
                      log.frozen := none, store.work := s.store.work.filter (fun w => w ≠ .dump) }
    logDev s 0x0125 0 [k + 1, d.cause]

/-- DUMP_RELEASE: an unread slot is read. -/
def doDumpRelease (s : State) (v : Nat) : State × Option Nat :=
  ({ s with log.dumps := s.log.dumps.zipIdx.map (fun e => if e.2 + 1 = v && e.1.st = 2 then { e.1 with st := 3 } else e.1) }, some 0)

/-- SNAPSHOT_TAKE. -/
def doSnapshotTake (s : State) : State × Option Nat := (freeze s 0xFF 0, some 0)

/-! ### What each island loses (*Outcome of an island reset*) -/

/-- Is an object LIVE? -/
def isLive (key : Nat) : Bool :=
  match descOf (key / 256) (key % 256) with | some d => d.acc = .live | none => false

/-- Mbomon restarts from flash: the draft, UDP sessions, SPDM connections, event targets and Lark slots are lost, LIVE
objects read their Defaults, and requests that MGT had not answered are lost (R67, R513, R535, R545). -/
def mgtLost (s : State) : State :=
  { resetDraft s with
    obj.live := s.obj.live.filter (fun e => !isLive e.1 && e.1 ≠ okey 0x2111 8), obj.lapsed := none, obj.confOp := none, obj.serving := none, obj.behind := [],
    obj.deferred := [], sec.sessions := [], sec.spdm := [], ev.targets := [], ev.holdoffs := [], ev.lark := [] }

/-- SEC loses every key (R503). -/
def secLost (s : State) : State :=
  let hit := notEmpty s
  let s := { zeroAllKeys s with sec.st := 0 }
  faultPads (logBoth s 0x0B12 (if hit.isEmpty then 0 else 3) []) hit 0x0B12

/-- HST acts as a Function Level Reset of the PF and every VF; the PCIe link trains again. -/
def hstLost (s : State) : State :=
  let s := doPfFunctionLevelReset s
  fire (setO { s with host.outst := [], host.quar := [] } 0x1500 1 1) 720

/-- The links of LNK k train again. -/
def lnkLost (s : State) (k : Nat) : State :=
  (List.range 4).foldl (fun s j => if (link s (4 * k + j)).st = .disabled then s else toDown s (4 * k + j)) s

/-- TRN loses what it held: every command is killed, each context's epoch advances once, resident QPs with an open message
enter ERROR, packets turning round and accesses waiting in it are dropped. -/
def trnLost (s : State) : State :=
  let qps := (s.net.qps.filter (fun e => e.2.resident && !(e.2.tx.isEmpty && e.2.rx.all (·.aborted)))).map (·.1)
  let s := qps.foldl (fun s n => logPad (qpDead s n 0x0129) (qpPad n) 0x0129 2 [n]) s
  let live := s.cmd.live.filter (fun e => !e.2.inner)
  let who := (live.map (fun e => (e.2.p, e.2.ctx))).eraseDups
  let s := live.foldl (fun s e => killCmd s e.1) s
  let s := { s with cmd.live := [], cmd.heldReads := [], net.loop := [] }
  let s := who.foldl (fun s e => match ctxOf s e.1 e.2 with
    | some x => if x.advanceDue || x.preempting then s else unwait (advanceEpoch s e.1 e.2) e.1 e.2
    | none => s) s
  live.foldl (fun s e => afterEnd s e.2.p e.2.ctx e.2.q) s

/-- SHF: the open instances end at this member. -/
def shfLost (s : State) : State :=
  { s with sheaf.groups := s.sheaf.groups.map (fun e =>
      (e.1, { e.2 with insts := e.2.insts.map (fun i => if i.failed = 0 then { i with failed := 0x0904 } else i) })) }

/-- XLT: the TLBs and the walk cache are empty. -/
def xltLost (s : State) : State := { s with rick.tlb := [], rick.walks := [], host.ats := [] }

/-- FTM: time is UNSYNC and scheduled injection stops. -/
def ftmLost (s : State) : State :=
  let was := synced s
  let s := stopInjection { setTime s 0 with ftm.good := 0, ftm.misses := 0, ftm.freq := 0, ftm.slew := 0 }
  if was then fire s 704 else s

/-- PAIR: its ports train again (R567, R581). -/
def pairLost (s : State) : State :=
  (List.range 4).foldl (fun s j => if (link s (64 + j)).st = .disabled then s else toDown s (64 + j)) s

/-- Opcodes whose work runs on tussocks. -/
def onTussocks (op : Nat) : Bool := [0x50, 0x51, 0x52, 0x58, 0x59, 0x60].contains op

/-- Does a command use an island (R545)? -/
def usesIsland (s : State) (i : Nat) (e : Nat × Cmd) : Bool :=
  let c := e.2
  !c.inner &&
  (if i = 6 || i = 8 then true
   else if i = 10 then crosses c
   else if 11 ≤ i && i ≤ 14 then (setBits 124 (pad s c.p).granules).any (fun g => g % 4 = i - 11)
   else if 15 ≤ i && i ≤ 22 then
     (match c.run with
      | some r => r.opened.any (fun o => o.2.2.2 / 8 = i - 15)
      | none => c.phase = .started && onTussocks (dOpcode c.desc) && bits (pad s c.p).tussocks (8 * (i - 15) + 7) (8 * (i - 15)) ≠ 0)
   else if 23 ≤ i && i ≤ 38 then
     s.net.qps.any (fun q => q.2.tx.any (fun m => m.cmd = some e.1) && q.2.paths.any (fun pa => pa.link / 4 = i - 23))
   else false)

/-- Live commands that use an island. -/
def islandUsers (s : State) (i : Nat) : List Nat := (s.cmd.live.filter (usesIsland s i)).map (·.1)

/-- What an island loses. -/
def islandLost (s : State) (i : Nat) : State :=
  match i with
  | 1 => mgtLost s
  | 2 => secLost s
  | 3 => hstLost s
  | 6 => trnLost s
  | 7 => shfLost s
  | 8 => xltLost s
  | 9 => ftmLost s
  | 10 => pairLost s
  | _ => if 23 ≤ i && i ≤ 38 then lnkLost s (i - 23) else s

/-! ### Island resets (R545) -/

/-- Is an island in service? -/
def inService (s : State) (i : Nat) : Bool := !islandOut s i

/-- Islands that SEC gives their keys again (R502, R545). -/
def keyed (i : Nat) : Bool := i = 3 || i = 9 || i = 10 || (11 ≤ i && i ≤ 14) || (23 ≤ i && i ≤ 38)

/-- Step 4 can run: SEC is in service, and RCK0 for every key but the device memory key. -/
def keysReady (s : State) (i : Nat) : Bool := !keyed i || (inService s 2 && (i = 11 || inService s 11))

/-- Reset an island: it is isolated, its commands are killed, and what it held is lost. AON takes no reset, and a reset of
an island already in reset adds nothing. -/
def islandReset (s : State) (i : Nat) : State :=
  if i = 0 || 38 < i || Tbl.get s.flt.state i = 1 || Tbl.get s.flt.state i = 2 || Tbl.get s.flt.state i = 4 || s.pow.st = 4 then s
  else if i = 4 || i = 5 then sideReset s (i - 4)
  else
    let users := islandUsers s i
    let s := { s with flt.state := Tbl.set s.flt.state i 2, flt.wedged := s.flt.wedged.filter (· ≠ i),
                      flt.killed := Tbl.set s.flt.killed i users.length }
    let s := if i = 6 then s else killBatch s users .island
    let s := islandLost s i
    if keysReady s i then s else { s with flt.state := Tbl.set s.flt.state i 1 }

/-- ISLAND_RESET. -/
def doIslandReset (s : State) (v : Nat) : State × Option Nat := (islandReset s v, some 0)

/-- A mailbox that stayed BUSY across a reset of MGT is DONE with 0x010A (R660). -/
def stileLost (s : State) (fn : Fn) : State :=
  let f := func s fn
  let h := beNat (f.request.take 16)
  if f.stile = 1 then
    stileDone s fn (beBytes 16 (responseHeader (hOp h) (hTag h) (hIndex h) (hSub h) (tyOf (hIndex h) (hSub h)) s.obj.cvn 0x010A 0).toNat)
  else s

/-- Mbomon runs again: mailboxes are answered, and device targets written. -/
def mgtBack (s : State) : State :=
  deviceTargets (s.host.vfs.foldl (fun s e => stileLost s (some (Fin.ofNat 64 e.1))) (stileLost s none))

/-- Steps 4 and 5: keys are there again, the isolation goes, 0x0121 is logged. A side also waits for its manifests (R175);
fabric time starts again in its role. -/
def doIslandReturn (s : State) (i : Nat) : State :=
  let st := Tbl.get s.flt.state i
  if (st ≠ 1 && st ≠ 2) || s.pow.st = 4 || s.sys.boot ≠ 3 then s
  else if !keysReady s i then { s with flt.state := Tbl.set s.flt.state i 1 }
  else if (i = 4 || i = 5) && s.tp.sideBusy.contains (i - 4) then s
  else
    let n := Tbl.get s.flt.killed i
    let s := { s with flt.state := Tbl.set s.flt.state i 0, flt.killed := Tbl.set s.flt.killed i 0 }
    let s := if i = 9 then applyTimeRole s (cfg s 0x1700 4) else if i = 1 then mgtBack s else s
    logBoth s 0x0121 (if n = 0 then 0 else 2) [i, n]

/-- Dies that a side of the Tenancy Port reaches. -/
def sideDies (s : State) (side : Nat) : List Nat :=
  ((List.range 24).filterMap (fun m => if (if m < 12 then 0 else 1) = side then (tpm s m).die else none)).eraseDups

/-- Paddocks that a failed island faults (*Outcome of an island reset*). -/
def failHits (s : State) (i : Nat) : List Nat :=
  if i = 4 || i = 5 then
    let dies := sideDies s (i - 4)
    (s.pads.filter (fun e => e.2.lots.any (fun l => match dieOf s l with | some d => dies.contains d | none => false))).map (·.1)
  else if 15 ≤ i && i ≤ 22 then
    (s.pads.filter (fun e => bits e.2.tussocks (8 * (i - 15) + 7) (8 * (i - 15)) ≠ 0)).map (·.1)
  else []

/-- Islands whose loss leaves the device failed (R546). -/
def vital (i : Nat) : Bool := i = 2 || i = 3 || (6 ≤ i && i ≤ 9) || (11 ≤ i && i ≤ 14)

/-- ISLAND_RETURN_LIMIT passes: ISLAND_STATE reads 3 and 0x0122 is logged. -/
def doIslandFailed (s : State) (i : Nat) : State :=
  if Tbl.get s.flt.state i ≠ 2 || s.pow.st = 4 then s
  else
    let hit := failHits s i
    let s := { s with flt.state := Tbl.set s.flt.state i 3 }
    let s := if i = 4 || i = 5 then ((List.range 24).filter (fun m => m / 12 = i - 4)).foldl (fun s m =>
        updTpm s m (fun k => { k with up := false, failed := true })) s else s
    faultPads (logBoth s 0x0122 (if vital i || !hit.isEmpty then 3 else 0) [i]) hit 0x0122

/-- DEVICE_HEALTH. -/
def deviceHealth (s : State) : Nat :=
  if s.flt.state.any (fun e => e.2 = 3 && vital e.1) then 2
  else if s.flt.state.any (fun e => e.2 = 1 || e.2 = 2 || e.2 = 3) || s.sward.tussockRetired ≠ 0 || s.com.retired ≠ 0 then 1
  else 0

/-! ### Watchdogs (R548 to R551) -/

/-- The head of a crossing into island i has stalled for ISLAND_WATCHDOG; the culprit is its paddock and context. -/
def doIslandWedged (s : State) (i : Nat) (p : Option Nat) (c : Nat) : State :=
  if i = 0 || 38 < i || islandOut s i || s.flt.wedged.contains i then s
  else
    let facts := match p with | some p => [i, p, c] | none => [i, 0xFFFF]
    let s := fire { s with flt.wedged := s.flt.wedged ++ [i] } (768 + i)
    let s := logBoth (freeze s i 0x0120) 0x0120 0 facts
    if getO s 0x1F00 6 = 1 then islandReset s i else s

/-- Does a command wait on something other than a WAIT or a held read (R550)? -/
def watched (s : State) (id : Nat) : Bool :=
  match cmdOf s id with
  | none => false
  | some c => dOpcode c.desc ≠ 0xB1 && !(match c.heldAt with | some r => (heldFor s id r.1 r.2).isSome | none => false)

/-- The command of a list that was fetched first. -/
def oldest (s : State) (ids : List Nat) : Option Nat :=
  ids.foldl (fun a id => match a with
    | none => some id
    | some b => if ((cmdOf s id).map (·.order)).getD 0 < ((cmdOf s b).map (·.order)).getD 0 then some id else a) none

/-- A context makes no progress: it is killed, and an entry names it, its oldest command and its last progress (R551). -/
def doCtxNoProgress (s : State) (p c : Nat) : State :=
  match ctxOf s p c with
  | none => s
  | some x =>
    let ids := ctxCmds s p c
    if x.st ≠ .running || !ids.any (watched s) then s
    else match oldest s ids with
      | none => s
      | some id => match cmdOf s id with
        | none => s
        | some k =>
          let s := geqCmd s k 0x0123 2 [c, x.progress]
          updCtx (stopCtx s p c .control .killed) p c (fun x => { x with lastErr := 0x0123 })

/-! ### The wait graph (R553) -/

/-- Edges of the wait graph, as waiting command and the command it waits for. -/
def waitEdges (s : State) : List (Nat × Nat) :=
  let cs := s.cmd.live.filter (fun e => !e.2.inner)
  let open_ := fun (e : Nat × Cmd) => e.2.status = 0
  (cs.map (fun a => (cs.filter (fun b =>
    (a.2.p, a.2.ctx) ≠ (b.2.p, b.2.ctx) &&
    ((dOpcode a.2.desc = 0xB1 && a.2.waitOn.isSome && open_ a && dOpcode b.2.desc = 0xB0 && b.2.p = a.2.p &&
        a.2.waitOn = some (dArg b.2.desc 0)) ||
     (match a.2.heldAt with | some r => heldFor s a.1 r.1 r.2 = some (some b.1) | none => false) ||
     (a.2.p = b.2.p && a.2.q = b.2.q && b.2.order < a.2.order && dOpcode b.2.desc = 0xB1 && open_ b)))).map (fun b => (a.1, b.1)))).flatten

/-- The context of a command, as one number. -/
def ctxKey (s : State) (id : Nat) : Nat := match cmdOf s id with | some c => 4096 * c.p + c.ctx | none => 0

/-- Contexts that a set of contexts reaches along edges, in n rounds. -/
def reach (es : List (Nat × Nat)) : Nat → List Nat → List Nat
  | 0, l => l
  | n + 1, l => reach es n (l ++ ((es.filter (fun e => l.contains e.1 && !l.contains e.2)).map (·.2)).eraseDups)

/-- The contexts on a cycle with context a: those it reaches and that reach it. -/
def cycleOf (es : List (Nat × Nat)) (a : Nat) : List Nat :=
  let n := es.length
  let after := reach es n ((es.filter (fun e => e.1 = a)).map (·.2)).eraseDups
  if after.contains a then after.filter (fun b => (reach es n ((es.filter (fun e => e.1 = b)).map (·.2)).eraseDups).contains a) else []

/-- The commands of a cycle: those on the edges between its contexts. -/
def cycleCmds (s : State) (es : List (Nat × Nat)) (ctxs : List Nat) : List Nat :=
  ((es.filter (fun e => ctxs.contains (ctxKey s e.1) && ctxs.contains (ctxKey s e.2))).map (fun e => [e.1, e.2])).flatten.eraseDups

/-- The command fetched last, ties to the lowest context number. -/
def youngest (s : State) (ids : List Nat) : Option Nat :=
  ids.foldl (fun a id => match a with
    | none => some id
    | some b =>
      let x := ((cmdOf s id).map (·.order)).getD 0
      let y := ((cmdOf s b).map (·.order)).getD 0
      if y < x || (x = y && ctxKey s id % 4096 < ctxKey s b % 4096) then some id else a) none

/-- Break one cycle: kill its youngest command, log 0x0124, withhold the rerun. -/
def breakCycle (s : State) (ids ctxs : List Nat) : State :=
  match youngest s ids with
  | none => s
  | some id => match cmdOf s id with
    | none => s
    | some c =>
      let s := geqCmd s c 0x0124 2 (ctxs ++ [id])
      let s := addO (killBatch s [id] .island) 0x1F00 0x0A 1 32
      { s with cmd.killed := s.cmd.killed.map (fun k => if k.id = id then { k with backoff := true } else k),
               flt.withheld := s.flt.withheld ++ [(id, ids.filter (· ≠ id))] }

/-- Search and break cycles until none is left. -/
def breakCycles : Nat → State → State
  | 0, s => s
  | n + 1, s =>
    let es := waitEdges s
    let cs := (es.map (fun e => (ctxKey s e.1, ctxKey s e.2))).eraseDups
    match (cs.map (·.1)).find? (fun a => !(cycleOf cs a).isEmpty) with
    | none => s
    | some a =>
      let ctxs := cycleOf cs a
      breakCycles n (breakCycle s (cycleCmds s es ctxs) ctxs)

/-- WAITGRAPH_SCAN: each round ends one command of a cycle. -/
def doWaitgraphScan (s : State) : State := breakCycles s.cmd.live.length s

/-- WAITGRAPH_BACKOFF has passed for a killed command. -/
def doWaitgraphBackoffExpiry (s : State) (id : Nat) : State := releaseRerun s id

/-! ### Mbomon's kicks (R554) -/

/-- Mbomon kicks AON. -/
def doMgtKick (s : State) : State := { s with flt.kickAt := s.sys.uptime }

/-- MGT resets within the last 10 s, with one now (*Mbomon's watchdog*). -/
def recentMgtResets (s : State) : List Nat := s.sys.uptime :: s.flt.mgtResets.filter (fun t => s.sys.uptime < t + 10 * 10 ^ 9)

/-- AON resets MGT. -/
def mgtReset (s : State) : State :=
  let s := { s with flt.mgtResets := recentMgtResets s, flt.kickAt := s.sys.uptime }
  let s := cairn s 0x0127 0 true 0 [s.flt.mgtResets.length]
  logDev (islandReset s 1) 0x0127 0 [s.flt.mgtResets.length]

/-! ### The hard fence (R558, R559) -/

/-- HARD_FENCE: the gate, the HARD FENCE_REQ where a side is in service, and FAULTED with 0x020E. -/
def doHardFence (s : State) (n : Nat) : State × Option Nat :=
  if (pad s n).state = .empty then (s, some 0x0201)
  else
    let s := { s with flt.gate := join s.flt.gate (2 ^ n) }
    let dies := diesOf s (pad s n).lots
    let s := dies.foldl (fun s d =>
      if (sideModules s d).isEmpty then s
      else sendFence n 3 (pad s n).fenceGen { s with tp.fencesOut := s.tp.fencesOut ++ (fenceKeys s d).map (fun k => (n, k, 3)) } d) s
    (paddockFault s n 0x020E, some 0)

end Sys2Proof.Machine
end

