-- ==== Sys2Proof/Machine/Pair.lean ====
section
/-! DEFINITION. Paired mode: joins, mirror requests and their acknowledgements, heartbeats, splits, and changes of PAIR_ROLE
(R564 to R581). -/

namespace Sys2Proof.Machine
open Sys2Proof

/-- BLOCK_VERSION of this device, as the manifests of its records give it (0x1000.03). -/
def blockVersion : Nat := 0x00030100

/-- Lots of this half's manifests. -/
def ownLots (s : State) : List Nat := (s.tp.manifests.map (fun e => e.2.entries.map (fun x => bits x 255 224))).flatten

/-- Paddocks that are not EMPTY here and at the peer, mirror entries apart (R567). -/
def sharedPads (s : State) (x : Peer) : List Nat :=
  (notEmpty s).filter (fun p => !s.pair.mirrorEntries.contains p && x.paddocks.any (fun e => e.1 = p))

/-- The first condition of R566 that fails, numbered as its list has them; 0 where all hold. From SPLIT paddocks need not be
EMPTY. -/
def joinCondition (s : State) (x : Peer) : Nat :=
  let role := cfg s 0x2000 1
  if !((role = 1 && x.role = 2) || (role = 2 && x.role = 1)) then 1
  else if x.blockVersion ≠ blockVersion || x.firmware / 256 ≠ s.sys.firmware / 256 || x.securityVersion ≠ s.sys.securityVersion then 2
  else if x.nodeId ≠ cfg s 0x1700 1 then 3
  else if s.pair.st ≠ 4 && (!(notEmpty s).isEmpty || !x.paddocks.isEmpty) then 4
  else if portsUp s ≠ 15 then 5
  else if !x.chainOk then 6
  else if (ownLots s).any (fun l => x.lots.contains l) then 7
  else 0

/-- A join fails (R567). -/
def joinFails (s : State) (cond uid : Nat) : State := logDev { s with pair.st := 0 } 0x0E01 0 [cond, uid]

/-- A mirror entry takes the state of its paddock on the half that holds it. -/
def adoptState (x : Peer) (s : State) (p : Nat) : State :=
  let code := ((x.paddocks.find? (fun e => e.1 = p)).map (·.2)).getD 0
  let st : PState := match code with | 1 => .fenced | 2 => .opened | 3 => .draining | 4 => .fallow | 5 => .faulted | _ => .empty
  setPState (updPad s p (fun d => { d with cause := if st = .faulted then d.cause else 0 })) p st

/-- The halves are one unit: pair key, the larger CVN_LAST, mirror entries, and the secondary's fabric time (R567, R573,
R578, R579). -/
def join_ (s : State) (x : Peer) : State :=
  let s := s.pair.mirrorEntries.foldl (adoptState x) s
  let s := if s.obj.cvnLast < x.cvnLast then journalCounter { s with obj.cvnLast := x.cvnLast } ctrCvn x.cvnLast else s
  let s := { s with pair.st := 2, pair.peer := some x, pair.pairKey := some x.key, pair.mirrorEntries := [], pair.mirrorOut := [],
                    pair.mirrorNext := 1 }
  if secondHalf s then
    let s := if s.ftm.st = 4 then stopInjection (setTime s 0) else s
    { s with ftm.peers := [], ftm.link := none }
  else s

/-- JOIN_COMPLETE, from JOINING, or from SPLIT once no paddock is shared. -/
def doJoinComplete (s : State) (x : Peer) : State :=
  if s.pair.st = 1 || (s.pair.st = 4 && portsUp s ≠ 0 && (sharedPads s x).isEmpty) then
    match joinCondition s x with
    | 0 => join_ s x
    | c => joinFails s c x.uid.toNat
  else s

/-- JOIN_FAILED: a condition, or the time of 1 s. -/
def doJoinFailed (s : State) (cond : Nat) : State :=
  if s.pair.st = 1 || (s.pair.st = 4 && portsUp s ≠ 0) then joinFails s cond ((s.pair.peer.map (·.uid.toNat)).getD 0) else s

/-- The unit is lost: spanning paddocks fault, and paddocks of the other half become mirror entries (R567, R579). -/
def split (s : State) (cause : Nat) : State :=
  let all := (s.pads.filter (fun e => e.2.state ≠ .empty || e.2.pend.isSome)).map (·.1)
  let both := all.filter (spans s)
  let away := all.filter (elsewhere s)
  let s := logDev { s with pair.st := 4, pair.mirrorOut := [] } 0x0E06 (if both.isEmpty && away.isEmpty then 0 else 3) [cause, portsUp s]
  let s := faultPads s (both ++ away) 0x0E03
  { s with pair.mirrorEntries := away }

/-- PAIR_LOST. -/
def doPairLost (s : State) (cause : Nat) : State := if paired s then split s cause else s

/-- PAIR_HEARTBEAT: a frame on VC5 of the pair ports (R565). -/
def doPairHeartbeat (s : State) : State := if s.pair.st ≠ 0 && portsUp s ≠ 0 then emit s (.pair 0 0 0 0) else s

/-- MIRROR_REQUEST at the secondary: it carries the command out and acknowledges it; a repeated request is only acknowledged,
and one whose frame is broken is ignored. -/
def doMirrorRequest (s : State) (n p cmd : Nat) (ok : Bool) : State :=
  if !paired s || !secondHalf s || !ok then s
  else if n < s.pair.mirrorNext then emit s (.pair 2 n p cmd)
  else match doPaddockControl s p cmd with
    | (t, some 0) =>
      if (pad t p).pend.isSome || (pad t p).result = 0 then emit { t with pair.mirrorNext := n + 1 } (.pair 2 n p cmd) else t
    | _ => s

/-- MIRROR_ACK at the primary: the command goes on (R576). -/
def doMirrorAck (s : State) (n : Nat) : State :=
  match s.pair.mirrorOut.find? (fun m => m.1 = n) with
  | none => s
  | some m =>
    let s := { s with pair.mirrorOut := s.pair.mirrorOut.filter (fun x => x.1 ≠ n) }
    if m.2.2 = 3 then (if (pad s m.2.1).state = .opened then startDrain s m.2.1 else s) else pendStep s m.2.1

/-- MIRROR_RESEND: 100 µs without an acknowledgement. -/
def doMirrorResend (s : State) (n : Nat) : State :=
  match s.pair.mirrorOut.find? (fun m => m.1 = n) with
  | none => s
  | some m => emit s (.pair 1 n m.2.1 m.2.2)

/-- A commit changed PAIR_ROLE (R567). -/
def applyPairRole (s : State) (role : Nat) : State :=
  if role = 0 then (if s.pair.st = 4 then { s with pair.st := 0 } else s)
  else if s.pair.st = 0 then { s with pair.st := 1 } else s

end Sys2Proof.Machine
end

