-- ==== Sys2Proof/Machine/Power.lean ====
section
/-! DEFINITION. Management, sensors and power: the sensor bus, the power cap, the throttle and the trip, the brake, power
states with their wake sequences, and the management Ethernet (R583 to R601, R536 to R540). -/

namespace Sys2Proof.Machine
open Sys2Proof

/-! ### The power cap and the sensor bus (R583 to R585, R589, R590) -/

/-- CAP_IN_FORCE, in W. -/
def capInForce (s : State) : Nat := if s.pow.sensorBus = 2 then 765 else getO s 0x2100 3

/-- Change something that the cap may follow; a change of the cap raises its source. -/
def withCap (s : State) (f : State → State) : State :=
  let t := f s
  if capInForce t = capInForce s then t else fire t 703

/-- SENSOR_POLL: the regulators' readings, and an entry for each fault bit; no poll while the bus recovers or has failed. -/
def doSensorPoll (s : State) (r : List (Nat × Nat × Nat)) (status : List (Nat × Nat)) : State :=
  if s.pow.sensorBus ≠ 0 then s
  else status.foldl (fun s e => (setBits 16 e.2).foldl (fun s b => logDev s 0x0C0A 0 [e.1, b]) s) { s with pow.readings := r }

/-- SENSOR_BUS_RECOVERY: the first attempt. -/
def doSensorBusRecovery (s : State) (high : Bool) : State :=
  if s.pow.sensorBus ≠ 0 then s
  else if high then s else { s with pow.sensorBus := 1, pow.sensorTries := 0 }

/-- SENSOR_BUS_RETRY: after the third the bus has failed. -/
def doSensorBusRetry (s : State) (high : Bool) : State :=
  if s.pow.sensorBus ≠ 1 then s
  else if high then { s with pow.sensorBus := 0, pow.sensorTries := 0 }
  else if s.pow.sensorTries < 2 then { s with pow.sensorTries := s.pow.sensorTries + 1 }
  else withCap s (fun s => fire (logDev { s with pow.sensorBus := 2, pow.sensorTries := 0 } 0x0C07 0 []) 701)

/-- SENSOR_BUS_PERIODIC_RECOVERY: a success brings the bus and the cap back. -/
def doSensorBusPeriodicRecovery (s : State) (high : Bool) : State :=
  if s.pow.sensorBus ≠ 2 then s
  else
    let n := s.pow.sensorTries + 1
    if high then withCap s (fun s => fire (logDev { s with pow.sensorBus := 0, pow.sensorTries := 0 } 0x0C06 1 [n]) 702)
    else { s with pow.sensorTries := n }

/-- CAP_TICK with the module power in mW: one round of the power manager (R589, R590). -/
def doCapTick (s : State) (mw : Nat) : State :=
  let s := { s with pow.modulePower := mw }
  let cap := 1000 * capInForce s
  let above := cap < mw
  let misses := if s.pow.duty = 0 && above then s.pow.capMisses + 1 else 0
  let s := { s with pow.capMisses := misses }
  let s := if misses = 10 then logDev s 0x0C08 0 [mw, cap / 1000] else s
  if s.pow.brake.isSome || s.pow.st = 4 then s
  else if above || s.pow.throttle then
    (if 1200 < s.pow.freqMhz then { s with pow.freqMhz := max (s.pow.freqMhz - 100) 1200 } else { s with pow.duty := s.pow.duty - 1 })
  else if mw + 10000 < cap then
    (if s.pow.duty < 16 then { s with pow.duty := s.pow.duty + 1 }
     else { s with pow.freqMhz := min (s.pow.freqMhz + 25) (getO s 0x1800 1) })
  else s

/-! ### Heat (R591 to R593) -/

/-- A sensor's reading in m°C. -/
def tempOf (s : State) (k : Nat) : Int := toSigned 32 (Tbl.get s.pow.temps k)

/-- Does any sensor read a temperature or more? -/
def anyAt (s : State) (t : Int) : Bool := (List.range 64).any (fun k => t ≤ tempOf s k)

/-- THERMAL_THRESHOLD: the throttle begins at 100 °C and ends when every sensor reads below 97 °C. -/
def doThermalThreshold (s : State) (k mdeg : Nat) : State :=
  let s := fire { s with pow.temps := Tbl.set s.pow.temps k mdeg } (608 + k)
  if !s.pow.throttle && (100000 : Int) ≤ tempOf s k then fire (logDev { s with pow.throttle := true } 0x0C04 0 [k, mdeg]) 699
  else if s.pow.throttle && !anyAt s 97000 then { s with pow.throttle := false }
  else s

/-- Every module of both sides is down. -/
def tpDown (s : State) : State := (List.range 24).foldl (fun s m => if (tpm s m).up then updTpm s m (fun k => { k with up := false, replay := [] }) else s) s

/-- Islands other than AON, MGT and SEC. -/
def outerIslands : List Nat := (List.range 39).drop 3

/-- THERMAL_TRIP: AON isolates every island other than AON, MGT and SEC and holds it in reset. -/
def doThermalTrip (s : State) (k : Nat) : State :=
  if s.pow.st = 4 then s
  else
    let hot := if tempOf s k < 115000 then 115000 else Tbl.get s.pow.temps k
    let s := { s with pow.temps := Tbl.set s.pow.temps k hot, sys.alertLow := true, pow.st := 4 }
    let s := fire (emit s (.alertN true)) 700
    let s := (outerIslands.filter (fun i => !islandOut s i)).foldl (fun s i =>
      islandLost { s with flt.state := Tbl.set s.flt.state i 2, flt.wedged := s.flt.wedged.filter (· ≠ i) } i) s
    logDev (tpDown s) 0x0C05 3 [k]

/-! ### Brownout (R594 to R597) -/

/-- BROWNOUT_WARNING: the brake engages, or an episode goes on with another reading. -/
def doBrownoutWarning (s : State) (rail mv : Nat) : State :=
  let s := fire { s with pow.volts := Tbl.set s.pow.volts rail mv } (672 + rail)
  match s.pow.brake with
  | some (r, m) => { s with pow.brake := some (if mv < m then (rail, mv) else (r, m)) }
  | none => fire (fire { s with store.running := (nextOp s).isSome, pow.brake := some (rail, mv), pow.brownouts := (s.pow.brownouts + 1) % 2 ^ 32 } 696) 698

/-- BRAKE_RELEASE with the lowest voltage and the duration of the episode. -/
def doBrakeRelease (s : State) (mv us : Nat) : State :=
  match s.pow.brake with
  | none => s
  | some (rail, m) =>
    let low := min m mv
    let s := { s with pow.brake := none, pow.brownoutLast := pack [(8, rail), (32, low), (24, us), (64, ns s)] }
    logDev (fire (startErase s) 697) 0x0C02 0 [rail, low, us]

/-! ### Power states (R586, R587) -/

/-- CAUSE of the RETRAIN_REQ that a device sends as it enters DOZE. -/
def dozeCause : Nat := 0x10

/-- An UP link turns its lanes off: it counts as down until the wake (R587). -/
def linkOff (s : State) (l : Nat) : State :=
  if (link s l).st = .up then updLink (setLState (sendBare s l (retrainCtl dozeCause)) l .retrain) l (fun k => { k with rebound := true })
  else s

/-- Every link, and every pair port. -/
def allLinks : List Nat := List.range 68

/-- Entry to DOZE. Fabric time holds over, since no link carries its packets. -/
def enterDoze (s : State) : State :=
  let s := { s with pow.st := 2 }
  let up := allLinks.filter (fun l => (link s l).st = .up)
  let s := up.foldl linkOff s
  let s := up.foldl rebind s
  if s.ftm.st = 2 then stopInjection (fire { (setTime s 3) with ftm.uLast := s.ftm.u, ftm.heldFrom := ns s } 705) else s

/-- Entry to SLEEP: only AON, MGT and SEC keep their supplies, and what the others held is gone. -/
def enterSleep (s : State) : State :=
  let s := outerIslands.foldl islandLost s
  let s := tpDown { s with pow.st := 3, tp.manifests := [], tp.outst := [], flt.wedged := [] }
  { s with
    flt.state := outerIslands.foldl (fun t i => Tbl.set t i 4) s.flt.state,
    rick.cells := [], rick.lineKey := [], rick.poisoned := [], rick.granuleKeys := [], com.free := 0, com.zeroising := [],
    com.repairing := [], log.geq := [], pads := s.pads.map (fun e => (e.1, { e.2 with trace := [], traceFirst := e.2.traceFirst + e.2.trace.length, winPages := [] })),
    obj.live := Tbl.set s.obj.live (okey 0x1500 1) 0 }

/-- The device runs again after DOZE; its links lock again as from RETRAIN. -/
def wakeDoze (s : State) : State := if s.pow.st = 2 then { s with pow.st := 0 } else s

/-- The device runs again after SLEEP: the islands return, the rick is zeroised, links train, and time is UNSYNC. -/
def wakeSleep (s : State) : State :=
  if s.pow.st = 3 then
    let s := setO s 0x1500 1 1
    applyTimeRole { s with pow.st := 0, com.zeroising := zeroOrder,
                           flt.state := outerIslands.foldl (fun t i => Tbl.set t i 0) s.flt.state } (cfg s 0x1700 4)
  else s

/-- POWER_STATE_SET 0: it does nothing in RUN and IDLE; another state is left by its own wake alone. -/
def doPowerStateSetRun (s : State) : State × Option Nat := if s.pow.st ≤ 1 then (s, some 0) else (s, some 0x0C01)

/-- POWER_STATE_SET 2. -/
def doPowerStateSetDoze (s : State) : State × Option Nat :=
  if 2 < s.pow.st || s.cmd.live.any (fun e => !e.2.inner) || s.pads.any (fun e => e.2.state = .draining) then (s, some 0x0C01)
  else if s.pow.st = 2 then (s, some 0)
  else (enterDoze s, some 0)

/-- POWER_STATE_SET 3. -/
def doPowerStateSetSleep (s : State) : State × Option Nat :=
  if s.pow.st = 4 || !(notEmpty s).isEmpty then (s, some 0x0C01)
  else if s.pow.st = 3 then (s, some 0)
  else (enterSleep s, some 0)

/-- Has a tussock queued work? -/
def arrayBusy (s : State) : Bool :=
  s.cmd.live.any (fun e => match e.2.run with
    | some r => !r.opened.isEmpty
    | none => e.2.phase = .started && onTussocks (dOpcode e.2.desc))

/-- IDLE_ENTRY. -/
def doIdleEntry (s : State) : State := if s.pow.st = 0 && !arrayBusy s then { s with pow.st := 1 } else s

/-! ### Management Ethernet (R598 to R601) -/

/-- Addresses that the MAC accepts, beside broadcast. -/
def unicast (s : State) : List Nat := ((List.range 4).map (fun k => cfg s 0x2110 (k + 1))).filter (· ≠ 0)

/-- The ones' complement checksum of an Internet header, over 16-bit words. -/
def inetSum (bs : Bytes) : Nat :=
  let t := ((chunksOf 2 (bs.length + 1) bs).map (fun w => beNat (fit 2 w))).foldl (· + ·) 0
  let t := t % 65536 + t / 65536
  65535 - (t % 65536 + t / 65536)

/-- The answer of Mbomon to a frame after its destination: ARP requests and ICMP echoes for the static address
(PRESUMED, log 30: the public formats of ARP, IPv4 and ICMP). -/
def ethAnswer (s : State) (body : Bytes) : Option Bytes :=
  let ip := cfg s 0x2111 1
  let mac := beBytes 6 ((unicast s).headD 0)
  let peer := body.take 6
  let d := body.drop 8
  if ip = 0 || (unicast s).isEmpty then none
  else if beNat ((body.drop 6).take 2) = 0x0806 then
    (if beNat (d.take 8) = 0x0001080006040001 && beNat ((d.drop 24).take 4) = ip then
      some (peer ++ mac ++ beBytes 2 0x0806 ++ beBytes 8 0x0001080006040002 ++ mac ++ beBytes 4 ip ++ (d.drop 8).take 10)
    else none)
  else if beNat ((body.drop 6).take 2) = 0x0800 && beNat (d.take 1) = 0x45 && beNat ((d.drop 9).take 1) = 1 &&
      beNat ((d.drop 16).take 4) = ip && beNat ((d.drop 20).take 1) = 8 then
    let n := beNat ((d.drop 2).take 2)
    let icmp := [0#8, 0#8] ++ [0#8, 0#8] ++ ((d.take n).drop 24)
    let icmp := [0#8, 0#8] ++ beBytes 2 (inetSum icmp) ++ icmp.drop 4
    let head := d.take 10 ++ [0#8, 0#8] ++ beBytes 4 ip ++ (d.drop 12).take 4
    let head := d.take 10 ++ beBytes 2 (inetSum head) ++ head.drop 12
    some (peer ++ mac ++ beBytes 2 0x0800 ++ head ++ icmp)
  else none

/-- ETH_FRAME: an error sets its sticky bit; a good frame for a listed or the broadcast address is served. -/
def doEthFrame (s : State) (dst : Nat) (body : Bytes) (errors : Nat) : State :=
  if errors ≠ 0 then { s with pow.ethStats := join s.pow.ethStats (errors % 128) }
  else if dst = 2 ^ 48 - 1 || (unicast s).contains dst then
    (match ethAnswer s body with | some a => emit s (.eth a) | none => s)
  else s

/-- PAUSE_WATCHDOG. -/
def doPauseWatchdog (s : State) : State :=
  fire (logDev { s with pow.ethStats := join s.pow.ethStats 128 } 0x0C09 0 []) 849

/-- ETH_STATS_CLEAR. -/
def doEthStatsClear (s : State) (v : Nat) : State × Option Nat := ({ s with pow.ethStats := less s.pow.ethStats v }, some 0)

/-- ETH_LINK_CHANGE: the PHY's report; a fixed ETH_MODE stands while the link is up. -/
def doEthLinkChange (s : State) (v : Nat) : State :=
  if 4 < v then s
  else
    let mode := cfg s 0x2111 3
    fire { s with pow.ethLink := if v ≠ 0 && mode ≠ 0 then mode else v } 848

/-- SENSOR_BUS_ALERT. -/
def doSensorBusAlert (s : State) : State := fire s 852

end Sys2Proof.Machine
end

