-- ==== Sys2Proof/Machine/Events.lean ====
section
/-! DEFINITION. The Event Router and the Lark: target registers, raises, hold-off, wake inputs and the wakes they start (R520 to
R540). -/

namespace Sys2Proof.Machine
open Sys2Proof

/-- EVENT_TARGET_WRITE: the written value replaces all 32 bits (R530). -/
def doEventTargetWrite (s : State) (src : Nat) (ten : Bool) (v : Nat) : State × Option Nat :=
  if targetBad s src ten v then (s, some 0x0106) else ({ s with ev.targets := Tbl.set s.ev.targets src v }, some 0)

/-- EVENT_RAISE (R532). -/
def doEventRaise (s : State) (v : Nat) : State × Option Nat := (raise s v, some 0)

/-- EVENT_RAISE of a paddock's own source. -/
def doPaddockEventRaise (s : State) (p k : Nat) : State × Option Nat := (raise s (8 * p + k), some 0)

/-- A hold-off timer expires; what it held delivers together, and starts it again (R528). -/
def doHoldoffExpiry (s : State) (g : Nat) (dst : Target) : State :=
  { s with ev.holdoffs := s.ev.holdoffs.filter (fun e => e ≠ (g, dst)) }

/-- The wake that a fired slot starts (R537). -/
def wakeBy (s : State) (k : Nat) : State :=
  if s.pow.st = 2 || s.pow.st = 3 then wakeSleep (wakeDoze { s with ev.larkLast := k }) else s

/-- LARK_FIRE: an armed slot whose input can fire in this state. -/
def doLarkFire (s : State) (k : Nat) : State :=
  let t := Tbl.get s.ev.lark k
  if bit t 31 && bits t 29 28 ≠ 3 && larkMatch s (bits t 29 28) (bits t 27 18) t then
    wakeBy { s with ev.lark := Tbl.set s.ev.lark k (putBit t 30 true) } k
  else s

/-- WAKE_TIMER has counted down to zero. -/
def doWakeTimerExpiry (s : State) : State := larkSee (setO s 0x1E00 4 0) 2 0

/-- A pin shows its enabled edge. -/
def doGpioEdge (s : State) (pin : Nat) : State := larkSee (fire s (832 + pin)) 1 pin

/-- The wake of slots that fired in this command. -/
def larkWake (s : State) : State :=
  match s.ev.wake with
  | none => s
  | some k => wakeBy { s with ev.wake := none } k

/-- A doorbell or a GO starts the wake from DOZE without a slot (R539). -/
def touched (s : State) : State := wakeDoze s

end Sys2Proof.Machine
end

