-- ==== Sys2Proof/Machine/Store.lean ====
section
/-! DEFINITION. The persistent store: blocks, defects and wear, programs and erases, flash mowing, and the firmware update
(R603 to R624). -/

namespace Sys2Proof.Machine
open Sys2Proof

/-! ### Blocks (R603, R611) -/

/-- FLASH_BLOCKS of the fitted device. -/
def flashBlocks : Nat := 1024 * 2 ^ (Config.flashSize % 4)

/-- Logical blocks of the mapped regions: slots A and B, version store, state, Cairn, meter journal. -/
def logicalBlocks : Nat := 714
/-- First logical block of each region. -/
def cairnBase : Nat := 176
def meterBase : Nat := 194

/-- The physical block of a logical one. -/
def phys (s : State) (l : Nat) : Nat := (Tbl.find s.store.map l).getD (68 + l)

/-- The logical block that a physical block holds, if any. -/
def logicalOf (s : State) (b : Nat) : Option Nat :=
  match s.store.map.find? (fun e => e.2 = b) with
  | some e => some e.1
  | none => if 68 ≤ b && b < 68 + logicalBlocks && !Tbl.has s.store.map (b - 68) then some (b - 68) else none

/-- Is a block bad? -/
def badBlock (s : State) (b : Nat) : Bool := s.store.factoryBad.contains b || s.store.grownBad.contains b

/-- The spare pool: blocks that no region uses, neither bad nor waiting for an erase. -/
def spares (s : State) : List Nat :=
  ((List.range flashBlocks).drop 68).filter (fun b =>
    (logicalOf s b).isNone && !badBlock s b && !s.store.eraseOpen.contains b && !s.store.work.contains (.erase b))

/-- Erase count of a block. -/
def erases (s : State) (b : Nat) : Nat := Tbl.get s.store.erases b

/-- The block with the lowest erase count, or with the highest. -/
def leastErased (s : State) (l : List Nat) : Option Nat :=
  l.foldl (fun a b => match a with | none => some b | some c => if erases s b < erases s c then some b else a) none
def mostErased (s : State) (l : List Nat) : Option Nat :=
  l.foldl (fun a b => match a with | none => some b | some c => if erases s c < erases s b then some b else a) none

/-- The mapped blocks. -/
def mappedBlocks (s : State) : List Nat := (List.range logicalBlocks).map (phys s)

/-- Map a logical block to a physical one; the record comes first (R614). -/
def remap (s : State) (l b : Nat) : State :=
  let s := journal s 6 [l, b]
  { s with store.map := Tbl.set s.store.map l b }

/-- Give a logical block a spare block; a pool that falls below 16 is logged, an empty one makes the store read-only
(R610, R613). -/
def relocate (s : State) (l : Nat) : State :=
  let pool := spares s
  match leastErased s pool with
  | none => if s.store.readOnly then s else logDev { s with store.readOnly := true } 0x0D07 3 []
  | some b =>
    let s := remap s l b
    if pool.length = 16 then logDev s 0x0D06 0 [15] else s

/-- Causes of a GROWN_BAD record: a program failed, an erase failed, a sector is uncorrectable, a blank check failed. -/
def badProgram : Nat := 0
def badErase : Nat := 1
def badSector : Nat := 2
def badBlank : Nat := 3

/-- Mark a block grown-bad, and give what it held a spare block; a fixed block has none (R607, R611). -/
def retire (s : State) (b cause : Nat) : State :=
  if badBlock s b then s
  else
    let held := logicalOf s b
    let s := journal s 5 [b, cause]
    let s := { s with store.grownBad := b :: s.store.grownBad, store.eraseOpen := s.store.eraseOpen.filter (· ≠ b),
                      store.work := s.store.work.filter (fun w => w ≠ .erase b) }
    let s := fire (logDev s 0x0D04 3 [b, cause]) 746
    match held with
    | some l => relocate s l
    | none => s

/-- Move the contents of the least-erased mapped block into the most-erased free one when counts differ by more than 500 (R610). -/
def levelWear (s : State) : State :=
  let used := mappedBlocks s
  match leastErased s used, mostErased s used, mostErased s (spares s) with
  | some a, some c, some b =>
    (match logicalOf s a with
     | some l => if 500 < erases s c - erases s a then startErase (flash (remap s l b) (.erase a)) else s
     | none => s)
  | _, _, _ => s

/-! ### Programs and erases (R614, R618) -/

/-- The block that an operation programs. -/
def opBlock (s : State) : FlashOp → Nat
  | .cairn e => phys s (cairnBase + e.seq / 2048 % 10)
  | .snapshot .. => phys s (meterBase + (s.acct.meterJournal.length + s.acct.journalLost) / 256 % 520)
  | .dump => phys s (cairnBase + 10 + 2 * s.log.frozen.getD 0)
  | .fw k off _ => phys s (64 * k + off / 131072)
  | .boot c .. => c
  | .check .. => 0
  | .erase b => b

/-- Entries that the Cairn's ring holds, and snapshots that the meter journal holds. -/
def cairnRoom : Nat := 16384
def meterRoom : Nat := 131072

/-- Erase a block before any other work. -/
def eraseFirst (s : State) (b : Nat) : State := { s with store.work := .erase b :: s.store.work }

/-- The ring's next block is erased once the last entry of a block is written, from the second round on. -/
def reuseCairn (s : State) (seq : Nat) : State :=
  let n := seq + 1
  if n % 2048 = 0 && 10 * 2048 ≤ n then eraseFirst s (phys s (cairnBase + n / 2048 % 10)) else s

/-- The same for the meter journal. -/
def reuseMeter (s : State) : State :=
  let n := s.acct.meterJournal.length + s.acct.journalLost
  if n % 256 = 0 && 520 * 256 ≤ n then eraseFirst s (phys s (meterBase + n / 256 % 520)) else s

/-- Append an entry to the Cairn; a full ring loses its oldest (R560). -/
def cairnWritten (s : State) (e : Entry) : State :=
  if s.log.cairn.length < cairnRoom then { s with log.cairn := s.log.cairn ++ [e] }
  else logDev { s with log.cairn := s.log.cairn.drop 1 ++ [e] } 0x012A 0 [(s.log.cairn.headD default).seq]

/-- Append a snapshot to the meter journal; it is published next (R481). -/
def snapshotWritten (s : State) (p : Nat) (rcd : Bytes) : State :=
  let s := { s with acct.snapWork := s.acct.snapWork ++ [(p, rcd)] }
  let n := bits (beNat rcd) 3935 3904
  match s.acct.meterJournal with
  | [] => { s with acct.meterJournal := [(p, n, rcd)] }
  | o :: rest =>
    if s.acct.meterJournal.length < meterRoom then { s with acct.meterJournal := s.acct.meterJournal ++ [(p, n, rcd)] }
    else logDev { s with acct.meterJournal := rest ++ [(p, n, rcd)], acct.journalLost := (s.acct.journalLost + 1) % 2 ^ 32 }
      0x0324 0 [o.1, o.2.1]

/-- Set a slot's state, journaled as an update step. -/
def setSlot (s : State) (k st : Nat) : State :=
  let s := journal s 9 [k, st]
  fire { s with store.slots := s.store.slots.set k st } 745

/-- The image in a slot is checked: READY, or FAILED with 0x0D09 (R622). -/
def checked (s : State) (k len : Nat) (ok : Bool) (path : Path) (tag : Tag) : State :=
  if ok then respond (setSlot s k 2) path tag 2 0x2202 4 0 []
  else respond (logDev (setSlot s k 5) 0x0D09 2 [k, len]) path tag 2 0x2202 4 0x0D09 []

/-- One copy of the boot record is rewritten; after copy 0 the command ends (R612). -/
def bootWritten (s : State) (c gen a b : Nat) (path : Path) (tag : Tag) (sub : Nat) : State :=
  let s := { s with store.copies := s.store.copies.set c (gen, a, b) }
  let s := if s.store.slots = [a, b] then s else fire { s with store.slots := [a, b] } 745
  if c = 0 then respond s path tag 2 0x2202 sub 0 [] else s

/-- Image checks at the head of the queue need no program: they run as they are reached. -/
def runChecks : Nat → State → State
  | 0, s => s
  | n + 1, s =>
    match nextOp s with
    | some (.check k len ok path tag) => runChecks n (checked { s with store.work := s.store.work.erase (.check k len ok path tag) } k len ok path tag)
    | _ => s

/-- What comes next on the Quad-SPI port. -/
def goOn (s : State) : State := startErase (runChecks s.store.work.length s)

/-- Take an operation out of the queue; under the brake none follows it. -/
def popOp (s : State) (w : FlashOp) : State := { s with store.work := s.store.work.erase w, store.running := false }

/-- A program ends: the data takes effect, or the block is retired and the program goes to another. A copy of the boot record
has no other block, and is left out. The sectors of a dump end with DUMP_WRITTEN. -/
def programDone (s : State) (w : FlashOp) (ok : Bool) : State :=
    match w with
    | .erase _ | .check .. => s
    | .dump => if ok then s else goOn (retire s (opBlock s w) badProgram)
    | .boot c gen a b path tag sub =>
      if ok then goOn (bootWritten (popOp s w) c gen a b path tag sub)
      else
        let s := retire (popOp s w) c badProgram
        goOn (if c = 0 then respond s path tag 2 0x2202 sub 0 [] else s)
    | .cairn e => if ok then goOn (reuseCairn (cairnWritten (popOp s w) e) e.seq) else goOn (retire s (opBlock s w) badProgram)
    | .snapshot p rcd => if ok then goOn (reuseMeter (snapshotWritten (popOp s w) p rcd)) else goOn (retire s (opBlock s w) badProgram)
    | .fw k off data =>
      if ok then
        let s := popOp s w
        goOn { s with store.images := s.store.images.filter (fun e => (e.1, e.2.1) ≠ (k, off)) ++ [(k, off, data)] }
      else goOn (retire s (opBlock s w) badProgram)

/-- FLASH_PROGRAM_DONE of the operation in progress. -/
def doFlashProgramDone (s : State) (ok : Bool) : State :=
  match nextOp s with
  | none | some (.erase _) | some (.check ..) => s
  | some w => programDone (fire s 853) w ok

/-- FLASH_ERASE_DONE: an erase that passed its blank check is journaled with its new count; otherwise the block is retired. -/
def doFlashEraseDone (s : State) (ok blank : Bool) : State :=
  match nextOp s with
  | some (.erase b) =>
    let s := popOp (fire s 853) (.erase b)
    if ok && blank then
      let s := journal s 4 [b, erases s b + 1]
      let s := { s with store.erases := Tbl.set s.store.erases b (erases s b + 1), store.eraseOpen := s.store.eraseOpen.filter (· ≠ b) }
      goOn (levelWear s)
    else goOn (retire s b (if ok then badBlank else badErase))
  | _ => s

/-- FLASH_MOW of a sector, with the bits corrected in it: it yields to every other operation (R608, R609). -/
def doFlashMow (s : State) (block corrected : Nat) (readable : Bool) : State :=
  if s.store.work ≠ [] || flashBlocks ≤ block || badBlock s block || s.store.eraseOpen.contains block || islandOut s 1 then s
  else if !readable then retire (logDev s 0x0D03 0 [block]) block badSector
  else
    let s := addO s 0x2200 0x0C corrected 64
    if corrected < 6 then s
    else
      let s := logDev s 0x0D02 1 [block, corrected]
      match logicalOf s block with
      | none => s
      | some l =>
        let t := relocate s l
        if phys t l = block then t else startErase (flash t (.erase block))

/-! ### Firmware update (R622 to R624) -/

/-- The slot that is not running. -/
def otherSlot (s : State) : Nat := 1 - s.sys.bootSlot
/-- State of a slot. -/
def slotState (s : State) (k : Nat) : Nat := s.store.slots.getD k 0

/-- FW_BEGIN: the inactive slot is erased and WRITING. -/
def doFwBegin (s : State) : State × Option Nat :=
  let k := otherSlot s
  if slotState s k ≠ 0 && slotState s k ≠ 2 && slotState s k ≠ 5 then (s, some 0x0D0B)
  else
    let s := setSlot { s with store.images := s.store.images.filter (fun e => e.1 ≠ k) } k 1
    let s := ((List.range 64).map (fun i => phys s (64 * k + i))).foldl (fun s b => flash s (.erase b)) s
    (startErase s, some 0)

/-- Bytes of a slot. -/
def slotBytes : Nat := 8388608

/-- FW_DATA: 1,024 B at FW_OFFSET, which advances. -/
def doFwData (s : State) (data : Bytes) : State × Option Nat :=
  let k := otherSlot s
  let off := getO s 0x2202 2
  if slotState s k ≠ 1 then (s, some 0x0D0B)
  else if slotBytes < off + 1024 then (s, some 0x0106)
  else (flash (setO s 0x2202 2 (off + 1024)) (.fw k off data), some 0)

/-- FW_FINISH: the image is read back once its last program is done. -/
def doFwFinish (s : State) (len : Nat) (f : Facts) (path : Path) (tag : Tag) : State × Option Nat :=
  let k := otherSlot s
  if slotState s k ≠ 1 then (s, some 0x0D0B) else (goOn (flash s (.check k len f.sigOk path tag)), none)

/-- The highest GENERATION of the copies. -/
def bootGen (s : State) : Nat := s.store.copies.foldl (fun m e => max m e.1) 0

/-- Rewrite the boot record, copies 3, 2, 1, 0, each erased first (R612). -/
def rewriteBoot (s : State) (a b : Nat) (path : Path) (tag : Tag) (sub : Nat) : State :=
  let gen := bootGen s + 1
  let s := ([3, 2, 1, 0].filter (fun c => !badBlock s c)).foldl (fun s c => flash (flash s (.erase c)) (.boot c gen a b path tag sub)) s
  startErase s

/-- FW_ACTIVATE: a READY slot becomes TRIAL, and AON counts its boots from 0. -/
def doFwActivate (s : State) (path : Path) (tag : Tag) : State × Option Nat :=
  let k := otherSlot s
  if slotState s k ≠ 2 then (s, some 0x0D0B)
  else
    let l := s.store.slots.set k 3
    (rewriteBoot { s with store.trials := 0 } (l.getD 0 0) (l.getD 1 0) path tag 5, none)

/-- FW_CONFIRM: the TRIAL slot that runs becomes ACTIVE, the previous ACTIVE slot READY. -/
def doFwConfirm (s : State) (path : Path) (tag : Tag) : State × Option Nat :=
  let k := s.sys.bootSlot
  if slotState s k ≠ 3 then (s, some 0x0D0B)
  else
    let l := s.store.slots.set k 4
    let l := if slotState s (1 - k) = 4 then l.set (1 - k) 2 else l
    (rewriteBoot s (l.getD 0 0) (l.getD 1 0) path tag 6, none)

end Sys2Proof.Machine
end

