-- ==== Sys2Proof/Machine/Observe.lean ====
section
/-! DEFINITION. Observation: the counters and their latch, sampling, trace marks and the trace mirror (R625 to R640), and what
every object reads as. -/

namespace Sys2Proof.Machine
open Sys2Proof

/-! ### Counters (R627, R628) -/

/-- A free number: a count of events that lie below this model (log 31). -/
def freeNat (s : State) (k : Nat) : Nat := Config.freeChoice (64 * s.fresh + k)

/-- Row r of a counter table of paddock p: misses, walks and stale walks of the micro-TLBs and walkers are free counts. -/
def counterRow (s : State) (p off r : Nat) : Nat :=
  if off = 0x41 && r ≤ 4 then freeNat s r % 2 ^ 64 else getP s p off r

/-- The rows of a counter table, row 1 highest. -/
def counterRows (s : State) (p off n : Nat) : List (Nat × Nat) := (List.range n).map (fun k => (64, counterRow s p off (k + 1)))

/-- LATCHED of paddock p at this instant (*LATCHED, 344 bytes*). -/
def latchedBytes (s : State) (p : Nat) : Bytes :=
  beBytes 344 (pack ((64, ns s) :: (counterRows s p 0x30 13 ++ counterRows s p 0x31 5 ++ counterRows s p 0x41 7 ++
    counterRows s p 0x53 9 ++ counterRows s p 0x80 8)))

/-- COUNTER_LATCH. -/
def doCounterLatch (s : State) (p : Nat) : State × Option Nat :=
  (fresh1 (updPad s p (fun d => { d with latched := latchedBytes s p })), some 0)

/-- Does a value of SAMPLE_SET name a row of a counter table (R628)? -/
def sampleOk (v : Nat) : Bool :=
  let r := v % 256
  1 ≤ r && ((v / 256 = 0x30 && r ≤ 13) || (v / 256 = 0x31 && r ≤ 5) || (v / 256 = 0x41 && r ≤ 7) || (v / 256 = 0x53 && r ≤ 9) ||
    (v / 256 = 0x80 && r ≤ 8))

/-! ### Sampling (R635, R636) -/

/-- One COUNTER_SAMPLE record of paddock p. -/
def counterSample (s : State) (p : Nat) : State :=
  let vals := (List.range 5).map (fun k =>
    let v := getP s p 0x83 (k + 1)
    (64, counterRow s p (v / 256) (v % 256)))
  putTrace s p (traceRecord s 1 p 0 0 0 0 0 (pack vals))

/-- SAMPLE_PERIOD_TICK. -/
def doSamplePeriodTick (s : State) : State :=
  fresh1 ((notEmpty s).foldl (fun s p => if bit (getP s p 0x82 1) 0 then counterSample s p else s) s)

/-- The paddock that holds bundle b, or tussock k. -/
def bundleOwner (s : State) (b : Nat) : Option Nat := (s.pads.find? (fun e => bit e.2.bundles b)).map (·.1)
def tussockOwner (s : State) (k : Nat) : Option Nat := (s.pads.find? (fun e => bit e.2.tussocks k)).map (·.1)

/-- The command that thread t is bound to. -/
def threadCmd (s : State) (t : Nat) : Option Cmd := (s.cmd.live.find? (fun e => e.2.thread = t || e.2.threads.contains t)).map (·.2)

/-- A PC record of kind k and payload, with the fields of a command where there is one. -/
def pcRecord (s : State) (kind p : Nat) (c : Option Cmd) (payload : Nat) : Bytes :=
  match c with
  | none => traceRecord s kind p 0 0 0 0 0 payload
  | some c => traceRecord s kind p c.ctx c.epoch (dId c.desc) (dLayer c.desc) (dOper c.desc) payload

/-- Engine e inspects thread k mod 256: its PC, and the state of a bound thread, are free (log 31). -/
def inspectThread (s : State) (k e : Nat) : State :=
  let t := 256 * e + k % 256
  match bundleOwner s (t / 16) with
  | none => s
  | some p =>
    if !bit (getP s p 0x82 1) 1 then s
    else
      let c := threadCmd s t
      let st := if c.isNone then 0 else 1 + freeNat s (2 * e + 1) % 13
      putTrace s p (pcRecord s 2 p c (pack [(4, e), (8, k % 256), (16, freeNat s (2 * e)), (4, st), (8, (c.map (fun c => dOpcode c.desc)).getD 0), (280, 0)]))

/-- The running program with an open tile on tussock k, and the tile. -/
def tileOn (s : State) (k : Nat) : Option (Cmd × Run × Nat × Nat × Nat × Nat) :=
  s.cmd.live.findSome? (fun e => match e.2.run with
    | some r => (r.opened.find? (fun o => o.2.2.2 = k)).map (fun o => (e.2, r, o))
    | none => none)

/-- SWDi inspects tussock 8i + (k mod 8): Idle without a tile; else its state and PC are free (log 31). -/
def inspectTussock (s : State) (k i : Nat) : State :=
  let t := 8 * i + k % 8
  match tussockOwner s t with
  | none => s
  | some p =>
    if !bit (getP s p 0x82 1) 2 then s
    else match tileOn s t with
      | none => putTrace s p (pcRecord s 3 p none (pack [(6, t), (12, 0), (4, if s.pow.st = 1 then 0 else 1), (298, 0)]))
      | some (c, r, o) =>
        putTrace s p (pcRecord s 3 p (some c) (pack [(6, t), (12, freeNat s (32 + 2 * i)), (4, 2 + freeNat s (33 + 2 * i) % 6), (10, r.instr),
          (32, o.1), (32, o.2.2.1), (224, 0)]))

/-- PC_PERIOD_TICK number k. -/
def doPcPeriodTick (s : State) (k : Nat) : State :=
  let s := (List.range 16).foldl (fun s e => inspectThread s k e) s
  fresh1 ((List.range 8).foldl (fun s i => inspectTussock s k i) s)

/-! ### Marks and the mirror (R632, R640) -/

/-- TRACE_MARK v. -/
def doTraceMark (s : State) (p v : Nat) : State × Option Nat := (putTrace s p (traceRecord s 7 p 0 0 0 0 0 (v * 2 ^ 288)), some 0)

/-- A write to TRACE_MIRROR_BASE: the mirror starts again at ring index 0, with the oldest record held. -/
def doTraceMirrorBase (s : State) (p v : Nat) : State × Option Nat :=
  (updPad (setP s p 0x82 6 v) p (fun d => { d with mirrorNext := d.traceFirst, mirrorRing := 0, traceFaulted := false }), some 0)

/-- Copy records while the mirror ring has room; a copy that faults stops the mirror. -/
def copyRecords (p : Nat) : Nat → State → State
  | 0, s => s
  | n + 1, s =>
    let d := pad s p
    let base := getP s p 0x82 6
    let log2 := getP s p 0x82 7
    match d.trace[d.mirrorNext - d.traceFirst]? with
    | none => s
    | some [] => copyRecords p n (updPad s p (fun d => { d with mirrorNext := d.mirrorNext + 1 }))
    | some rcd =>
      if 2 ^ log2 ≤ (d.mirrorRing + 2 ^ 32 - getP s p 0x82 8) % 2 ^ 32 then s
      else
        let va := base + 64 * (d.mirrorRing % 2 ^ log2)
        match accessAll s p va 64 true with
        | .error (.fault code level) =>
          let s := logPad (updPad s p (fun d => { d with traceFaulted := true })) p 0x0F02 0 [va]
          recFault s p va level true 0 code 0 0 0 0 0
        | .error _ => s
        | .ok pls =>
          if placesOpen s p pls then
            copyRecords p n (charge (updPad (putPlaces s p pls rcd) p (fun d =>
              { d with mirrorNext := d.mirrorNext + 1, mirrorRing := (d.mirrorRing + 1) % 2 ^ 32 })) p 4 64)
          else s

/-- TRACE_MIRROR_COPY. -/
def doTraceMirrorCopy (s : State) (p : Nat) : State :=
  if getP s p 0x82 6 = 0 || (pad s p).traceFaulted then s else copyRecords p (pad s p).trace.length s

/-! ### What objects read as -/

/-- A string as the bytes of its ASCII text. -/
def ascii (t : String) : Bytes := t.toList.map (fun c => BitVec.ofNat 8 c.toNat)

/-- One byte for each of 64 paddocks, islands or selectors; byte 0 first. -/
def bytes64 (f : Nat → Nat) : Bytes := (List.range 64).map (fun n => BitVec.ofNat 8 (f n))

/-- A mask of the numbers below n that satisfy a test. -/
def maskOf (n : Nat) (f : Nat → Bool) : Nat := (List.range n).foldl (fun a k => if f k then a + 2 ^ k else a) 0

/-- EPOCH_QUARANTINE in µs: twice the longest timeout in force, with those of requests still out (R111). -/
def epochQuarantine (s : State) : Nat :=
  let now := [getO s 0x1500 4, getO s 0x1400 6, getO s 0x1600 1]
  let old := s.host.outst.map (·.2.limit) ++ s.tp.outst.map (·.2.limit) ++ (s.net.qps.map (fun e => e.2.tx.map (·.limit))).flatten
  2 * (now ++ old).foldl max 0

/-- The first entry at or after a cursor, 64 zero bytes where there is none. -/
def entryFrom (l : List Entry) (cursor : Nat) (enc : Entry → Bytes) : Bytes :=
  match l.find? (fun e => cursor ≤ e.seq) with
  | some e => enc e
  | none => List.replicate 64 0

/-- SIDE_STATE of side A (0) or B (1). -/
def sideState (s : State) (side : Nat) : Nat :=
  let st := Tbl.get s.flt.state (4 + side)
  let mods := (List.range 12).map (· + 12 * side)
  if s.tp.sideBusy.contains side || st = 2 then 4
  else if st = 1 then 3
  else if st ≠ 0 then 0
  else if mods.any (fun m => (tpm s m).up) then 2
  else if mods.all (fun m => (tpm s m).failed) || s.sys.boot ≠ 3 then 0 else 1

/-- VF_STATES byte of VF n. -/
def vfState (s : State) (n : Nat) : Nat :=
  let f := func s (some (Fin.ofNat 64 n))
  if f.inReset then 3 else if !f.enabled then 0 else if f.master then 2 else 1

/-- State code of a QP (*Queue-pair states*), and QP_INFO of a queue pair of paddock p. -/
def qpInfo (s : State) (p n : Nat) : Nat :=
  if !Tbl.has s.net.qps n || qpPad n ≠ p then 0
  else
    let q := qp s n
    let live := (q.paths.zipIdx.filter (fun e => pathLive s q e.1)).foldl (fun a e => a + 2 ^ e.2) 0
    pack [(24, n), (4, q.st), (4, q.type), (13, q.node), (24, q.peer), (16, live), (16, q.tx.length + (q.rx.filter (!·.aborted)).length),
      (16, q.lastErr), (11, 0), (64, q.retx), (64, 0)]

/-- A row of VERSIONS: four kept versions, newest first, then the factory row (R659). -/
def versionRow (s : State) (k : Nat) : Nat :=
  if k = 5 then pack [(32, 0), (8, 5), (8, if s.obj.cvn = 0 then 2 else 1), (208, 0)]
  else match s.obj.versions[k - 1]? with
    | none => 0
    | some v => pack [(32, v.cvn), (8, v.source), (8, v.status), (16, 0), (32, v.from_), (32, v.check), (64, v.time), (32, v.path), (32, 0)]

/-- A row of DUMP_SLOTS. -/
def dumpRow (s : State) (k : Nat) : Nat :=
  let d := s.log.dumps.getD (k - 1) {}
  pack [(8, d.st), (8, d.cause), (16, d.code), (32, d.boot), (64, d.time), (32, d.len), (32, d.check), (64, 0)]

/-- Rows of the certificate chain. -/
def certRows : Nat := ceilDiv Config.certChain.length 1024

/-- A row of CERT_CHAIN. -/
def certRow (k : Nat) : Bytes := fit 1024 (Config.certChain.drop (1024 * (k - 1)))

/-- Manifest entries of die d in ascending LOT_ID. -/
def manifestRows (s : State) (d : Nat) : List Nat :=
  match Tbl.find s.tp.manifests d with
  | some m => m.entries.foldl (fun l e => l.takeWhile (fun x => bits x 255 224 < bits e 255 224) ++ [e] ++
      l.dropWhile (fun x => bits x 255 224 < bits e 255 224)) []
  | none => []

/-- Objects changed in the draft; a TAB counts once. -/
def draftDirty (s : State) : Nat :=
  let keys := (s.obj.draft ++ s.obj.committed).map (·.1)
  let changed := keys.filter (fun k => cfgDraft s (k / 256) (k % 256) ≠ cfg s (k / 256) (k % 256))
  (changed.map (fun k => match descOf (k / 256) (k % 256) with
    | some d => if d.tab then okey (k / 256) 0 else k
    | none => k)).eraseDups.length

/-- Current clock of the SWD islands, MHz: a quarter under the brake (R332). -/
def islandFreq (s : State) : Nat := if s.pow.brake.isSome then s.pow.freqMhz / 4 else s.pow.freqMhz

/-- SLOT_STATE, BOUNCE_KEYS and other numbers of paddock p. -/
def bounceKeys (s : State) (p : Nat) : Nat := b2n (pad s p).bounceH2d.isSome + 2 * b2n (pad s p).bounceD2h.isSome

/-- CTX_PRIORITY of the context that CONTEXT_SELECT names. -/
def ctxPriority (s : State) (p : Nat) : Nat := ((ctxOf s p (getP s p 0x50 5)).map (·.prio)).getD 0xFF

/-- 16 records of the selected share from the cursor; one not held reads as zero. -/
def traceRead (s : State) : Bytes :=
  let d := pad s (getO s 0x2300 3)
  let at_ := getO s 0x2300 4
  ((List.range 16).map (fun k => if at_ + k < d.traceFirst then fit 64 [] else fit 64 (d.trace.getD (at_ + k - d.traceFirst) []))).flatten

/-- JOURNAL_RECORD. -/
def journalRecord (s : State) : Option Bytes :=
  (s.acct.meterJournal.find? (fun e => e.1 = getO s 0x1C00 0x0A && e.2.1 = getO s 0x1C00 0x0B)).map (·.2.2)

/-- WAKE_TIMER between its write and its end: a count below the value written (log 31). -/
def wakeTimer (s : State) : Nat := if getO s 0x1E00 4 = 0 then 0 else 1 + freeNat s 0 % getO s 0x1E00 4

/-- Numbers that read-only objects outside the paddock blocks hold. -/
def readGlobal (s : State) (i sub : Nat) : Nat :=
  match i, sub with
  | 0x1000, 0x06 => Config.deviceUid.toNat
  | 0x1000, 0x07 => s.sys.firmware
  | 0x1000, 0x08 => s.sys.bootSlot
  | 0x1000, 0x09 => s.sys.securityVersion
  | 0x1000, 0x0B => s.sys.bootCount
  | 0x1000, 0x0C => s.sys.uptime
  | 0x1100, 0x01 => s.obj.cvn
  | 0x1100, 0x02 => b2n s.obj.cfgDefaulted
  | 0x1100, 0x03 => s.obj.cfgSource
  | 0x1100, 0x04 => (s.obj.draftOwner.map pathId).getD 0
  | 0x1100, 0x05 => draftDirty s
  | 0x1100, 0x07 => s.obj.lastResult
  | 0x1100, 0x0C => s.obj.cvnLast
  | 0x1101, k => versionRow s k
  | 0x1102, 0x04 => b2n s.obj.requireSigned
  | 0x1201, 0x01 => freeTussocks s
  | 0x1201, 0x02 => bits s.com.free 63 0
  | 0x1201, 0x03 => bits s.com.free 123 64
  | 0x1201, 0x08 => (freeCounts s).getD 0 0
  | 0x1201, 0x09 => (freeCounts s).getD 1 0
  | 0x1201, 0x0A => (freeCounts s).getD 2 0
  | 0x1201, 0x0B => (freeCounts s).getD 3 0
  | 0x1201, 0x0C => (freeCounts s).getD 4 0
  | 0x1201, 0x0D => (s.com.zeroising.filter (· < 124)).length
  | 0x1201, k => bits (freeBundles s) (64 * (k - 4) + 63) (64 * (k - 4))
  | 0x1300, 0x01 => s.log.geqNext
  | 0x1300, 0x04 => sumPads s (fun d => (d.ctxs.filter (fun c => c.2.slot.isSome)).length)
  | 0x1300, 0x05 => epochQuarantine s
  | 0x1400, 0x01 => sideState s 0
  | 0x1400, 0x02 => sideState s 1
  | 0x1400, 0x03 => maskOf 24 (fun m => (tpm s m).up)
  | 0x1401, k => ((Tbl.find s.tp.manifests (k - 1)).map (·.header)).getD 0
  | 0x1500, 0x05 => s.host.outst.length
  | 0x1500, 0x06 => s.host.quar.length
  | 0x1600, 0x0F => (s.net.qps.filter (·.2.resident)).length
  | 0x1600, 0x10 => s.net.qps.length
  | 0x1700, 0x03 => maskOf 64 (fun l => (link s l).st = .up)
  | 0x1700, 0x05 => s.ftm.st
  | 0x1700, 0x06 => ns s
  | 0x1700, 0x07 => s.ftm.u
  | 0x1700, 0x08 => s.ftm.stratum
  | 0x1700, 0x09 => s.ftm.parent
  | 0x1700, 0x16 => match s.sw.active with | some t => (ns s - t.epoch) / t.cycle | none => 0
  | 0x1700, 0x17 => b2n s.sw.injecting
  | 0x1800, 0x02 => s.sward.tussockRetired
  | 0x1801, _ => islandFreq s
  | 0x1900, 0x03 => freeNat s 0 % 2 ^ 64
  | 0x1A00, 0x03 => s.sheaf.groups.length
  | 0x1A00, 0x04 => allSlots s
  | 0x1B00, 0x05 => linesPoisoned s
  | 0x1B00, 0x06 => bits s.com.repairDue 63 0
  | 0x1B00, 0x07 => bits s.com.repairDue 127 64
  | 0x1B00, 0x0A => bits s.com.retired 63 0
  | 0x1B00, 0x0B => bits s.com.retired 123 64
  | 0x1B00, 0x0C => walksBusy s
  | 0x1C00, 0x06 => s.acct.meterEnergy / 1000
  | 0x1C00, 0x07 => s.acct.deviceEnergy / 1000
  | 0x1C00, 0x08 => s.acct.meterJournal.length
  | 0x1C00, 0x09 => s.acct.journalLost
  | 0x1C00, 0x0D => (s.store.work.filter (fun w => match w with | .snapshot .. => true | _ => false)).length
  | 0x1D00, 0x01 => if s.sec.st ≠ 0 && s.sec.debugOpened then 3 else s.sec.st
  | 0x1D00, 0x02 => deviceNonce s
  | 0x1D00, 0x05 => s.sec.minSv
  | 0x1D00, 0x07 => b2n s.sec.debugLock
  | 0x1D00, 0x0C => maskOf 8 (fun k => Tbl.has s.sec.sessions (k + 1))
  | 0x1D01, k => s.sec.anchors.getD (k - 1) 0
  | 0x1D02, k => ((s.sec.grants[k - 1]?).map (·.2.1)).getD 0
  | 0x1E00, 0x03 => s.ev.larkLast
  | 0x1E00, 0x04 => wakeTimer s
  | 0x1E04, k => Tbl.get s.ev.lark (k - 1)
  | 0x1F00, 0x01 => deviceHealth s
  | 0x1F00, 0x03 => s.flt.gate
  | 0x1F01, 0x03 => s.log.cairnNext
  | 0x1F01, 0x04 => s.log.cairnLost
  | 0x1F03, k => dumpRow s k
  | 0x2000, 0x02 => s.pair.st
  | 0x2000, 0x03 => maskOf 4 (fun k => (link s (64 + k)).st = .up)
  | 0x2000, 0x05 => (s.pair.peer.map (·.uid.toNat)).getD 0
  | 0x2100, 0x01 => s.pow.st
  | 0x2100, 0x04 => capInForce s
  | 0x2100, 0x05 => s.pow.modulePower
  | 0x2100, 0x06 => b2n s.pow.brake.isSome
  | 0x2100, 0x07 => s.pow.brownouts
  | 0x2100, 0x08 => s.pow.brownoutLast
  | 0x2100, 0x09 => b2n s.pow.throttle
  | 0x2100, 0x0A => s.pow.sensorBus
  | 0x2100, 0x0B => s.pow.duty
  | 0x2101, k => Tbl.get s.pow.temps (k - 1)
  | 0x2102, k => Tbl.get s.pow.volts (k - 1)
  | 0x2111, 0x04 => s.pow.ethLink
  | 0x2111, 0x05 => s.pow.ethStats
  | 0x2200, 0x01 => Config.flashId.toNat
  | 0x2200, 0x02 => flashBlocks
  | 0x2200, 0x03 => s.store.factoryBad.length
  | 0x2200, 0x04 => s.store.grownBad.length
  | 0x2200, 0x05 => (spares s).length
  | 0x2200, 0x06 => s.store.erases.foldl (fun m e => max m e.2) 0
  | 0x2200, 0x07 => ((leastErased s (mappedBlocks s)).map (erases s)).getD 0
  | 0x2200, 0x0B => b2n s.store.readOnly
  | 0x2201, k => slotState s (k - 1)
  | 0x2301, k => getO s 0x2301 k / 2 ^ 64 * 2 ^ 64 + freeNat s 0 % 2 ^ 64
  | 0x2302, k => getO s 0x2302 k % 2 ^ 192 + freeNat s 0 % 2 ^ 64 * 2 ^ 192
  | i, sub =>
    if 0x1402 ≤ i && i ≤ 0x1411 then (manifestRows s (i - 0x1402)).getD (sub - 1) 0
    else if 0x1E10 ≤ i && i ≤ 0x1E17 then Tbl.get s.ev.targets (128 * (i - 0x1E10) + sub - 1)
    else if 0x1E20 ≤ i && i ≤ 0x1E27 then Tbl.get s.ev.occurs (128 * (i - 0x1E20) + sub - 1)
    else getO s i sub

/-- Numbers that read-only objects of paddock p's block hold. -/
def readPad (s : State) (p off sub : Nat) : Nat :=
  let d := pad s p
  match off, sub with
  | 0x00, 0x01 => d.state.code
  | 0x00, 0x03 => (d.pend.map (·.cmd)).getD 0
  | 0x00, 0x04 => d.result
  | 0x00, 0x05 => d.cause
  | 0x00, 0x09 => d.allotSeq
  | 0x20, 0x07 => ctxPriority s p
  | 0x32, 0x01 => if d.snap.isEmpty then 0 else bits (beNat d.snap) 3935 3904
  | 0x40, 0x05 => queryResult s p
  | 0x41, r => counterRow s p 0x41 r
  | 0x50, 0x06 => contextInfo s p (getP s p 0x50 5)
  | 0x51, k => queueRow s p (k - 1)
  | 0x52, 0x05 => qpInfo s p (getP s p 0x52 4)
  | 0x52, 0x08 => (s.net.qps.filter (fun e => qpPad e.1 = p)).length
  | 0x60, 0x03 => meet d.tussocks s.sward.tussockRetired
  | 0x70, 0x01 => padNonce s p
  | 0x70, 0x05 => bounceKeys s p
  | 0x70, 0x06 => d.keyGen
  | 0x91, k => Tbl.get s.ev.occurs (8 * p + k - 1)
  | off, sub => if off = 0x90 && 1 ≤ sub && sub ≤ 8 then Tbl.get s.ev.targets (8 * p + sub - 1) else getP s p off sub

/-- Rows of a TAB in force: set by its sub-index 0x00 where its Range gives a row range, counted for what hardware lists. -/
def rowCount (s : State) (d : Desc) (i : Nat) (draft : Bool) : Nat :=
  if d.acc = .draft then (if draft then cfgDraft s i 0 else cfg s i 0)
  else if i = 0x1401 then s.tp.manifests.foldl (fun m e => max m (e.1 + 1)) 0
  else if 0x1402 ≤ i && i ≤ 0x1411 then (manifestRows s (i - 0x1402)).length
  else if i = 0x1D02 then s.sec.grants.length
  else if i = 0x1D04 || (0x4000 ≤ i && d.idx = 0x71) then certRows
  else getO s i 0

/-- The highest sub-index of a record. -/
def recordTop (i : Nat) : Nat := (descsAt i).foldl (fun m d => max m d.sub) 0

/-- Octets and strings that are no packed number. -/
def readOctets (s : State) (i sub : Nat) : Option Bytes :=
  let p := (i - 0x4000) / 0x100
  if i = 0x1000 then
    (match sub with
     | 0x01 => some (ascii "Tymund Semiconductor") | 0x02 => some (ascii "Folval Dunaz") | 0x04 => some (ascii "FV-DZ64")
     | 0x05 => some (ascii "B0") | _ => none)
  else if i = 0x1200 then some (bytes64 (fun n => (pad s n).state.code))
  else if i = 0x1300 && sub = 3 then some (entryFrom s.log.geq (getO s 0x1300 2) geqBytes)
  else if i = 0x1500 && sub = 8 then some (bytes64 (vfState s))
  else if i = 0x1C00 && sub = 0x0C then some ((journalRecord s).getD [])
  else if i = 0x1D04 then some (certRow sub)
  else if i = 0x1F00 && sub = 0x0E then some (bytes64 (fun n => Tbl.get s.flt.state n))
  else if i = 0x1F01 && sub = 2 then some (entryFrom s.log.cairn (getO s 0x1F01 1) cairnBytes)
  else if i = 0x1F04 && sub = 3 then some (dumpBytes (s.log.dumps.getD (getO s 0x1F04 1 - 1) {}) (getO s 0x1F04 2) 1024)
  else if i = 0x2300 && sub = 5 then some (traceRead s)
  else if 0x4000 ≤ i && i < 0x8000 then
    (match i % 0x100, sub with
     | 0x00, 0x0A => some (fit 512 (pad s p).record)
     | 0x32, 0x02 => some (fit 512 (pad s p).snap)
     | 0x50, 0x08 => some (entryFrom (s.log.geq.filter (fun e => !e.dev && e.p = p)) (getP s p 0x50 7) geqBytes)
     | 0x70, 0x04 => some (bytes64 (fun k => (Tbl.get (pad s p).sels k).st))
     | 0x71, k => some (certRow k)
     | 0x81, 0x02 => some (fit 344 (pad s p).latched)
     | _, _ => none)
  else none

/-- The bytes of an object's value: the committed or the draft value of a DRAFT object, the value of a LIVE one, and what
hardware shows in the others. -/
def valueBytes (s : State) (i sub : Nat) (draft : Bool) : Bytes :=
  match descOf i sub with
  | none => beBytes 1 (recordTop i)
  | some d =>
    if d.tab && sub = 0 then beBytes 1 (rowCount s d i draft)
    else if d.acc = .draft then beBytes d.size (if draft then cfgDraft s i sub else cfg s i sub)
    else match readOctets s i sub with
      | some b => b
      | none =>
        if 0x4000 ≤ i && i < 0x8000 then beBytes d.size (readPad s ((i - 0x4000) / 0x100) (i % 0x100) sub)
        else beBytes d.size (readGlobal s i sub)

end Sys2Proof.Machine
end

