-- ==== Sys2Proof/Machine/Versions.lean ====
section
/-! DEFINITION. Draft and commit, the kept versions, and Slothitor images (R79 to R104, R657 to R660). -/

namespace Sys2Proof.Machine
open Sys2Proof

/-! ### Values -/

/-- A value in a table of values. -/
def valIn (t : Tbl Nat) (i sub : Nat) : Nat := (Tbl.find t (okey i sub)).getD (dfltOf i sub)
/-- A value of paddock p's block. -/
def valP (t : Tbl Nat) (p off sub : Nat) : Nat := valIn t (pidx p off) sub

/-- Set a value; a lower row count ends the rows above it (R65). -/
def putVal (t : Tbl Nat) (i sub v : Nat) : Tbl Nat :=
  let t := match descOf i sub with
    | some d => if d.tab && sub = 0 then t.filter (fun e => !(e.1 / 256 = i && v < e.1 % 256)) else t
    | none => t
  Tbl.set t (okey i sub) v

/-- The keys whose values differ between two tables. -/
def changedKeys (a b : Tbl Nat) : List Nat :=
  (((a ++ b).map (·.1)).eraseDups).filter (fun k => valIn a (k / 256) (k % 256) ≠ valIn b (k / 256) (k % 256))

/-- Is a number inside a description's Range (R657)? Octets have no Range. -/
def inRange (d : Desc) (sub v : Nat) : Bool :=
  if d.tab && sub = 0 then d.rowsLo ≤ v && v ≤ d.rowsHi
  else if d.ty = 10 || d.ty = 12 || d.ty = 9 then true
  else d.lo ≤ v && v ≤ d.hi && (d.mult ≤ 1 || v % d.mult = 0)

/-- The paddock whose objects +0x00.06 to +0x11 a key belongs to. -/
def resourcePad (k : Nat) : Option Nat :=
  let i := k / 256
  if 0x4000 ≤ i && i < 0x8000 && ((i % 256 = 0 && 6 ≤ k % 256) || i % 256 = 0x10 || i % 256 = 0x11) then some ((i - 0x4000) / 256) else none

/-- The paddock whose block holds a key at one of some offsets and sub-indices. -/
def padAt (k : Nat) (l : List (Nat × Nat)) : Option Nat :=
  let i := k / 256
  if 0x4000 ≤ i && i < 0x8000 && l.contains (i % 256, k % 256) then some ((i - 0x4000) / 256) else none

/-- Is a paddock in OPEN or DRAINING? -/
def busyPad (s : State) (p : Nat) : Bool := (pad s p).state = .opened || (pad s p).state = .draining

/-! ### Step 3 of R83: ranges and the rules that span objects -/

/-- The code of the first value that lies outside its range, or 0. -/
def rangesBad (t : Tbl Nat) : Nat :=
  match t.find? (fun e => match descOf (e.1 / 256) (e.1 % 256) with
    | some d => !inRange d (e.1 % 256) e.2
    | none => false) with
  | some e => if 0x4000 ≤ e.1 / 256 && e.1 / 256 % 256 = 0x10 then 0x0206 else 0x0106
  | none => 0

/-- Is a row of SECONDARY_RESOURCES outside *Assignable resources* (R38, R575)? -/
def secondaryBad (r : Nat) : Bool :=
  bits r 575 572 ≠ 0 || bits r 71 0 ≠ 0 ||
  256 < bits r 127 112 || 32 < bits r 111 104 || 64 < bits r 103 96 || 64 < bits r 95 88 || 1280 < bits r 87 72

/-- Is a row of BOUNCE_WINDOWS misaligned? -/
def windowBad (r : Nat) : Bool := bits r 191 128 % 4096 ≠ 0 || bits r 127 64 % 32 ≠ 0 || bits r 31 0 ≠ 0

/-- Sum of a value over the paddocks. -/
def sumVal (t : Tbl Nat) (off sub : Nat) : Nat := allPads.foldl (fun a p => a + valP t p off sub) 0

/-- The checks of step 3: 0, or the code of the first rule that refuses the values (R37, R38, R147, R213, R279, R435, R568, R630). -/
def checkValues (s : State) (t : Tbl Nat) : Nat :=
  let ch := changedKeys s.obj.committed t
  let touches := fun (l : List (Nat × Nat)) => ch.any (fun k => match padAt k l with | some p => busyPad s p | none => false)
  let bad := rangesBad t
  if bad ≠ 0 then bad
  else if ch.any (fun k => match resourcePad k with | some p => busyPad s p | none => false) then 0x0207
  else if (List.range 64).any (fun p => secondaryBad (valIn t 0x2001 (p + 1))) then 0x0206
  else if (List.range 64).any (fun p => windowBad (valIn t 0x1501 (p + 1))) then 0x0106
  else if touches [(0x50, 0x0D), (0x50, 0x0E)] then 0x0207
  else if 1048576 < sumVal t 0x52 7 then 0x0206
  else if touches [(0x52, 6), (0x52, 7)] then 0x0207
  else if valIn t 0x1700 1 ≠ cfg s 0x1700 1 && !(notEmpty s).isEmpty then 0x0709
  else if touches [(0x40, 1)] then 0x0207
  else if valIn t 0x2000 1 ≠ cfg s 0x2000 1 && !(notEmpty s).isEmpty then 0x0E02
  else if 512 < sumVal t 0x82 2 then 0x0206
  else if touches [(0x82, 2)] then 0x0207
  else 0

/-! ### Images (R99 to R101, R658) -/

/-- One object record of an image. -/
def imageRecord (i sub ty size v : Nat) : Bytes :=
  beBytes 8 (pack [(16, i), (8, sub), (8, ty), (16, size), (16, 0)]) ++ fit ((size + 3) / 4 * 4) (beBytes size v)

/-- The records of one DRAFT object: of a TAB its row count first, then its rows. -/
def objectRecords (t : Tbl Nat) (d : Desc) (i : Nat) : List Bytes :=
  if d.tab then
    let n := valIn t i 0
    imageRecord i 0 2 1 n :: (List.range n).map (fun k => imageRecord i (k + 1) d.ty d.size (valIn t i (k + 1)))
  else [imageRecord i d.sub d.ty d.size (valIn t i d.sub)]

/-- The records of a version, in ascending index and sub-index. -/
def versionRecords (t : Tbl Nat) : List Bytes :=
  ((objsGlobal.filter (fun d => d.acc = .draft)).map (fun d => objectRecords t d d.idx)).flatten ++
  (allPads.map (fun p => ((objsPaddock.filter (fun d => d.acc = .draft)).map (fun d => objectRecords t d (pidx p d.idx))).flatten)).flatten

/-- An image that Mbomon stores, up to its check word (R658). -/
def imageBody (t : Tbl Nat) (made : Nat) : Bytes :=
  let rs := versionRecords t
  let body := rs.flatten
  beBytes 64 (pack [(32, 0x44434647), (16, 1), (14, 0), (1, 0), (1, 1), (32, 64 + body.length + 100), (32, blockVersion), (32, 0),
    (32, rs.length), (64, made), (256, 0)]) ++ body

/-- Its check word. -/
def checkWord (t : Tbl Nat) (made : Nat) : Nat := (crc32c (imageBody t made)).toNat

/-- The current version: values and CREATED. -/
def currentVersion (s : State) : Tbl Nat × Nat :=
  match s.obj.versions.find? (fun v => v.status = 2) with
  | some v => (v.values, v.made)
  | none => ([], 0)

/-- The bytes of the current version image, before its signature. -/
def versionBytes (s : State) : Bytes :=
  let (t, made) := currentVersion s
  let b := imageBody t made
  b ++ beBytes 4 (crc32c b).toNat

/-! ### Applying values (step 7 of R83) -/

/-- Links follow LINK_ENABLE (R262). -/
def applyLinks (s : State) : State :=
  (List.range 64).foldl (fun s l => if bit (cfg s 0x1700 2) l then enableLink s l else disableLink s l) s

/-- Put committed values into force; the draft equals them and has no owner. A trace share that moves or changes size holds no
record of before (log 32). -/
def applyValues (s : State) (t : Tbl Nat) : State :=
  let old := s.obj.committed
  let share := fun (t : Tbl Nat) (p : Nat) => ((List.range (p + 1)).map (fun q => valP t q 0x82 2))
  let s := resetDraft { s with obj.committed := t }
  let s := { s with pads := s.pads.map (fun e => if share old e.1 = share t e.1 then e
    else (e.1, { e.2 with trace := [], traceFirst := e.2.traceFirst + e.2.trace.length })) }
  let s := applyLinks s
  let s := if valIn old 0x1700 4 = valIn t 0x1700 4 then s else applyTimeRole s (valIn t 0x1700 4)
  let s := if valIn old 0x2000 1 = valIn t 0x2000 1 then s else applyPairRole s (valIn t 0x2000 1)
  s.pads.foldl (fun s e =>
    if valP old e.1 0x20 1 ≠ valP t e.1 0x20 1 && (e.2.state = .opened || e.2.state = .draining || e.2.state = .fallow) then
      askRecord s e.1 0 else s) s

/-- A new version becomes current: the four newest are kept (R89). -/
def makeCurrent (s : State) (v : Version) : State :=
  let old := s.obj.versions.map (fun x => if x.status = 2 then { x with status := 1 } else x)
  applyValues { s with obj.versions := (v :: old).take 4, obj.cvn := v.cvn, obj.cfgSource := v.source } v.values

/-! ### Configuration operations (R83 to R95) -/

/-- A configuration operation that is refused leaves its code in LAST_RESULT (R84). -/
def confResult (s : State) (code : Nat) : State × Option Nat := ({ s with obj.lastResult := code }, some code)

/-- Fabric time of step 5, or 0 while UNSYNC or ACQUIRING. -/
def madeAt (s : State) : Nat := if synced s then ns s else 0

/-- Reserve the next CVN (R88). -/
def reserveCvn (s : State) : State :=
  let s := journalCounter s ctrCvn (s.obj.cvnLast + 1)
  { s with obj.cvnLast := s.obj.cvnLast + 1 }

/-- Steps 2 to 5 of R83 for a candidate: the operation then runs on until CONFIG_OPERATION_DONE. -/
def startConf (s : State) (path : Path) (tag : Tag) (obj : Nat) (t : Tbl Nat) (source from_ : Nat) : State × Option Nat :=
  let bad := checkValues s t
  let pads := ((changedKeys s.obj.committed t).filterMap resourcePad).eraseDups
  if s.obj.confOp.isSome then confResult s 0x010A
  else if bad ≠ 0 then confResult s bad
  else if pads.any (fun p => (pad s p).pend.isSome) then confResult s 0x010B
  else if s.obj.cvnLast = 0xFFFFFFFF then confResult s 0x0110
  else if s.store.readOnly then confResult s 0x0112
  else
    let s := reserveCvn s
    let made := madeAt s
    ({ s with obj.confOp := some { values := t, source := source, from_ := from_, cvn := s.obj.cvnLast, path := path, tag := tag,
                                   obj := obj, changed := pads, made := made, check := checkWord t made } }, none)

/-- COMMIT v. -/
def doCommit (s : State) (v : Nat) (path : Path) (tag : Tag) : State × Option Nat :=
  if s.obj.draftOwner.isSome && s.obj.draftOwner ≠ some path then confResult s 0x0108
  else if s.obj.lapsed = some path then confResult { s with obj.lapsed := none } 0x0109
  else if v ≠ s.obj.cvn then confResult s 0x0109
  else startConf s path tag (okey 0x1100 8) s.obj.draft 1 0

/-- Values of the version that a rollback names: kept or current, or the factory image, whose values are the Defaults. -/
def rollTarget (s : State) (v : Nat) : Option (Tbl Nat) :=
  if v = 0 then some [] else (s.obj.versions.find? (fun x => x.cvn = v && (x.status = 1 || x.status = 2))).map (·.values)

/-- ROLLBACK v, and FACTORY_RESTORE, which is one to 0 with SOURCE 5. -/
def rollback (s : State) (v : Nat) (path : Path) (tag : Tag) (sub source : Nat) : State × Option Nat :=
  if s.obj.draftOwner.isSome && s.obj.draftOwner ≠ some path then confResult s 0x0108
  else match rollTarget s v with
    | none => confResult s 0x010C
    | some t => startConf s path tag (okey 0x1100 sub) t source v

def doRollback (s : State) (v : Nat) (path : Path) (tag : Tag) : State × Option Nat := rollback s v path tag 9 2
def doFactoryRestore (s : State) (path : Path) (tag : Tag) : State × Option Nat := rollback s 0 path tag 0x0B 5

/-- DISCARD_DRAFT (R95). -/
def doDiscardDraft (s : State) (path : Path) : State × Option Nat :=
  if s.obj.draftOwner.isSome && s.obj.draftOwner ≠ some path && path ≠ .pf then (s, some 0x0108)
  else if s.obj.confOp.isSome then (s, some 0x010A)
  else if s.obj.draftOwner = none && path ≠ .pf then (s, some 0)
  else (resetDraft s, some 0)

/-- CONFIG_OPERATION_DONE: the image is in the version store, or its write failed (R83, R85). The brake lets no program go on (R87). -/
def doConfigOperationDone (s : State) (ok : Bool) : State :=
  match s.obj.confOp with
  | none => s
  | some o =>
    if s.pow.brake.isSome then s
    else
      let s := { s with obj.confOp := none }
      if !ok then respond { s with obj.lastResult := 0x0112 } o.path o.tag 2 (o.obj / 256) (o.obj % 256) 0x0112 []
      else
        let s := journal s 2 ([o.cvn] ++ (List.range 8).map (fun k => phys s (128 + 8 * (o.cvn % 4) + k)) ++ [o.check])
        let s := makeCurrent s { cvn := o.cvn, source := o.source, status := 2, from_ := o.from_, check := o.check, time := ns s,
                                 path := pathId o.path, values := o.values, made := o.made }
        let s := fire { s with obj.cfgDefaulted := false, obj.lastResult := 0 } 743
        respond s o.path o.tag 2 (o.obj / 256) (o.obj % 256) 0 []

/-- DRAFT_LEASE has passed without a request from the owner (R81). -/
def doDraftLeaseExpiry (s : State) : State :=
  if s.obj.confOp.isSome || s.obj.draftOwner.isNone then s else resetDraft { s with obj.lapsed := s.obj.draftOwner }

/-- A WRITE to a DRAFT object whose value has passed its checks (R79, R80, R75). -/
def draftWrite (s : State) (path : Path) (i sub v : Nat) : State × Option Nat :=
  if s.obj.draftOwner.isSome && s.obj.draftOwner ≠ some path then (s, some 0x0108)
  else if s.obj.confOp.isSome then (s, some 0x010A)
  else ({ s with obj.draft := putVal s.obj.draft i sub v, obj.draftOwner := some path }, some 0)

/-! ### Slothitor images (R102 to R104) -/

/-- The staged image. -/
def stagedImage (s : State) : Bytes :=
  (((List.range (getO s 0x1103 0)).map (fun k => beBytes 1024 (getO s 0x1103 (k + 1)))).flatten).take (getO s 0x1102 1)

/-- Read object records: index, sub-index, type, and value bytes; none where they do not fill the bytes. -/
def readRecords : Nat → Bytes → Option (List (Nat × Nat × Nat × Bytes))
  | 0, b => if b.isEmpty then some [] else none
  | n + 1, b =>
    let h := beNat (b.take 8)
    let len := bits h 31 16
    let step := 8 + (len + 3) / 4 * 4
    if b.length < step then none
    else (readRecords n (b.drop step)).map (fun l => (bits h 63 48, bits h 47 40, bits h 39 32, (b.drop 8).take len) :: l)

/-- Put a record into a candidate: it must name a DRAFT object with its type and size (R103). -/
def takeRecord (acc : Except Nat (Tbl Nat)) (r : Nat × Nat × Nat × Bytes) : Except Nat (Tbl Nat) :=
  match acc with
  | .error c => .error c
  | .ok t =>
    let (i, sub, ty, bs) := r
    match descOf i sub with
    | none => .error 0x0104
    | some d =>
      if d.acc ≠ .draft then .error 0x0104
      else
        let (want, size) := if d.tab && sub = 0 then (2, 1) else (d.ty, d.size)
        if ty ≠ want || bs.length ≠ size || (want = 1 && 1 < beNat bs) then .error 0x0103 else .ok (putVal t i sub (beNat bs))

/-- IMAGE_APPLY (R102 to R104). -/
def doImageApply (s : State) (f : Facts) (path : Path) (tag : Tag) : State × Option Nat :=
  let img := stagedImage s
  let h := beNat (img.take 64)
  let len := bits h 447 416
  let signed_ := bit h 448
  let tail := 4 + (if signed_ then 96 else 0)
  let recs := readRecords (bits h 351 320) ((img.take (len - tail)).drop 64)
  let base := bits h 383 352
  if s.obj.confOp.isSome then confResult s 0x010A
  else if bits h 511 480 ≠ 0x44434647 || bits h 479 464 ≠ 1 || len ≠ getO s 0x1102 1 || img.length ≠ len || len < 64 + tail then
    confResult s 0x0113
  else match recs with
    | none => confResult s 0x0113
    | some l =>
      if (crc32c (img.take (len - tail))).toNat ≠ beNat ((img.drop (len - tail)).take 4) then confResult s 0x010D
      else if (signed_ && !f.sigOk) || (!signed_ && s.obj.requireSigned) then confResult s 0x010E
      else if bits h 415 384 / 256 ≠ blockVersion / 256 then confResult s 0x010F
      else if base ≠ 0 && base ≠ s.obj.cvn then confResult s 0x0109
      else match l.foldl takeRecord (.ok (if bit h 449 then s.obj.committed else [])) with
        | .error c => confResult s c
        | .ok t => startConf s path tag (okey 0x1102 2) t 3 0

/-- REQUIRE_SIGNED_SET. -/
def doRequireSignedSet (s : State) : State × Option Nat := ({ s with obj.requireSigned := true }, some 0)

end Sys2Proof.Machine
end

