-- ==== Sys2Proof/Machine/Spdm.lean ====
section
/-! DEFINITION. The SPDM responder (R508 to R510). -/

namespace Sys2Proof.Machine
open Sys2Proof

/-- The connection of a requester. -/
def spdmOf (s : State) (pcie : Bool) (who : Nat) : Spdm :=
  ((s.sec.spdm.find? (fun e => e.1 = pcie && e.2.1 = who)).map (·.2.2)).getD {}
def setSpdm (s : State) (pcie : Bool) (who : Nat) (x : Spdm) : State :=
  { s with sec.spdm := s.sec.spdm.filter (fun e => !(e.1 = pcie && e.2.1 = who)) ++ [(pcie, who, x)] }

/-- Note a message in a connection's transcript. -/
def spdmNote (x : Spdm) (body : Bytes) : Spdm := { x with transcript := sha384 (beBytes 48 x.transcript ++ body) }

/-- The largest part of a response sent at once; the rest is fetched with CHUNK_GET. -/
def spdmPart : Nat := 1024

/-- Answer a request: the code of its response, and what it conveys, in parts. -/
def spdmAnswer (s : State) (pcie : Bool) (who : Nat) (x : Spdm) (code : Nat) (body : Bytes) : State :=
  let x := spdmNote { x with chunks := body.drop spdmPart, chunkSeq := 0 } body
  emit (setSpdm s pcie who x) (.spdm pcie who code (body.take spdmPart))

/-- An SPDM ERROR: its code, or a code of this manual. -/
def spdmError (s : State) (pcie : Bool) (who code : Nat) : State := emit s (.spdm pcie who 0x7F (beBytes 2 code))

/-- Error codes of SPDM 1.2 for a bad request, for one that cannot be served yet and for one out of sequence. -/
def spdmInvalid : Nat := 0x01
def spdmBusy : Nat := 0x03
def spdmUnexpected : Nat := 0x04

/-- Serve a request in a connection that has reached a stage. -/
def spdmServe (s : State) (pcie : Bool) (who stage : Nat) (body : Bytes) (f : Spdm → State) : State :=
  let x := spdmOf s pcie who
  if x.stage < stage then spdmError s pcie who spdmUnexpected else f (spdmNote x body)

/-- The device's signature over a transcript. -/
def spdmSigned (s : State) (x : Spdm) (body : Bytes) : Bytes :=
  body ++ beBytes 96 (Config.sign attestKey (beBytes 48 x.transcript ++ body) s.fresh).toNat

/-- GET_VERSION starts a connection: version 1.2. -/
def doGetVersion (s : State) (pcie : Bool) (who : Nat) (body : Bytes) : State :=
  spdmAnswer s pcie who (spdmNote { stage := 1 } body) 0x04 [0x12]

/-- Requests that the responder supports, by their codes. -/
def spdmRequests : Bytes := [0x81, 0x82, 0x83, 0x84, 0xE0, 0xE1, 0xE3, 0xE4, 0xE5, 0xE8, 0xE9, 0xEC, 0x86]

/-- GET_CAPABILITIES: the supported requests. -/
def doGetCapabilities (s : State) (pcie : Bool) (who : Nat) (body : Bytes) : State :=
  spdmServe s pcie who 1 body (fun x => spdmAnswer s pcie who { x with stage := max 2 x.stage } 0x61 spdmRequests)

/-- NEGOTIATE_ALGORITHMS: the one set of algorithms. -/
def doNegotiateAlgorithms (s : State) (pcie : Bool) (who : Nat) (body : Bytes) : State :=
  spdmServe s pcie who 2 body (fun x => spdmAnswer s pcie who { x with stage := 3 } 0x63 [])

/-- GET_DIGESTS: the digest of the slot 0 chain. -/
def doGetDigests (s : State) (pcie : Bool) (who : Nat) (body : Bytes) : State :=
  spdmServe s pcie who 3 body (fun x => spdmAnswer s pcie who x 0x01 (beBytes 48 (sha384 Config.certChain)))

/-- GET_CERTIFICATE: slot, offset and length; slots 1 to 7 are empty (R509). -/
def doGetCertificate (s : State) (pcie : Bool) (who : Nat) (body : Bytes) : State :=
  spdmServe s pcie who 3 body (fun x =>
    let off := leNat ((body.drop 1).take 2)
    if (body.getD 0 0).toNat ≠ 0 || Config.certChain.length < off then spdmError s pcie who spdmInvalid
    else spdmAnswer s pcie who x 0x02 ((Config.certChain.drop off).take (leNat ((body.drop 3).take 2))))

/-- CHALLENGE: signed under the attestation key (R490, R508). -/
def doChallenge (s : State) (pcie : Bool) (who : Nat) (body : Bytes) : State :=
  spdmServe s pcie who 3 body (fun x =>
    if s.sec.st = 2 then spdmError s pcie who 0x0B0C
    else if s.sec.st = 0 then spdmError s pcie who spdmBusy
    else spdmAnswer (fresh1 s) pcie who x 0x03 (spdmSigned s x (beBytes 48 (sha384 Config.certChain))))

/-- The bytes of every manifest header and entry, in ascending die order (measurement 0x09). -/
def manifestBytes (s : State) : Bytes :=
  ((sortAsc (s.tp.manifests.map (·.1))).map (fun d => match Tbl.find s.tp.manifests d with
    | some m => beBytes 16 m.header ++ ((manifestRows s d).map (beBytes 32)).flatten
    | none => [])).flatten

/-- The content of one measurement index (*Measurement indices*). -/
def measurement (s : State) (i : Nat) : Option Bytes :=
  if 1 ≤ i && i ≤ 3 then some (beBytes 48 (Config.imageDigest i).toNat)
  else if i = 4 then some (beBytes 4 s.sys.securityVersion ++ beBytes 4 s.sec.minSv)
  else if i = 5 then some (beBytes 4 s.obj.cvn ++ beBytes 48 (sha384 (versionBytes s)))
  else if i = 6 then some (beBytes 48 ((s.sw.active.map (·.digest)).getD 0))
  else if i = 7 then some (beBytes 48 (sha384 (s.sec.anchors.map (beBytes 96)).flatten))
  else if i = 8 then some [BitVec.ofNat 8 (b2n s.sec.debugLock), BitVec.ofNat 8 (b2n s.obj.requireSigned), BitVec.ofNat 8 (b2n s.sec.debugOpened)]
  else if i = 9 then some (beBytes 48 (sha384 (manifestBytes s)))
  else if i = 10 then some ([BitVec.ofNat 8 (cfg s 0x2000 1), BitVec.ofNat 8 s.pair.st] ++ beBytes 8 ((s.pair.peer.map (·.uid.toNat)).getD 0))
  else if 0x40 ≤ i && i < 0x80 then
    let d := pad s (i - 0x40)
    some ([BitVec.ofNat 8 d.state.code] ++ beBytes 4 d.allotSeq ++ beBytes 48 (digestOr0 d.record))
  else none

/-- Every measurement index. -/
def measurementIndices : List Nat := (List.range 10).map (· + 1) ++ (List.range 64).map (· + 0x40)

/-- GET_MEASUREMENTS: index 0 gives their number, 0xFF all of them; the second byte's bit 0 asks for a signature. -/
def doGetMeasurements (s : State) (pcie : Bool) (who : Nat) (body : Bytes) : State :=
  spdmServe s pcie who 3 body (fun x =>
    if s.sec.st = 2 then spdmError s pcie who 0x0B0C
    else if s.sec.st = 0 then spdmError s pcie who spdmBusy
    else
      let i := (body.getD 0 0).toNat
      let one := fun (k : Nat) => (measurement s k).map (fun b => BitVec.ofNat 8 k :: b)
      let out : Option Bytes := if i = 0 then some [BitVec.ofNat 8 measurementIndices.length]
        else if i = 0xFF then some (measurementIndices.filterMap one).flatten else one i
      match out with
      | none => spdmError s pcie who spdmInvalid
      | some b =>
        if (body.getD 1 0).toNat % 2 = 1 then spdmAnswer (fresh1 s) pcie who x 0x60 (spdmSigned s x b)
        else spdmAnswer s pcie who x 0x60 b)

/-- KEY_EXCHANGE: a session is pending; mutual where the requester's chain comes from the manager root (R510). -/
def doKeyExchange (s : State) (pcie : Bool) (who : Nat) (body : Bytes) (f : Facts) : State :=
  spdmServe s pcie who 3 body (fun x =>
    if s.sec.st = 2 then spdmError s pcie who 0x0B0C
    else if s.sec.st = 0 then spdmError s pcie who spdmBusy
    else spdmAnswer (fresh1 s) pcie who { x with pending := true, session := false, mgr := f.certOk && s.sec.anchors.getD 0 0 ≠ 0 } 0x64
      (spdmSigned s x (Config.spdmBytes 0xE4 body s.fresh)))

/-- FINISH: the session stands when the requester's proof holds. -/
def doFinish (s : State) (pcie : Bool) (who : Nat) (body : Bytes) (f : Facts) : State :=
  spdmServe s pcie who 3 body (fun x =>
    if !x.pending then spdmError s pcie who spdmUnexpected
    else if !f.sigOk then spdmError (setSpdm s pcie who { x with pending := false, mgr := false }) pcie who spdmInvalid
    else spdmAnswer s pcie who { x with pending := false, session := true } 0x65 [])

/-- A request that needs a session. -/
def inSession (s : State) (pcie : Bool) (who : Nat) (body : Bytes) (f : Spdm → State) : State :=
  spdmServe s pcie who 3 body (fun x => if x.session then f x else spdmError s pcie who spdmUnexpected)

/-- HEARTBEAT. -/
def doHeartbeat (s : State) (pcie : Bool) (who : Nat) (body : Bytes) : State :=
  inSession s pcie who body (fun x => spdmAnswer s pcie who x 0x68 [])

/-- KEY_UPDATE: the keys change, which the transcript shows. -/
def doKeyUpdate (s : State) (pcie : Bool) (who : Nat) (body : Bytes) : State :=
  inSession s pcie who body (fun x => spdmAnswer s pcie who x 0x69 body)

/-- END_SESSION. -/
def doEndSession (s : State) (pcie : Bool) (who : Nat) (body : Bytes) : State :=
  inSession s pcie who body (fun x => spdmAnswer s pcie who { x with session := false, mgr := false } 0x6C [])

/-- CHUNK_GET: the next part of a large response, with its number. -/
def doChunkGet (s : State) (pcie : Bool) (who : Nat) (body : Bytes) : State :=
  spdmServe s pcie who 1 body (fun x =>
    if x.chunks.isEmpty then spdmError s pcie who spdmUnexpected
    else
      let y := { x with chunks := x.chunks.drop spdmPart, chunkSeq := x.chunkSeq + 1 }
      emit (setSpdm s pcie who y) (.spdm pcie who 0x06 (beBytes 2 y.chunkSeq ++ x.chunks.take spdmPart)))

end Sys2Proof.Machine
end

