-- ==== Sys2Proof/Machine/Startup.lean ====
section
/-! DEFINITION. Start-up: the power-on, warm and brownout resets, the boot ROM, the replay of the journal, and the steps that
follow the reconstruction of the root secret (R544, R562, R596, R606, R617 to R623, R641 to R647). -/

namespace Sys2Proof.Machine
open Sys2Proof

/-! ### What a reset leaves (R544, *Reset domains*) -/

/-- What of a paddock number outlives a reset: its sequences and its newest records. -/
def padKept (warm : Bool) (d : Paddock) : Paddock :=
  { allotSeq := d.allotSeq, keyGen := d.keyGen, record := d.record, snapSeq := d.snapSeq, snapPrev := d.snapPrev, snap := d.snap,
    nonceIx := d.nonceIx + 1, usageSeq := if warm then d.usageSeq else 0, fenceGen := if warm then d.fenceGen else 0 }

/-- The newest journaled snapshot of paddock p: its sequence and its record. -/
def newestSnap (s : State) (p : Nat) : Option (Nat × Bytes) := (s.acct.meterJournal.reverse.find? (fun e => e.1 = p)).map (·.2)

/-- A paddock's chain of snapshots goes on from the newest journaled one. -/
def snapKept (s : State) (p : Nat) (d : Paddock) : Paddock :=
  match newestSnap s p with
  | none => d
  | some e => { d with snapSeq := e.1, snapPrev := sha384 e.2, snap := e.2 }

/-- The store across a reset: its work is lost, and a slot that was WRITING is FAILED (R622). -/
def storeKept (warm : Bool) (t : Store) : Store :=
  { t with work := [], running := false, slots := t.slots.map (fun x => if x = 1 then 5 else x), trials := if warm then t.trials else 0 }

/-- The logs across a reset: a dump that was being written is incomplete (R560). -/
def logsKept (warm : Bool) (l : Logs) : Logs :=
  { cairn := l.cairn, cairnNext := l.cairnNext, geqNext := if warm then l.geqNext else 0,
    dumps := l.dumps.map (fun d => if d.st = 1 then { d with st := 4 } else d) }

/-- AON's own state, which a warm reset keeps. -/
def powKept (p : Power) : Power :=
  { throttle := p.throttle, temps := p.temps, volts := p.volts, brake := p.brake, brownouts := p.brownouts, brownoutLast := p.brownoutLast,
    aonLog := p.aonLog }

/-- The state of the device as a reset leaves it, every island but AON held in reset (R544). -/
def cleared (s : State) (warm : Bool) : State :=
  { pending := s.pending, out := s.out, fresh := s.fresh,
    obj := { versions := s.obj.versions, cvn := s.obj.cvn, cvnLast := s.obj.cvnLast, cfgSource := s.obj.cfgSource,
             cfgDefaulted := s.obj.cfgDefaulted, requireSigned := s.obj.requireSigned },
    sys := { bootCount := s.sys.bootCount },
    com := { retired := s.com.retired, kept := s.com.kept },
    log := logsKept warm s.log,
    acct := { meterJournal := s.acct.meterJournal, journalLost := s.acct.journalLost },
    sec := { debugOpened := warm && s.sec.debugOpened, debugLock := s.sec.debugLock, minSv := s.sec.minSv, svRaises := s.sec.svRaises,
             nonceIx := s.sec.nonceIx + 1, anchors := s.sec.anchors, grants := s.sec.grants, maskDraws := s.sec.maskDraws },
    flt := { state := outerIslands.map (fun i => (i, 2)) },
    pow := if warm then powKept s.pow else {},
    pads := s.pads.map (fun e => (e.1, snapKept s e.1 (padKept warm e.2))),
    store := storeKept warm s.store }

/-! ### The boot ROM (R605, R515, R642) -/

/-- The ROM stays in ROM and drives alert_n low. -/
def halt (s : State) : State := emit { s with sys.boot := 1, sys.alertLow := true } (.alertN true)

/-- Does the ROM accept the image of a slot (R515)? -/
def imagePasses (s : State) (b : Boot) (k : Nat) : Bool := b.slotOk.getD k false && s.sec.minSv ≤ b.imageSv.getD k 0

/-- Enter the image of a slot; AON counts a boot of the TRIAL slot (R623). -/
def enter (s : State) (b : Boot) (k : Nat) : State :=
  { s with sys.boot := 2, sys.bootSlot := k, sys.securityVersion := b.imageSv.getD k 0, sys.firmware := b.imageFw.getD k 0,
           store.trials := if slotState s k = 3 then s.store.trials + 1 else s.store.trials }

/-- A refused image is kept in AON's log (R642). -/
def refuseImage (s : State) (b : Boot) (k : Nat) : State := { s with pow.aonLog := s.pow.aonLog ++ [(0x0B0E, [k, b.imageSv.getD k 0])] }

/-- A TRIAL slot whose three boots have passed is FAILED (R622). -/
def endTrial (s : State) : State :=
  if s.store.trials < 3 then s
  else match s.store.slots.findIdx? (· = 3) with
    | none => s
    | some k => { s with store.slots := s.store.slots.set k 5, pow.aonLog := s.pow.aonLog ++ [(0x0D0A, [k])] }

/-- The slot that the ROM chooses: the TRIAL slot, else the ACTIVE one. -/
def romChoice (s : State) : Option Nat :=
  match s.store.slots.findIdx? (· = 3) with
  | some k => some k
  | none => s.store.slots.findIdx? (· = 4)

/-- Choose a slot and enter its image; after a refusal the other slot follows if it is READY or ACTIVE. -/
def rom (s : State) (b : Boot) : State :=
  let s := { s with sys.bootFacts := b }
  if !b.flashOk then halt s
  else
    let s := endTrial s
    match romChoice s with
    | none => halt s
    | some k =>
      if imagePasses s b k then enter s b k
      else
        let s := refuseImage s b k
        if slotState s (1 - k) ≠ 2 && slotState s (1 - k) ≠ 4 then halt s
        else if imagePasses s b (1 - k) then enter s b (1 - k)
        else halt (refuseImage s b (1 - k))

/-! ### Mbomon enters (R606, R617, R620) -/

/-- The maker's marks are read once: blocks that a region would use are mapped elsewhere (R606). -/
def firstStart (s : State) (b : Boot) : State :=
  if s.store.jseq ≠ 0 then s
  else
    let s := b.factoryBad.foldl (fun s k => { (journal s 5 [k, 4]) with store.factoryBad := s.store.factoryBad ++ [k] }) s
    (b.factoryBad.filterMap (logicalOf s)).foldl relocate s

/-- One open erase is done again; its failure retires the block (R620). -/
def redoErase (b : Boot) (s : State) (k : Nat) : State :=
  if b.eraseBad.contains k then logDev (retire s k badErase) 0x0D05 1 [k, 1]
  else
    let s := journal s 4 [k, erases s k + 1]
    logDev { s with store.erases := Tbl.set s.store.erases k (erases s k + 1), store.eraseOpen := s.store.eraseOpen.filter (· ≠ k) } 0x0D05 1 [k, 0]

/-- The replay of the journal, the open erases, and BOOT_COUNT; what AON kept goes to the Cairn (R596, R642). -/
def replay (s : State) (b : Boot) : State :=
  let s := if b.torn then logDev s 0x0D08 0 [s.store.jseq] else s
  let s := firstStart s b
  let s := s.store.eraseOpen.foldl (redoErase b) s
  let s := journalCounter { s with sys.bootCount := s.sys.bootCount + 1 } ctrBoot (s.sys.bootCount + 1)
  s.pow.aonLog.foldl (fun s e => cairn s e.1 2 true 0 e.2) { s with pow.aonLog := [] }

/-- The start-up sequence, up to the point where Mbomon waits for SEC. -/
def boot (s : State) (b : Boot) : State :=
  let s := rom s b
  if s.sys.boot = 2 then replay s b else s

/-! ### The configuration is applied (R96, R97, R641) -/

/-- The current version failed its check: the factory image is committed under the next CVN (R97). -/
def loadFactory (s : State) (code : Nat) : State :=
  let s := { s with obj.versions := s.obj.versions.map (fun v => if v.status = 2 then { v with status := 3 } else v) }
  let s := reserveCvn s
  let s := journal s 2 ([s.obj.cvnLast] ++ (List.range 8).map (fun k => phys s (128 + 8 * (s.obj.cvnLast % 4) + k)) ++ [checkWord [] 0])
  let v : Version := { cvn := s.obj.cvnLast, source := 4, status := 2, from_ := 0, check := checkWord [] 0, time := stampTime s,
                       path := pathId .internal, values := [] }
  let bad := s.obj.cvn
  let s := makeCurrent s v
  fire (cairn { s with obj.cfgDefaulted := true } code 2 true 0 [bad]) 744

/-- R96's checks of the current version; a device with no version applies the factory image (R659). -/
def loadConfig (s : State) (c : ConfigCheck) : State :=
  match s.obj.versions.find? (fun v => v.status = 2), c with
  | none, _ => applyValues s []
  | some v, .passed => applyValues s v.values
  | some _, .checkWord => loadFactory s 0x010D
  | some _, .signature => loadFactory s 0x010E
  | some _, .blockVersion => loadFactory s 0x010F

/-- Is a meter snapshot FINAL? -/
def isFinal (rcd : Bytes) : Bool := bit (beNat rcd) 3672

/-- A closing snapshot that repeats one, with FINAL and GAP set (R483): its values and PERIOD_END stay. -/
def closing (s : State) (p : Nat) (rcd : Bytes) : State :=
  if s.sec.st = 2 then s
  else
    let d := pad s p
    let x := beNat (rcd.take 416)
    let field := fun (hi lo v : Nat) (x : Nat) => x / 2 ^ (hi + 1) * 2 ^ (hi + 1) + (v % 2 ^ (hi + 1 - lo)) * 2 ^ lo + x % 2 ^ lo
    let x := field 3167 3136 (d.snapSeq + 1) x
    let x := putBit (putBit x 2904 true) 2907 true
    let x := field 1727 1344 d.snapPrev x
    let new := signed attestKey (beBytes 416 x) s.fresh
    let s := updPad (fresh1 s) p (fun d => { d with snapSeq := d.snapSeq + 1, snapPrev := sha384 new })
    logPad (flash s (.snapshot p new)) p 0x0323 0 [d.snapSeq + 1, bits x 3039 2976]

/-- Closing snapshots of every paddock number whose newest journaled snapshot is not FINAL (R483). -/
def closeMeters (s : State) : State :=
  allPads.foldl (fun s p =>
    match newestSnap s p with
    | none => s
    | some e => if isFinal e.2 then s else closing s p e.2) s

/-- The other islands are released, links and the host link train, and Mbomon writes the device targets (R641). -/
def releaseIslands (s : State) : State :=
  let s := { s with sys.boot := 3, flt.state := [] }
  closeMeters (deviceTargets (setO s 0x1500 1 1))

/-- Islands that do not return at start-up: ISLAND_STATE 3 and 0x0122 (R647). AON, MGT and SEC run by then. -/
def failedAtStart (failed : List Nat) (s : State) : State :=
  (failed.filter (fun i => 3 ≤ i && i ≤ 38)).foldl (fun s i =>
    if islandOut s i then s else doIslandFailed { s with flt.state := Tbl.set s.flt.state i 2 } i) s

/-- ROOT_RECONSTRUCTED: SEC_STATE 1 or 2; in a start-up the configuration follows (R489, R490, R641). -/
def doRootReconstructed (s : State) (copy : Option (Fin 4)) (c : ConfigCheck) (failed : List Nat) : State :=
  if s.sec.st ≠ 0 || s.sys.boot < 2 || (s.sys.boot = 3 && islandOut s 2) then s
  else
    let s := match copy with
      | none => cairn { s with sec.st := 2 } 0x0B0C 3 true 0 []
      | some k => if k = 0 then { s with sec.st := 1 } else logDev { s with sec.st := 1 } 0x0B0D 1 [k.val]
    if s.sys.boot = 2 then failedAtStart failed (releaseIslands (loadConfig s c)) else s

/-! ### The resets -/

/-- POR_N: every island is reset, and start-up runs. -/
def doPorN (s : State) (b : Boot) : State := boot (cleared s false) b

/-- Every Cairn entry and snapshot that waits is written before the islands are held, unless no program can start (R562). -/
def drainFlash (s : State) : State :=
  if s.pow.brake.isSome || s.store.readOnly then s
  else s.store.work.foldl (fun s w => match w with
    | .cairn e => cairnWritten s e
    | .snapshot p rcd => snapshotWritten s p rcd
    | _ => s) s

/-- The warm reset sequence (R562): the snapshot, 0x0128, FINAL snapshots, then every island but AON is held in reset. -/
def warmReset (s : State) (b : Boot) (cause : Nat) : State :=
  let s := if s.sys.boot = 3 && !islandOut s 1 then
      let s := cairn (freeze s 0xFF 0x0128) 0x0128 3 true 0 [cause]
      let s := if s.sec.st ≠ 0 && !islandOut s 2 then (notEmpty s).foldl (fun s p => formSnapshot s p true false (ns s)) s else s
      drainFlash s
    else s
  boot (cleared s true) b

/-- WARM_RST_N: a ROM that halts on its flash stays until por_n (R605); the pin does nothing before por_n has risen. -/
def doWarmRstN (s : State) (b : Boot) : State :=
  if s.sys.boot = 0 || (s.sys.boot = 1 && !s.sys.bootFacts.flashOk) then s else warmReset s b 0

/-- WARM_RESET (R562, R593). -/
def doWarmReset (s : State) (b : Boot) : State × Option Nat :=
  if s.pow.st = 4 && anyAt s 105000 then (s, some 0x0C01) else (warmReset s b 1, none)

/-- AON resets MGT; the third reset within 10 s is a warm reset (R554). -/
def resetMgt (s : State) (b : Boot) : State :=
  if 3 ≤ (recentMgtResets s).length then warmReset s b 2 else mgtReset s

/-- MGT_WATCHDOG: no kick for 1 s while MGT runs. -/
def doMgtWatchdog (s : State) (b : Boot) : State :=
  if s.sys.boot ≠ 3 || islandOut s 1 || s.sys.uptime < s.flt.kickAt + 10 ^ 9 then s else resetMgt s b

/-- An island does not return within ISLAND_RETURN_LIMIT; AON resets MGT again (R545, R554). -/
def doIslandLost (s : State) (i : Nat) : State :=
  if s.sys.boot ≠ 3 then s
  else if i = 1 then (if Tbl.get s.flt.state 1 = 2 && s.pow.st ≠ 4 then resetMgt (doIslandFailed s 1) s.sys.bootFacts else s)
  else doIslandFailed s i

/-- BROWNOUT_RESET: the reset at once, without snapshots (R596). -/
def doBrownoutReset (s : State) (rail mv : Nat) (b : Boot) : State :=
  if s.sys.boot = 0 || (s.sys.boot = 1 && !s.sys.bootFacts.flashOk) then s
  else
    let low := match s.pow.brake with | some (_, m) => min m mv | none => mv
    boot (cleared { s with pow.aonLog := s.pow.aonLog ++ [(0x0C03, [rail, low])], pow.brake := none } true) b

end Sys2Proof.Machine
end

