-- ==== Sys2Proof/Machine/Swathe.lean ====
section
/-! DEFINITION. The swathe schedule: loading a table, switching to it, cycles and swathes (R293 to R298). -/

namespace Sys2Proof.Machine
open Sys2Proof

/-- The staged image: the rows of SWATHE_SEGMENTS, cut to SWATHE_LENGTH. -/
def stagedSwathe (s : State) : Bytes :=
  (((List.range (getO s 0x1702 0)).map (fun k => beBytes 1024 (getO s 0x1702 (k + 1)))).flatten).take (getO s 0x1700 0x13)

/-- Does an entry break its table? -/
def entryBad (x : Nat) : Bool := bits x 127 126 = 3 || bits x 90 64 ≠ 0 || bits x 7 0 ≠ 0

/-- Do two TX entries of one link overlap? -/
def txOverlap (a b : Nat) : Bool :=
  bits a 127 126 = 1 && bits b 127 126 = 1 && bits a 125 120 = bits b 125 120 &&
  overlap (bits a 63 32) (bits a 31 8) (bits b 63 32) (bits b 31 8)

/-- Does any pair of a list meet? -/
def anyPair (f : Nat → Nat → Bool) : List Nat → Bool
  | [] => false
  | x :: t => t.any (f x) || anyPair f t

/-- The table of a staged image, or the code with which it is refused (R293, R294). -/
def swatheCheck (s : State) (img : Bytes) (f : Facts) : Except Nat Swathes :=
  let h := beNat (img.take 32)
  let n := bits h 202 192
  let body := 32 + 16 * n
  let signed := bit h 203
  let es := (List.range n).map (fun k => beNat ((img.drop (32 + 16 * k)).take 16))
  let cycle := bits h 191 160
  let epoch := bits h 127 64
  let switch := bits h 63 0
  if img.length < 32 || bits h 255 224 ≠ 0x53575448 || bits h 223 208 ≠ 1 || bits h 207 204 ≠ 0 || bits h 143 128 ≠ 0 ||
     1024 < n || cycle < 10000 || 10000000 < cycle || bits h 159 144 < 20 || 1000 < bits h 159 144 || bits h 159 144 % 2 ≠ 0 ||
     img.length ≠ body + 4 + (if signed then 96 else 0) then .error 0x0707
  else if beNat ((img.drop body).take 4) ≠ (crc32c (img.take body)).toNat then .error 0x0707
  else if (signed && !f.sigOk) || (!signed && s.obj.requireSigned) then .error 0x0707
  else if es.any entryBad then .error 0x0707
  else if es.any (fun x => bits x 127 126 ≠ 0 && cycle < bits x 63 32 + bits x 31 8) then .error 0x0707
  else if anyPair txOverlap es then .error 0x0707
  else if switch < epoch || (switch - epoch) % cycle ≠ 0 || switch < ns s + 1000000 || !synced s then .error 0x0708
  else .ok { cycle := cycle, guard_ := bits h 159 144, epoch := epoch, switch := switch, entries := es, digest := sha384 img }

/-- SWATHE_APPLY. -/
def doSwatheApply (s : State) (f : Facts) : State × Option Nat :=
  match swatheCheck s (stagedSwathe s) f with
  | .error e => (s, some e)
  | .ok t => (fire { s with sw.shadow := some t } 709, some 0)

/-- SWATHE_CANCEL (R302). -/
def doSwatheCancel (s : State) : State × Option Nat := ({ s with sw.shadow := none }, some 0)

/-- At SWITCH_TIME the shadow table becomes active; queued scheduled traffic without an entry in it moves (R295). The switch
is a cycle boundary, so injection may run from it (R298). -/
def doSwatheSwitch (s : State) : State :=
  match s.sw.shadow with
  | none => s
  | some t =>
    let s := { s with sw.active := some t, sw.shadow := none, sw.openSwathes := [], sw.injecting := synced s, sw.resumeAt := false,
                      sw.intruders := [], sw.reported := [] }
    fire (unscheduleAll (fun l p => !hasTxEntry s l (bTag p.hdr.toNat) (bDst p.hdr.toNat)) s) 708

/-- A cycle starts: stopped injection may resume, and intrusions are counted anew (R298, R300). -/
def doCycleBoundary (s : State) : State :=
  if s.sw.active.isNone then s
  else { s with sw.injecting := s.sw.injecting || (s.sw.resumeAt && synced s), sw.resumeAt := false, sw.openSwathes := [],
                sw.reported := s.sw.reported.filter (fun n => (getPair s.sw.intruders n).isSome), sw.intruders := [] }

/-- A TX swathe opens: its scheduled frames leave first (R277, R296). -/
def doSwatheOpen (s : State) (e : Nat) : State :=
  match s.sw.active with
  | none => s
  | some t =>
    let x := t.entries.getD e 0
    if s.sw.injecting && bits x 127 126 = 1 && !s.sw.openSwathes.contains e then
      let l := bits x 125 120
      drainLink l ((link s l).waiting.length) { s with sw.openSwathes := e :: s.sw.openSwathes }
    else s

/-- Injection in a swathe ends (R296). -/
def doSwatheInjectionEnd (s : State) (e : Nat) : State := { s with sw.openSwathes := s.sw.openSwathes.filter (· ≠ e) }

end Sys2Proof.Machine
end

