-- ==== Sys2Proof/Machine/Server.lean ====
section
/-! DEFINITION. How MGT serves object requests: the order of checks of R655, reads, writes by access kind, and the paths that
carry requests (R62 to R78, R106, R182 to R184, R574, R643, R652 to R657). -/

namespace Sys2Proof.Machine
open Sys2Proof

/-! ### Requests -/

/-- The fields of a header. -/
def reqOf (h : BitVec 128) : Req :=
  let h := h.toNat
  { proto := hProto h, op := hOp h, rsvd := bits h 119 113 + bits h 63 32, draft := hDraftView h, tag := BitVec.ofNat 16 (hTag h),
    index := hIndex h, sub := hSub h, ty := hType h, off := hOffset h, len := hLength h }

/-- A WRITE of an object with a payload of n bytes. -/
def writeReq (tag : Tag) (index sub n : Nat) : Req := { op := 2, tag := tag, index := index, sub := sub, len := n }

/-- Is the MCTP connection inside a session that authenticated the manager (R510)? -/
def mgrSession (s : State) (pcie : Bool) (who : Nat) : Bool :=
  s.sec.spdm.any (fun e => e.1 = pcie && e.2.1 = who && e.2.2.session && e.2.2.mgr)

/-- The role that a path gives, as a bit: MGR 1, TEN 2, MON 4, SEC 8 (R71). -/
def roleOf (s : State) : Path → Nat
  | .pf => 1
  | .stile _ => 2
  | .mctp pcie who => if mgrSession s pcie who.toNat then 1 else 4
  | .udp k => if k.toNat = 0 then 4 else 1
  | .internal => 8

/-! ### The checks of R655, each with its code or 0 -/

/-- 1: the header fields (R73); the payload that follows must be as long as LENGTH says. -/
def headerCode (r : Req) (n : Nat) : Nat :=
  if r.proto ≠ 1 || r.rsvd ≠ 0 || (r.op ≠ 1 && r.op ≠ 2) || 1024 < r.len || r.len ≠ n then 0x0107 else 0

/-- Reads that start-up allows (R643). -/
def earlyRead (r : Req) : Bool :=
  r.op = 1 && (r.index = 0x1000 || (r.index = 0x1D00 && r.sub = 1) || (0x1F00 ≤ r.index && r.index ≤ 0x1F04))

/-- 2: start-up (R643). -/
def startCode (s : State) (r : Req) : Nat := if s.sys.boot ≠ 3 && !earlyRead r then 0x010A else 0

/-- Does the Stile of VF n ask for an index outside its paddock's block (R653)? -/
def outsideBlock (n : Nat) (r : Req) : Bool := r.index < pidx n 0 || pidx n 0x100 ≤ r.index

/-- 3: the reach of the path (R72, R184, R653). -/
def reachCode (s : State) (path : Path) (r : Req) : Nat :=
  match path with
  | .udp _ => if 0x8000 ≤ r.index && r.index ≤ 0x8FFF then 0x0111 else 0
  | .stile n =>
    let st := (pad s n.val).state
    if outsideBlock n.val r then 0x0111
    else if (st = .empty || st = .faulted) && !(r.op = 1 && r.index = pidx n.val 0) then 0x0111
    else 0
  | _ => 0

/-- 4: the index, then the sub-index (R106, R62); a TAB has the rows in force. -/
def placeCode (s : State) (r : Req) : Nat :=
  if (descsAt r.index).isEmpty then 0x0101
  else match descOf r.index r.sub with
    | none => if r.sub = 0 then 0 else 0x0102
    | some d => if d.tab && rowCount s d r.index (r.draft || r.op = 2) < r.sub then 0x0102 else 0

/-- 5: the access kind (R67, R68, R654). -/
def accessCode (r : Req) : Nat :=
  match descOf r.index r.sub with
  | none => if r.op = 2 then 0x0104 else 0
  | some d => if (r.op = 1 && d.acc = .cmd) || (r.op = 2 && d.acc = .ro) then 0x0104 else 0

/-- Roles that may read at least one member of a record (R654). -/
def recordReaders (i : Nat) : Nat := (descsAt i).foldl (fun a d => if d.acc = .cmd then a else join a d.readers) 0

/-- 6: the role (R71). -/
def roleCode (s : State) (path : Path) (r : Req) : Nat :=
  let may := match descOf r.index r.sub with
    | none => recordReaders r.index
    | some d => if r.op = 1 then d.readers else d.writers
  if meet may (roleOf s path) = 0 then 0x0105 else 0

/-- 7: the expected TYPE (R74, R656). -/
def typeCode (r : Req) : Nat :=
  if r.ty = 0 then 0
  else match descOf r.index r.sub with
    | none => if r.ty = 2 then 0 else 0x0103
    | some d =>
      if d.tab && r.sub = 0 then (if r.ty = 2 then 0 else 0x0103)
      else if r.ty = d.ty || (d.tab && r.ty = 0x0B) then 0 else 0x0103

/-- Size of the value at a sub-index. -/
def sizeAt (r : Req) : Nat :=
  match descOf r.index r.sub with
  | none => 1
  | some d => if d.tab && r.sub = 0 then 1 else d.size

/-- 8: OFFSET + LENGTH (R73), then of a WRITE the encoding (R64) and the Range (R657). -/
def valueCode (r : Req) (data : Bytes) : Nat :=
  if sizeAt r < r.off + r.len then 0x0107
  else if r.op = 1 then 0
  else match descOf r.index r.sub with
    | none => 0
    | some d =>
      let n := data.length
      if d.tab && r.sub = 0 then (if n ≠ 1 then 0x0103 else if inRange d 0 (beNat data) then 0 else 0x0106)
      else if d.ty = 10 || d.ty = 12 then
        (if d.acc = .cmd && (r.off ≠ 0 || n < d.least || d.size < n) then 0x0103 else 0)
      else if n ≠ d.size || (d.ty = 1 && 1 < beNat data) then 0x0103
      else if inRange d r.sub (beNat data) then 0 else 0x0106

/-- The first of several codes that is not 0. -/
def firstCode : List Nat → Nat
  | [] => 0
  | c :: t => if c ≠ 0 then c else firstCode t

/-- Checks 1 to 8. -/
def requestCode (s : State) (path : Path) (r : Req) (data : Bytes) : Nat :=
  firstCode [headerCode r data.length, startCode s r, reachCode s path r, placeCode s r, accessCode r, roleCode s path r, typeCode r,
    valueCode r data]

/-! ### Answers -/

/-- The type code of an answer: echoed where PROTO was wrong, 0 where MGT did not look the object up. -/
def answerType (s : State) (path : Path) (r : Req) (n : Nat) : Nat :=
  if r.proto ≠ 1 then r.ty
  else if headerCode r n ≠ 0 || reachCode s path r ≠ 0 then 0
  else tyOf r.index r.sub

/-- Answer a request at once. -/
def answer (s : State) (path : Path) (r : Req) (n status : Nat) (data : Bytes) : State :=
  sendResponse s path (responseHeader r.op r.tag.toNat r.index r.sub (answerType s path r n) s.obj.cvn status data.length) data

/-! ### Reads -/

/-- The bytes that a READ returns: of octets, up to 1,024 from OFFSET. -/
def readValue (s : State) (r : Req) : Bytes :=
  let b := valueBytes s r.index r.sub r.draft
  if tyOf r.index r.sub = 10 then (b.drop r.off).take 1024 else b

/-- Serve a READ that has passed its checks; no journal record under the selected number is 0x0102. -/
def serveRead (s : State) (path : Path) (r : Req) : State :=
  if r.index = 0x1C00 && r.sub = 0x0C && (journalRecord s).isNone then answer s path r 0 0x0102 []
  else answer (fresh1 s) path r 0 0 (readValue s r)

/-! ### Writes -/

/-- The least BURST_c that row c of LEDGER_BURST takes (*Ledger classes*). -/
def burstMin (c : Nat) : Nat := [4156, 1, 512, 4352, 256].getD (c - 1) 0

/-- A WRITE to a LIVE object (R67), with the rules of the owning chapters. -/
def liveWrite (s : State) (path : Path) (i sub v : Nat) : State × Option Nat :=
  let p := (i - 0x4000) / 0x100
  let off := i % 0x100
  let plain := ({ s with obj.live := putVal s.obj.live i sub v }, some 0)
  if 0x4000 ≤ i then
    (if off = 0x90 && sub ≠ 9 then doEventTargetWrite s (8 * p + sub - 1) (roleOf s path = 2) v
     else if off = 0x82 && sub = 6 then doTraceMirrorBase s p v
     else if off = 0x61 && sub ≠ 0 && slValid v && slotBad v then (s, some 0x0106)
     else if off = 0x62 && sub ≠ 0 && bindingBad p v then (s, some 0x0106)
     else if off = 0x83 && sub ≠ 0 && !sampleOk v then (s, some 0x0106)
     else plain)
  else if sub ≠ 0 && 0x1E10 ≤ i && i ≤ 0x1E17 then doEventTargetWrite s (128 * (i - 0x1E10) + sub - 1) false v
  else if sub ≠ 0 && i = 0x1E04 then ({ s with ev.lark := Tbl.set s.ev.lark (sub - 1) v }, some 0)
  else if i = 0x1600 && sub = 3 && v < getO s 0x1600 2 then (s, some 0x0106)
  else if i = 0x1C01 && v < burstMin sub then (s, some 0x0106)
  else if i = 0x2100 && sub = 3 then (withCap s (fun s => setO s i sub v), some 0)
  else if i = 0x1800 && sub = 1 then
    (let s := setO s i sub v
     ({ s with pow.freqMhz := min s.pow.freqMhz v }, some 0))
  else plain

/-- A PADDOCK_CONTROL write while a configuration operation changes the paddock's resources (R75). -/
def controlBusy (s : State) (p : Nat) : Bool :=
  match s.obj.confOp with | some o => o.changed.contains p | none => false

/-- A WRITE to a CMD object of paddock p's block: none where the answer comes later. -/
def padWrite (s : State) (path : Path) (tag : Tag) (p off sub : Nat) (data : Bytes) (f : Facts) : State × Option Nat :=
  let v := beNat data
  match off, sub with
  | 0x00, 0x02 => if controlBusy s p then (s, some 0x010A) else doPaddockControl s p v f.stuck
  | 0x00, 0x0B => doAllotNonce s p v
  | 0x20, 0x06 => doCtxPrioritySet s p v
  | 0x40, 0x03 => doPtWrite s p data path tag
  | 0x50, 0x01 => doQueueCreate s p v
  | 0x50, 0x02 => doQueueDestroy s p v path tag
  | 0x50, 0x03 => doContextDefine s p v
  | 0x50, 0x04 => doContextControl s p v path tag
  | 0x52, 0x01 => doQpCreate s p v
  | 0x52, 0x02 => doQpModify s p v
  | 0x52, 0x03 => doQpDestroy s p v
  | 0x70, 0x02 => doPaddockKeyInstall s p data f
  | 0x70, 0x03 => readBack s f (doPaddockKeyClear s p v)
  | 0x70, 0x07 => doSealGrant s data f
  | 0x70, 0x08 => doSealBind s p v
  | 0x70, 0x09 => doSealLock s p v path tag
  | 0x81, 0x01 => doCounterLatch s p
  | 0x82, 0x09 => doTraceMark s p v
  | 0x90, 0x09 => doPaddockEventRaise s p v
  | _, _ => (s, some 0x0104)

/-- A WRITE to a CMD object outside the paddock blocks. -/
def deviceWrite (s : State) (path : Path) (tag : Tag) (i sub : Nat) (data : Bytes) (f : Facts) (b : Boot) : State × Option Nat :=
  let v := beNat data
  match i, sub with
  | 0x1100, 0x08 => doCommit s v path tag
  | 0x1100, 0x09 => doRollback s v path tag
  | 0x1100, 0x0A => doDiscardDraft s path
  | 0x1100, 0x0B => doFactoryRestore s path tag
  | 0x1102, 0x02 => doImageApply s f path tag
  | 0x1102, 0x03 => doRequireSignedSet s
  | 0x1400, 0x04 => doSideReset s v
  | 0x1700, 0x0D => doTimeSet s v
  | 0x1700, 0x12 => doLinkRetrain s v
  | 0x1700, 0x14 => doSwatheApply s f
  | 0x1700, 0x15 => doSwatheCancel s
  | 0x1800, 0x03 => doSelftest s v
  | 0x1B00, 0x08 => doRickRepair s v
  | 0x1D00, 0x03 => doKeyInstall s data f
  | 0x1D00, 0x04 => readBack s f (doKeyClear s v)
  | 0x1D00, 0x06 => doMinSvRaise s v
  | 0x1D00, 0x08 => doDebugLockSet s
  | 0x1D00, 0x09 => doAnchorSet s data f
  | 0x1D00, 0x0A => readBack s f (doSecureErase s f)
  | 0x1D00, 0x0B => doUdpSessionOpen s data f
  | 0x1D03, 0x00 => doSealRevoke s v
  | 0x1E00, 0x02 => doEventRaise s v
  | 0x1F00, 0x02 => doHardFence s v
  | 0x1F00, 0x04 => readBack s f (doIslandReset s v)
  | 0x1F00, 0x0B => doSnapshotTake s
  | 0x1F00, 0x0D => doWarmReset s b
  | 0x1F04, 0x04 => doDumpRelease s v
  | 0x2100, 0x02 =>
    (match v with
     | 0 => doPowerStateSetRun s
     | 2 => doPowerStateSetDoze s
     | 3 => doPowerStateSetSleep s
     | _ => (s, some 0x0106))
  | 0x2111, 0x06 => doEthStatsClear s v
  | 0x2202, 0x01 => doFwBegin s
  | 0x2202, 0x03 => doFwData s data
  | 0x2202, 0x04 => doFwFinish s v f path tag
  | 0x2202, 0x05 => doFwActivate s path tag
  | 0x2202, 0x06 => doFwConfirm s path tag
  | _, _ => (s, some 0x0104)

/-- The value after a WRITE: octets keep what lies outside OFFSET and LENGTH. -/
def newValue (s : State) (d : Desc) (r : Req) (data : Bytes) : Nat :=
  if (d.ty = 10) && !(d.tab && r.sub = 0) then
    let old := if d.acc = .draft then cfgDraft s r.index r.sub else getO s r.index r.sub
    beNat (splice (beBytes d.size old) r.off data)
  else beNat data

/-- Does the secondary half refuse the WRITE (R574)? -/
def secondaryRefuses (s : State) (d : Desc) (r : Req) : Bool :=
  paired s && secondHalf s && (d.acc = .draft || d.acc = .cmd) &&
  !(0x1F00 ≤ r.index && r.index ≤ 0x1F04) && !(0x2000 ≤ r.index && r.index ≤ 0x20FF)

/-- Check 9 of a WRITE and its effect: none where the answer comes later. A WRITE of a fixed row count changes nothing (R65). -/
def applyWrite (s : State) (path : Path) (r : Req) (data : Bytes) (f : Facts) (b : Boot) : State × Option Nat :=
  match descOf r.index r.sub with
  | none => (s, some 0x0104)
  | some d =>
    if secondaryRefuses s d r then (s, some 0x0E04)
    else match d.acc with
    | .ro => (s, some 0x0104)
    | .draft =>
      let t := draftWrite s path r.index r.sub (newValue s d r data)
      if d.tab && r.sub = 0 && d.rowsLo = d.rowsHi && t.2 = some 0 then (s, some 0) else t
    | .live | .rw =>
      if d.tab && r.sub = 0 && d.rowsLo = d.rowsHi then (s, some 0) else liveWrite s path r.index r.sub (newValue s d r data)
    | .cmd =>
      if 0x4000 ≤ r.index then padWrite s path r.tag ((r.index - 0x4000) / 0x100) (r.index % 0x100) r.sub data f
      else deviceWrite s path r.tag r.index r.sub data f b

/-- Commands that run on while MGT serves what follows (R75), and the reset that ends every request. -/
def runsOn (r : Req) : Bool :=
  (r.index = 0x1100 && r.sub ≠ 0x0A) || r.index = 0x1102 || (r.index = 0x1F00 && r.sub = 0x0D)

/-- Serve a WRITE that has passed its checks: MGT waits for an answer that comes later. -/
def serveWrite (s : State) (path : Path) (r : Req) (data : Bytes) (f : Facts) (b : Boot) : State :=
  let s := if runsOn r then s else { s with obj.serving := some (path, r.tag) }
  match applyWrite s path r data f b with
  | (t, none) => t
  | (t, some c) => answer { t with obj.serving := none } path r data.length c []

/-! ### Serving (R75) -/

/-- A request that a check refuses; the Hedgerow counts a Stile outside its block (R653). -/
def serveRefused (s : State) (path : Path) (r : Req) (n code : Nat) : State :=
  let s := match path with
    | .stile k => if headerCode r n = 0 && startCode s r = 0 && outsideBlock k.val r then refuse s k.val 0x0111 [r.index] else s
    | _ => s
  answer s path r n code []

/-- Serve one request. -/
def serveNow (s : State) (path : Path) (r : Req) (data : Bytes) (f : Facts) (b : Boot) : State :=
  match requestCode s path r data with
  | 0 => if r.op = 1 then serveRead s path r else serveWrite s path r data f b
  | c => serveRefused s path r data.length c

/-- Does a request reach MGT? While MGT is in reset it is lost; a datagram needs its session (R652). -/
def reaches (s : State) (path : Path) : Bool :=
  !islandOut s 1 && (match path with | .udp k => k.toNat = 0 || Tbl.has s.sec.sessions k.toNat | _ => true)

/-- A request reaches MGT: it is served, or waits behind the one that MGT has not answered yet. -/
def serve (s : State) (path : Path) (r : Req) (data : Bytes) (f : Facts) (b : Boot) : State :=
  if !reaches s path then s
  else if s.obj.serving.isSome then { s with obj.behind := s.obj.behind ++ [(path, r, data, f)] }
  else serveNow s path r data f b

/-- Serve what waits, until MGT waits again. -/
def serveBehind : Nat → State → State
  | 0, s => s
  | n + 1, s =>
    match s.obj.serving, s.obj.behind with
    | none, (path, r, data, f) :: rest => serveBehind n (serveNow { s with obj.behind := rest } path r data f s.sys.bootFacts)
    | _, _ => s

/-! ### Paths -/

/-- OBJECT_READ and OBJECT_WRITE. -/
def doObject (s : State) (via : Path) (hdr : BitVec 128) (data : Bytes) (f : Facts) : State :=
  serve s via (reqOf hdr) data f s.sys.bootFacts

/-- A datagram that is dropped (R78, R652). -/
def dropDatagram (s : State) : State := addO s 0x2111 8 1 32

/-- A datagram that is served. -/
def takeDatagram (s : State) (k seq : Nat) (hdr : BitVec 128) (data : Bytes) (f : Facts) : State :=
  let s := { s with sec.sessions := Tbl.upd s.sec.sessions k (fun x =>
    { x with seq := if k = 0 then 0 else seq, used := s.sys.uptime, asked := x.asked ++ [(hTag hdr.toNat, seq)] }) }
  doObject s (.udp (BitVec.ofNat 28 k)) hdr data f

/-- UDP_DATAGRAM (R77, R78, R652). -/
def doUdpDatagram (s : State) (k seq : Nat) (hdr : BitVec 128) (data : Bytes) (key : Nat) (intact : Bool) (f : Facts) : State :=
  if islandOut s 1 then s
  else if k = 0 then takeDatagram s 0 seq hdr data f
  else match Tbl.find s.sec.sessions k with
    | none => dropDatagram s
    | some x =>
      if 8 < k || !intact || key ≠ x.key then dropDatagram s
      else match x.kept.find? (fun e => e.1 = seq) with
        | some e => emit s (.udp k seq e.2.1 e.2.2 (some x.key))
        | none => if seq ≤ x.seq then dropDatagram s else takeDatagram s k seq hdr data f

/-- An MCTP message arrives; the second source is that of the I3C interface (R520). -/
def mctpSeen (s : State) (pcie : Bool) : State :=
  if islandOut s 1 then s else if pcie then fire s 850 else fire (fire s 850) 851

/-- MCTP_MESSAGE (R71). -/
def doMctpMessage (s : State) (pcie : Bool) (who : BitVec 28) (hdr : BitVec 128) (data : Bytes) (f : Facts) : State :=
  doObject (mctpSeen s pcie) (.mctp pcie who) hdr data f

/-- A write of STILE_CSR or of the request area that is ignored (R183). -/
def stileMisuse (s : State) (fn : Fn) : State :=
  let s := updFunc s fn (fun f => { f with misuse := f.misuse + 1 })
  match fn with
  | none => logDev s 0x040A 0 []
  | some n => logPad s n.val 0x040A 0 []

/-- The event source of a GO. -/
def goSource : Fn → Nat
  | none => 896
  | some n => 897 + n.val

/-- The path of a mailbox. -/
def mailPath : Fn → Path
  | none => .pf
  | some n => .stile n

/-- STILE_GO: in IDLE the mailbox is BUSY with the request, and MGT serves it (R182, R183). A function in reset takes no write. -/
def doStileGo (s : State) (fn : Fn) (irq : Bool) (hdr : BitVec 128) (data : Bytes) (f : Facts) : State :=
  let x := func s fn
  if x.inReset || islandOut s 3 then s
  else if x.stile ≠ 0 then stileMisuse s fn
  else
    let s := updFunc s fn (fun x => { x with stile := 1, irq := irq, request := beBytes 16 hdr.toNat ++ data })
    doObject (fire s (goSource fn)) (mailPath fn) hdr data f

/-- STILE_ACK: DONE becomes IDLE; a GO in the same write is ignored and counted (R183). -/
def doStileAck (s : State) (fn : Fn) (go : Bool) : State :=
  let x := func s fn
  if x.inReset || islandOut s 3 then s
  else if x.stile = 2 then
    let s := updFunc s fn (fun x => { x with stile := 0 })
    if go then stileMisuse s fn else s
  else if go && x.stile = 1 then stileMisuse s fn
  else s

end Sys2Proof.Machine
end

