-- ==== Sys2Proof/Machine/Settle.lean ====
section
/-! DEFINITION. What the block does on its own after every command: requests that waited for MGT, inbound accesses whose bytes are
no longer held, collective instances that can go on, contexts and paddocks whose last command has ended, paddocks whose structures
met poison, copies of new error entries into tenants' mirror rings, the wake from DOZE or SLEEP, and the delivery of every event that
may be delivered. -/

namespace Sys2Proof.Machine
open Sys2Proof

/-- Copy one entry of a paddock's view into its mirror ring; a full ring or a faulting write drops it (R146). -/
def mirrorOne (p : Nat) (s : State) (seq : Nat) : State :=
  let base := getP s p 0x50 0x0A
  match s.log.geq.find? (fun e => e.seq = seq) with
  | none => s
  | some e =>
    if base = 0 then s
    else match ringPut s p base (getP s p 0x50 0x0B) (getP s p 0x50 0x0C) (pad s p).mirrorTail (geqBytes e) with
      | none => addO s (pidx p 0x50) 9 1 32
      | some s => updPad s p (fun d => { d with mirrorTail := (d.mirrorTail + 1) % 65536 })

/-- Copy every new entry. -/
def mirrorAll (s : State) : State :=
  s.pads.foldl (fun s e =>
    if e.2.geqSeqs.isEmpty then s
    else e.2.geqSeqs.foldl (mirrorOne e.1) (updPad s e.1 (fun d => { d with geqSeqs := [] }))) s

/-- Go on with every inbound access that waits (R129, R227). -/
def retryHeld (s : State) : State := s.cmd.heldReads.foldl inboundWork s

/-- Paddocks whose page tables or tables met poison are FAULTED with 0x0A05 (R429, R442). -/
def faultStruck (s : State) : State := faultPads { s with rick.struck := [] } s.rick.struck 0x0A05

/-- What goes on inside the block after a command. -/
def carryOn (s : State) : State :=
  larkWake (mirrorAll (releaseAll (finishAllCtx (faultStruck (advanceGroups (retryHeld (serveBehind s.obj.behind.length s)))))))

/-- What follows every command. -/
def settle (s : State) : State := deliver (carryOn s)

end Sys2Proof.Machine
end

