-- ==== Sys2Proof/Machine/Sharing.lean ====
section
/-! DEFINITION. The ledger snapshot, energy attribution, period ends and the publication of meter snapshots (R455, R475 to
R482, R485, R486). -/

namespace Sys2Proof.Machine
open Sys2Proof

/-- LEDGER_TICK: every arbiter receives every V (R455). -/
def doLedgerTick (s : State) : State := { s with acct.snapshotV := allPads.map (fun p => (pad s p).v) }

/-! ### Energy (R475, R476, R486) -/

/-- Units of each rail that paddocks and the Commons hold together. -/
def holdTotal : List Nat := [64, 64, 124, 256]

/-- What paddock p holds on a rail: a link counts divided by the paddocks that hold it. -/
def holdOn (s : State) (p r : Nat) : Rat :=
  let d := pad s p
  match r with
  | 0 => (popCount 64 d.tussocks : Rat)
  | 1 => ((setBits 64 d.links).map (fun l => (1 : Rat) / ((s.pads.filter (fun e => bit e.2.links l)).length : Rat))).foldl (· + ·) 0
  | 2 => (popCount 124 d.granules : Rat)
  | _ => (popCount 256 d.bundles : Rat)

/-- One rail of a tick with energy e in µJ: each paddock's share in whole µJ, its contexts' part of the dynamic energy, and
what is left to the device. -/
def railTick (r : Nat) (acc : State × Nat) (e : Nat) : State × Nat :=
  let (s, device) := acc
  let dyn := e - Config.idlePower r
  let idle := e - dyn
  let who := notEmpty s
  let act := fun (p : Nat) => (pad s p).act.getD r 0
  let total := who.foldl (fun a p => a + act p) 0
  let moving := fun (p : Nat) => if total = 0 then 0 else dyn * act p / total
  let share := fun (p : Nat) =>
    ((idle : Rat) * holdOn s p r / ((holdTotal.getD r 1 : Nat) : Rat) +
      (if total = 0 then 0 else (dyn : Rat) * (act p : Rat) / (total : Rat))).floor.toNat
  let given := who.foldl (fun a p => a + share p) 0
  let t := who.foldl (fun t p =>
    let own := act p
    let t := updPad t p (fun d => { d with energy := d.energy + share p, act := d.act.set r 0 })
    updPad t p (fun d => { d with ctxs := d.ctxs.map (fun c =>
      (c.1, { c.2 with usage := c.2.usage.set 5 (c.2.usage.getD 5 0 + (if own = 0 then 0 else moving p * c.2.act.getD r 0 / own)),
                       act := c.2.act.set r 0 })) })) s
  (t, device + (e - given))

/-- Rows 2 to 5 of INTERFERENCE rise by free numbers: the waits at the arbiters of issue slots, PCIe, modules and rick channels pass
inside a command of the model (R477, log 59). -/
def waitElsewhere (s : State) (p : Nat) : State :=
  fresh1 ((List.range 4).foldl (fun s k => setP s p 0x31 (k + 2) ((getP s p 0x31 (k + 2) + Config.freeChoice (64 * s.fresh + k)) % 2 ^ 64)) s)

/-- METER_TICK with each rail's energy in µJ: attribution, ENERGY_MJ, and rick byte-seconds (R474, R475, R476). -/
def doMeterTick (s : State) (e : List Nat) : State :=
  let (s, device) := ((List.range 4).map (fun r => (r, e.getD r 0))).foldl (fun acc x => railTick x.1 acc x.2) (s, 0)
  let s := (notEmpty s).foldl (fun s p => setP (meter s p 8 (256 * popCount 124 (pad s p).granules)) p 0x30 10 ((pad s p).energy / 1000)) s
  let s := (notEmpty s).foldl waitElsewhere s
  let s := { s with acct.meterEnergy := s.acct.meterEnergy + (e.take 4).foldl (· + ·) 0, acct.deviceEnergy := s.acct.deviceEnergy + device }
  if s.pow.sensorBus = 2 then
    let s := { s with acct.estimated := true }
    if getO s 0x1C00 5 = 0 then logDev (setO s 0x1C00 5 1) 0x0325 0 [] else s
  else setO s 0x1C00 5 0

/-! ### Periods and snapshots (R478 to R481, R485) -/

/-- The paddock that caused most of another's interference; 0xFF where there was none. A tie goes to the lowest number. -/
def topOf (l : List (Nat × Nat)) : Nat :=
  ((l.foldl (fun a e => match a with
    | none => some e
    | some b => if b.2 < e.2 || (b.2 = e.2 && e.1 < b.1) then some e else a) none).map (·.1)).getD 0xFF

/-- ACCT_PERIOD in force, in ns. -/
def periodNs (s : State) : Nat := (if s.acct.accPeriod = 0 then dfltOf 0x1C00 4 else s.acct.accPeriod) * 10 ^ 9

/-- A period ends: snapshots of every paddock that is not EMPTY, usage records of resident contexts, and the interferers. -/
def doPeriodEnd (s : State) : State :=
  let stop := ns s / periodNs s * periodNs s
  let s := (notEmpty s).foldl (fun s p =>
    let s := formSnapshot s p false false (max stop (pad s p).periodStart)
    (pad s p).ctxs.foldl (fun s e => if e.2.slot.isSome then usageRecord s p e.1 2 else s) s) s
  let s := s.pads.foldl (fun s e => updPad (setO s 0x1C02 (e.1 + 1) (topOf e.2.behind)) e.1 (fun d => { d with behind := [] })) s
  { s with acct.estimated := false, acct.accPeriod := getO s 0x1C00 4 }

/-- The oldest snapshot in the meter journal that is not published yet becomes SNAP_RECORD (R481, R525). -/
def doSnapshotPublished (s : State) : State :=
  match s.acct.snapWork with
  | [] => s
  | (p, rcd) :: rest =>
    let s := { s with acct.snapWork := rest }
    firePad (updPad s p (fun d => { d with snap := rcd })) p 4

end Sys2Proof.Machine
end

