-- ==== Sys2Proof/Machine/Rows.lean ====
section
/-! DEFINITION. The meaning of each command: one definition for each row of the opcode table, over the operations of the other
files. A row that is a WRITE of an object is served as the request it is, on the path and with the TAG that it names. -/

namespace Sys2Proof.Machine
open Sys2Proof

/-- What a command comes to: until the boot ROM has entered Mbomon nothing but a reset acts; then the effect, and what follows
every command (log 34). -/
def ran (s t : State) : Host.Outcome State Fault Refusal := .next (if s.sys.boot < 2 then s else settle t)

/-- A QP_MODIFY argument with its TARGET. -/
def qpTarget (k arg : Nat) : Nat := arg / 2 ^ 232 * 2 ^ 232 + k * 2 ^ 228 + arg % 2 ^ 228

/-- An SPDM message over MCTP: the responder runs while MGT does. -/
def spdmRow (s : State) (pcie : Bool) (f : State → State) : State := if islandOut s 1 then s else f (mctpSeen s pcie)

/-! ### Start-up, object requests and configuration -/

/-- POR_N (R641). -/
def execPorN (b : Boot) (s : State) : Host.Outcome State Fault Refusal :=
  .next (settle (doPorN s b))

/-- WARM_RST_N (R562). -/
def execWarmRstN (b : Boot) (s : State) : Host.Outcome State Fault Refusal :=
  .next (settle (doWarmRstN s b))

/-- WARM_RESET (R562). -/
def execWarmReset (via : Path) (tag : Tag) (b : Boot) (s : State) : Host.Outcome State Fault Refusal :=
  ran s (serve s via (writeReq tag 0x1F00 0x0D 1) [1] {} b)

/-- OBJECT_READ (R75). -/
def execObjectRead (via : Path) (hdr : BitVec 128) (s : State) : Host.Outcome State Fault Refusal :=
  ran s (doObject s via hdr [] {})

/-- OBJECT_WRITE (R67). -/
def execObjectWrite (via : Path) (hdr : BitVec 128) (payload : Bytes) (f : Facts) (s : State) : Host.Outcome State Fault Refusal :=
  ran s (doObject s via hdr payload f)

/-- UDP_DATAGRAM (R78). -/
def execUdpDatagram (session : BitVec 32) (seq : BitVec 32) (hdr : BitVec 128) (payload : Bytes) (key : Nat) (intact : Bool) (f : Facts) (s : State) : Host.Outcome State Fault Refusal :=
  ran s (doUdpDatagram s session.toNat seq.toNat hdr payload key intact f)

/-- MCTP_MESSAGE (R71). -/
def execMctpMessage (pcie : Bool) (who : BitVec 28) (hdr : BitVec 128) (payload : Bytes) (f : Facts) (s : State) : Host.Outcome State Fault Refusal :=
  ran s (doMctpMessage s pcie who hdr payload f)

/-- STILE_GO (R182). -/
def execStileGo (fn : Fn) (irq : Bool) (hdr : BitVec 128) (payload : Bytes) (f : Facts) (s : State) : Host.Outcome State Fault Refusal :=
  ran s (doStileGo (touched s) fn irq hdr payload f)

/-- STILE_ACK (R183). -/
def execStileAck (fn : Fn) (go : Bool) (s : State) : Host.Outcome State Fault Refusal :=
  ran s (doStileAck s fn go)

/-- COMMIT (R83). -/
def execCommit (via : Path) (tag : Tag) (v : BitVec 32) (s : State) : Host.Outcome State Fault Refusal :=
  ran s (serve s via (writeReq tag 0x1100 0x08 4) (beBytes 4 v.toNat) {} s.sys.bootFacts)

/-- CONFIG_OPERATION_DONE (R83). -/
def execConfigOperationDone (ok : Bool) (s : State) : Host.Outcome State Fault Refusal :=
  ran s (doConfigOperationDone s ok)

/-- ROLLBACK (R91). -/
def execRollback (via : Path) (tag : Tag) (v : BitVec 32) (s : State) : Host.Outcome State Fault Refusal :=
  ran s (serve s via (writeReq tag 0x1100 0x09 4) (beBytes 4 v.toNat) {} s.sys.bootFacts)

/-- FACTORY_RESTORE (R94). -/
def execFactoryRestore (via : Path) (tag : Tag) (s : State) : Host.Outcome State Fault Refusal :=
  ran s (serve s via (writeReq tag 0x1100 0x0B 1) [1] {} s.sys.bootFacts)

/-- DISCARD_DRAFT (R95). -/
def execDiscardDraft (via : Path) (tag : Tag) (s : State) : Host.Outcome State Fault Refusal :=
  ran s (serve s via (writeReq tag 0x1100 0x0A 1) [1] {} s.sys.bootFacts)

/-- IMAGE_APPLY (R102). -/
def execImageApply (via : Path) (tag : Tag) (f : Facts) (s : State) : Host.Outcome State Fault Refusal :=
  ran s (serve s via (writeReq tag 0x1102 0x02 1) [1] f s.sys.bootFacts)

/-- REQUIRE_SIGNED_SET (R104). -/
def execRequireSignedSet (via : Path) (tag : Tag) (s : State) : Host.Outcome State Fault Refusal :=
  ran s (serve s via (writeReq tag 0x1102 0x03 1) [1] {} s.sys.bootFacts)

/-- DRAFT_LEASE_EXPIRY (R81). -/
def execDraftLeaseExpiry (s : State) : Host.Outcome State Fault Refusal :=
  ran s (doDraftLeaseExpiry s)

/-! ### Paddocks -/

/-- FENCE (R48). -/
def execFence (via : Path) (tag : Tag) (p : PNum) (s : State) : Host.Outcome State Fault Refusal :=
  ran s (serve s via (writeReq tag (pidx p.val 0x00) 0x02 1) [1] {} s.sys.bootFacts)

/-- OPEN (R40). -/
def execOpenPaddock (via : Path) (tag : Tag) (p : PNum) (s : State) : Host.Outcome State Fault Refusal :=
  ran s (serve s via (writeReq tag (pidx p.val 0x00) 0x02 1) [2] {} s.sys.bootFacts)

/-- DRAIN (R48). -/
def execDrain (via : Path) (tag : Tag) (p : PNum) (s : State) : Host.Outcome State Fault Refusal :=
  ran s (serve s via (writeReq tag (pidx p.val 0x00) 0x02 1) [3] {} s.sys.bootFacts)

/-- DRAINED (R48). -/
def execDrained (p : PNum) (s : State) : Host.Outcome State Fault Refusal :=
  ran s (doDrained s p.val)

/-- DRAIN_TIMEOUT (R48). -/
def execDrainTimeout (p : PNum) (s : State) : Host.Outcome State Fault Refusal :=
  ran s (doDrainTimeout s p.val)

/-- RELEASE (R48). -/
def execRelease (via : Path) (tag : Tag) (p : PNum) (f : Facts) (s : State) : Host.Outcome State Fault Refusal :=
  ran s (serve s via (writeReq tag (pidx p.val 0x00) 0x02 1) [4] f s.sys.bootFacts)

/-- RECOVER (R48). -/
def execRecover (via : Path) (tag : Tag) (p : PNum) (s : State) : Host.Outcome State Fault Refusal :=
  ran s (serve s via (writeReq tag (pidx p.val 0x00) 0x02 1) [5] {} s.sys.bootFacts)

/-- PADDOCK_FAULT (R55). -/
def execPaddockFault (ps : List PNum) (code : BitVec 16) (s : State) : Host.Outcome State Fault Refusal :=
  ran s (faultPads s (ps.map (·.val)) code.toNat)

/-- GRANULE_ZEROISED (R46). -/
def execGranuleZeroised (g : Fin 128) (ok : Bool) (s : State) : Host.Outcome State Fault Refusal :=
  ran s (doGranuleZeroised s g.val ok)

/-- ALLOT_NONCE (R59). -/
def execAllotNonce (via : Path) (tag : Tag) (p : PNum) (nonce : BitVec 256) (s : State) : Host.Outcome State Fault Refusal :=
  ran s (serve s via (writeReq tag (pidx p.val 0x00) 0x0B 32) (beBytes 32 nonce.toNat) {} s.sys.bootFacts)

/-! ### Queues, contexts and local commands -/

/-- SUBMISSION_DOORBELL (R116). -/
def execSubmissionDoorbell (vf : PNum) (q : Fin 64) (v : BitVec 32) (len : Nat) (s : State) : Host.Outcome State Fault Refusal :=
  ran s (doSubmissionDoorbell (touched s) vf.val q.val v.toNat len)

/-- COMPLETION_DOORBELL (R116). -/
def execCompletionDoorbell (vf : PNum) (q : Fin 64) (v : BitVec 32) (len : Nat) (s : State) : Host.Outcome State Fault Refusal :=
  ran s (doCompletionDoorbell (touched s) vf.val q.val v.toNat len)

/-- QUEUE_WINDOW_WRITE (R180). -/
def execQueueWindowWrite (vf : PNum) (off : BitVec 28) (data : Bytes) (s : State) : Host.Outcome State Fault Refusal :=
  ran s (doQueueWindowWrite s vf.val off.toNat data)

/-- FETCH (R118). -/
def execFetch (p : PNum) (s : State) : Host.Outcome State Fault Refusal :=
  ran s (doFetch s p.val)

/-- COMMAND_COMMIT (R127). -/
def execCommandCommit (id : Nat) (s : State) : Host.Outcome State Fault Refusal :=
  ran s (doCommandCommit s id)

/-- CQ_STALL (R121). -/
def execCqStall (id : Nat) (s : State) : Host.Outcome State Fault Refusal :=
  ran s (doCqStall s id)

/-- NOP (R123). -/
def execNop (id : Nat) (s : State) : Host.Outcome State Fault Refusal :=
  ran s (doNop s id)

/-- TIMESTAMP (R127). -/
def execTimestamp (id : Nat) (s : State) : Host.Outcome State Fault Refusal :=
  ran s (doTimestamp s id)

/-- ALLOC (R140). -/
def execAlloc (id : Nat) (s : State) : Host.Outcome State Fault Refusal :=
  ran s (doAlloc s id)

/-- FREE (R142). -/
def execFree (id : Nat) (s : State) : Host.Outcome State Fault Refusal :=
  ran s (doFree s id)

/-- SIGNAL (R137). -/
def execSignal (id : Nat) (s : State) : Host.Outcome State Fault Refusal :=
  ran s (doSignal s id)

/-- WAIT (R138). -/
def execWaitCmd (id : Nat) (s : State) : Host.Outcome State Fault Refusal :=
  ran s (doWaitCmd s id)

/-- WAIT_TIMEOUT (R138). -/
def execWaitTimeout (id : Nat) (s : State) : Host.Outcome State Fault Refusal :=
  ran s (doWaitTimeout s id)

/-- QUEUE_CREATE (R148). -/
def execQueueCreate (via : Path) (tag : Tag) (p : PNum) (arg : BitVec 256) (s : State) : Host.Outcome State Fault Refusal :=
  ran s (serve s via (writeReq tag (pidx p.val 0x50) 0x01 32) (beBytes 32 arg.toNat) {} s.sys.bootFacts)

/-- QUEUE_DESTROY (R122). -/
def execQueueDestroy (via : Path) (tag : Tag) (p : PNum) (q : BitVec 8) (s : State) : Host.Outcome State Fault Refusal :=
  ran s (serve s via (writeReq tag (pidx p.val 0x50) 0x02 1) (beBytes 1 q.toNat) {} s.sys.bootFacts)

/-- QUEUE_DESTROY_TIMEOUT (R122). -/
def execQueueDestroyTimeout (p : PNum) (q : Fin 64) (s : State) : Host.Outcome State Fault Refusal :=
  ran s (doQueueDestroyTimeout s p.val q.val)

/-- CONTEXT_DEFINE (R113). -/
def execContextDefine (via : Path) (tag : Tag) (p : PNum) (arg : BitVec 128) (s : State) : Host.Outcome State Fault Refusal :=
  ran s (serve s via (writeReq tag (pidx p.val 0x50) 0x03 16) (beBytes 16 arg.toNat) {} s.sys.bootFacts)

/-- DESTROY (R149). -/
def execDestroy (via : Path) (tag : Tag) (p : PNum) (c : BitVec 12) (s : State) : Host.Outcome State Fault Refusal :=
  ran s (serve s via (writeReq tag (pidx p.val 0x50) 0x04 2) (beBytes 2 (1 * 4096 + c.toNat)) {} s.sys.bootFacts)

/-- DESTROY_TIMEOUT (R149). -/
def execDestroyTimeout (p : PNum) (c : BitVec 12) (s : State) : Host.Outcome State Fault Refusal :=
  ran s (doDestroyTimeout s p.val c.toNat)

/-- FORCE_DESTROY (R149). -/
def execForceDestroy (via : Path) (tag : Tag) (p : PNum) (c : BitVec 12) (s : State) : Host.Outcome State Fault Refusal :=
  ran s (serve s via (writeReq tag (pidx p.val 0x50) 0x04 2) (beBytes 2 (2 * 4096 + c.toNat)) {} s.sys.bootFacts)

/-- KILL (R113). -/
def execKill (via : Path) (tag : Tag) (p : PNum) (c : BitVec 12) (s : State) : Host.Outcome State Fault Refusal :=
  ran s (serve s via (writeReq tag (pidx p.val 0x50) 0x04 2) (beBytes 2 (3 * 4096 + c.toNat)) {} s.sys.bootFacts)

/-- RESUME (R113). -/
def execResume (via : Path) (tag : Tag) (p : PNum) (c : BitVec 12) (s : State) : Host.Outcome State Fault Refusal :=
  ran s (serve s via (writeReq tag (pidx p.val 0x50) 0x04 2) (beBytes 2 (4 * 4096 + c.toNat)) {} s.sys.bootFacts)

/-- REVIVE (R113). -/
def execRevive (via : Path) (tag : Tag) (p : PNum) (c : BitVec 12) (s : State) : Host.Outcome State Fault Refusal :=
  ran s (serve s via (writeReq tag (pidx p.val 0x50) 0x04 2) (beBytes 2 (5 * 4096 + c.toNat)) {} s.sys.bootFacts)

/-- EPOCH_QUARANTINE_END (R111). -/
def execEpochQuarantineEnd (p : PNum) (c : BitVec 12) (e : BitVec 8) (s : State) : Host.Outcome State Fault Refusal :=
  ran s (doEpochQuarantineEnd s p.val c.toNat e.toNat)

/-! ### The Tenancy Port -/

/-- HEADER_FLIT (R154). -/
def execHeaderFlit (m : Fin 24) (flit : Bytes) (s : State) : Host.Outcome State Fault Refusal :=
  ran s (doHeaderFlit s m flit)

/-- TP_READ (R169). -/
def execTpRead (m : Fin 24) (h : BitVec 256) (s : State) : Host.Outcome State Fault Refusal :=
  ran s (doTpRead s m h)

/-- TP_WRITE (R169). -/
def execTpWrite (m : Fin 24) (h : BitVec 256) (data : Bytes) (s : State) : Host.Outcome State Fault Refusal :=
  ran s (doTpWrite s m h data)

/-- READ_DATA (R155). -/
def execReadData (m : Fin 24) (h : BitVec 256) (data : Bytes) (s : State) : Host.Outcome State Fault Refusal :=
  ran s (doReadData s m h data)

/-- WRITE_ACK (R155). -/
def execWriteAck (m : Fin 24) (h : BitVec 256) (s : State) : Host.Outcome State Fault Refusal :=
  ran s (doWriteAck s m h)

/-- DISPATCH_DONE (R173). -/
def execDispatchDone (m : Fin 24) (h : BitVec 256) (s : State) : Host.Outcome State Fault Refusal :=
  ran s (doDispatchDone s m h)

/-- RESPONSE_TIMEOUT (R156). -/
def execResponseTimeout (t : Tag) (s : State) : Host.Outcome State Fault Refusal :=
  ran s (doResponseTimeout s t.toNat)

/-- TP_TAG_QUARANTINE_END (R156). -/
def execTpTagQuarantineEnd (t : Tag) (s : State) : Host.Outcome State Fault Refusal :=
  ran s (doTpTagQuarantineEnd s t.toNat)

/-- TABLE_ACK (R162). -/
def execTableAck (m : Fin 24) (h : BitVec 128) (s : State) : Host.Outcome State Fault Refusal :=
  ran s (doTableAck s m h)

/-- TABLE_NAK (R162). -/
def execTableNak (m : Fin 24) (h : BitVec 128) (s : State) : Host.Outcome State Fault Refusal :=
  ran s (doTableNak s m h)

/-- FENCE_PUSH_FAILED (R162). -/
def execFencePushFailed (p : PNum) (die : Fin 16) (s : State) : Host.Outcome State Fault Refusal :=
  ran s (doFencePushFailed s p.val die.val)

/-- FENCE_ACK (R164). -/
def execFenceAck (m : Fin 24) (h : BitVec 128) (s : State) : Host.Outcome State Fault Refusal :=
  ran s (doFenceAck s m h)

/-- FENCE_MISSED (R167). -/
def execFenceMissed (p : PNum) (die : Fin 16) (s : State) : Host.Outcome State Fault Refusal :=
  ran s (doFenceMissed s p.val die.val)

/-- BREACH (R169). -/
def execBreach (m : Fin 24) (h : BitVec 128) (words : List (BitVec 128)) (s : State) : Host.Outcome State Fault Refusal :=
  ran s (doBreach s m h words)

/-- LOT_CLEAN (R170). -/
def execLotClean (m : Fin 24) (h : BitVec 128) (s : State) : Host.Outcome State Fault Refusal :=
  ran s (doLotClean s m h)

/-- TABLE_REPORT (R175). -/
def execTableReport (m : Fin 24) (h : BitVec 128) (s : State) : Host.Outcome State Fault Refusal :=
  ran s (doTableReport s m h)

/-- SIDEBAND_NAK (R154). -/
def execSidebandNak (m : Fin 24) (h : BitVec 128) (s : State) : Host.Outcome State Fault Refusal :=
  ran s (doSidebandNak s m h)

/-- MANIFEST (R159). -/
def execManifest (m : Fin 24) (h : BitVec 128) (words : List (BitVec 128)) (s : State) : Host.Outcome State Fault Refusal :=
  ran s (doManifest s m h words)

/-- MODULE_LINK_UP (R159). -/
def execModuleLinkUp (m : Fin 24) (die : Fin 16) (s : State) : Host.Outcome State Fault Refusal :=
  ran s (doModuleLinkUp s m die)

/-- MODULE_TRAINING_FAILED (R153). -/
def execModuleTrainingFailed (m : Fin 24) (s : State) : Host.Outcome State Fault Refusal :=
  ran s (doModuleTrainingFailed s m)

/-- SIDE_RESET (R175). -/
def execSideReset (via : Path) (tag : Tag) (v : BitVec 8) (s : State) : Host.Outcome State Fault Refusal :=
  ran s (serve s via (writeReq tag 0x1400 0x04 1) (beBytes 1 v.toNat) {} s.sys.bootFacts)

/-! ### The host function -/

/-- ATS_TRANSLATION_COMPLETION (R185). -/
def execAtsTranslationCompletion (n : Nat) (host : BitVec 64) (size : Nat) (r : Bool) (w : Bool) (s : State) : Host.Outcome State Fault Refusal :=
  ran s (doAtsTranslationCompletion s n host.toNat size r w)

/-- ATS_INVALIDATION_REQUEST (R186). -/
def execAtsInvalidationRequest (vf : PNum) (itag : BitVec 5) (base : BitVec 64) (size : Nat) (s : State) : Host.Outcome State Fault Refusal :=
  ran s (doAtsInvalidationRequest s vf.val itag.toNat base.toNat size)

/-- INVALIDATION_COMPLETION (R186). -/
def execInvalidationCompletion (vf : PNum) (itag : BitVec 5) (s : State) : Host.Outcome State Fault Refusal :=
  ran s (doInvalidationCompletion s vf.val itag.toNat)

/-- HOST_COMPLETION (R187). -/
def execHostCompletion (t : BitVec 14) (status : BitVec 3) (poisoned : Bool) (data : Bytes) (key : Nat) (last : Bool) (s : State) : Host.Outcome State Fault Refusal :=
  ran s (doHostCompletion s t.toNat status.toNat poisoned data key last)

/-- CPL_TIMEOUT (R187). -/
def execCplTimeout (t : BitVec 14) (s : State) : Host.Outcome State Fault Refusal :=
  ran s (doCplTimeout s t.toNat)

/-- HOST_TAG_QUARANTINE_END (R188). -/
def execHostTagQuarantineEnd (t : BitVec 14) (s : State) : Host.Outcome State Fault Refusal :=
  ran s (doHostTagQuarantineEnd s t.toNat)

/-- BUS_MASTER_ENABLE_CLEAR (R193). -/
def execBusMasterEnableClear (fn : Fn) (s : State) : Host.Outcome State Fault Refusal :=
  ran s (doBusMasterEnableClear s fn)

/-- BUS_MASTER_ENABLE_SET (R192). -/
def execBusMasterEnableSet (fn : Fn) (s : State) : Host.Outcome State Fault Refusal :=
  ran s (doBusMasterEnableSet s fn)

/-- MSIX_VECTOR_UNMASK (R192). -/
def execMsixVectorUnmask (fn : Fn) (v : BitVec 8) (s : State) : Host.Outcome State Fault Refusal :=
  ran s (doMsixVectorUnmask s fn v.toNat)

/-- FUNCTION_LEVEL_RESET (R195). -/
def execFunctionLevelReset (vf : PNum) (s : State) : Host.Outcome State Fault Refusal :=
  ran s (flr s vf.val)

/-- FLR_COMPLETE (R195). -/
def execFlrComplete (vf : PNum) (s : State) : Host.Outcome State Fault Refusal :=
  ran s (doFlrComplete s vf.val)

/-- VF_ENABLE_CLEAR (R200). -/
def execVfEnableClear (s : State) : Host.Outcome State Fault Refusal :=
  ran s (doVfEnableClear s)

/-- PF_FUNCTION_LEVEL_RESET (R200). -/
def execPfFunctionLevelReset (s : State) : Host.Outcome State Fault Refusal :=
  ran s (doPfFunctionLevelReset s)

/-- HOT_RESET (R200). -/
def execHotReset (s : State) : Host.Outcome State Fault Refusal :=
  ran s (doHotReset s)

/-- PCIE_LINK_DOWN (R200). -/
def execPcieLinkDown (s : State) : Host.Outcome State Fault Refusal :=
  ran s (doPcieLinkDown s)

/-- HOST_LINK_TRAINED (R644). -/
def execHostLinkTrained (rate : BitVec 3) (width : BitVec 5) (s : State) : Host.Outcome State Fault Refusal :=
  ran s (doHostLinkTrained s rate.toNat width.toNat)

/-- BOUNCE_FLOOR (R205). -/
def execBounceFloor (vf : PNum) (v : BitVec 64) (s : State) : Host.Outcome State Fault Refusal :=
  ran s (doBounceFloor s vf.val v.toNat)

/-! ### Beluth transport -/

/-- WRITE (R220). -/
def execWrite (id : Nat) (s : State) : Host.Outcome State Fault Refusal :=
  ran s (doWrite s id)

/-- READ (R252). -/
def execRead (id : Nat) (s : State) : Host.Outcome State Fault Refusal :=
  ran s (doRead s id)

/-- ATOMIC (R225). -/
def execAtomic (id : Nat) (s : State) : Host.Outcome State Fault Refusal :=
  ran s (doAtomic s id)

/-- DISPATCH (R172). -/
def execDispatch (id : Nat) (s : State) : Host.Outcome State Fault Refusal :=
  ran s (doDispatch s id)

/-- COPY (R220). -/
def execCopy (id : Nat) (s : State) : Host.Outcome State Fault Refusal :=
  ran s (doCopy s id)

/-- QP_CREATE (R260). -/
def execQpCreate (via : Path) (tag : Tag) (p : PNum) (arg : BitVec 128) (s : State) : Host.Outcome State Fault Refusal :=
  ran s (serve s via (writeReq tag (pidx p.val 0x52) 0x01 16) (beBytes 16 arg.toNat) {} s.sys.bootFacts)

/-- QP_MODIFY_INIT (R216). -/
def execQpModifyInit (via : Path) (tag : Tag) (p : PNum) (arg : BitVec 256) (s : State) : Host.Outcome State Fault Refusal :=
  ran s (serve s via (writeReq tag (pidx p.val 0x52) 0x02 32) (beBytes 32 (qpTarget 1 arg.toNat)) {} s.sys.bootFacts)

/-- QP_MODIFY_READY (R216). -/
def execQpModifyReady (via : Path) (tag : Tag) (p : PNum) (arg : BitVec 256) (s : State) : Host.Outcome State Fault Refusal :=
  ran s (serve s via (writeReq tag (pidx p.val 0x52) 0x02 32) (beBytes 32 (qpTarget 2 arg.toNat)) {} s.sys.bootFacts)

/-- QP_MODIFY_DRAINED (R216). -/
def execQpModifyDrained (via : Path) (tag : Tag) (p : PNum) (arg : BitVec 256) (s : State) : Host.Outcome State Fault Refusal :=
  ran s (serve s via (writeReq tag (pidx p.val 0x52) 0x02 32) (beBytes 32 (qpTarget 4 arg.toNat)) {} s.sys.bootFacts)

/-- QP_MODIFY_RESET (R216). -/
def execQpModifyReset (via : Path) (tag : Tag) (p : PNum) (arg : BitVec 256) (s : State) : Host.Outcome State Fault Refusal :=
  ran s (serve s via (writeReq tag (pidx p.val 0x52) 0x02 32) (beBytes 32 (qpTarget 0 arg.toNat)) {} s.sys.bootFacts)

/-- QP_DESTROY (R216). -/
def execQpDestroy (via : Path) (tag : Tag) (p : PNum) (v : BitVec 32) (s : State) : Host.Outcome State Fault Refusal :=
  ran s (serve s via (writeReq tag (pidx p.val 0x52) 0x03 4) (beBytes 4 v.toNat) {} s.sys.bootFacts)

/-- DATA_PACKET (R233). -/
def execDataPacket (on : Port) (pkt : Packet) (s : State) : Host.Outcome State Fault Refusal :=
  ran s (doDataPacket s on pkt)

/-- COMMIT_PACKET (R238). -/
def execCommitPacket (on : Port) (pkt : Packet) (s : State) : Host.Outcome State Fault Refusal :=
  ran s (doCommitPacket s on pkt)

/-- ACK_PACKET (R251). -/
def execAckPacket (on : Port) (pkt : Packet) (s : State) : Host.Outcome State Fault Refusal :=
  ran s (doAckPacket s on pkt)

/-- NAK_PACKET (R240). -/
def execNakPacket (on : Port) (pkt : Packet) (s : State) : Host.Outcome State Fault Refusal :=
  ran s (doNakPacket s on pkt)

/-- READ_REQ (R223). -/
def execReadReq (on : Port) (pkt : Packet) (s : State) : Host.Outcome State Fault Refusal :=
  ran s (doReadReq s on pkt)

/-- READ_RESP (R233). -/
def execReadResp (on : Port) (pkt : Packet) (s : State) : Host.Outcome State Fault Refusal :=
  ran s (doReadResp s on pkt)

/-- ATOMIC_REQ (R225). -/
def execAtomicReq (on : Port) (pkt : Packet) (s : State) : Host.Outcome State Fault Refusal :=
  ran s (doAtomicReq s on pkt)

/-- ATOMIC_RESP (R229). -/
def execAtomicResp (on : Port) (pkt : Packet) (s : State) : Host.Outcome State Fault Refusal :=
  ran s (doAtomicResp s on pkt)

/-- ATOMIC_TIMEOUT (R229). -/
def execAtomicTimeout (id : Nat) (s : State) : Host.Outcome State Fault Refusal :=
  ran s (doAtomicTimeout s id)

/-- ATOMIC_RESPONSE_EXPIRY (R228). -/
def execAtomicResponseExpiry (qpn : BitVec 24) (msg : BitVec 12) (s : State) : Host.Outcome State Fault Refusal :=
  ran s (doAtomicResponseExpiry s qpn.toNat msg.toNat)

/-- ABORT (R245). -/
def execAbort (on : Port) (pkt : Packet) (s : State) : Host.Outcome State Fault Refusal :=
  ran s (doAbort s on pkt)

/-- ABORT_ACK (R244). -/
def execAbortAck (on : Port) (pkt : Packet) (s : State) : Host.Outcome State Fault Refusal :=
  ran s (doAbortAck s on pkt)

/-- COMMIT_ACK (R242). -/
def execCommitAck (on : Port) (pkt : Packet) (s : State) : Host.Outcome State Fault Refusal :=
  ran s (doCommitAck s on pkt)

/-- ABANDON (R247). -/
def execAbandon (on : Port) (pkt : Packet) (s : State) : Host.Outcome State Fault Refusal :=
  ran s (doAbandon s on pkt)

/-- GRANT (R410). -/
def execGrant (on : Port) (pkt : Packet) (s : State) : Host.Outcome State Fault Refusal :=
  ran s (doGrant s on pkt)

/-- RETX_TIMER_EXPIRY (R255). -/
def execRetxTimerExpiry (qpn : BitVec 24) (s : State) : Host.Outcome State Fault Refusal :=
  ran s (doRetxTimerExpiry s qpn.toNat)

/-- ACK_INTERVAL_EXPIRY (R236). -/
def execAckIntervalExpiry (qpn : BitVec 24) (path : Fin 16) (s : State) : Host.Outcome State Fault Refusal :=
  ran s (doAckIntervalExpiry s qpn.toNat path.val)

/-- READ_TIMEOUT (R252). -/
def execReadTimeout (id : Nat) (s : State) : Host.Outcome State Fault Refusal :=
  ran s (doReadTimeout s id)

/-- MSG_QUARANTINE_END (R232). -/
def execMsgQuarantineEnd (qpn : BitVec 24) (msg : BitVec 12) (s : State) : Host.Outcome State Fault Refusal :=
  ran s (doMsgQuarantineEnd s qpn.toNat msg.toNat)

/-- ORPHANED (R248). -/
def execOrphaned (qpn : BitVec 24) (msg : BitVec 12) (s : State) : Host.Outcome State Fault Refusal :=
  ran s (doOrphaned s qpn.toNat msg.toNat)

/-! ### Links, time and swathes -/

/-- SIGNAL_DETECTED (R262). -/
def execSignalDetected (l : Fin 68) (s : State) : Host.Outcome State Fault Refusal :=
  ran s (doSignalDetected s l.val)

/-- TRAINING_DONE (R262). -/
def execTrainingDone (l : Fin 68) (s : State) : Host.Outcome State Fault Refusal :=
  ran s (doTrainingDone s l.val)

/-- TRAINING_TIMEOUT (R262). -/
def execTrainingTimeout (l : Fin 68) (s : State) : Host.Outcome State Fault Refusal :=
  ran s (doTrainingTimeout s l.val)

/-- INIT (R262). -/
def execInitFrame (l : Fin 68) (ctl : BitVec 128) (s : State) : Host.Outcome State Fault Refusal :=
  ran s (doInitFrame s l.val ctl.toNat)

/-- INIT_TIMEOUT (R262). -/
def execInitTimeout (l : Fin 68) (s : State) : Host.Outcome State Fault Refusal :=
  ran s (doInitTimeout s l.val)

/-- DATA_FRAME (R268). -/
def execDataFrame (l : Fin 68) (h : BitVec 64) (data : Bytes) (crcOk : Bool) (s : State) : Host.Outcome State Fault Refusal :=
  ran s (doDataFrame s l.val h.toNat data crcOk)

/-- CREDIT (R271). -/
def execCredit (l : Fin 68) (h : BitVec 64) (ctl : BitVec 128) (s : State) : Host.Outcome State Fault Refusal :=
  ran s (doCredit s l.val h.toNat ctl.toNat)

/-- LINK_NAK (R268). -/
def execLinkNak (l : Fin 68) (ctl : BitVec 128) (s : State) : Host.Outcome State Fault Refusal :=
  ran s (doLinkNak s l.val ctl.toNat)

/-- POOL_MAP (R274). -/
def execPoolMap (l : Fin 68) (h : BitVec 64) (ctl : BitVec 128) (s : State) : Host.Outcome State Fault Refusal :=
  ran s (doPoolMap s l.val h.toNat ctl.toNat)

/-- RETRAIN_REQ (R262). -/
def execRetrainReq (l : Fin 68) (ctl : BitVec 128) (s : State) : Host.Outcome State Fault Refusal :=
  ran s (doRetrainReq s l.val ctl.toNat)

/-- LINK_ACK (R266). -/
def execLinkAck (l : Fin 68) (h : BitVec 64) (s : State) : Host.Outcome State Fault Refusal :=
  ran s (doLinkAck s l.val h.toNat)

/-- THROTTLE (R265). -/
def execThrottle (l : Fin 68) (ctl : BitVec 128) (s : State) : Host.Outcome State Fault Refusal :=
  ran s (doThrottle s l.val ctl.toNat)

/-- THROTTLE_EXPIRY (R265). -/
def execThrottleExpiry (l : Fin 68) (s : State) : Host.Outcome State Fault Refusal :=
  ran s (doThrottleExpiry s l.val)

/-- ACK_WINDOW_EXPIRY (R267). -/
def execAckWindowExpiry (l : Fin 68) (s : State) : Host.Outcome State Fault Refusal :=
  ran s (doAckWindowExpiry s l.val)

/-- LINK_RETRAIN (R262). -/
def execLinkRetrain (via : Path) (tag : Tag) (v : BitVec 8) (s : State) : Host.Outcome State Fault Refusal :=
  ran s (serve s via (writeReq tag 0x1700 0x12 1) (beBytes 1 v.toNat) {} s.sys.bootFacts)

/-- RETRAIN_LOCK (R262). -/
def execRetrainLock (l : Fin 68) (s : State) : Host.Outcome State Fault Refusal :=
  ran s (doRetrainLock s l.val)

/-- RETRAIN_TIMEOUT (R262). -/
def execRetrainTimeout (l : Fin 68) (s : State) : Host.Outcome State Fault Refusal :=
  ran s (doRetrainTimeout s l.val)

/-- RETRAIN_REBIND (R263). -/
def execRetrainRebind (l : Fin 68) (s : State) : Host.Outcome State Fault Refusal :=
  ran s (doRetrainRebind s l.val)

/-- LOSS_OF_SIGNAL (R262). -/
def execLossOfSignal (l : Fin 68) (s : State) : Host.Outcome State Fault Refusal :=
  ran s (doLossOfSignal s l.val)

/-- LINK_KEY_SWITCH (R285). -/
def execLinkKeySwitch (which : Option (BitVec 16)) (s : State) : Host.Outcome State Fault Refusal :=
  ran s (doLinkKeySwitch s (which.map (·.toNat)))

/-- TIME_INTERVAL_TICK (R290). -/
def execTimeIntervalTick (s : State) : Host.Outcome State Fault Refusal :=
  ran s (doTimeIntervalTick s)

/-- TIME_REQ (R290). -/
def execTimeReq (l : Fin 68) (pkt : Packet) (s : State) : Host.Outcome State Fault Refusal :=
  ran s (doTimeReq s l.val pkt)

/-- TIME_RESP (R290). -/
def execTimeResp (l : Fin 68) (pkt : Packet) (s : State) : Host.Outcome State Fault Refusal :=
  ran s (doTimeResp s l.val pkt)

/-- HOLDOVER_EXPIRED (R291). -/
def execHoldoverExpired (s : State) : Host.Outcome State Fault Refusal :=
  ran s (doHoldoverExpired s)

/-- TIME_SET (R287). -/
def execTimeSet (via : Path) (tag : Tag) (v : BitVec 64) (s : State) : Host.Outcome State Fault Refusal :=
  ran s (serve s via (writeReq tag 0x1700 0x0D 8) (beBytes 8 v.toNat) {} s.sys.bootFacts)

/-- SWATHE_APPLY (R293). -/
def execSwatheApply (via : Path) (tag : Tag) (f : Facts) (s : State) : Host.Outcome State Fault Refusal :=
  ran s (serve s via (writeReq tag 0x1700 0x14 1) [1] f s.sys.bootFacts)

/-- SWATHE_CANCEL (R302). -/
def execSwatheCancel (via : Path) (tag : Tag) (s : State) : Host.Outcome State Fault Refusal :=
  ran s (serve s via (writeReq tag 0x1700 0x15 1) [1] {} s.sys.bootFacts)

/-- SWATHE_SWITCH (R295). -/
def execSwatheSwitch (s : State) : Host.Outcome State Fault Refusal :=
  ran s (doSwatheSwitch s)

/-- CYCLE_BOUNDARY (R298). -/
def execCycleBoundary (s : State) : Host.Outcome State Fault Refusal :=
  ran s (doCycleBoundary s)

/-- SWATHE_OPEN (R296). -/
def execSwatheOpen (e : Nat) (s : State) : Host.Outcome State Fault Refusal :=
  ran s (doSwatheOpen s e)

/-- SWATHE_INJECTION_END (R296). -/
def execSwatheInjectionEnd (e : Nat) (s : State) : Host.Outcome State Fault Refusal :=
  ran s (doSwatheInjectionEnd s e)

/-! ### The Sward -/

/-- TILE_STEP_DONE (R348). -/
def execTileStepDone (k : Fin 64) (id : Nat) (corrected : List (BitVec 32)) (s : State) : Host.Outcome State Fault Refusal :=
  ran s (doTileStepDone s k.val id (corrected.map (·.toNat)))

/-- SCRATCH_UNCORRECTABLE (R335). -/
def execScratchUncorrectable (k : Fin 64) (s : State) : Host.Outcome State Fault Refusal :=
  ran s (doScratchUncorrectable s k.val)

/-- SELFTEST (R339). -/
def execSelftest (via : Path) (tag : Tag) (v : BitVec 8) (s : State) : Host.Outcome State Fault Refusal :=
  ran s (serve s via (writeReq tag 0x1800 0x03 1) (beBytes 1 v.toNat) {} s.sys.bootFacts)

/-- SELFTEST_DONE (R339). -/
def execSelftestDone (k : Fin 64) (ok : Bool) (s : State) : Host.Outcome State Fault Refusal :=
  ran s (doSelftestDone s k.val ok)

/-- SWARD_RUN (R344). -/
def execSwardRun (id : Nat) (s : State) : Host.Outcome State Fault Refusal :=
  ran s (doSwardRun s id)

/-! ### Transform operations -/

/-- XWRITE (R364). -/
def execXwrite (id : Nat) (s : State) : Host.Outcome State Fault Refusal :=
  ran s (doXwrite s id)

/-- XCOPY (R364). -/
def execXcopy (id : Nat) (s : State) : Host.Outcome State Fault Refusal :=
  ran s (doXcopy s id)

/-- MOE_DISPATCH (R369). -/
def execMoeDispatch (id : Nat) (s : State) : Host.Outcome State Fault Refusal :=
  ran s (doMoeDispatch s id)

/-- MOE_COMBINE (R372). -/
def execMoeCombine (id : Nat) (s : State) : Host.Outcome State Fault Refusal :=
  ran s (doMoeCombine s id)

/-- ROSTER_STEP (R376). -/
def execRosterStep (id : Nat) (s : State) : Host.Outcome State Fault Refusal :=
  ran s (doRosterStep s id)

/-- CHECKPOINT_WRITTEN (R353). -/
def execCheckpointWritten (id : Nat) (s : State) : Host.Outcome State Fault Refusal :=
  ran s (doCheckpointWritten s id)

/-! ### The Sheaf -/

/-- ALLREDUCE (R404). -/
def execAllreduce (id : Nat) (s : State) : Host.Outcome State Fault Refusal :=
  ran s (doAllreduce s id)

/-- REDUCE (R404). -/
def execReduce (id : Nat) (s : State) : Host.Outcome State Fault Refusal :=
  ran s (doReduce s id)

/-- REDUCE_SCATTER (R404). -/
def execReduceScatter (id : Nat) (s : State) : Host.Outcome State Fault Refusal :=
  ran s (doReduceScatter s id)

/-- ALLGATHER (R404). -/
def execAllgather (id : Nat) (s : State) : Host.Outcome State Fault Refusal :=
  ran s (doAllgather s id)

/-- BROADCAST (R404). -/
def execBroadcast (id : Nat) (s : State) : Host.Outcome State Fault Refusal :=
  ran s (doBroadcast s id)

/-- BARRIER (R404). -/
def execBarrier (id : Nat) (s : State) : Host.Outcome State Fault Refusal :=
  ran s (doBarrier s id)

/-- GROUP_CREATE (R393). -/
def execGroupCreate (id : Nat) (s : State) : Host.Outcome State Fault Refusal :=
  ran s (doGroupCreate s id)

/-- GROUP_DESTROY (R400). -/
def execGroupDestroy (id : Nat) (s : State) : Host.Outcome State Fault Refusal :=
  ran s (doGroupDestroy s id)

/-- COLL_TIMEOUT (R407). -/
def execCollTimeout (id : Nat) (s : State) : Host.Outcome State Fault Refusal :=
  ran s (doCollTimeout s id)

/-- COLL_KILL_WAIT_EXPIRY (R406). -/
def execCollKillWaitExpiry (id : Nat) (s : State) : Host.Outcome State Fault Refusal :=
  ran s (doCollKillWaitExpiry s id)

/-! ### Rick memory and translation -/

/-- PT_WRITE (R436). -/
def execPtWrite (via : Path) (tag : Tag) (p : PNum) (data : Bytes) (s : State) : Host.Outcome State Fault Refusal :=
  ran s (serve s via (writeReq tag (pidx p.val 0x40) 0x03 data.length) data {} s.sys.bootFacts)

/-- RANGE_INVALIDATION_DONE (R446). -/
def execRangeInvalidationDone (n : Nat) (s : State) : Host.Outcome State Fault Refusal :=
  ran s (doRangeInvalidationDone s n)

/-- PT_QUERY_RESULT (R451). -/
def execPtQueryResult (via : Path) (tag : Tag) (p : PNum) (s : State) : Host.Outcome State Fault Refusal :=
  ran s (serve s via { op := 1, tag := tag, index := pidx p.val 0x40, sub := 5, len := 0 } [] {} s.sys.bootFacts)

/-- WALK_COMPLETE (R441). -/
def execWalkComplete (n : Nat) (s : State) : Host.Outcome State Fault Refusal :=
  ran s (doWalkComplete s n)

/-- MOW_READ (R427). -/
def execMowRead (line : Nat) (errors : Nat) (s : State) : Host.Outcome State Fault Refusal :=
  ran s (doMowRead s line errors)

/-- RICK_REPAIR (R431). -/
def execRickRepair (via : Path) (tag : Tag) (v : BitVec 8) (s : State) : Host.Outcome State Fault Refusal :=
  ran s (serve s via (writeReq tag 0x1B00 0x08 1) (beBytes 1 v.toNat) {} s.sys.bootFacts)

/-- REPAIR_DONE (R431). -/
def execRepairDone (ok : Bool) (s : State) : Host.Outcome State Fault Refusal :=
  ran s (doRepairDone s ok)

/-- PREFETCH (R450). -/
def execPrefetch (id : Nat) (s : State) : Host.Outcome State Fault Refusal :=
  ran s (doPrefetch s id)

/-- ADVISE (R449). -/
def execAdvise (id : Nat) (s : State) : Host.Outcome State Fault Refusal :=
  ran s (doAdvise s id)

/-- INVALIDATE (R449). -/
def execInvalidate (id : Nat) (s : State) : Host.Outcome State Fault Refusal :=
  ran s (doInvalidate s id)

/-- FAULT_BATCH_FLUSH (R443). -/
def execFaultBatchFlush (p : PNum) (s : State) : Host.Outcome State Fault Refusal :=
  ran s (doFaultBatchFlush s p.val)

/-! ### Sharing and accounting -/

/-- LEDGER_TICK (R455). -/
def execLedgerTick (s : State) : Host.Outcome State Fault Refusal :=
  ran s (doLedgerTick s)

/-- METER_TICK (R475). -/
def execMeterTick (e : List Nat) (s : State) : Host.Outcome State Fault Refusal :=
  ran s (doMeterTick s e)

/-- PERIOD_END (R479). -/
def execPeriodEnd (s : State) : Host.Outcome State Fault Refusal :=
  ran s (doPeriodEnd s)

/-- SNAPSHOT_PUBLISHED (R481). -/
def execSnapshotPublished (s : State) : Host.Outcome State Fault Refusal :=
  ran s (doSnapshotPublished s)

/-- SLOT_GRANT (R462). -/
def execSlotGrant (p : PNum) (s : State) : Host.Outcome State Fault Refusal :=
  ran s (doSlotGrant s p.val)

/-- PREEMPTION (R470). -/
def execPreemption (p : PNum) (c : BitVec 12) (s : State) : Host.Outcome State Fault Refusal :=
  ran s (doPreemption s p.val c.toNat)

/-- PREEMPTION_EPOCH_ADVANCE (R472). -/
def execPreemptionEpochAdvance (p : PNum) (c : BitVec 12) (s : State) : Host.Outcome State Fault Refusal :=
  ran s (doPreemptionEpochAdvance s p.val c.toNat)

/-- TIME_SLICE_EXPIRY (R463). -/
def execTimeSliceExpiry (p : PNum) (c : BitVec 12) (s : State) : Host.Outcome State Fault Refusal :=
  ran s (doTimeSliceExpiry s p.val c.toNat)

/-- EXCL_EXPIRED (R468). -/
def execExclExpired (p : PNum) (s : State) : Host.Outcome State Fault Refusal :=
  ran s (doExclExpired s p.val)

/-- NOPRE_EXPIRED (R469). -/
def execNopreExpired (id : Nat) (s : State) : Host.Outcome State Fault Refusal :=
  ran s (doNopreExpired s id)

/-- CTX_PRIORITY_SET (R465). -/
def execCtxPrioritySet (via : Path) (tag : Tag) (p : PNum) (v : BitVec 16) (s : State) : Host.Outcome State Fault Refusal :=
  ran s (serve s via (writeReq tag (pidx p.val 0x20) 0x06 2) (beBytes 2 v.toNat) {} s.sys.bootFacts)

/-! ### Keys and sealed data -/

/-- KEY_INSTALL (R495). -/
def execKeyInstall (via : Path) (tag : Tag) (data : Bytes) (f : Facts) (s : State) : Host.Outcome State Fault Refusal :=
  ran s (serve s via (writeReq tag 0x1D00 0x03 data.length) data f s.sys.bootFacts)

/-- PADDOCK_KEY_INSTALL (R495). -/
def execPaddockKeyInstall (via : Path) (tag : Tag) (p : PNum) (data : Bytes) (f : Facts) (s : State) : Host.Outcome State Fault Refusal :=
  ran s (serve s via (writeReq tag (pidx p.val 0x70) 0x02 data.length) data f s.sys.bootFacts)

/-- KEY_CLEAR (R662). -/
def execKeyClear (via : Path) (tag : Tag) (v : BitVec 32) (f : Facts) (s : State) : Host.Outcome State Fault Refusal :=
  ran s (serve s via (writeReq tag 0x1D00 0x04 4) (beBytes 4 v.toNat) f s.sys.bootFacts)

/-- PADDOCK_KEY_CLEAR (R662). -/
def execPaddockKeyClear (via : Path) (tag : Tag) (p : PNum) (v : BitVec 16) (f : Facts) (s : State) : Host.Outcome State Fault Refusal :=
  ran s (serve s via (writeReq tag (pidx p.val 0x70) 0x03 2) (beBytes 2 v.toNat) f s.sys.bootFacts)

/-- KEY_MASK_REFRESH (R501). -/
def execKeyMaskRefresh (s : State) : Host.Outcome State Fault Refusal :=
  ran s (doKeyMaskRefresh s)

/-- MIN_SV_RAISE (R516). -/
def execMinSvRaise (via : Path) (tag : Tag) (v : BitVec 32) (s : State) : Host.Outcome State Fault Refusal :=
  ran s (serve s via (writeReq tag 0x1D00 0x06 4) (beBytes 4 v.toNat) {} s.sys.bootFacts)

/-- DEBUG_LOCK_SET (R517). -/
def execDebugLockSet (via : Path) (tag : Tag) (s : State) : Host.Outcome State Fault Refusal :=
  ran s (serve s via (writeReq tag 0x1D00 0x08 1) [1] {} s.sys.bootFacts)

/-- ANCHOR_SET (R514). -/
def execAnchorSet (via : Path) (tag : Tag) (data : Bytes) (f : Facts) (s : State) : Host.Outcome State Fault Refusal :=
  ran s (serve s via (writeReq tag 0x1D00 0x09 data.length) data f s.sys.bootFacts)

/-- SECURE_ERASE (R518). -/
def execSecureErase (via : Path) (tag : Tag) (data : Bytes) (f : Facts) (s : State) : Host.Outcome State Fault Refusal :=
  ran s (serve s via (writeReq tag 0x1D00 0x0A data.length) data f s.sys.bootFacts)

/-- UDP_SESSION_OPEN (R511). -/
def execUdpSessionOpen (via : Path) (tag : Tag) (data : Bytes) (f : Facts) (s : State) : Host.Outcome State Fault Refusal :=
  ran s (serve s via (writeReq tag 0x1D00 0x0B data.length) data f s.sys.bootFacts)

/-- SESSION_IDLE_TIMEOUT (R513). -/
def execSessionIdleTimeout (k : Fin 8) (s : State) : Host.Outcome State Fault Refusal :=
  ran s (doSessionIdleTimeout s k.val)

/-- SEAL_GRANT (R504). -/
def execSealGrant (via : Path) (tag : Tag) (p : PNum) (data : Bytes) (f : Facts) (s : State) : Host.Outcome State Fault Refusal :=
  ran s (serve s via (writeReq tag (pidx p.val 0x70) 0x07 data.length) data f s.sys.bootFacts)

/-- SEAL_BIND (R505). -/
def execSealBind (via : Path) (tag : Tag) (p : PNum) (arg : BitVec 128) (s : State) : Host.Outcome State Fault Refusal :=
  ran s (serve s via (writeReq tag (pidx p.val 0x70) 0x08 16) (beBytes 16 arg.toNat) {} s.sys.bootFacts)

/-- SEAL_LOCK (R507). -/
def execSealLock (via : Path) (tag : Tag) (p : PNum) (v : BitVec 8) (s : State) : Host.Outcome State Fault Refusal :=
  ran s (serve s via (writeReq tag (pidx p.val 0x70) 0x09 1) (beBytes 1 v.toNat) {} s.sys.bootFacts)

/-- SEAL_LOCK_TIMEOUT (R507). -/
def execSealLockTimeout (p : PNum) (sel : Fin 64) (s : State) : Host.Outcome State Fault Refusal :=
  ran s (doSealLockTimeout s p.val sel.val)

/-- SEAL_DIGEST_DONE (R507). -/
def execSealDigestDone (p : PNum) (sel : Fin 64) (digest : BitVec 384) (s : State) : Host.Outcome State Fault Refusal :=
  ran s (doSealDigestDone s p.val sel.val digest.toNat)

/-- SEAL_REVOKE (R519). -/
def execSealRevoke (via : Path) (tag : Tag) (v : BitVec 64) (s : State) : Host.Outcome State Fault Refusal :=
  ran s (serve s via (writeReq tag 0x1D03 0x00 8) (beBytes 8 v.toNat) {} s.sys.bootFacts)

/-- JTAG_DEBUG_ACCESS (R517). -/
def execJtagDebugAccess (island : Fin 64) (s : State) : Host.Outcome State Fault Refusal :=
  ran s (doJtagDebugAccess s island.val)

/-! ### Attestation -/

/-- GET_VERSION (R508). -/
def execGetVersion (pcie : Bool) (who : BitVec 28) (body : Bytes) (s : State) : Host.Outcome State Fault Refusal :=
  ran s (spdmRow s pcie (fun s => doGetVersion s pcie who.toNat body))

/-- GET_CAPABILITIES (R508). -/
def execGetCapabilities (pcie : Bool) (who : BitVec 28) (body : Bytes) (s : State) : Host.Outcome State Fault Refusal :=
  ran s (spdmRow s pcie (fun s => doGetCapabilities s pcie who.toNat body))

/-- NEGOTIATE_ALGORITHMS (R508). -/
def execNegotiateAlgorithms (pcie : Bool) (who : BitVec 28) (body : Bytes) (s : State) : Host.Outcome State Fault Refusal :=
  ran s (spdmRow s pcie (fun s => doNegotiateAlgorithms s pcie who.toNat body))

/-- GET_DIGESTS (R508). -/
def execGetDigests (pcie : Bool) (who : BitVec 28) (body : Bytes) (s : State) : Host.Outcome State Fault Refusal :=
  ran s (spdmRow s pcie (fun s => doGetDigests s pcie who.toNat body))

/-- GET_CERTIFICATE (R509). -/
def execGetCertificate (pcie : Bool) (who : BitVec 28) (body : Bytes) (s : State) : Host.Outcome State Fault Refusal :=
  ran s (spdmRow s pcie (fun s => doGetCertificate s pcie who.toNat body))

/-- CHALLENGE (R508). -/
def execChallenge (pcie : Bool) (who : BitVec 28) (body : Bytes) (s : State) : Host.Outcome State Fault Refusal :=
  ran s (spdmRow s pcie (fun s => doChallenge s pcie who.toNat body))

/-- GET_MEASUREMENTS (R508). -/
def execGetMeasurements (pcie : Bool) (who : BitVec 28) (body : Bytes) (s : State) : Host.Outcome State Fault Refusal :=
  ran s (spdmRow s pcie (fun s => doGetMeasurements s pcie who.toNat body))

/-- KEY_EXCHANGE (R510). -/
def execKeyExchange (pcie : Bool) (who : BitVec 28) (body : Bytes) (f : Facts) (s : State) : Host.Outcome State Fault Refusal :=
  ran s (spdmRow s pcie (fun s => doKeyExchange s pcie who.toNat body f))

/-- FINISH (R508). -/
def execSpdmFinish (pcie : Bool) (who : BitVec 28) (body : Bytes) (f : Facts) (s : State) : Host.Outcome State Fault Refusal :=
  ran s (spdmRow s pcie (fun s => doFinish s pcie who.toNat body f))

/-- HEARTBEAT (R508). -/
def execSpdmHeartbeat (pcie : Bool) (who : BitVec 28) (body : Bytes) (s : State) : Host.Outcome State Fault Refusal :=
  ran s (spdmRow s pcie (fun s => doHeartbeat s pcie who.toNat body))

/-- KEY_UPDATE (R508). -/
def execKeyUpdate (pcie : Bool) (who : BitVec 28) (body : Bytes) (s : State) : Host.Outcome State Fault Refusal :=
  ran s (spdmRow s pcie (fun s => doKeyUpdate s pcie who.toNat body))

/-- END_SESSION (R508). -/
def execEndSession (pcie : Bool) (who : BitVec 28) (body : Bytes) (s : State) : Host.Outcome State Fault Refusal :=
  ran s (spdmRow s pcie (fun s => doEndSession s pcie who.toNat body))

/-- CHUNK_GET (R508). -/
def execChunkGet (pcie : Bool) (who : BitVec 28) (body : Bytes) (s : State) : Host.Outcome State Fault Refusal :=
  ran s (spdmRow s pcie (fun s => doChunkGet s pcie who.toNat body))

/-! ### Events -/

/-- EVENT_TARGET_WRITE (R530). -/
def execEventTargetWrite (via : Path) (tag : Tag) (src : Fin 1024) (own : Bool) (v : BitVec 32) (s : State) : Host.Outcome State Fault Refusal :=
  ran s (serve s via (if own && src.val < 512 then writeReq tag (pidx (src.val / 8) 0x90) (src.val % 8 + 1) 4
    else writeReq tag (0x1E10 + src.val / 128) (src.val % 128 + 1) 4) (beBytes 4 v.toNat) {} s.sys.bootFacts)

/-- EVENT_RAISE (R532). -/
def execEventRaise (via : Path) (tag : Tag) (v : BitVec 16) (s : State) : Host.Outcome State Fault Refusal :=
  ran s (serve s via (writeReq tag 0x1E00 0x02 2) (beBytes 2 v.toNat) {} s.sys.bootFacts)

/-- PADDOCK_EVENT_RAISE (R532). -/
def execPaddockEventRaise (via : Path) (tag : Tag) (p : PNum) (v : BitVec 8) (s : State) : Host.Outcome State Fault Refusal :=
  ran s (serve s via (writeReq tag (pidx p.val 0x90) 0x09 1) (beBytes 1 v.toNat) {} s.sys.bootFacts)

/-- HOLDOFF_EXPIRY (R528). -/
def execHoldoffExpiry (g : Fin 64) (dst : Target) (s : State) : Host.Outcome State Fault Refusal :=
  ran s (doHoldoffExpiry s g.val dst)

/-- LARK_FIRE (R537). -/
def execLarkFire (slot : Fin 32) (s : State) : Host.Outcome State Fault Refusal :=
  ran s (doLarkFire s slot.val)

/-- WAKE_TIMER_EXPIRY (R537). -/
def execWakeTimerExpiry (s : State) : Host.Outcome State Fault Refusal :=
  ran s (doWakeTimerExpiry s)

/-- GPIO_EDGE (R537). -/
def execGpioEdge (pin : Fin 16) (s : State) : Host.Outcome State Fault Refusal :=
  ran s (doGpioEdge s pin.val)

/-! ### Faults and recovery -/

/-- ISLAND_RESET (R545). -/
def execIslandReset (via : Path) (tag : Tag) (v : BitVec 8) (f : Facts) (s : State) : Host.Outcome State Fault Refusal :=
  ran s (serve s via (writeReq tag 0x1F00 0x04 1) (beBytes 1 v.toNat) f s.sys.bootFacts)

/-- ISLAND_RETURN (R545). -/
def execIslandReturn (i : Fin 64) (s : State) : Host.Outcome State Fault Refusal :=
  ran s (doIslandReturn s i.val)

/-- ISLAND_FAILED (R545). -/
def execIslandFailed (i : Fin 64) (s : State) : Host.Outcome State Fault Refusal :=
  ran s (doIslandLost s i.val)

/-- ISLAND_WEDGED (R548). -/
def execIslandWedged (i : Fin 64) (paddock : Option PNum) (ctx : BitVec 12) (s : State) : Host.Outcome State Fault Refusal :=
  ran s (doIslandWedged s i.val (paddock.map (·.val)) ctx.toNat)

/-- CTX_NO_PROGRESS (R551). -/
def execCtxNoProgress (p : PNum) (c : BitVec 12) (s : State) : Host.Outcome State Fault Refusal :=
  ran s (doCtxNoProgress s p.val c.toNat)

/-- WAITGRAPH_SCAN (R553). -/
def execWaitgraphScan (s : State) : Host.Outcome State Fault Refusal :=
  ran s (doWaitgraphScan s)

/-- WAITGRAPH_BACKOFF_EXPIRY (R553). -/
def execWaitgraphBackoffExpiry (id : Nat) (s : State) : Host.Outcome State Fault Refusal :=
  ran s (doWaitgraphBackoffExpiry s id)

/-- SNAPSHOT_BUFFER_UPDATE (R554). -/
def execSnapshotBufferUpdate (i : Fin 64) (s : State) : Host.Outcome State Fault Refusal :=
  ran s (doSnapshotBufferUpdate s i.val)

/-- SNAPSHOT_TAKE (R554). -/
def execSnapshotTake (via : Path) (tag : Tag) (s : State) : Host.Outcome State Fault Refusal :=
  ran s (serve s via (writeReq tag 0x1F00 0x0B 1) [1] {} s.sys.bootFacts)

/-- DUMP_WRITTEN (R560). -/
def execDumpWritten (s : State) : Host.Outcome State Fault Refusal :=
  ran s (doDumpWritten s)

/-- DUMP_RELEASE (R563). -/
def execDumpRelease (via : Path) (tag : Tag) (v : BitVec 8) (s : State) : Host.Outcome State Fault Refusal :=
  ran s (serve s via (writeReq tag 0x1F04 0x04 1) (beBytes 1 v.toNat) {} s.sys.bootFacts)

/-- MGT_KICK (R554). -/
def execMgtKick (s : State) : Host.Outcome State Fault Refusal :=
  ran s (doMgtKick s)

/-- MGT_WATCHDOG (R554). -/
def execMgtWatchdog (b : Boot) (s : State) : Host.Outcome State Fault Refusal :=
  ran s (doMgtWatchdog s b)

/-- HARD_FENCE (R558). -/
def execHardFence (via : Path) (tag : Tag) (v : BitVec 8) (s : State) : Host.Outcome State Fault Refusal :=
  ran s (serve s via (writeReq tag 0x1F00 0x02 1) (beBytes 1 v.toNat) {} s.sys.bootFacts)

/-! ### Paired mode -/

/-- JOIN_COMPLETE (R566). -/
def execJoinComplete (peer : Peer) (s : State) : Host.Outcome State Fault Refusal :=
  ran s (doJoinComplete s peer)

/-- JOIN_FAILED (R567). -/
def execJoinFailed (cond : BitVec 8) (s : State) : Host.Outcome State Fault Refusal :=
  ran s (doJoinFailed s cond.toNat)

/-- PAIR_LOST (R579). -/
def execPairLost (cause : BitVec 8) (s : State) : Host.Outcome State Fault Refusal :=
  ran s (doPairLost s cause.toNat)

/-- PAIR_HEARTBEAT (R565). -/
def execPairHeartbeat (s : State) : Host.Outcome State Fault Refusal :=
  ran s (doPairHeartbeat s)

/-- MIRROR_REQUEST (R576). -/
def execMirrorRequest (n : BitVec 32) (p : PNum) (cmd : BitVec 8) (ok : Bool) (s : State) : Host.Outcome State Fault Refusal :=
  ran s (doMirrorRequest s n.toNat p.val cmd.toNat ok)

/-- MIRROR_ACK (R576). -/
def execMirrorAck (n : BitVec 32) (s : State) : Host.Outcome State Fault Refusal :=
  ran s (doMirrorAck s n.toNat)

/-- MIRROR_RESEND (R576). -/
def execMirrorResend (n : BitVec 32) (s : State) : Host.Outcome State Fault Refusal :=
  ran s (doMirrorResend s n.toNat)

/-! ### Management and power -/

/-- SENSOR_POLL (R475). -/
def execSensorPoll (r : List (Nat × Nat × Nat)) (status : List (Nat × Nat)) (s : State) : Host.Outcome State Fault Refusal :=
  ran s (doSensorPoll s r status)

/-- SENSOR_BUS_RECOVERY (R583). -/
def execSensorBusRecovery (sdaHigh : Bool) (s : State) : Host.Outcome State Fault Refusal :=
  ran s (doSensorBusRecovery s sdaHigh)

/-- SENSOR_BUS_RETRY (R583). -/
def execSensorBusRetry (sdaHigh : Bool) (s : State) : Host.Outcome State Fault Refusal :=
  ran s (doSensorBusRetry s sdaHigh)

/-- SENSOR_BUS_PERIODIC_RECOVERY (R584). -/
def execSensorBusPeriodicRecovery (sdaHigh : Bool) (s : State) : Host.Outcome State Fault Refusal :=
  ran s (doSensorBusPeriodicRecovery s sdaHigh)

/-- CAP_TICK (R589). -/
def execCapTick (mw : Nat) (s : State) : Host.Outcome State Fault Refusal :=
  ran s (doCapTick s mw)

/-- POWER_STATE_SET_RUN (R586). -/
def execPowerStateSetRun (via : Path) (tag : Tag) (s : State) : Host.Outcome State Fault Refusal :=
  ran s (serve s via (writeReq tag 0x2100 0x02 1) [0] {} s.sys.bootFacts)

/-- POWER_STATE_SET_DOZE (R587). -/
def execPowerStateSetDoze (via : Path) (tag : Tag) (s : State) : Host.Outcome State Fault Refusal :=
  ran s (serve s via (writeReq tag 0x2100 0x02 1) [2] {} s.sys.bootFacts)

/-- POWER_STATE_SET_SLEEP (R586). -/
def execPowerStateSetSleep (via : Path) (tag : Tag) (s : State) : Host.Outcome State Fault Refusal :=
  ran s (serve s via (writeReq tag 0x2100 0x02 1) [3] {} s.sys.bootFacts)

/-- IDLE_ENTRY (R333). -/
def execIdleEntry (s : State) : Host.Outcome State Fault Refusal :=
  ran s (doIdleEntry s)

/-- THERMAL_THRESHOLD (R591). -/
def execThermalThreshold (k : Fin 64) (mdeg : BitVec 32) (s : State) : Host.Outcome State Fault Refusal :=
  ran s (doThermalThreshold s k.val mdeg.toNat)

/-- THERMAL_TRIP (R592). -/
def execThermalTrip (k : Fin 64) (s : State) : Host.Outcome State Fault Refusal :=
  ran s (doThermalTrip s k.val)

/-- BROWNOUT_WARNING (R594). -/
def execBrownoutWarning (rail : Fin 24) (mv : Nat) (s : State) : Host.Outcome State Fault Refusal :=
  ran s (doBrownoutWarning s rail.val mv)

/-- BRAKE_RELEASE (R594). -/
def execBrakeRelease (mv : Nat) (us : Nat) (s : State) : Host.Outcome State Fault Refusal :=
  ran s (doBrakeRelease s mv us)

/-- BROWNOUT_RESET (R596). -/
def execBrownoutReset (rail : Fin 24) (mv : Nat) (b : Boot) (s : State) : Host.Outcome State Fault Refusal :=
  .next (settle (doBrownoutReset s rail.val mv b))

/-- ETH_FRAME (R598). -/
def execEthFrame (dst : BitVec 48) (body : Bytes) (errors : BitVec 8) (s : State) : Host.Outcome State Fault Refusal :=
  ran s (doEthFrame s dst.toNat body errors.toNat)

/-- PAUSE_WATCHDOG (R600). -/
def execPauseWatchdog (s : State) : Host.Outcome State Fault Refusal :=
  ran s (doPauseWatchdog s)

/-- ETH_STATS_CLEAR (R601). -/
def execEthStatsClear (via : Path) (tag : Tag) (v : BitVec 8) (s : State) : Host.Outcome State Fault Refusal :=
  ran s (serve s via (writeReq tag 0x2111 0x06 1) (beBytes 1 v.toNat) {} s.sys.bootFacts)

/-! ### The persistent store -/

/-- FLASH_PROGRAM_DONE (R614). -/
def execFlashProgramDone (ok : Bool) (s : State) : Host.Outcome State Fault Refusal :=
  ran s (doFlashProgramDone s ok)

/-- FLASH_ERASE_DONE (R618). -/
def execFlashEraseDone (ok : Bool) (blank : Bool) (s : State) : Host.Outcome State Fault Refusal :=
  ran s (doFlashEraseDone s ok blank)

/-- FLASH_MOW (R609). -/
def execFlashMow (block : Nat) (corrected : Nat) (readable : Bool) (s : State) : Host.Outcome State Fault Refusal :=
  ran s (doFlashMow s block corrected readable)

/-- FW_BEGIN (R622). -/
def execFwBegin (via : Path) (tag : Tag) (s : State) : Host.Outcome State Fault Refusal :=
  ran s (serve s via (writeReq tag 0x2202 0x01 1) [1] {} s.sys.bootFacts)

/-- FW_DATA (R624). -/
def execFwData (via : Path) (tag : Tag) (data : Bytes) (s : State) : Host.Outcome State Fault Refusal :=
  ran s (serve s via (writeReq tag 0x2202 0x03 data.length) data {} s.sys.bootFacts)

/-- FW_FINISH (R622). -/
def execFwFinish (via : Path) (tag : Tag) (v : BitVec 32) (f : Facts) (s : State) : Host.Outcome State Fault Refusal :=
  ran s (serve s via (writeReq tag 0x2202 0x04 4) (beBytes 4 v.toNat) f s.sys.bootFacts)

/-- FW_ACTIVATE (R622). -/
def execFwActivate (via : Path) (tag : Tag) (s : State) : Host.Outcome State Fault Refusal :=
  ran s (serve s via (writeReq tag 0x2202 0x05 1) [1] {} s.sys.bootFacts)

/-- FW_CONFIRM (R622). -/
def execFwConfirm (via : Path) (tag : Tag) (s : State) : Host.Outcome State Fault Refusal :=
  ran s (serve s via (writeReq tag 0x2202 0x06 1) [1] {} s.sys.bootFacts)

/-! ### Observation -/

/-- COUNTER_LATCH (R627). -/
def execCounterLatch (via : Path) (tag : Tag) (p : PNum) (s : State) : Host.Outcome State Fault Refusal :=
  ran s (serve s via (writeReq tag (pidx p.val 0x81) 0x01 1) [1] {} s.sys.bootFacts)

/-- TRACE_MARK (R640). -/
def execTraceMark (via : Path) (tag : Tag) (p : PNum) (v : BitVec 32) (s : State) : Host.Outcome State Fault Refusal :=
  ran s (serve s via (writeReq tag (pidx p.val 0x82) 0x09 4) (beBytes 4 v.toNat) {} s.sys.bootFacts)

/-- SAMPLE_PERIOD_TICK (R635). -/
def execSamplePeriodTick (s : State) : Host.Outcome State Fault Refusal :=
  ran s (doSamplePeriodTick s)

/-- PC_PERIOD_TICK (R636). -/
def execPcPeriodTick (k : Nat) (s : State) : Host.Outcome State Fault Refusal :=
  ran s (doPcPeriodTick s k)

/-- TRACE_MIRROR_BASE (R632). -/
def execTraceMirrorBase (via : Path) (tag : Tag) (p : PNum) (v : BitVec 64) (s : State) : Host.Outcome State Fault Refusal :=
  ran s (serve s via (writeReq tag (pidx p.val 0x82) 0x06 8) (beBytes 8 v.toNat) {} s.sys.bootFacts)

/-- TRACE_MIRROR_COPY (R632). -/
def execTraceMirrorCopy (p : PNum) (s : State) : Host.Outcome State Fault Refusal :=
  ran s (doTraceMirrorCopy s p.val)

/-! ### Signing, the root secret, and further events -/

/-- ALLOTMENT_RECORD_SIGNED (R59). -/
def execAllotmentRecordSigned (p : PNum) (s : State) : Host.Outcome State Fault Refusal :=
  ran s (doAllotmentRecordSigned s p.val)

/-- ROOT_RECONSTRUCTED (R489). -/
def execRootReconstructed (copy : Option (Fin 4)) (c : ConfigCheck) (failed : List (Fin 64)) (s : State) : Host.Outcome State Fault Refusal :=
  ran s (doRootReconstructed s copy c (failed.map (·.val)))

/-- ETH_LINK_CHANGE (R520). -/
def execEthLinkChange (v : BitVec 8) (s : State) : Host.Outcome State Fault Refusal :=
  ran s (doEthLinkChange s v.toNat)

/-- SENSOR_BUS_ALERT (R520). -/
def execSensorBusAlert (s : State) : Host.Outcome State Fault Refusal :=
  ran s (doSensorBusAlert s)

end Sys2Proof.Machine
end

