-- ==== Sys2Proof/Machine/Dispatch.lean ====
section
/-! DEFINITION. One arm for each command: a direct call of its meaning. -/

namespace Sys2Proof.Machine
open Sys2Proof

/-- The effect of a command on everything but the queue. -/
def exec (i : Instr) (s : State) : Host.Outcome State Fault Refusal :=
  match i with
  | .porN b => Sys2Proof.Machine.execPorN b s
  | .warmRstN b => Sys2Proof.Machine.execWarmRstN b s
  | .warmReset via tag b => Sys2Proof.Machine.execWarmReset via tag b s
  | .objectRead via hdr => Sys2Proof.Machine.execObjectRead via hdr s
  | .objectWrite via hdr payload f => Sys2Proof.Machine.execObjectWrite via hdr payload f s
  | .udpDatagram session seq hdr payload key intact f => Sys2Proof.Machine.execUdpDatagram session seq hdr payload key intact f s
  | .mctpMessage pcie who hdr payload f => Sys2Proof.Machine.execMctpMessage pcie who hdr payload f s
  | .stileGo fn irq hdr payload f => Sys2Proof.Machine.execStileGo fn irq hdr payload f s
  | .stileAck fn go => Sys2Proof.Machine.execStileAck fn go s
  | .commit via tag v => Sys2Proof.Machine.execCommit via tag v s
  | .configOperationDone ok => Sys2Proof.Machine.execConfigOperationDone ok s
  | .rollback via tag v => Sys2Proof.Machine.execRollback via tag v s
  | .factoryRestore via tag => Sys2Proof.Machine.execFactoryRestore via tag s
  | .discardDraft via tag => Sys2Proof.Machine.execDiscardDraft via tag s
  | .imageApply via tag f => Sys2Proof.Machine.execImageApply via tag f s
  | .requireSignedSet via tag => Sys2Proof.Machine.execRequireSignedSet via tag s
  | .draftLeaseExpiry => Sys2Proof.Machine.execDraftLeaseExpiry s
  | .fence via tag p => Sys2Proof.Machine.execFence via tag p s
  | .openPaddock via tag p => Sys2Proof.Machine.execOpenPaddock via tag p s
  | .drain via tag p => Sys2Proof.Machine.execDrain via tag p s
  | .drained p => Sys2Proof.Machine.execDrained p s
  | .drainTimeout p => Sys2Proof.Machine.execDrainTimeout p s
  | .release via tag p f => Sys2Proof.Machine.execRelease via tag p f s
  | .recover via tag p => Sys2Proof.Machine.execRecover via tag p s
  | .paddockFault ps code => Sys2Proof.Machine.execPaddockFault ps code s
  | .granuleZeroised g ok => Sys2Proof.Machine.execGranuleZeroised g ok s
  | .allotNonce via tag p nonce => Sys2Proof.Machine.execAllotNonce via tag p nonce s
  | .submissionDoorbell vf q v len => Sys2Proof.Machine.execSubmissionDoorbell vf q v len s
  | .completionDoorbell vf q v len => Sys2Proof.Machine.execCompletionDoorbell vf q v len s
  | .queueWindowWrite vf off data => Sys2Proof.Machine.execQueueWindowWrite vf off data s
  | .fetch p => Sys2Proof.Machine.execFetch p s
  | .commandCommit id => Sys2Proof.Machine.execCommandCommit id s
  | .cqStall id => Sys2Proof.Machine.execCqStall id s
  | .nop id => Sys2Proof.Machine.execNop id s
  | .timestamp id => Sys2Proof.Machine.execTimestamp id s
  | .alloc id => Sys2Proof.Machine.execAlloc id s
  | .free id => Sys2Proof.Machine.execFree id s
  | .signal id => Sys2Proof.Machine.execSignal id s
  | .waitCmd id => Sys2Proof.Machine.execWaitCmd id s
  | .waitTimeout id => Sys2Proof.Machine.execWaitTimeout id s
  | .queueCreate via tag p arg => Sys2Proof.Machine.execQueueCreate via tag p arg s
  | .queueDestroy via tag p q => Sys2Proof.Machine.execQueueDestroy via tag p q s
  | .queueDestroyTimeout p q => Sys2Proof.Machine.execQueueDestroyTimeout p q s
  | .contextDefine via tag p arg => Sys2Proof.Machine.execContextDefine via tag p arg s
  | .destroy via tag p c => Sys2Proof.Machine.execDestroy via tag p c s
  | .destroyTimeout p c => Sys2Proof.Machine.execDestroyTimeout p c s
  | .forceDestroy via tag p c => Sys2Proof.Machine.execForceDestroy via tag p c s
  | .kill via tag p c => Sys2Proof.Machine.execKill via tag p c s
  | .resume via tag p c => Sys2Proof.Machine.execResume via tag p c s
  | .revive via tag p c => Sys2Proof.Machine.execRevive via tag p c s
  | .epochQuarantineEnd p c e => Sys2Proof.Machine.execEpochQuarantineEnd p c e s
  | .headerFlit m flit => Sys2Proof.Machine.execHeaderFlit m flit s
  | .tpRead m h => Sys2Proof.Machine.execTpRead m h s
  | .tpWrite m h data => Sys2Proof.Machine.execTpWrite m h data s
  | .readData m h data => Sys2Proof.Machine.execReadData m h data s
  | .writeAck m h => Sys2Proof.Machine.execWriteAck m h s
  | .dispatchDone m h => Sys2Proof.Machine.execDispatchDone m h s
  | .responseTimeout t => Sys2Proof.Machine.execResponseTimeout t s
  | .tpTagQuarantineEnd t => Sys2Proof.Machine.execTpTagQuarantineEnd t s
  | .tableAck m h => Sys2Proof.Machine.execTableAck m h s
  | .tableNak m h => Sys2Proof.Machine.execTableNak m h s
  | .fencePushFailed p die => Sys2Proof.Machine.execFencePushFailed p die s
  | .fenceAck m h => Sys2Proof.Machine.execFenceAck m h s
  | .fenceMissed p die => Sys2Proof.Machine.execFenceMissed p die s
  | .breach m h words => Sys2Proof.Machine.execBreach m h words s
  | .lotClean m h => Sys2Proof.Machine.execLotClean m h s
  | .tableReport m h => Sys2Proof.Machine.execTableReport m h s
  | .sidebandNak m h => Sys2Proof.Machine.execSidebandNak m h s
  | .manifest m h words => Sys2Proof.Machine.execManifest m h words s
  | .moduleLinkUp m die => Sys2Proof.Machine.execModuleLinkUp m die s
  | .moduleTrainingFailed m => Sys2Proof.Machine.execModuleTrainingFailed m s
  | .sideReset via tag v => Sys2Proof.Machine.execSideReset via tag v s
  | .atsTranslationCompletion n host size r w => Sys2Proof.Machine.execAtsTranslationCompletion n host size r w s
  | .atsInvalidationRequest vf itag base size => Sys2Proof.Machine.execAtsInvalidationRequest vf itag base size s
  | .invalidationCompletion vf itag => Sys2Proof.Machine.execInvalidationCompletion vf itag s
  | .hostCompletion t status poisoned data key last => Sys2Proof.Machine.execHostCompletion t status poisoned data key last s
  | .cplTimeout t => Sys2Proof.Machine.execCplTimeout t s
  | .hostTagQuarantineEnd t => Sys2Proof.Machine.execHostTagQuarantineEnd t s
  | .busMasterEnableClear fn => Sys2Proof.Machine.execBusMasterEnableClear fn s
  | .busMasterEnableSet fn => Sys2Proof.Machine.execBusMasterEnableSet fn s
  | .msixVectorUnmask fn v => Sys2Proof.Machine.execMsixVectorUnmask fn v s
  | .functionLevelReset vf => Sys2Proof.Machine.execFunctionLevelReset vf s
  | .flrComplete vf => Sys2Proof.Machine.execFlrComplete vf s
  | .vfEnableClear => Sys2Proof.Machine.execVfEnableClear s
  | .pfFunctionLevelReset => Sys2Proof.Machine.execPfFunctionLevelReset s
  | .hotReset => Sys2Proof.Machine.execHotReset s
  | .pcieLinkDown => Sys2Proof.Machine.execPcieLinkDown s
  | .hostLinkTrained rate width => Sys2Proof.Machine.execHostLinkTrained rate width s
  | .bounceFloor vf v => Sys2Proof.Machine.execBounceFloor vf v s
  | .write id => Sys2Proof.Machine.execWrite id s
  | .read id => Sys2Proof.Machine.execRead id s
  | .atomic id => Sys2Proof.Machine.execAtomic id s
  | .dispatch id => Sys2Proof.Machine.execDispatch id s
  | .copy id => Sys2Proof.Machine.execCopy id s
  | .qpCreate via tag p arg => Sys2Proof.Machine.execQpCreate via tag p arg s
  | .qpModifyInit via tag p arg => Sys2Proof.Machine.execQpModifyInit via tag p arg s
  | .qpModifyReady via tag p arg => Sys2Proof.Machine.execQpModifyReady via tag p arg s
  | .qpModifyDrained via tag p arg => Sys2Proof.Machine.execQpModifyDrained via tag p arg s
  | .qpModifyReset via tag p arg => Sys2Proof.Machine.execQpModifyReset via tag p arg s
  | .qpDestroy via tag p v => Sys2Proof.Machine.execQpDestroy via tag p v s
  | .dataPacket on pkt => Sys2Proof.Machine.execDataPacket on pkt s
  | .commitPacket on pkt => Sys2Proof.Machine.execCommitPacket on pkt s
  | .ackPacket on pkt => Sys2Proof.Machine.execAckPacket on pkt s
  | .nakPacket on pkt => Sys2Proof.Machine.execNakPacket on pkt s
  | .readReq on pkt => Sys2Proof.Machine.execReadReq on pkt s
  | .readResp on pkt => Sys2Proof.Machine.execReadResp on pkt s
  | .atomicReq on pkt => Sys2Proof.Machine.execAtomicReq on pkt s
  | .atomicResp on pkt => Sys2Proof.Machine.execAtomicResp on pkt s
  | .atomicTimeout id => Sys2Proof.Machine.execAtomicTimeout id s
  | .atomicResponseExpiry qpn msg => Sys2Proof.Machine.execAtomicResponseExpiry qpn msg s
  | .abort on pkt => Sys2Proof.Machine.execAbort on pkt s
  | .abortAck on pkt => Sys2Proof.Machine.execAbortAck on pkt s
  | .commitAck on pkt => Sys2Proof.Machine.execCommitAck on pkt s
  | .abandon on pkt => Sys2Proof.Machine.execAbandon on pkt s
  | .grant on pkt => Sys2Proof.Machine.execGrant on pkt s
  | .retxTimerExpiry qpn => Sys2Proof.Machine.execRetxTimerExpiry qpn s
  | .ackIntervalExpiry qpn path => Sys2Proof.Machine.execAckIntervalExpiry qpn path s
  | .readTimeout id => Sys2Proof.Machine.execReadTimeout id s
  | .msgQuarantineEnd qpn msg => Sys2Proof.Machine.execMsgQuarantineEnd qpn msg s
  | .orphaned qpn msg => Sys2Proof.Machine.execOrphaned qpn msg s
  | .signalDetected l => Sys2Proof.Machine.execSignalDetected l s
  | .trainingDone l => Sys2Proof.Machine.execTrainingDone l s
  | .trainingTimeout l => Sys2Proof.Machine.execTrainingTimeout l s
  | .initFrame l ctl => Sys2Proof.Machine.execInitFrame l ctl s
  | .initTimeout l => Sys2Proof.Machine.execInitTimeout l s
  | .dataFrame l h data crcOk => Sys2Proof.Machine.execDataFrame l h data crcOk s
  | .credit l h ctl => Sys2Proof.Machine.execCredit l h ctl s
  | .linkNak l ctl => Sys2Proof.Machine.execLinkNak l ctl s
  | .poolMap l h ctl => Sys2Proof.Machine.execPoolMap l h ctl s
  | .retrainReq l ctl => Sys2Proof.Machine.execRetrainReq l ctl s
  | .linkAck l h => Sys2Proof.Machine.execLinkAck l h s
  | .throttle l ctl => Sys2Proof.Machine.execThrottle l ctl s
  | .throttleExpiry l => Sys2Proof.Machine.execThrottleExpiry l s
  | .ackWindowExpiry l => Sys2Proof.Machine.execAckWindowExpiry l s
  | .linkRetrain via tag v => Sys2Proof.Machine.execLinkRetrain via tag v s
  | .retrainLock l => Sys2Proof.Machine.execRetrainLock l s
  | .retrainTimeout l => Sys2Proof.Machine.execRetrainTimeout l s
  | .retrainRebind l => Sys2Proof.Machine.execRetrainRebind l s
  | .lossOfSignal l => Sys2Proof.Machine.execLossOfSignal l s
  | .linkKeySwitch which => Sys2Proof.Machine.execLinkKeySwitch which s
  | .timeIntervalTick => Sys2Proof.Machine.execTimeIntervalTick s
  | .timeReq l pkt => Sys2Proof.Machine.execTimeReq l pkt s
  | .timeResp l pkt => Sys2Proof.Machine.execTimeResp l pkt s
  | .holdoverExpired => Sys2Proof.Machine.execHoldoverExpired s
  | .timeSet via tag v => Sys2Proof.Machine.execTimeSet via tag v s
  | .swatheApply via tag f => Sys2Proof.Machine.execSwatheApply via tag f s
  | .swatheCancel via tag => Sys2Proof.Machine.execSwatheCancel via tag s
  | .swatheSwitch => Sys2Proof.Machine.execSwatheSwitch s
  | .cycleBoundary => Sys2Proof.Machine.execCycleBoundary s
  | .swatheOpen e => Sys2Proof.Machine.execSwatheOpen e s
  | .swatheInjectionEnd e => Sys2Proof.Machine.execSwatheInjectionEnd e s
  | .tileStepDone k id corrected => Sys2Proof.Machine.execTileStepDone k id corrected s
  | .scratchUncorrectable k => Sys2Proof.Machine.execScratchUncorrectable k s
  | .selftest via tag v => Sys2Proof.Machine.execSelftest via tag v s
  | .selftestDone k ok => Sys2Proof.Machine.execSelftestDone k ok s
  | .swardRun id => Sys2Proof.Machine.execSwardRun id s
  | .xwrite id => Sys2Proof.Machine.execXwrite id s
  | .xcopy id => Sys2Proof.Machine.execXcopy id s
  | .moeDispatch id => Sys2Proof.Machine.execMoeDispatch id s
  | .moeCombine id => Sys2Proof.Machine.execMoeCombine id s
  | .rosterStep id => Sys2Proof.Machine.execRosterStep id s
  | .checkpointWritten id => Sys2Proof.Machine.execCheckpointWritten id s
  | .allreduce id => Sys2Proof.Machine.execAllreduce id s
  | .reduce id => Sys2Proof.Machine.execReduce id s
  | .reduceScatter id => Sys2Proof.Machine.execReduceScatter id s
  | .allgather id => Sys2Proof.Machine.execAllgather id s
  | .broadcast id => Sys2Proof.Machine.execBroadcast id s
  | .barrier id => Sys2Proof.Machine.execBarrier id s
  | .groupCreate id => Sys2Proof.Machine.execGroupCreate id s
  | .groupDestroy id => Sys2Proof.Machine.execGroupDestroy id s
  | .collTimeout id => Sys2Proof.Machine.execCollTimeout id s
  | .collKillWaitExpiry id => Sys2Proof.Machine.execCollKillWaitExpiry id s
  | .ptWrite via tag p data => Sys2Proof.Machine.execPtWrite via tag p data s
  | .rangeInvalidationDone n => Sys2Proof.Machine.execRangeInvalidationDone n s
  | .ptQueryResult via tag p => Sys2Proof.Machine.execPtQueryResult via tag p s
  | .walkComplete n => Sys2Proof.Machine.execWalkComplete n s
  | .mowRead line errors => Sys2Proof.Machine.execMowRead line errors s
  | .rickRepair via tag v => Sys2Proof.Machine.execRickRepair via tag v s
  | .repairDone ok => Sys2Proof.Machine.execRepairDone ok s
  | .prefetch id => Sys2Proof.Machine.execPrefetch id s
  | .advise id => Sys2Proof.Machine.execAdvise id s
  | .invalidate id => Sys2Proof.Machine.execInvalidate id s
  | .faultBatchFlush p => Sys2Proof.Machine.execFaultBatchFlush p s
  | .ledgerTick => Sys2Proof.Machine.execLedgerTick s
  | .meterTick e => Sys2Proof.Machine.execMeterTick e s
  | .periodEnd => Sys2Proof.Machine.execPeriodEnd s
  | .snapshotPublished => Sys2Proof.Machine.execSnapshotPublished s
  | .slotGrant p => Sys2Proof.Machine.execSlotGrant p s
  | .preemption p c => Sys2Proof.Machine.execPreemption p c s
  | .preemptionEpochAdvance p c => Sys2Proof.Machine.execPreemptionEpochAdvance p c s
  | .timeSliceExpiry p c => Sys2Proof.Machine.execTimeSliceExpiry p c s
  | .exclExpired p => Sys2Proof.Machine.execExclExpired p s
  | .nopreExpired id => Sys2Proof.Machine.execNopreExpired id s
  | .ctxPrioritySet via tag p v => Sys2Proof.Machine.execCtxPrioritySet via tag p v s
  | .keyInstall via tag data f => Sys2Proof.Machine.execKeyInstall via tag data f s
  | .paddockKeyInstall via tag p data f => Sys2Proof.Machine.execPaddockKeyInstall via tag p data f s
  | .keyClear via tag v f => Sys2Proof.Machine.execKeyClear via tag v f s
  | .paddockKeyClear via tag p v f => Sys2Proof.Machine.execPaddockKeyClear via tag p v f s
  | .keyMaskRefresh => Sys2Proof.Machine.execKeyMaskRefresh s
  | .minSvRaise via tag v => Sys2Proof.Machine.execMinSvRaise via tag v s
  | .debugLockSet via tag => Sys2Proof.Machine.execDebugLockSet via tag s
  | .anchorSet via tag data f => Sys2Proof.Machine.execAnchorSet via tag data f s
  | .secureErase via tag data f => Sys2Proof.Machine.execSecureErase via tag data f s
  | .udpSessionOpen via tag data f => Sys2Proof.Machine.execUdpSessionOpen via tag data f s
  | .sessionIdleTimeout k => Sys2Proof.Machine.execSessionIdleTimeout k s
  | .sealGrant via tag p data f => Sys2Proof.Machine.execSealGrant via tag p data f s
  | .sealBind via tag p arg => Sys2Proof.Machine.execSealBind via tag p arg s
  | .sealLock via tag p v => Sys2Proof.Machine.execSealLock via tag p v s
  | .sealLockTimeout p sel => Sys2Proof.Machine.execSealLockTimeout p sel s
  | .sealDigestDone p sel digest => Sys2Proof.Machine.execSealDigestDone p sel digest s
  | .sealRevoke via tag v => Sys2Proof.Machine.execSealRevoke via tag v s
  | .jtagDebugAccess island => Sys2Proof.Machine.execJtagDebugAccess island s
  | .getVersion pcie who body => Sys2Proof.Machine.execGetVersion pcie who body s
  | .getCapabilities pcie who body => Sys2Proof.Machine.execGetCapabilities pcie who body s
  | .negotiateAlgorithms pcie who body => Sys2Proof.Machine.execNegotiateAlgorithms pcie who body s
  | .getDigests pcie who body => Sys2Proof.Machine.execGetDigests pcie who body s
  | .getCertificate pcie who body => Sys2Proof.Machine.execGetCertificate pcie who body s
  | .challenge pcie who body => Sys2Proof.Machine.execChallenge pcie who body s
  | .getMeasurements pcie who body => Sys2Proof.Machine.execGetMeasurements pcie who body s
  | .keyExchange pcie who body f => Sys2Proof.Machine.execKeyExchange pcie who body f s
  | .spdmFinish pcie who body f => Sys2Proof.Machine.execSpdmFinish pcie who body f s
  | .spdmHeartbeat pcie who body => Sys2Proof.Machine.execSpdmHeartbeat pcie who body s
  | .keyUpdate pcie who body => Sys2Proof.Machine.execKeyUpdate pcie who body s
  | .endSession pcie who body => Sys2Proof.Machine.execEndSession pcie who body s
  | .chunkGet pcie who body => Sys2Proof.Machine.execChunkGet pcie who body s
  | .eventTargetWrite via tag src own v => Sys2Proof.Machine.execEventTargetWrite via tag src own v s
  | .eventRaise via tag v => Sys2Proof.Machine.execEventRaise via tag v s
  | .paddockEventRaise via tag p v => Sys2Proof.Machine.execPaddockEventRaise via tag p v s
  | .holdoffExpiry g dst => Sys2Proof.Machine.execHoldoffExpiry g dst s
  | .larkFire slot => Sys2Proof.Machine.execLarkFire slot s
  | .wakeTimerExpiry => Sys2Proof.Machine.execWakeTimerExpiry s
  | .gpioEdge pin => Sys2Proof.Machine.execGpioEdge pin s
  | .islandReset via tag v f => Sys2Proof.Machine.execIslandReset via tag v f s
  | .islandReturn i_ => Sys2Proof.Machine.execIslandReturn i_ s
  | .islandFailed i_ => Sys2Proof.Machine.execIslandFailed i_ s
  | .islandWedged i_ paddock ctx => Sys2Proof.Machine.execIslandWedged i_ paddock ctx s
  | .ctxNoProgress p c => Sys2Proof.Machine.execCtxNoProgress p c s
  | .waitgraphScan => Sys2Proof.Machine.execWaitgraphScan s
  | .waitgraphBackoffExpiry id => Sys2Proof.Machine.execWaitgraphBackoffExpiry id s
  | .snapshotBufferUpdate i_ => Sys2Proof.Machine.execSnapshotBufferUpdate i_ s
  | .snapshotTake via tag => Sys2Proof.Machine.execSnapshotTake via tag s
  | .dumpWritten => Sys2Proof.Machine.execDumpWritten s
  | .dumpRelease via tag v => Sys2Proof.Machine.execDumpRelease via tag v s
  | .mgtKick => Sys2Proof.Machine.execMgtKick s
  | .mgtWatchdog b => Sys2Proof.Machine.execMgtWatchdog b s
  | .hardFence via tag v => Sys2Proof.Machine.execHardFence via tag v s
  | .joinComplete peer => Sys2Proof.Machine.execJoinComplete peer s
  | .joinFailed cond => Sys2Proof.Machine.execJoinFailed cond s
  | .pairLost cause => Sys2Proof.Machine.execPairLost cause s
  | .pairHeartbeat => Sys2Proof.Machine.execPairHeartbeat s
  | .mirrorRequest n p cmd ok => Sys2Proof.Machine.execMirrorRequest n p cmd ok s
  | .mirrorAck n => Sys2Proof.Machine.execMirrorAck n s
  | .mirrorResend n => Sys2Proof.Machine.execMirrorResend n s
  | .sensorPoll r status => Sys2Proof.Machine.execSensorPoll r status s
  | .sensorBusRecovery sdaHigh => Sys2Proof.Machine.execSensorBusRecovery sdaHigh s
  | .sensorBusRetry sdaHigh => Sys2Proof.Machine.execSensorBusRetry sdaHigh s
  | .sensorBusPeriodicRecovery sdaHigh => Sys2Proof.Machine.execSensorBusPeriodicRecovery sdaHigh s
  | .capTick mw => Sys2Proof.Machine.execCapTick mw s
  | .powerStateSetRun via tag => Sys2Proof.Machine.execPowerStateSetRun via tag s
  | .powerStateSetDoze via tag => Sys2Proof.Machine.execPowerStateSetDoze via tag s
  | .powerStateSetSleep via tag => Sys2Proof.Machine.execPowerStateSetSleep via tag s
  | .idleEntry => Sys2Proof.Machine.execIdleEntry s
  | .thermalThreshold k mdeg => Sys2Proof.Machine.execThermalThreshold k mdeg s
  | .thermalTrip k => Sys2Proof.Machine.execThermalTrip k s
  | .brownoutWarning rail mv => Sys2Proof.Machine.execBrownoutWarning rail mv s
  | .brakeRelease mv us => Sys2Proof.Machine.execBrakeRelease mv us s
  | .brownoutReset rail mv b => Sys2Proof.Machine.execBrownoutReset rail mv b s
  | .ethFrame dst body errors => Sys2Proof.Machine.execEthFrame dst body errors s
  | .pauseWatchdog => Sys2Proof.Machine.execPauseWatchdog s
  | .ethStatsClear via tag v => Sys2Proof.Machine.execEthStatsClear via tag v s
  | .flashProgramDone ok => Sys2Proof.Machine.execFlashProgramDone ok s
  | .flashEraseDone ok blank => Sys2Proof.Machine.execFlashEraseDone ok blank s
  | .flashMow block corrected readable => Sys2Proof.Machine.execFlashMow block corrected readable s
  | .fwBegin via tag => Sys2Proof.Machine.execFwBegin via tag s
  | .fwData via tag data => Sys2Proof.Machine.execFwData via tag data s
  | .fwFinish via tag v f => Sys2Proof.Machine.execFwFinish via tag v f s
  | .fwActivate via tag => Sys2Proof.Machine.execFwActivate via tag s
  | .fwConfirm via tag => Sys2Proof.Machine.execFwConfirm via tag s
  | .counterLatch via tag p => Sys2Proof.Machine.execCounterLatch via tag p s
  | .traceMark via tag p v => Sys2Proof.Machine.execTraceMark via tag p v s
  | .samplePeriodTick => Sys2Proof.Machine.execSamplePeriodTick s
  | .pcPeriodTick k => Sys2Proof.Machine.execPcPeriodTick k s
  | .traceMirrorBase via tag p v => Sys2Proof.Machine.execTraceMirrorBase via tag p v s
  | .traceMirrorCopy p => Sys2Proof.Machine.execTraceMirrorCopy p s
  | .allotmentRecordSigned p => Sys2Proof.Machine.execAllotmentRecordSigned p s
  | .rootReconstructed copy c failed => Sys2Proof.Machine.execRootReconstructed copy c failed s
  | .ethLinkChange v => Sys2Proof.Machine.execEthLinkChange v s
  | .sensorBusAlert => Sys2Proof.Machine.execSensorBusAlert s

end Sys2Proof.Machine
end

