-- ==== Sys2Proof/Safety.lean ====
section
/-! DEFINITION. The terms that claims are stated in: a safe outcome, when a request is served at once, and states in which no event
waits for its delivery. -/

namespace Sys2Proof
open Sys2Proof.Machine

/-- The outcome is a next state. -/
def Safe (o : Host.Outcome Machine.State Machine.Fault Machine.Refusal) : Prop := ∃ t, o = .next t

/-- MGT serves a request that comes on a path now: the configuration is applied, the path reaches MGT, MGT waits for no earlier
answer, and this half is not the secondary of a unit (R75, R574, R643, R652). -/
def Serves (s : Machine.State) (via : Path) : Prop :=
  s.sys.boot = 3 ∧ reaches s via = true ∧ s.obj.serving = none ∧ (paired s && secondHalf s) = false

/-- The manager asks (R71): the PF mailbox, an MCTP session of the manager, or a UDP session. -/
def ManagerAsks (s : Machine.State) (via : Path) : Prop := Serves s via ∧ roleOf s via = 1

/-- A tenant asks through the Stile of its own paddock, which is neither EMPTY nor FAULTED (R184). -/
def TenantAsks (s : Machine.State) (p : PNum) (via : Path) : Prop :=
  Serves s via ∧ via = .stile p ∧ (pad s p.val).state ≠ .empty ∧ (pad s p.val).state ≠ .faulted

/-- The manager or the paddock's tenant asks. -/
def OwnerAsks (s : Machine.State) (p : PNum) (via : Path) : Prop := ManagerAsks s via ∨ TenantAsks s p via

/-- No source may be delivered: what a command raised has been delivered, or its target does not deliver (R523). -/
def Quiescent (s : Machine.State) : Prop := ∀ src, deliverable s src = false

/-- What the traffic of commands never changes of a paddock: its state, claims, records and keys. -/
def Machine.strip (d : Machine.Paddock) : Machine.Paddock := { d with
  allocs := [], winPages := [], bounceTx := 0, ctxs := [], queues := [], lastQueue := 0, excl := none, geqSeqs := [], mirrorTail := 0,
  faultBatch := [], faultFrom := 0, usageSeq := 0, usageTail := 0, v := [], buckets := [], waited := 0, behind := [], act := [],
  trace := [], traceFirst := 0, traceLost := 0, mirrorNext := 0, mirrorRing := 0 }

end Sys2Proof
end

