-- ==== Sys2Proof/Certificates/Slice0/Obligations.lean ====
section
/-! DEFINITION. The statements for the provers. A command that completes answers `.next (settle u)`: u is the state with the command's
own effect, and `settle` is what follows every command, which the statements about it describe. -/

open Sys2Proof Sys2Proof.Machine

/-- The command is a WRITE that MGT answers with a status: the next state is what follows that answer in state u. -/
def Sys2Proof.Answers (c : Instr) (s u : State) (via : Path) (r : Req) (n code : Nat) : Prop := exec c s = .next (settle (answer u via r n code []))

/-- The engine may work on command id, whose record is c, under an opcode. -/
def Sys2Proof.Works (s : State) (id : Nat) (c : Cmd) (op : Nat) : Prop :=
  2 ≤ s.sys.boot ∧ cmdOf s id = some c ∧ dOpcode c.desc = op ∧ mayWork s id c = true

/-- The row brings the command to its commit: it is offered to its completion ring with the record k. -/
def Sys2Proof.Finishes (i : Instr) (s v : State) (id : Nat) (k : Cmd) : Prop :=
  exec i s = .next (settle (tryCommit v id)) ∧ cmdOf v id = some k ∧ k.inner = false

/-! ### The machine as a whole -/

/-- A step takes the command at the front of the queue and runs it on the state with the queue's rest. -/
def Obligations.StepRunsFrontCommand : Prop :=
  ∀ (c : Instr) (rest : List Instr) (s : State), step { s with pending := c :: rest } = exec c { s with pending := rest }

/-- With nothing waiting, one cycle of the fabric time island passes: the counter advances by its increment modulo 2^104, UPTIME by one,
and nothing else changes (the model's own choice, log 9). -/
def Sys2Proof.EmptyQueueCountsTime : Prop :=
  ∀ s : State, s.pending = [] → ∃ t, step s = .next t ∧
    t.ftm.time = (s.ftm.time + ((2 ^ 40 : Int) + s.ftm.freq + s.ftm.slew).toNat) % 2 ^ 104 ∧
    t.sys.uptime = (s.sys.uptime + 1) % 2 ^ 64 ∧
    { t with ftm.time := s.ftm.time, sys.uptime := s.sys.uptime } = s

/-- No command ends in a fault or a refusal, in any state and with any operands. -/
def Sys2Proof.EveryCommandGoesOn : Prop := ∀ (c : Instr) (s : State), Safe (exec c s)

/-- Until the boot ROM has entered Mbomon, only the three resets act: any other command leaves the state as it was. -/
def Sys2Proof.OnlyResetsActBeforeBoot : Prop :=
  ∀ (c : Instr) (s : State), s.sys.boot < 2 → (∀ b, c ≠ .porN b) → (∀ b, c ≠ .warmRstN b) → (∀ r m b, c ≠ .brownoutReset r m b) →
    exec c s = .next s

/-- What the manual says of the device before por_n rises: every paddock EMPTY and holding nothing, every link DOWN with no frame
unacknowledged, no draft owner, no configuration operation, no key in any session, fabric time 0 and UNSYNC, every occurrence count and
PENDING bit 0, and nothing stored in the rick. (Fabric time 0 is the model's choice, log 3.)
Choices of the model behind it: log 3. -/
def Obligations.ResetHoldsNothing : Prop :=
  (∀ p, (pad State.reset p).state = .empty ∧ (pad State.reset p).granules = 0 ∧ (pad State.reset p).lots = [] ∧
    (pad State.reset p).ctxs = [] ∧ (pad State.reset p).queues = []) ∧
  (∀ l, (Tbl.get State.reset.net.links l).st = .down ∧ (Tbl.get State.reset.net.links l).replay = []) ∧
  State.reset.obj.draftOwner = none ∧ State.reset.obj.confOp = none ∧ State.reset.sec.sessions = [] ∧
  ns State.reset = 0 ∧ State.reset.ftm.st = 0 ∧
  (∀ src, Tbl.get State.reset.ev.occurs src = 0 ∧ bit (Tbl.get State.reset.ev.targets src) 29 = false) ∧
  State.reset.rick.cells = [] ∧ Quiescent State.reset ∧ State.reset.pending = []

/-- After every command each event that may be delivered has been delivered: from a state with none left to deliver, a step leaves
none. -/
def Obligations.StepsLeaveNoDeliverableEvent : Prop :=
  ∀ s t : State, Quiescent s → step s = .next t → Quiescent t

/-- A source that fires counts one occurrence, modulo 2^16, and sets PENDING of its target register; where PENDING is already 1 the
overrun count grows by one and holds at 255. No other source's count or register changes. -/
def Sys2Proof.FiringSetsPendingAndCounts : Prop :=
  ∀ (s : State) (src : Nat),
    Tbl.get (fire s src).ev.occurs src = (Tbl.get s.ev.occurs src + 1) % 65536 ∧
    bit (Tbl.get (fire s src).ev.targets src) 29 = true ∧
    (bit (Tbl.get s.ev.targets src) 29 = true →
      bits (Tbl.get (fire s src).ev.targets src) 7 0 = min 255 (bits (Tbl.get s.ev.targets src) 7 0 + 1)) ∧
    (bit (Tbl.get s.ev.targets src) 29 = false →
      bits (Tbl.get (fire s src).ev.targets src) 7 0 = bits (Tbl.get s.ev.targets src) 7 0) ∧
    (∀ k, k ≠ src → Tbl.get (fire s src).ev.occurs k = Tbl.get s.ev.occurs k ∧
      Tbl.get (fire s src).ev.targets k = Tbl.get s.ev.targets k) ∧
    { fire s src with ev := s.ev } = s

/-- Delivery clears PENDING of each source that delivers and leaves every other target register, and outside the event registers, the
hold-off timers, DELIVERIES, the functions' pending bits and the messages sent, it changes nothing. -/
def Sys2Proof.DeliveryClearsPending : Prop :=
  ∀ s : State,
    (∀ src, deliverable s src = true → Tbl.get (deliver s).ev.targets src = putBit (Tbl.get s.ev.targets src) 29 false) ∧
    (∀ src, deliverable s src = false → Tbl.get (deliver s).ev.targets src = Tbl.get s.ev.targets src) ∧
    (deliver s).ev.occurs = s.ev.occurs ∧ (deliver s).ev.lark = s.ev.lark ∧
    { deliver s with ev := s.ev, host := s.host, out := s.out, obj.live := s.obj.live } = s

/-- No command ends in a fault or a refusal; before Mbomon runs only the resets act; an empty queue lets one cycle of time pass (the model's own choice, log 9).
Choices of the model behind it: logs 9, 13, 34. -/
def Obligations.StepsAlwaysGoOn : Prop := EmptyQueueCountsTime ∧ EveryCommandGoesOn ∧ OnlyResetsActBeforeBoot

/-- A source that fires counts and sets PENDING; delivery clears PENDING. -/
def Obligations.EventsArePendedAndDelivered : Prop := FiringSetsPendingAndCounts ∧ DeliveryClearsPending

/-! ### Requests and responses -/

/-- A READ that passes its checks is answered with status 0x0000 and the object's value; a READ of the journal window under a number
that no record has is the one exception. -/
def Sys2Proof.ReadAnswersObjectValue : Prop :=
  ∀ (s : State) (via : Path) (hdr : BitVec 128),
    2 ≤ s.sys.boot → reaches s via = true → s.obj.serving = none → (reqOf hdr).op = 1 → requestCode s via (reqOf hdr) [] = 0 →
    ¬ ((reqOf hdr).index = 0x1C00 ∧ (reqOf hdr).sub = 0x0C ∧ journalRecord s = none) →
    exec (.objectRead via hdr) s = .next (settle (answer (fresh1 s) via (reqOf hdr) 0 0 (readValue s (reqOf hdr))))

/-- An answer is sent on the path of its request with the request's TAG, the CVN in force, the status and the payload's length, and
outside the path's own mailbox or session it changes nothing. -/
def Sys2Proof.AnswerNamesRequestAndStatus : Prop :=
  ∀ (s : State) (via : Path) (r : Req) (n code : Nat) (data : Bytes), data.length < 65536 → code < 65536 →
    ∃ hdr : BitVec 128, .response via hdr data ∈ (answer s via r n code data).out ∧ hTag hdr.toNat = r.tag.toNat ∧
      hProto hdr.toNat = 1 ∧ bits hdr.toNat 31 16 = code ∧ bits hdr.toNat 63 32 = s.obj.cvn % 2 ^ 32 ∧ hLength hdr.toNat = data.length ∧
      { answer s via r n code data with out := s.out, host := s.host, sec := s.sec } = s

/-- A request that one of the checks refuses is answered with the code of the first check that refuses it, and has no other effect;
the Hedgerow also counts a Stile that asks for an index outside its paddock's block. -/
def Sys2Proof.RefusedRequestOnlyAnswers : Prop :=
  ∀ (s : State) (via : Path) (hdr : BitVec 128) (data : Bytes) (f : Facts) (c : Nat),
    2 ≤ s.sys.boot → reaches s via = true → s.obj.serving = none → requestCode s via (reqOf hdr) data = c → c ≠ 0 →
    c = firstCode [headerCode (reqOf hdr) data.length, startCode s (reqOf hdr), reachCode s via (reqOf hdr), placeCode s (reqOf hdr),
      accessCode (reqOf hdr), roleCode s via (reqOf hdr), typeCode (reqOf hdr), valueCode (reqOf hdr) data] ∧
    ((∀ p, via ≠ .stile p) →
      exec (.objectWrite via hdr data f) s = .next (settle (answer s via (reqOf hdr) data.length c []))) ∧
    (∀ p : PNum, via = .stile p → outsideBlock p.val (reqOf hdr) = false →
      exec (.objectWrite via hdr data f) s = .next (settle (answer s via (reqOf hdr) data.length c []))) ∧
    (∀ p : PNum, via = .stile p → outsideBlock p.val (reqOf hdr) = true → headerCode (reqOf hdr) data.length = 0 →
      startCode s (reqOf hdr) = 0 → c = 0x0111 ∧
      exec (.objectWrite via hdr data f) s =
        .next (settle (answer (refuse s p.val 0x0111 [(reqOf hdr).index]) via (reqOf hdr) data.length 0x0111 [])))

/-- A request that reaches MGT while it waits for an earlier answer waits behind it, and nothing else happens; while MGT is in reset a
request is lost. -/
def Sys2Proof.RequestsWaitTheirTurn : Prop :=
  ∀ (s : State) (via : Path) (hdr : BitVec 128) (data : Bytes) (f : Facts), 2 ≤ s.sys.boot →
    (reaches s via = true → s.obj.serving ≠ none →
      exec (.objectWrite via hdr data f) s = .next (settle { s with obj.behind := s.obj.behind ++ [(via, reqOf hdr, data, f)] })) ∧
    (islandOut s 1 = true → exec (.objectWrite via hdr data f) s = .next (settle s))

/-- A WRITE of a DRAFT object goes into the draft alone, and makes its path the draft owner; the committed value stays. -/
def Sys2Proof.DraftWriteMakesOwner : Prop :=
  ∀ (s : State) (via : Path) (hdr : BitVec 128) (data : Bytes) (f : Facts) (d : Desc),
    Serves s via → (reqOf hdr).op = 2 → requestCode s via (reqOf hdr) data = 0 →
    descOf (reqOf hdr).index (reqOf hdr).sub = some d → d.acc = .draft →
    ¬ (d.tab = true ∧ (reqOf hdr).sub = 0 ∧ d.rowsLo = d.rowsHi) →
    (s.obj.draftOwner = none ∨ s.obj.draftOwner = some via) → s.obj.confOp = none →
    exec (.objectWrite via hdr data f) s = .next (settle (answer
      { s with obj.draft := putVal s.obj.draft (reqOf hdr).index (reqOf hdr).sub (newValue s d (reqOf hdr) data),
               obj.draftOwner := some via } via (reqOf hdr) data.length 0 []))

/-- A WRITE of a LIVE object outside the paddock blocks takes effect at once: the object holds the value, and nothing else changes. The
objects whose writes carry rules of their own are left to other statements. -/
def Sys2Proof.LiveWriteTakesEffectAtOnce : Prop :=
  ∀ (s : State) (via : Path) (hdr : BitVec 128) (data : Bytes) (f : Facts) (d : Desc),
    Serves s via → (reqOf hdr).op = 2 → requestCode s via (reqOf hdr) data = 0 → (reqOf hdr).index < 0x4000 →
    descOf (reqOf hdr).index (reqOf hdr).sub = some d → d.acc = .live → d.tab = false →
    (reqOf hdr).index ∉ [0x1600, 0x1800, 0x1C01, 0x1E04, 0x2100] → ¬ (0x1E10 ≤ (reqOf hdr).index ∧ (reqOf hdr).index ≤ 0x1E17) →
    exec (.objectWrite via hdr data f) s = .next (settle (answer
      (setO s (reqOf hdr).index (reqOf hdr).sub (newValue s d (reqOf hdr) data)) via (reqOf hdr) data.length 0 []))

/-- While the draft has an owner, a WRITE to a DRAFT object, a COMMIT or a ROLLBACK from another path is refused with 0x0108. -/
def Sys2Proof.DraftOwnerExcludesOtherPaths : Prop :=
  ∀ (s : State) (via o : Path), Serves s via → s.obj.draftOwner = some o → o ≠ via →
    (∀ (hdr : BitVec 128) (data : Bytes) (f : Facts) (d : Desc), (reqOf hdr).op = 2 → requestCode s via (reqOf hdr) data = 0 →
      descOf (reqOf hdr).index (reqOf hdr).sub = some d → d.acc = .draft →
      exec (.objectWrite via hdr data f) s = .next (settle (answer s via (reqOf hdr) data.length 0x0108 []))) ∧
    (∀ (tag : Tag) (v : BitVec 32), roleOf s via = 1 →
      exec (.commit via tag v) s = .next (settle (answer { s with obj.lastResult := 0x0108 } via (writeReq tag 0x1100 8 4) 4 0x0108 [])) ∧
      exec (.rollback via tag v) s =
        .next (settle (answer { s with obj.lastResult := 0x0108 } via (writeReq tag 0x1100 9 4) 4 0x0108 [])))

/-- On the secondary half of a unit, a WRITE to a DRAFT or CMD object outside 0x1F00 to 0x1F04 and 0x20xx is refused with 0x0E04; its reads are answered
as everywhere. -/
def Obligations.SecondaryRefusesWrites : Prop :=
  ∀ (s : State) (via : Path) (hdr : BitVec 128),
    s.sys.boot = 3 → reaches s via = true → s.obj.serving = none → paired s = true → secondHalf s = true →
    (∀ (data : Bytes) (f : Facts) (d : Desc), (reqOf hdr).op = 2 → requestCode s via (reqOf hdr) data = 0 →
      descOf (reqOf hdr).index (reqOf hdr).sub = some d → d.acc = .draft ∨ d.acc = .cmd →
      ¬ (0x1F00 ≤ (reqOf hdr).index ∧ (reqOf hdr).index ≤ 0x1F04) → ¬ (0x2000 ≤ (reqOf hdr).index ∧ (reqOf hdr).index ≤ 0x20FF) →
      exec (.objectWrite via hdr data f) s = .next (settle (answer s via (reqOf hdr) data.length 0x0E04 []))) ∧
    ((reqOf hdr).op = 1 → requestCode s via (reqOf hdr) [] = 0 →
      ¬ ((reqOf hdr).index = 0x1C00 ∧ (reqOf hdr).sub = 0x0C ∧ journalRecord s = none) →
      exec (.objectRead via hdr) s = .next (settle (answer (fresh1 s) via (reqOf hdr) 0 0 (readValue s (reqOf hdr)))))

/-- Messages that carry requests: over MCTP the request is served on that path after the arrival's events; a datagram of an open session,
its tag good and its SEQ above the highest served, is served and its SEQ becomes the highest; any other datagram that is no duplicate of
the last eight is dropped and counted. -/
def Sys2Proof.CarriedRequestsAreServed : Prop :=
  ∀ (s : State) (hdr : BitVec 128) (data : Bytes) (f : Facts), 2 ≤ s.sys.boot → islandOut s 1 = false →
    (∀ (pcie : Bool) (who : BitVec 28), exec (.mctpMessage pcie who hdr data f) s =
      .next (settle (serve (if pcie then fire s 850 else fire (fire s 850) 851) (.mctp pcie who) (reqOf hdr) data f s.sys.bootFacts))) ∧
    (∀ (k : BitVec 32) (seq : BitVec 32) (key : Nat) (intact : Bool) (x : Session),
      k.toNat ≠ 0 → k.toNat ≤ 8 → Tbl.find s.sec.sessions k.toNat = some x →
      (∀ e ∈ x.kept, e.1 ≠ seq.toNat) →
      (intact = true → key = x.key → x.seq < seq.toNat →
        ∃ v : State, exec (.udpDatagram k seq hdr data key intact f) s =
            .next (settle (serve v (.udp (BitVec.ofNat 28 k.toNat)) (reqOf hdr) data f s.sys.bootFacts)) ∧
          (Tbl.get v.sec.sessions k.toNat).seq = seq.toNat ∧ { v with sec.sessions := s.sec.sessions } = s) ∧
      (intact = false ∨ key ≠ x.key ∨ seq.toNat ≤ x.seq →
        exec (.udpDatagram k seq hdr data key intact f) s =
          .next (settle (setO s 0x2111 8 ((getO s 0x2111 8 + 1) % 2 ^ 32)))))

/-- A GO on an idle mailbox fires its source and makes the mailbox BUSY with the request; a READ that passes its checks leaves it DONE with
the response and one more served. An ACK takes it from DONE to IDLE. A GO on a mailbox that is not IDLE is ignored and counted. -/
def Sys2Proof.MailboxGoesIdleBusyDone : Prop :=
  ∀ (s : State) (p : PNum) (irq : Bool) (hdr : BitVec 128), s.sys.boot = 3 → s.pow.st = 0 → islandOut s 3 = false →
    (func s (some p)).inReset = false →
    ((func s (some p)).stile = 0 → islandOut s 1 = false → s.obj.serving = none → (reqOf hdr).op = 1 →
      requestCode s (.stile p) (reqOf hdr) [] = 0 →
      ∃ u, exec (.stileGo (some p) irq hdr [] {}) s = .next (settle u) ∧ (func u (some p)).stile = 2 ∧
        (func u (some p)).served = ((func s (some p)).served + 1) % 256 ∧
        (func u (some p)).request = beBytes 16 hdr.toNat ∧ u.pads = s.pads ∧ u.rick = s.rick) ∧
    ((func s (some p)).stile = 2 → exec (.stileAck (some p) false) s =
      .next (settle (updFunc s (some p) (fun x => { x with stile := 0 })))) ∧
    ((func s (some p)).stile ≠ 0 → ∃ u, exec (.stileGo (some p) irq hdr [] {}) s = .next (settle u) ∧
      (func u (some p)).misuse = (func s (some p)).misuse + 1 ∧ (func u (some p)).stile = (func s (some p)).stile ∧ u.out = s.out)

/-- A READ is answered with the object's value, and every answer names its request and its status.
Choices of the model behind it: logs 28, 29, 31. -/
def Obligations.ReadsAreAnswered : Prop := ReadAnswersObjectValue ∧ AnswerNamesRequestAndStatus

/-- A refused request only answers, and a request that finds MGT waiting waits.
Choices of the model behind it: log 78. -/
def Obligations.RequestsAreCheckedInTurn : Prop := RefusedRequestOnlyAnswers ∧ RequestsWaitTheirTurn

/-- A DRAFT write goes into the draft, a LIVE write takes effect at once, and the draft's owner excludes other paths.
Choices of the model behind it: logs 79, 80. -/
def Obligations.WritesGoToTheirPlace : Prop := DraftWriteMakesOwner ∧ LiveWriteTakesEffectAtOnce ∧ DraftOwnerExcludesOtherPaths

/-- Messages and mailboxes bring requests to MGT.
Choices of the model behind it: logs 8, 87. -/
def Obligations.CarriersBringRequests : Prop := CarriedRequestsAreServed ∧ MailboxGoesIdleBusyDone

/-! ### Configuration versions -/

/-- What a configuration operation that has passed its checks leaves while it runs on: the next CVN is reserved in the journal and in
CVN_LAST, the operation is recorded with its values, SOURCE and ROLLED_FROM, no answer is sent yet, and the committed values, CVN_CURRENT,
the draft and its owner are as they were. -/
def Sys2Proof.ConfigOperationRuns (s u : State) (via : Path) (tag : Tag) (obj source from_ : Nat) (values : Tbl Nat) : Prop :=
  u = { journal s 7 [1, s.obj.cvnLast + 1] with
        obj.cvnLast := s.obj.cvnLast + 1,
        obj.confOp := some { values := values, source := source, from_ := from_, cvn := s.obj.cvnLast + 1, path := via, tag := tag, obj := obj,
                             changed := ((changedKeys s.obj.committed values).filterMap resourcePad).eraseDups, made := madeAt s,
                             check := checkWord values (madeAt s) } }

/-- The checks that every configuration operation passes before step 5: none runs, the values pass the ranges and the rules that span
objects, no paddock whose resources change has a control command in progress, a CVN is left, and the store takes writes. -/
def Sys2Proof.ConfigOperationPasses (s : State) (values : Tbl Nat) : Prop :=
  s.obj.confOp = none ∧ checkValues s values = 0 ∧
  (∀ p ∈ ((changedKeys s.obj.committed values).filterMap resourcePad).eraseDups, (pad s p).pend = none) ∧
  s.obj.cvnLast ≠ 0xFFFFFFFF ∧ s.store.readOnly = false

/-- COMMIT of the current CVN, ROLLBACK to a version that is kept, FACTORY_RESTORE and IMAGE_APPLY, by the draft's owner or with no owner,
start their operation.
Choices of the model behind it: logs 10, 74. -/
def Obligations.ConfigOperationsReserveTheNextVersion : Prop :=
  ∀ (s : State) (via : Path) (tag : Tag), ManagerAsks s via →
    (∀ v : BitVec 32, (s.obj.draftOwner = none ∨ s.obj.draftOwner = some via) → s.obj.lapsed ≠ some via → v.toNat = s.obj.cvn →
      ConfigOperationPasses s s.obj.draft →
      ∃ u, exec (.commit via tag v) s = .next (settle u) ∧ ConfigOperationRuns s u via tag 0x110008 1 0 s.obj.draft) ∧
    (∀ (v : BitVec 32) (values : Tbl Nat), (s.obj.draftOwner = none ∨ s.obj.draftOwner = some via) →
      rollTarget s v.toNat = some values → ConfigOperationPasses s values →
      ∃ u, exec (.rollback via tag v) s = .next (settle u) ∧ ConfigOperationRuns s u via tag 0x110009 2 v.toNat values) ∧
    ((s.obj.draftOwner = none ∨ s.obj.draftOwner = some via) → ConfigOperationPasses s [] →
      ∃ u, exec (.factoryRestore via tag) s = .next (settle u) ∧ ConfigOperationRuns s u via tag 0x11000B 5 0 []) ∧
    (∀ (f : Facts) (img : Bytes) (tail : Nat) (l : List (Nat × Nat × Nat × Bytes)) (values : Tbl Nat), img = stagedImage s →
      tail = (if bit (beNat (img.take 64)) 448 then 100 else 4) → 64 + tail ≤ img.length → img.length = getO s 0x1102 1 →
      bits (beNat (img.take 64)) 511 480 = 0x44434647 → bits (beNat (img.take 64)) 479 464 = 1 →
      bits (beNat (img.take 64)) 447 416 = img.length →
      readRecords (bits (beNat (img.take 64)) 351 320) ((img.take (img.length - tail)).drop 64) = some l →
      (crc32c (img.take (img.length - tail))).toNat = beNat ((img.drop (img.length - tail)).take 4) →
      (if bit (beNat (img.take 64)) 448 then f.sigOk = true else s.obj.requireSigned = false) →
      bits (beNat (img.take 64)) 415 384 / 256 = blockVersion / 256 →
      (bits (beNat (img.take 64)) 383 352 = 0 ∨ bits (beNat (img.take 64)) 383 352 = s.obj.cvn) →
      l.foldl takeRecord (.ok (if bit (beNat (img.take 64)) 449 then s.obj.committed else [])) = .ok values →
      ConfigOperationPasses s values →
      ∃ u, exec (.imageApply via tag f) s = .next (settle u) ∧ ConfigOperationRuns s u via tag 0x110202 3 0 values)

/-- A ROLLBACK whose target is not kept, or whose target has STATUS 3, is refused with 0x010C. -/
def Sys2Proof.RollbackToUnkeptVersionIsRefused : Prop :=
  ∀ (s : State) (via : Path) (tag : Tag) (v : BitVec 32), ManagerAsks s via →
    (s.obj.draftOwner = none ∨ s.obj.draftOwner = some via) → v.toNat ≠ 0 →
    (∀ x ∈ s.obj.versions, x.cvn = v.toNat → x.status = 3) → 
    exec (.rollback via tag v) s =
      .next (settle (answer { s with obj.lastResult := 0x010C } via (writeReq tag 0x1100 9 4) 4 0x010C []))

/-- When the write to the version store fails, the operation is refused with 0x0112: no object changes but LAST_RESULT, the CVN reserved for
it stays reserved and is not current, and the draft and its owner stay.
Choices of the model behind it: log 80. -/
def Obligations.FailedVersionWriteKeepsCurrentVersion : Prop :=
  ∀ (s : State) (o : ConfOp), 2 ≤ s.sys.boot → s.obj.confOp = some o → s.pow.brake = none →
    ∃ u, exec (.configOperationDone false) s = .next (settle u) ∧
      u.obj.cvn = s.obj.cvn ∧ u.obj.cvnLast = s.obj.cvnLast ∧ u.obj.versions = s.obj.versions ∧ u.obj.committed = s.obj.committed ∧
      u.obj.live = s.obj.live ∧ u.obj.draft = s.obj.draft ∧ u.obj.draftOwner = s.obj.draftOwner ∧ u.obj.confOp = none ∧
      u.obj.lastResult = 0x0112 ∧
      (∃ hdr, .response o.path hdr [] ∈ u.out ∧ hTag hdr.toNat = o.tag.toNat ∧ bits hdr.toNat 31 16 = 0x0112) ∧
      { u with obj := s.obj, out := s.out, host := s.host, sec := s.sec } = s

/-- Step 7: the new version is current and the newest of at most four, its values are in force, CFG_DEFAULTED is clear, the draft equals it
and has no owner, and the request is answered.
Choices of the model behind it: log 80. -/
def Obligations.CompletedOperationMakesVersionCurrent : Prop :=
  ∀ (s : State) (o : ConfOp), 2 ≤ s.sys.boot → s.obj.confOp = some o → s.pow.brake = none →
    ∃ u, exec (.configOperationDone true) s = .next (settle u) ∧
      u.obj.cvn = o.cvn ∧ u.obj.cvnLast = s.obj.cvnLast ∧ u.obj.committed = o.values ∧ u.obj.draft = o.values ∧ u.obj.draftOwner = none ∧
      u.obj.cfgDefaulted = false ∧ u.obj.cfgSource = o.source ∧ u.obj.lastResult = 0 ∧ u.obj.confOp = none ∧
      u.obj.versions.length ≤ 4 ∧ (∃ v rest, u.obj.versions = v :: rest ∧ v.cvn = o.cvn ∧ v.status = 2 ∧ v.source = o.source ∧
        v.from_ = o.from_ ∧ v.values = o.values ∧ ∀ x ∈ rest, x.status ≠ 2) ∧
      (∃ hdr, .response o.path hdr [] ∈ u.out ∧ hTag hdr.toNat = o.tag.toNat ∧ bits hdr.toNat 31 16 = 0)

/-- DISCARD_DRAFT by the owner or by MGR on the PF makes the draft equal to the committed version and clears the owner; from another path
it is refused with 0x0108 while the draft has an owner, and else changes nothing. -/
def Sys2Proof.DiscardDraftDropsDraft : Prop :=
  ∀ (s : State) (via : Path) (tag : Tag), ManagerAsks s via → s.obj.confOp = none →
    ((s.obj.draftOwner = some via ∨ via = .pf) →
      exec (.discardDraft via tag) s =
        .next (settle (answer { s with obj.draft := s.obj.committed, obj.draftOwner := none } via (writeReq tag 0x1100 0x0A 1) 1 0 []))) ∧
    (∀ o, s.obj.draftOwner = some o → o ≠ via → via ≠ .pf →
      exec (.discardDraft via tag) s = .next (settle (answer s via (writeReq tag 0x1100 0x0A 1) 1 0x0108 []))) ∧
    (s.obj.draftOwner = none → via ≠ .pf →
      exec (.discardDraft via tag) s = .next (settle (answer s via (writeReq tag 0x1100 0x0A 1) 1 0 [])))

/-- The end of DRAFT_LEASE discards the draft and clears the owner, whose next COMMIT is refused with 0x0109. REQUIRE_SIGNED_SET sets
REQUIRE_SIGNED and nothing else. -/
def Sys2Proof.LapsedOwnerMustStartAgain : Prop :=
  ∀ (s : State) (via : Path) (tag : Tag),
    (2 ≤ s.sys.boot → s.obj.confOp = none → s.obj.draftOwner ≠ none →
      exec .draftLeaseExpiry s =
        .next (settle { s with obj.draft := s.obj.committed, obj.draftOwner := none, obj.lapsed := s.obj.draftOwner })) ∧
    (∀ v : BitVec 32, ManagerAsks s via → s.obj.draftOwner = none → s.obj.lapsed = some via →
      exec (.commit via tag v) s = .next (settle (answer { s with obj.lapsed := none, obj.lastResult := 0x0109 } via
        (writeReq tag 0x1100 8 4) 4 0x0109 []))) ∧
    (ManagerAsks s via → exec (.requireSignedSet via tag) s =
      .next (settle (answer { s with obj.requireSigned := true } via (writeReq tag 0x1102 3 1) 1 0 [])))

/-- A ROLLBACK to an unkept version is refused; DISCARD_DRAFT and the lease's end drop the draft.
Choices of the model behind it: logs 79, 80. -/
def Obligations.RefusedAndDroppedDrafts : Prop := RollbackToUnkeptVersionIsRefused ∧ DiscardDraftDropsDraft ∧ LapsedOwnerMustStartAgain

/-! ### Resets and start-up -/

/-- What a start that reaches Mbomon leaves: Mbomon runs and waits for SEC, one more boot is counted, every paddock is EMPTY and holds
nothing, no command, QP, transaction, session or draft is left, every island but AON, MGT and SEC is held in reset, and the kept versions,
CVN_CURRENT and the least security version are as they were. -/
def Sys2Proof.StartsUp (s u : State) : Prop :=
  u.sys.boot = 2 ∧ u.sys.bootCount = s.sys.bootCount + 1 ∧ u.sys.uptime = 0 ∧ u.sec.st = 0 ∧
  (∀ p, (pad u p).state = .empty ∧ (pad u p).granules = 0 ∧ (pad u p).ctxs = [] ∧ (pad u p).queues = []) ∧
  u.cmd = default ∧ u.net = default ∧ u.tp = default ∧ u.host = default ∧ u.sec.sessions = [] ∧ u.obj.draftOwner = none ∧
  u.obj.confOp = none ∧ (∀ i, 3 ≤ i → i < 39 → Tbl.get u.flt.state i = 2) ∧
  u.obj.versions = s.obj.versions ∧ u.obj.cvn = s.obj.cvn ∧ u.obj.cvnLast = s.obj.cvnLast ∧ u.sec.minSv = s.sec.minSv

/-- The image of the ACTIVE slot passes the boot ROM's checks, and no slot is on trial. -/
def Sys2Proof.ImageBoots (s : State) (b : Boot) : Prop :=
  b.flashOk = true ∧ (∃ x, s.store.slots = [4, x] ∧ x ≠ 3 ∧ x ≠ 4) ∧ b.slotOk.getD 0 false = true ∧ s.sec.minSv ≤ b.imageSv.getD 0 0

/-- por_n from any state, and a brownout reset, start the device up. -/
def Sys2Proof.PowerOnAndBrownoutStartUp : Prop :=
  ∀ (s : State) (b : Boot), ImageBoots s b →
    (∃ u, exec (.porN b) s = .next (settle u) ∧ StartsUp s u) ∧
    (∀ (rail : Fin 24) (mv : Nat), 2 ≤ s.sys.boot → ∃ u, exec (.brownoutReset rail mv b) s = .next (settle u) ∧ StartsUp s u)

/-- warm_rst_n, and an accepted WARM_RESET, start the device up; WARM_RESET has no answer (log 88). -/
def Sys2Proof.WarmResetStartsUp : Prop :=
  ∀ (s : State) (b : Boot), ImageBoots s b →
    (2 ≤ s.sys.boot → ∃ u, exec (.warmRstN b) s = .next (settle u) ∧ StartsUp s u) ∧
    (∀ (via : Path) (tag : Tag), ManagerAsks s via → s.pow.st ≠ 4 →
      ∃ u, exec (.warmReset via tag b) s = .next (settle u) ∧ StartsUp s u) ∧
    (s.sys.boot = 3 → islandOut s 1 = false → s.flt.kickAt + 10 ^ 9 ≤ s.sys.uptime → 3 ≤ (recentMgtResets s).length →
      ∃ u, exec (.mgtWatchdog b) s = .next (settle u) ∧ StartsUp s u)

/-- A boot ROM that finds no valid boot record stays in ROM and drives alert_n low; only por_n then acts. -/
def Sys2Proof.RomWithoutBootRecordStaysInRom : Prop :=
  (∀ (s : State) (b : Boot), b.flashOk = false →
    ∃ u, exec (.porN b) s = .next (settle u) ∧ u.sys.boot = 1 ∧ u.sys.alertLow = true ∧ Out.alertN true ∈ u.out) ∧
  (∀ (s : State) (b : Boot) (rail : Fin 24) (mv : Nat), s.sys.boot = 1 → s.sys.bootFacts.flashOk = false →
    exec (.warmRstN b) s = .next (settle s) ∧ exec (.brownoutReset rail mv b) s = .next (settle s))

/-- SEC rebuilds the root in a start-up: the configuration is applied, every island is released but those that do not return, which are
failed, and SEC_STATE says whether a copy gave the root.
Choices of the model behind it: logs 75, 77. -/
def Obligations.RootReconstructionEndsStartUp : Prop :=
  ∀ (s : State) (c : ConfigCheck) (copy : Option (Fin 4)) (failed : List (Fin 64)), s.sys.boot = 2 → s.sec.st = 0 → s.pow.st = 0 →
    ∃ u, exec (.rootReconstructed copy c failed) s = .next (settle u) ∧ u.sys.boot = 3 ∧
      (∀ i, Tbl.get u.flt.state i = if 3 ≤ i ∧ i ≤ 38 ∧ i ∈ failed.map (fun x => x.val) then 3 else 0) ∧
      u.sec.st = (if copy.isSome then 1 else 2) ∧ u.obj.draftOwner = none ∧ u.obj.draft = u.obj.committed ∧
      (∀ v, s.obj.versions.find? (fun v => v.status = 2) = some v → c = .passed →
        u.obj.committed = v.values ∧ u.obj.cvn = s.obj.cvn ∧ u.obj.cfgDefaulted = s.obj.cfgDefaulted) ∧
      (∀ v, s.obj.versions.find? (fun v => v.status = 2) = some v → c ≠ .passed →
        u.obj.committed = [] ∧ u.obj.cvn = s.obj.cvnLast + 1 ∧ u.obj.cfgDefaulted = true ∧ u.obj.cfgSource = 4)

/-- The resets start the device up, unless the boot ROM finds no valid boot record.
Choices of the model behind it: logs 68, 76, 88. -/
def Obligations.ResetsStartUp : Prop := PowerOnAndBrownoutStartUp ∧ WarmResetStartsUp ∧ RomWithoutBootRecordStaysInRom

/-! ### Paddocks -/

/-- The control commands of a paddock. -/
def Sys2Proof.controls (via : Path) (tag : Tag) (p : PNum) (f : Facts) : List Instr :=
  [.fence via tag p, .openPaddock via tag p, .drain via tag p, .release via tag p f, .recover via tag p]

/-- While PADDOCK_PENDING names a command, every control command is answered 0x0203 and changes nothing. One that the state does not
allow is answered 0x0201 and changes nothing: FENCE goes from EMPTY, OPEN from FENCED and FALLOW, DRAIN from OPEN, RELEASE from FENCED,
FALLOW and FAULTED, RECOVER from FAULTED. -/
def Obligations.ControlCommandsRefusedAtOnce : Prop :=
  ∀ (s : State) (via : Path) (tag : Tag) (p : PNum) (f : Facts), ManagerAsks s via → splitForeign s p.val = false → controlBusy s p.val = false →
    ((pad s p.val).pend ≠ none → ∀ c ∈ controls via tag p f, Answers c s s via (writeReq tag (pidx p.val 0) 2 1) 1 0x0203) ∧
    ((pad s p.val).pend = none →
      ((pad s p.val).state ≠ .empty → Answers (.fence via tag p) s s via (writeReq tag (pidx p.val 0) 2 1) 1 0x0201) ∧
      ((pad s p.val).state ≠ .fenced → (pad s p.val).state ≠ .fallow →
        Answers (.openPaddock via tag p) s s via (writeReq tag (pidx p.val 0) 2 1) 1 0x0201) ∧
      ((pad s p.val).state ≠ .opened → Answers (.drain via tag p) s s via (writeReq tag (pidx p.val 0) 2 1) 1 0x0201) ∧
      ((pad s p.val).state = .empty ∨ (pad s p.val).state = .opened ∨ (pad s p.val).state = .draining →
        Answers (.release via tag p f) s s via (writeReq tag (pidx p.val 0) 2 1) 1 0x0201) ∧
      ((pad s p.val).state ≠ .faulted → Answers (.recover via tag p) s s via (writeReq tag (pidx p.val 0) 2 1) 1 0x0201))

/-- Control commands that run, on a device that is no part of a pair. FENCE claims what the configuration names and is over at once where
no die holds a lot of the paddock; OPEN takes the window and asks SEC for a record; DRAIN stops fetch; RELEASE with nothing fetched and no
die to ask empties the paddock and queues its granules for zeroising, unless a key table fails the read-back of its zeroise, which faults
the paddock; RECOVER removes the gate where no die holds a lot.
Choices of the model behind it: log 56. -/
def Obligations.PaddockControlRuns : Prop :=
  ∀ (s : State) (via : Path) (tag : Tag) (p : PNum) (f : Facts), ManagerAsks s via → splitForeign s p.val = false → controlBusy s p.val = false → paired s = false →
    (pad s p.val).pend = none →
    ((pad s p.val).state = .empty → claimCheck s p.val false = 0 →
      ∃ u, Answers (.fence via tag p) s u via (writeReq tag (pidx p.val 0) 2 1) 1 0 ∧ (pad u p.val).tag = cfgP s p.val 0 6 ∧
        (pad u p.val).granules = join (pad s p.val).granules (wantGranules s p.val) ∧
        (pad u p.val).links = join (pad s p.val).links (wantLinks s p.val) ∧
        (pad u p.val).tussocks = join (pad s p.val).tussocks (wantTussocks s p.val) ∧
        u.com.free = less s.com.free (less (wantGranules s p.val) (pad s p.val).granules) ∧ (pad u p.val).claimCvn = s.obj.cvn ∧
        u.rick.cells = s.rick.cells ∧ u.cmd = s.cmd ∧
        (mirrorWaits s p.val = false → diesOf s (pad u p.val).lots = [] →
          (pad u p.val).state = .fenced ∧ (pad u p.val).pend = none ∧ (pad u p.val).result = 0)) ∧
    ((pad s p.val).state = .fenced ∨ (pad s p.val).state = .fallow → claimCheck s p.val true = 0 →
      ∃ u, Answers (.openPaddock via tag p) s u via (writeReq tag (pidx p.val 0) 2 1) 1 0 ∧ (pad u p.val).pend.isSome = true ∧
        (pad u p.val).state = (pad s p.val).state ∧
        ((pad u p.val).signing = (pad s p.val).signing ++ [0] ∨ ∃ x, (pad u p.val).pend = some x ∧ x.stage ≤ 1)) ∧
    ((pad s p.val).state = .opened →
      ∃ u, Answers (.drain via tag p) s u via (writeReq tag (pidx p.val 0) 2 1) 1 0 ∧ (mirrorWaits s p.val = false →
        u = setPState (updPad s p.val (fun d => { d with drainFrom := ns s, result := 0 })) p.val .draining)) ∧
    ((pad s p.val).state = .fenced ∨ (pad s p.val).state = .fallow ∨ (pad s p.val).state = .faulted →
      ∃ u, Answers (.release via tag p f) s u via (writeReq tag (pidx p.val 0) 2 1) 1 0 ∧
        (mirrorWaits s p.val = false → padCmds s p.val = [] → diesOf s (pad s p.val).lots = [] →
          releaseZeroes s p.val f.stuck = true →
          (pad u p.val).state = .faulted ∧ (pad u p.val).pend = none ∧ (pad u p.val).result = 0x0204 ∧
          (pad u p.val).granules = (pad s p.val).granules) ∧
        (mirrorWaits s p.val = false → padCmds s p.val = [] → diesOf s (pad s p.val).lots = [] → f.stuck = 0 →
          (pad u p.val).state = .empty ∧ (pad u p.val).pend = none ∧ (pad u p.val).result = 0 ∧ (pad u p.val).granules = 0 ∧
          (pad u p.val).lots = [] ∧ (pad u p.val).ctxs = [] ∧ (pad u p.val).queues = [] ∧
          u.com.zeroising = s.com.zeroising ++ setBits 124 (pad s p.val).granules ∧ u.com.free = s.com.free)) ∧
    ((pad s p.val).state = .faulted →
      ∃ u, Answers (.recover via tag p) s u via (writeReq tag (pidx p.val 0) 2 1) 1 0 ∧ (pad u p.val).ctxs = (pad s p.val).ctxs ∧
        (mirrorWaits s p.val = false → diesOf s (pad s p.val).lots = [] →
          (pad u p.val).state = .fallow ∧ (pad u p.val).pend = none ∧ (pad u p.val).result = 0 ∧
          u.flt.gate = less s.flt.gate (2 ^ p.val)))

/-- A drain that ends or is cut short leaves FALLOW and logs 0x020F or 0x020C to the paddock's view; a fault in FENCED, OPEN, DRAINING or
FALLOW leaves FAULTED with the cause, ends a pending command with 0x0204, and is only logged where the paddock is FAULTED or EMPTY; a nonce
asks for a record except in EMPTY; a signed record raises ALLOT_SEQUENCE by one and, where an OPEN waits for it, opens the paddock. -/
def Obligations.DrainsFaultsAndRecords : Prop :=
  ∀ (s : State) (p : PNum),
    (2 ≤ s.sys.boot → (pad s p.val).state = .draining →
      (padCmds s p.val = [] → exec (.drained p) s =
        .next (settle (logPad (setPState s p.val .fallow) p.val 0x020F 0 [ns s - (pad s p.val).drainFrom]))) ∧
      (∃ u n, exec (.drainTimeout p) s = .next (settle (logPad (setPState u p.val .fallow) p.val 0x020C 2 [n])) ∧
        n = (padCmds s p.val).length ∧ ∀ k, strip (pad u k) = strip (pad s k))) ∧
    (2 ≤ s.sys.boot → ∀ code : BitVec 16,
      ((pad s p.val).state = .empty → (pad s p.val).pend = none →
        exec (.paddockFault [p] code) s = .next (settle (logPad s p.val code.toNat 0 []))) ∧
      ((pad s p.val).state = .faulted → (pad s p.val).pend = none →
        exec (.paddockFault [p] code) s = .next (settle (logPad s p.val code.toNat 0 []))) ∧
      ((pad s p.val).state ≠ .empty → (pad s p.val).state ≠ .faulted →
        ∃ u, exec (.paddockFault [p] code) s = .next (settle u) ∧ (pad u p.val).state = .faulted ∧ (pad u p.val).cause = code.toNat ∧
          (pad u p.val).pend = none ∧ ((pad s p.val).pend ≠ none → (pad u p.val).result = 0x0204) ∧
          (∀ k, k ≠ p.val → strip (pad u k) = strip (pad s k)))) ∧
    (∀ (via : Path) (tag : Tag) (nonce : BitVec 256), OwnerAsks s p via →
      ((pad s p.val).state = .empty → Answers (.allotNonce via tag p nonce) s s via (writeReq tag (pidx p.val 0) 0x0B 32) 32 0x0201) ∧
      ((pad s p.val).state ≠ .empty → s.sec.st ≠ 2 →
        Answers (.allotNonce via tag p nonce) s (askRecord s p.val nonce.toNat) via (writeReq tag (pidx p.val 0) 0x0B 32) 32 0)) ∧
    (2 ≤ s.sys.boot → s.sec.st ≠ 2 → ∀ n rest, (pad s p.val).signing = n :: rest →
      ∃ u, exec (.allotmentRecordSigned p) s = .next (settle u) ∧ (pad u p.val).allotSeq = (pad s p.val).allotSeq + 1 ∧
        (pad u p.val).signing = rest ∧
        (∀ x, n = 0 → (pad s p.val).pend = some x → x.cmd = 2 → x.stage = 2 →
          (pad u p.val).state = .opened ∧ (pad u p.val).pend = none ∧ (pad u p.val).result = 0) ∧
        ((pad s p.val).pend = none → (pad u p.val).state = (pad s p.val).state) ∧ u.rick = s.rick ∧ u.cmd = s.cmd)

/-- A granule whose zeroising ends reads as zero everywhere, every byte outside it reads as before, and it joins the Commons where the
read-back passes and no repair keeps it; where the read-back fails the device keeps it, and 0x020D goes to the Cairn. -/
def Obligations.GranuleZeroisedReadsZero : Prop :=
  ∀ (s : State) (g : Fin 128) (ok : Bool), 2 ≤ s.sys.boot → g.val ∈ s.com.zeroising → islandOut s (11 + g.val % 4) = false →
    ∃ u, exec (.granuleZeroised g ok) s = .next (settle u) ∧
      (∀ a, granuleOf a = g.val → Mem.get u.rick.cells a = 0 ∧ ∀ key, seen u key a = 0) ∧
      (∀ a, granuleOf a ≠ g.val → Mem.get u.rick.cells a = Mem.get s.rick.cells a ∧ ∀ key, seen u key a = seen s key a) ∧
      (Memory.wf s.rick.cells = true → Memory.wf u.rick.cells = true) ∧
      u.com.zeroising = s.com.zeroising.filter (fun k => k ≠ g.val) ∧
      (ok = true → u.com.free = (if 124 ≤ g.val || bit (join (join s.com.repairDue s.com.retired) s.com.kept) g.val then s.com.free
        else join s.com.free (2 ^ g.val)) ∧ u.com.kept = s.com.kept) ∧
      (ok = false → u.com.free = s.com.free ∧ u.com.kept = join s.com.kept (2 ^ g.val)) ∧
      u.pads = s.pads ∧ u.cmd = s.cmd

/-! ### Queues, contexts and commands -/

/-- Doorbells and the queue window on a function that is not in reset, of a paddock that is neither EMPTY nor FAULTED. A submission
doorbell moves the queue's tail; one that would move it back past the head stops the queue with 0x0308. A completion doorbell frees
entries. A window write stores the covered bytes through the paddock's translation. Each also counts what it refuses. -/
def Sys2Proof.DoorbellsMoveRings : Prop :=
  ∀ (s : State) (p : PNum) (q : Fin 64) (x : Queue), 2 ≤ s.sys.boot →
    (∀ v : BitVec 32, doorbellDead (touched s) p.val = false → queueOf (touched s) p.val q.val = some x → x.st = 1 →
      (v.toNat < 65536 → v.toNat < 2 ^ x.sqLog →
        (x.tail + 2 ^ x.sqLog - x.head) % 2 ^ x.sqLog ≤ (v.toNat + 2 ^ x.sqLog - x.head) % 2 ^ x.sqLog →
        ∃ u, exec (.submissionDoorbell p q v 4) s = .next (settle u) ∧
          queueOf u p.val q.val = some { x with sqBell := v.toNat, tail := v.toNat } ∧ u.rick = (touched s).rick ∧ u.cmd = (touched s).cmd ∧
          (∀ k, strip (pad u k) = strip (pad (touched s) k))) ∧
      (2 ^ x.sqLog ≤ v.toNat ∨ (v.toNat + 2 ^ x.sqLog - x.head) % 2 ^ x.sqLog < (x.tail + 2 ^ x.sqLog - x.head) % 2 ^ x.sqLog →
        exec (.submissionDoorbell p q v 4) s = .next (settle (firePad (logPad (updQueue (updQueue (touched s) p.val q.val
          (fun x => { x with sqBell := v.toNat })) p.val q.val (fun x => { x with st := 2, lastErr := 0x0308 })) p.val 0x0308 0 [q.val, v.toNat])
          p.val 6)))) ∧
    (∀ v : BitVec 32, doorbellDead (touched s) p.val = false → queueOf (touched s) p.val q.val = some x → v.toNat < 65536 →
      v.toNat < 2 ^ x.cqLog → (v.toNat + 2 ^ x.cqLog - x.cqHead) % 2 ^ x.cqLog ≤ x.cqUsed → x.waiting = [] →
      ∃ u, exec (.completionDoorbell p q v 4) s = .next (settle u) ∧
        queueOf u p.val q.val = some { x with
          cqBell := v.toNat, cqHead := v.toNat, cqUsed := x.cqUsed - (v.toNat + 2 ^ x.cqLog - x.cqHead) % 2 ^ x.cqLog } ∧
        { u with pads := (touched s).pads } = touched s ∧ ∀ k, strip (pad u k) = strip (pad (touched s) k)) ∧
    (∀ (o : Nat) (data : Bytes) (pls : List (Place × Nat)), o < 2 ^ 22 → (func s (some p)).inReset = false → queueOf s p.val q.val = some x →
      data.length % 4 = 0 → o + data.length ≤ 2 ^ 22 → o + data.length ≤ 64 * 2 ^ x.sqLog →
      accessAll s p.val (x.sqBase + o) data.length true = .ok pls →
      exec (.queueWindowWrite p (BitVec.ofNat 28 (q.val * 2 ^ 22 + o)) data) s =
        .next (settle (hostBytes (putPlaces s p.val pls data) p.val data.length))) ∧
    (∀ (v : BitVec 32) (len : Nat), len ≠ 4 →
      exec (.submissionDoorbell p q v len) s = .next (settle (badWrite (touched s) p.val)) ∧
      exec (.completionDoorbell p q v len) s = .next (settle (badWrite (touched s) p.val)))

/-- In EMPTY and FAULTED a doorbell is discarded and counted. In FENCED, DRAINING and FALLOW it is recorded, and the queue is not fetched:
a FETCH takes nothing in FENCED and FALLOW, and in DRAINING nothing but what was fetched before and killed. -/
def Sys2Proof.DoorbellsOutsideOpen : Prop :=
  ∀ (s : State) (p : PNum) (q : Fin 64) (v : BitVec 32), 2 ≤ s.sys.boot →
    ((pad s p.val).state = .empty ∨ (pad s p.val).state = .faulted →
      exec (.submissionDoorbell p q v 4) s = .next (settle { touched s with host.badWrites := (touched s).host.badWrites + 1 }) ∧
      exec (.completionDoorbell p q v 4) s = .next (settle { touched s with host.badWrites := (touched s).host.badWrites + 1 })) ∧
    ((pad s p.val).state = .fenced ∨ (pad s p.val).state = .draining ∨ (pad s p.val).state = .fallow →
      ∀ x, doorbellDead (touched s) p.val = false → queueOf (touched s) p.val q.val = some x → x.st = 1 →
        v.toNat < 65536 → v.toNat < 2 ^ x.sqLog →
        (x.tail + 2 ^ x.sqLog - x.head) % 2 ^ x.sqLog ≤ (v.toNat + 2 ^ x.sqLog - x.head) % 2 ^ x.sqLog →
        exec (.submissionDoorbell p q v 4) s = .next (settle (bump (updQueue (updQueue (touched s) p.val q.val
          (fun x => { x with sqBell := v.toNat })) p.val q.val (fun x => { x with tail := v.toNat })) p.val 0x80 5 1))) ∧
    ((pad s p.val).state = .fenced ∨ (pad s p.val).state = .fallow ∨ (pad s p.val).state = .empty ∨ (pad s p.val).state = .faulted ∨
      ((pad s p.val).state = .draining ∧ ∀ k ∈ s.cmd.killed, k.p ≠ p.val) → exec (.fetch p) s = .next (settle s))

/-- Queues: QUEUE_CREATE makes an enabled, empty queue of its argument; QUEUE_DESTROY closes it, frees it and answers where no command of
it is left, else answers later; at QUEUE_DESTROY_TIMEOUT what is left is killed, and the queue is marked.
Choices of the model behind it: log 78. -/
def Obligations.QueuesAreMadeAndFreed : Prop :=
  ∀ (s : State) (via : Path) (tag : Tag) (p : PNum), OwnerAsks s p via →
    (∀ a : BitVec 256, (pad s p.val).state = .fenced ∨ (pad s p.val).state = .opened ∨ (pad s p.val).state = .fallow →
      bit a.toNat 248 = false → bits a.toNat 219 192 = 0 → bits a.toNat 63 0 = 0 → queueOf s p.val (bits a.toNat 255 250) = none →
      4 ≤ bits a.toNat 235 231 → bits a.toNat 235 231 ≤ 16 → 4 ≤ bits a.toNat 230 226 → bits a.toNat 230 226 ≤ 16 →
      bits a.toNat 191 128 % (64 * 2 ^ bits a.toNat 235 231) = 0 →
      mapsToGranule s p.val (bits a.toNat 191 128) (64 * 2 ^ bits a.toNat 235 231) = true →
      (∃ l, accessAll s p.val (bits a.toNat 127 64) (32 * 2 ^ bits a.toNat 230 226) true = .ok l) →
      (pad s p.val).queues.length < (pad s p.val).queuesHeld →
      Answers (.queueCreate via tag p a) s (updPad s p.val (fun d => { d with
        queues := Tbl.set d.queues (bits a.toNat 255 250) {
          any := bit a.toNat 249, ctx := bits a.toNat 247 236, sqLog := bits a.toNat 235 231, cqLog := bits a.toNat 230 226,
          vector := bits a.toNat 225 220, sqBase := bits a.toNat 191 128, cqBase := bits a.toNat 127 64 } }))
        via (writeReq tag (pidx p.val 0x50) 1 32) 32 0) ∧
    (∀ (q : BitVec 8) (x : Queue), q.toNat < 64 → queueOf s p.val q.toNat = some x → x.st ≠ 3 →
      ((∃ e ∈ s.cmd.live, e.2.p = p.val ∧ e.2.q = q.toNat ∧ e.2.inner = false) →
        ∃ u, exec (.queueDestroy via tag p q) s = .next (settle u) ∧
          queueOf u p.val q.toNat = some { x with st := 3, closeTag := some (via, tag) } ∧ u.out = s.out) ∧
      (s.cmd.live = [] → s.cmd.killed = [] →
        ∃ u, exec (.queueDestroy via tag p q) s = .next (settle u) ∧ queueOf u p.val q.toNat = none ∧
          (∀ k, k ≠ q.toNat → queueOf u p.val k = queueOf s p.val k) ∧
          ∃ hdr, .response via hdr [] ∈ u.out ∧ hTag hdr.toNat = tag.toNat)) ∧
    (∀ (q : BitVec 8), q.toNat < 64 → queueOf s p.val q.toNat = none →
      Answers (.queueDestroy via tag p q) s s via (writeReq tag (pidx p.val 0x50) 2 1) 1 0x0309) ∧
    (∀ (q : Fin 64) (x : Queue), queueOf s p.val q.val = some x → x.st = 3 → x.closeTag = some (via, tag) → s.cmd.killed = [] →
      (∀ e ∈ s.cmd.live, ¬ (e.2.p = p.val ∧ e.2.q = q.val)) → trnOut s = false →
      ∃ u, exec (.queueDestroyTimeout p q) s = .next (settle u) ∧ queueOf u p.val q.val = none ∧
        ∃ hdr, .response via hdr [] ∈ u.out ∧ hTag hdr.toNat = tag.toNat)

/-- Contexts under CONTEXT_CONTROL and its kin. CONTEXT_DEFINE makes an IDLE context with a zeroed save area. DESTROY of a context that is
not IDLE waits, and its DESTROY_TIMEOUT answers 0x030B; FORCE_DESTROY kills the context and marks it; KILL leaves KILLED, RESUME leaves a
PARKED context READY, REVIVE waits for the last kill. A quarantine's end frees its epoch. CTX_PRIORITY_SET sets the priority. An unknown
context is refused with 0x0313.
Choices of the model behind it: log 78. -/
def Obligations.ContextControlsActOnTheirContext : Prop :=
  ∀ (s : State) (via : Path) (tag : Tag) (p : PNum), OwnerAsks s p via →
    (∀ (a : BitVec 128) (pls : List (Place × Nat)), bits a.toNat 115 64 = 0 → bits a.toNat 63 0 % 16384 = 0 →
      mapsToGranule s p.val (bits a.toNat 63 0) 16384 = true → ctxOf s p.val (bits a.toNat 127 116) = none →
      accessAll s p.val (bits a.toNat 63 0) 16384 true = .ok pls →
      ∃ u, Answers (.contextDefine via tag p a) s u via (writeReq tag (pidx p.val 0x50) 3 16) 16 0 ∧
        ctxOf u p.val (bits a.toNat 127 116) = some { area := bits a.toNat 63 0 } ∧
        (∀ c, c ≠ bits a.toNat 127 116 → ctxOf u p.val c = ctxOf s p.val c) ∧ u.cmd.live = s.cmd.live) ∧
    (∀ c : BitVec 12, ctxOf s p.val c.toNat = none →
      ∀ i ∈ [Instr.destroy via tag p c, .forceDestroy via tag p c, .kill via tag p c, .resume via tag p c, .revive via tag p c],
        Answers i s s via (writeReq tag (pidx p.val 0x50) 4 2) 2 0x0313) ∧
    (∀ (c : BitVec 12) (x : Ctx), ctxOf s p.val c.toNat = some x →
      (x.closing = false → (∀ e ∈ (pad s p.val).queues, e.2.any = true ∨ e.2.ctx ≠ c.toNat) → x.st ≠ .idle → x.st ≠ .killed →
        ∃ u, exec (.destroy via tag p c) s = .next (settle u) ∧
          ctxOf u p.val c.toNat = some { x with closing := true, closeTag := some (via, tag) } ∧ { u with pads := s.pads, obj := s.obj } = s) ∧
      (x.closing = true → Answers (.destroy via tag p c) s s via (writeReq tag (pidx p.val 0x50) 4 2) 2 0x030B) ∧
      (x.forced = false → x.closeTag = none → ctxCmds s p.val c.toNat = [] → x.slot = none →
        ∃ u, exec (.forceDestroy via tag p c) s = .next (settle u) ∧ ∃ y, ctxOf u p.val c.toNat = some y ∧ y.st = .killed ∧
          y.forced = true ∧ y.closing = true ∧ y.closeTag = some (via, tag)) ∧
      (ctxCmds s p.val c.toNat = [] → x.slot = none →
        ∃ u, Answers (.kill via tag p c) s u via (writeReq tag (pidx p.val 0x50) 4 2) 2 0 ∧ ∃ y, ctxOf u p.val c.toNat = some y ∧
          y.st = .killed ∧ (x.quarantine.contains ((x.epoch + 1) % 256) = false → y.epoch = (x.epoch + 1) % 256 ∧ x.epoch ∈ y.quarantine)) ∧
      (x.st = .parked → Answers (.resume via tag p c) s (ready s p.val c.toNat) via (writeReq tag (pidx p.val 0x50) 4 2) 2 0) ∧
      (x.st ≠ .parked → Answers (.resume via tag p c) s s via (writeReq tag (pidx p.val 0x50) 4 2) 2 0x0313) ∧
      (x.st = .killed → x.forced = false → x.reviveTag = none →
        ∃ u, exec (.revive via tag p c) s = .next (settle u) ∧ ctxOf u p.val c.toNat = some { x with reviveTag := some (via, tag) } ∧
          { u with pads := s.pads, obj := s.obj } = s) ∧
      (∀ v : BitVec 16, bits v.toNat 11 0 = c.toNat → bits v.toNat 15 12 ≤ 7 →
        Answers (.ctxPrioritySet via tag p v) s (updCtx s p.val c.toNat (fun x => { x with prio := bits v.toNat 15 12 })) via
          (writeReq tag (pidx p.val 0x20) 6 2) 2 0)) ∧
    (∀ (c : BitVec 12) (e : BitVec 8) (x : Ctx), ctxOf s p.val c.toNat = some x → x.advanceWaits = false →
      exec (.epochQuarantineEnd p c e) s =
        .next (settle (updCtx s p.val c.toNat (fun x => { x with quarantine := x.quarantine.filter (fun k => k ≠ e.toNat) })))) ∧
    (∀ (c : BitVec 12) (x : Ctx), ctxOf s p.val c.toNat = some x → x.closing = true → x.forced = false → x.closeTag = some (via, tag) →
      exec (.destroyTimeout p c) s = .next (settle (respond (updCtx s p.val c.toNat (fun x => { x with closing := false, closeTag := none }))
        via tag 2 (pidx p.val 0x50) 4 0x030B [])))

/-- Doorbells and queue windows in every paddock state.
Choices of the model behind it: logs 13, 83. -/
def Obligations.DoorbellsAndWindows : Prop := DoorbellsMoveRings ∧ DoorbellsOutsideOpen

/-! ### Commands and the commit instant -/

/-- What an offer to the completion ring comes to. With room the command commits: it is no longer live, every other stays live, no claim
or state of a paddock changes, and the record that it writes names its identifier, status, opcode, context, epoch and result. In a full
ring it waits, ready. In a ring that faults its context parks. COMMAND_COMMIT offers a command that is ready.
Choices of the model behind it: log 20. -/
def Obligations.CommitInstant : Prop :=
  ∀ (s : State) (id : Nat) (c : Cmd) (q : Queue), cmdOf s id = some c → c.inner = false → queueOf s c.p c.q = some q →
    (c.phase = .ready → 2 ≤ s.sys.boot → exec (.commandCommit id) s = .next (settle (tryCommit s id))) ∧
    (∀ pls, cqRoom s c.p q = .ok pls →
      (tryCommit s id).cmd.live = Tbl.erase s.cmd.live id ∧ (∀ k, strip (pad (tryCommit s id) k) = strip (pad s k)) ∧
      (∃ w head, tryCommit s id = afterEnd (writeRecord w c.p c.q q pls (recordNat (dId c.desc) c.status (dOpcode c.desc) c.ctx c.epoch
        c.q c.kind c.reruns head (ns s) (if c.status = 0 then c.result else 0)) (dIrq c.desc)) c.p c.ctx c.q)) ∧
    (cqRoom s c.p q = .full → cmdOf (tryCommit s id) id = some { c with
      phase := .ready, readyAt := if c.phase = .ready then c.readyAt else ns s }) ∧
    (cqRoom s c.p q = .full → c.phase = .ready → 2 ≤ s.sys.boot →
      exec (.cqStall id) s = .next (settle (park s c 0 0 true 0x030C false)))

/-- A command that is killed has no effect: it is no longer live, it is kept for its rerun with one rerun more, and no byte is posted to
its completion ring. -/
def Sys2Proof.KillsKeepCommandsForTheirRerun : Prop :=
  ∀ (s : State) (id : Nat) (c : Cmd), cmdOf s id = some c →
    (killCmd s id).cmd.live = Tbl.erase s.cmd.live id ∧
    (∃ k, (killCmd s id).cmd.killed = s.cmd.killed ++ [k] ∧ k.id = id ∧ k.p = c.p ∧ k.q = c.q ∧ k.entry = c.entry ∧ k.desc = c.desc ∧
      k.reruns = c.reruns + 1 ∧ k.holds = c.holds) ∧
    (∀ k, strip (pad (killCmd s id) k) = strip (pad s k))

/-- FETCH takes the next descriptor of the queue whose turn it is to a thread that is free: the command is live under the next number, with
the thread, the queue entry and the epoch of its context. -/
def Sys2Proof.FetchTakesNextDescriptor : Prop :=
  ∀ (s : State) (p : PNum) (th : Nat) (more : List Nat) (qn d : Nat) (q : Queue), 2 ≤ s.sys.boot → fetchOpen s p.val = true →
    freeThreads s p.val = th :: more → pickQueue s p.val = some (qn, .fresh d) → queueOf s p.val qn = some q → dExcl d = false →
    ∃ u k, exec (.fetch p) s = .next (settle u) ∧ cmdOf u s.cmd.nextCmd = some k ∧ k.p = p.val ∧ k.q = qn ∧ k.entry = q.next ∧
      k.thread = th ∧ k.ctx = dContext d ∧ k.epoch = ((ctxOf s p.val (dContext d)).map (·.epoch)).getD 0 ∧ k.phase = .fetched ∧
      k.effects = [] ∧ (fetchStatus s p.val q d ≠ 0 → k.status = fetchStatus s p.val q d) ∧
      (∀ k, strip (pad u k) = strip (pad s k))

/-- The commands of this chapter reach their commit. NOP has no effect; TIMESTAMP stamps the fabric time of its commit; ALLOC takes pages
and an address and maps them at its commit; FREE unmaps at once and drops the allocation at its commit; SIGNAL stores or adds at its
commit; WAIT commits when its word meets its condition and waits otherwise, and WAIT_TIMEOUT ends it with 0x0314.
Choices of the model behind it: log 14. -/
def Obligations.LocalCommandsComplete : Prop :=
  ∀ (s : State) (id : Nat) (c : Cmd),
    (Works s id c 0x00 → ∃ v, Finishes (.nop id) s v id { c with phase := .started, effects := [], result := 0 } ∧
      { v with cmd.live := s.cmd.live } = s) ∧
    (∀ pls, Works s id c 0x01 → accessAll s c.p (dArg c.desc 0) 8 true = .ok pls → (∀ e ∈ pls, ∀ a, e.1 ≠ .host a) →
      ∃ v k, Finishes (.timestamp id) s v id k ∧ k.effects = [.stamp pls] ∧ k.status = 0 ∧ { v with cmd.live := s.cmd.live } = s) ∧
    (∀ va pages, Works s id c 0xA0 → dArg c.desc 2 = 0 → dArg c.desc 0 ≠ 0 → dArg c.desc 0 % allocPage (bits (dArg c.desc 1) 1 0) = 0 →
      pickVa s c.p 0 (dArg c.desc 0) (allocPage (bits (dArg c.desc 1) 1 0)) = some va →
      pickPages s c.p (dArg c.desc 0) (allocPage (bits (dArg c.desc 1) 1 0)) = some pages →
      (winUsed s).length + l0Needed s c.p va (dArg c.desc 0) (allocPage (bits (dArg c.desc 1) 1 0)) ≤ winCount →
      ∃ v, Finishes (.alloc id) s v id { c with
          phase := .started, effects := [.addAlloc va (!bit (dArg c.desc 1) 8)], result := va } ∧
        (pad v c.p).allocs = (pad s c.p).allocs ++
          [⟨va, dArg c.desc 0, allocPage (bits (dArg c.desc 1) 1 0), pages, false⟩] ∧ v.rick = s.rick) ∧
    (∀ a, Works s id c 0xA1 → c.inval = none →
      (pad s c.p).allocs.find? (fun a => a.va = dArg c.desc 0 && a.size = dArg c.desc 1 && a.mapped) = some a →
      ∃ u k, exec (.free id) s = .next (settle u) ∧ cmdOf u id = some k ∧ k.effects = [.dropAlloc (dArg c.desc 0)] ∧
        k.inval = some s.rick.nextInval ∧ u.rick.invals = s.rick.invals ++ [(s.rick.nextInval, c.p, dArg c.desc 1, id)]) ∧
    (Works s id c 0xA1 → c.inval = none →
      (pad s c.p).allocs.find? (fun a => a.va = dArg c.desc 0 && a.size = dArg c.desc 1 && a.mapped) = none →
      ∃ u, exec (.free id) s = .next (settle (failCmd u id 0x0311)) ∧ { u with cmd.live := s.cmd.live } = s) ∧
    (∀ a sel n, Works s id c 0xB0 → dArg c.desc 0 % 8 = 0 → accessAll s c.p (dArg c.desc 0) 8 true = .ok [(.rick a sel, n)] →
      heldFor s id a 8 = none →
      ∃ v k, Finishes (.signal id) s v id k ∧ k.status = 0 ∧ { v with cmd.live := s.cmd.live } = s ∧
        k.effects = (if bit (dArg c.desc 2) 0 then [.sig (.rick a sel) true (dArg c.desc 1)]
          else [.wr (.rick a sel) ((beBytes 8 (dArg c.desc 1)).take n)])) ∧
    (∀ t b, Works s id c 0xB1 → dArg c.desc 0 % 8 = 0 → c.expired = false →
      gather (updCmd s id (fun c => { c with phase := .started })) id c.p (dArg c.desc 0) 8 = (t, .bytes b) →
      (waitHolds c.desc (beNat b) = true → exec (.waitCmd id) s = .next (settle (finish (unwait t c.p c.ctx) id [] 0))) ∧
      (waitHolds c.desc (beNat b) = false → ∃ u, exec (.waitCmd id) s = .next (settle u) ∧
        ∀ x, ctxOf t c.p c.ctx = some x → x.st = .running → x.preempting = false → ctxOf u c.p c.ctx = some { x with st := .waiting })) ∧
    (2 ≤ s.sys.boot → cmdOf s id = some c → dOpcode c.desc = 0xB1 → dArg c.desc 3 ≠ 0 → c.status = 0 → c.phase = .started →
      exec (.waitTimeout id) s = .next (settle (failCmd (unwait s c.p c.ctx) id 0x0314)))

/-! ### Sharing contexts and slots -/

/-- Slots and their ends. A SLOT_GRANT loads the first READY context into a free slot; a PREEMPTION stops the context that the arbiter
chose; once its last command has ended a pre-empted context gives up slot and epoch and is READY; a time slice with no equal waiter
restarts; EXCL_EXPIRED ends exclusivity with 0x0320; NOPRE_EXPIRED reports 0x0321 and lets the deferred kill go.
Choices of the model behind it: log 83. -/
def Obligations.ContextsShareSlots : Prop :=
  ∀ (s : State) (p : PNum), 2 ≤ s.sys.boot →
    (∀ c x k, (pad s p.val).state = .opened ∨ (pad s p.val).state = .draining → firstReady s p.val = some (c, x) →
      ctxOf s p.val c = some x → freeSlotOf s p.val = some k → (∃ l, accessAll s p.val x.area 16384 false = .ok l) →
      exec (.slotGrant p) s = .next (settle (updCtx s p.val c (fun x => { x with
        st := .running, slot := some k, grantedAt := ns s, progress := ns s })))) ∧
    (∀ (v : BitVec 12) w x y, firstReady s p.val = some w → freeSlotOf s p.val = none → looseSlot s p.val = none →
      victim s p.val w.2.prio = some (v.toNat, x) → ctxOf s p.val v.toNat = some y →
      exec (.preemption p v) s = .next (settle (preemptCtx s p.val v.toNat))) ∧
    (∀ (c : BitVec 12) x, ctxOf s p.val c.toNat = some x → x.preempting = true → ctxCmds s p.val c.toNat = [] →
      ∃ u, exec (.preemptionEpochAdvance p c) s = .next (settle u) ∧ ∃ y, ctxOf u p.val c.toNat = some y ∧ y.st = .ready ∧
        y.slot = none ∧ y.preempting = false ∧ y.readySince = ns s) ∧
    (∀ (c : BitVec 12) x, ctxOf s p.val c.toNat = some x → x.st = .running → x.preempting = false → firstReady s p.val = none →
      exec (.timeSliceExpiry p c) s = .next (settle (updCtx s p.val c.toNat (fun x => { x with grantedAt := ns s })))) ∧
    (∀ (c : BitVec 12) x w, ctxOf s p.val c.toNat = some x → x.st = .running → x.preempting = false → firstReady s p.val = some w →
      x.prio ≤ w.2.prio → (pad s p.val).excl = none → freeSlotOf s p.val = none → looseSlot s p.val = none →
      exec (.timeSliceExpiry p c) s = .next (settle (preemptCtx s p.val c.toNat))) ∧
    (∀ c id k, (pad s p.val).excl = some (c, id) → cmdOf s id = some k →
      exec (.exclExpired p) s = .next (settle (geqCmd (updPad s p.val (fun d => { d with excl := none })) k 0x0320 0 []))) ∧
    (∀ id k, cmdOf s id = some k → k.killWaits = true → dNopre k.desc = true → killMustWait (geqCmd s k 0x0321 2 []) k .control = false →
      exec (.nopreExpired id) s = .next (settle (endDeferredKill (geqCmd s k 0x0321 2 []) id)))

/-- FETCH takes descriptors to threads, and a kill keeps a command for its rerun.
Choices of the model behind it: log 83. -/
def Obligations.CommandsAreFetchedAndKilled : Prop := FetchTakesNextDescriptor ∧ KillsKeepCommandsForTheirRerun

/-! ### The Tenancy Port -/

/-- A die's answer h of a kind on module m belongs to the outstanding transaction o of a command that still runs. -/
def Sys2Proof.Reply (s : State) (m : Fin 24) (h : BitVec 256) (kind : Nat) (o : TpOut) : Prop :=
  2 ≤ s.sys.boot ∧ gated s (bits h.toNat 251 246) = false ∧ islandOut s (sideOf m.val) = false ∧ bits h.toNat 239 224 ∉ s.tp.quar ∧
  Tbl.find s.tp.outst (bits h.toNat 239 224) = some o ∧ o.kind = kind ∧ o.p = bits h.toNat 251 246 ∧
  bits h.toNat 223 216 = o.epoch % 256 ∧ bits h.toNat 215 204 = o.ctx % 4096 ∧ o.attached = true ∧
  ∃ x, ctxOf s o.p o.ctx = some x ∧ x.epoch = o.epoch

/-- Transactions on the Tenancy Port. READ_DATA gives its command the bytes; the last WRITE_ACK makes its command ready; DISPATCH_DONE
finishes it; an error status ends it with 0x0507 or 0x0508; an answer under a quarantined tag is dropped and counted; RESPONSE_TIMEOUT
ends a read or dispatch with 0x0509 and quarantines its tag. A die's READ or WRITE that passes its checks begins an inbound access of the
paddock; one of a lot that the paddock does not hold is refused, counted and answered 0x020B. An intact header flit in sequence is worked
on, a broken one asks for a replay.
Choices of the model behind it: log 85. -/
def Obligations.TenancyPortTransactions : Prop :=
  ∀ (s : State) (m : Fin 24) (h : BitVec 256),
    (∀ o data, Reply s m h 1 o → bits h.toNat 79 64 = 0 → data.length = o.len →
      exec (.readData m h data) s = .next (settle (progress (updCmd { s with tp.outst := Tbl.erase s.tp.outst (bits h.toNat 239 224) } o.cmd
        (fun c => { c with ext := c.ext ++ [(o.req, data)], asked := c.asked.filter (fun a => a ≠ o.req) })) o.p o.ctx))) ∧
    (∀ o c, Reply s m h 2 o → bits h.toNat 79 64 = 0 → cmdOf s o.cmd = some c →
      ∃ u, exec (.writeAck m h) s = .next (settle u) ∧ ∃ k, cmdOf u o.cmd = some k ∧ k.acksDue = c.acksDue - 1 ∧
        (c.acksDue = 1 → c.phase = .started → c.due = 0 → k.phase = .ready ∧ k.readyAt = ns s) ∧
        (1 < c.acksDue → k.phase = c.phase) ∧ Tbl.find u.tp.outst (bits h.toNat 239 224) = none) ∧
    (∀ o, Reply s m h 5 o →
      (bits h.toNat 79 64 = 0 → exec (.dispatchDone m h) s = .next (settle (finish
        (progress { s with tp.outst := Tbl.erase s.tp.outst (bits h.toNat 239 224) } o.p o.ctx) o.cmd [] 0))) ∧
      (bits h.toNat 79 64 = 0x0508 → exec (.dispatchDone m h) s =
        .next (settle (failCmd { s with tp.outst := Tbl.erase s.tp.outst (bits h.toNat 239 224) } o.cmd 0x0508)))) ∧
    (2 ≤ s.sys.boot → gated s (bits h.toNat 251 246) = false → islandOut s (sideOf m.val) = false → bits h.toNat 239 224 ∈ s.tp.quar →
      exec (.writeAck m h) s = .next (settle (bump s (bits h.toNat 251 246) 0x80 4 1)) ∧
      (∀ data, exec (.readData m h data) s = .next (settle (bump s (bits h.toNat 251 246) 0x80 4 1))) ∧
      exec (.dispatchDone m h) s = .next (settle (bump s (bits h.toNat 251 246) 0x80 4 1))) ∧
    (∀ (t : Tag) o, 2 ≤ s.sys.boot → Tbl.find s.tp.outst t.toNat = some o → o.kind ≠ 2 → o.attached = true →
      exec (.responseTimeout t) s = .next (settle (failCmd { s with
        tp.outst := Tbl.erase s.tp.outst t.toNat, tp.quar := s.tp.quar ++ [t.toNat] } o.cmd 0x0509))) ∧
    (∀ t : Tag, 2 ≤ s.sys.boot → exec (.tpTagQuarantineEnd t) s = .next (settle { s with tp.quar := s.tp.quar.filter (fun x => x ≠ t.toNat) })) ∧
    (2 ≤ s.sys.boot → gated s (bits h.toNat 251 246) = false → islandOut s (sideOf m.val) = false →
      (tpCheck s h.toNat 1 (bits h.toNat 191 176) = 0 →
        exec (.tpRead m h) s = .next (settle (beginInner s (bits h.toNat 251 246) (.tpRead m h)))) ∧
      (∀ data, tpCheck s h.toNat 2 data.length = 0 →
        exec (.tpWrite m h data) s = .next (settle (beginInner s (bits h.toNat 251 246) (.tpWrite m h data)))) ∧
      (tpCheck s h.toNat 1 (bits h.toNat 191 176) = 0x020B →
        exec (.tpRead m h) s = .next (settle (tpAnswer (refuse s (bits h.toNat 251 246) 0x020B [bits h.toNat 175 144]) m.val h.toNat 3 0x020B [])))) ∧
    (∀ (id : Nat) (c : Cmd) (t : State) (b : Bytes), cmdOf s id = some c → c.status = 0 →
      gather s id (bits h.toNat 251 246) (bits h.toNat 143 80) (bits h.toNat 191 176) = (t, .bytes b) →
      serveTpRead s id m.val h.toNat = tpAnswer (endInner t id) m.val h.toNat 3 0 b) ∧
    (∀ (flit : Bytes), 2 ≤ s.sys.boot → (tpm s m.val).up = true → (tpm s m.val).gated = false → islandOut s (sideOf m.val) = false →
      (tpm s m.val).nakked = false → flit.length = 256 * (1 + bits (beNat (flit.take 32)) 239 232) →
      (bits (beNat (flit.take 32)) 31 0 =
          (crc32c (beBytes 32 (beNat (flit.take 32) - bits (beNat (flit.take 32)) 31 0) ++ flit.drop 32)).toNat →
        bits (beNat (flit.take 32)) 255 252 = 1 → bit (beNat (flit.take 32)) 231 = false → bits (beNat (flit.take 32)) 210 32 = 0 →
        bit (beNat (flit.take 32)) 211 = false →
        bits (beNat (flit.take 32)) 251 240 = (match (tpm s m.val).rx with | some r => (r + 1) % 4096 | none => 0) →
        exec (.headerFlit m flit) s = .next (settle (slotsWork m flit (beNat (flit.take 32)) (updTpm s m.val (fun k => { k with
          rx := some (bits (beNat (flit.take 32)) 251 240), nakked := false }))))) ∧
      (bits (beNat (flit.take 32)) 31 0 ≠
          (crc32c (beBytes 32 (beNat (flit.take 32) - bits (beNat (flit.take 32)) 31 0) ++ flit.drop 32)).toNat →
        exec (.headerFlit m flit) s = .next (settle (nakFlit s m.val))))

/-- Fence tables. A TABLE_ACK stores an inactive table, and the last one of a push starts its activation; a TABLE_NAK or a push that is not
answered ends the control command with 0x020A in the state it began in; the last FENCE_ACK of a FENCE leaves the paddock FENCED; a missed
answer gates the die and faults the paddock; a BREACH faults the paddock it names; LOT_CLEAN frees its lot; a report of another generation
makes the table inactive.
Choices of the model behind it: log 85. -/
def Obligations.FenceTablesArePushedAndActivated : Prop :=
  ∀ (s : State) (m : Fin 24) (h : BitVec 128), 2 ≤ s.sys.boot →
    (∀ x, sideOk h.toNat 2 0 0 false = true → (pad s (bits h.toNat 119 114)).pend = some x → x.gen = bits h.toNat 111 96 →
      bits h.toNat 95 92 ∈ x.tables → x.fences = [] → x.stage = 0 →
      ∃ u, exec (.tableAck m h) s = .next (settle u) ∧
        (∃ t ∈ (pad u (bits h.toNat 119 114)).tables, t.die = bits h.toNat 95 92 ∧ t.gen = x.gen ∧ t.active = false) ∧
        (∃ y, (pad u (bits h.toNat 119 114)).pend = some y ∧ y.cmd = x.cmd ∧ y.tables = x.tables.filter (fun d => d ≠ bits h.toNat 95 92) ∧
          (y.tables = [] → y.stage = 1 ∧ ∀ k ∈ fenceKeys s (bits h.toNat 95 92), k ∈ y.fences) ∧ (y.tables ≠ [] → y.stage = 0))) ∧
    (∀ x, sideOk h.toNat 3 0 (0xFFFF * 2 ^ 64) false = true → (pad s (bits h.toNat 119 114)).pend = some x →
      x.gen = bits h.toNat 111 96 → bits h.toNat 95 92 ∈ x.tables →
      ∃ u, exec (.tableNak m h) s = .next (settle u) ∧ (pad u (bits h.toNat 119 114)).pend = none ∧
        (pad u (bits h.toNat 119 114)).result = 0x020A ∧ (pad u (bits h.toNat 119 114)).state = (pad s (bits h.toNat 119 114)).state ∧
        (x.cmd = 1 → (pad u (bits h.toNat 119 114)).granules = 0 ∧ (pad u (bits h.toNat 119 114)).lots = [])) ∧
    (∀ (p : PNum) (die : Fin 16) x, (pad s p.val).pend = some x → die.val ∈ x.tables →
      ∃ u, exec (.fencePushFailed p die) s = .next (settle u) ∧ (pad u p.val).pend = none ∧ (pad u p.val).result = 0x020A ∧
        (pad u p.val).state = (pad s p.val).state) ∧
    (∀ x, sideOk h.toNat 5 0 0 true = true → bits h.toNat 113 112 = 1 → (pad s (bits h.toNat 119 114)).pend = some x →
      x.gen = bits h.toNat 111 96 → x.cmd = 1 → x.stage = 1 → x.tables = [] →
      x.fences = [2 * bits h.toNat 95 92 + (if m.val < 12 then 0 else 1)] → mirrorWaits s (bits h.toNat 119 114) = false →
      ∃ u, exec (.fenceAck m h) s = .next (settle u) ∧ (pad u (bits h.toNat 119 114)).state = .fenced ∧
        (pad u (bits h.toNat 119 114)).pend = none ∧ (pad u (bits h.toNat 119 114)).result = 0 ∧
        (∀ t ∈ (pad u (bits h.toNat 119 114)).tables, t.die = bits h.toNat 95 92 → t.active = true ∧ t.gen = x.gen)) ∧
    (∀ (p : PNum) (die : Fin 16) x k, (pad s p.val).pend = some x → k ∈ x.fences → k / 2 = die.val → x.cmd ≠ 5 →
      (∃ l ∈ (pad s p.val).lots, dieOf s l = some die.val) →
      ∃ u, exec (.fenceMissed p die) s = .next (settle u) ∧ (pad u p.val).state = .faulted ∧ (pad u p.val).pend = none ∧
        (∀ n, n < 24 → (tpm s n).die = some die.val → (tpm u n).gated = true)) ∧
    (sideOk h.toNat 7 1 (2 ^ 80 - 2 ^ 26) false = true → ∀ w, exec (.breach m h [w]) s =
      .next (settle (paddockFault (fire s 602) (bits h.toNat 119 114) 0x020B))) ∧
    (sideOk h.toNat 8 0 (0xFFFFFFFF * 2 ^ 48) false = true → exec (.lotClean m h) s =
      .next (settle { s with tp.lotsDirty := s.tp.lotsDirty.filter (fun l => l ≠ bits h.toNat 79 48) })) ∧
    (∀ t, sideOk h.toNat 11 0 (3 * 2 ^ 78) false = true → fenceOf s (bits h.toNat 119 114) (bits h.toNat 95 92) = some t →
      (bit h.toNat 79 = true → bits h.toNat 111 96 = t.gen → exec (.tableReport m h) s = .next (settle s)) ∧
      (bits h.toNat 111 96 ≠ t.gen → ∃ u, exec (.tableReport m h) s = .next (settle u) ∧
        fenceOf u (bits h.toNat 119 114) (bits h.toNat 95 92) = none)) ∧
    (sideOk h.toNat 2 0 0 false = false → exec (.tableAck m h) s =
      .next (settle (logDev { s with tp.sideBad := s.tp.sideBad + 1 } 0x050B 0 [m.val, bits h.toNat 127 120])))

/-- Modules. A replay sends every later flit again, and the eighth replay retrains the module; a manifest that breaks its format puts the
die's modules out and changes no entry, a good one is kept; a module that trains is up, one that fails is not, and a die that no module
reaches faults the paddocks that hold its lots; SIDE_RESET takes its side out, drops its transactions and leaves its modules to train. -/
def Obligations.ModulesTrainAndFail : Prop :=
  ∀ (s : State) (m : Fin 24), 2 ≤ s.sys.boot →
    (∀ h : BitVec 128, sideOk h.toNat 12 0 (0xFFF * 2 ^ 68) false = true →
      ((∀ e ∈ (tpm s m.val).replay, e.2.2 < 8) → ∃ u, exec (.sidebandNak m h) s = .next (settle u) ∧
        (tpm u m.val).replay = ((tpm s m.val).replay.filter (fun e => 256 ≤ (bits h.toNat 79 68 + 4096 - e.1) % 4096)).map
          (fun e => (e.1, e.2.1, e.2.2 + 1)) ∧ { u with tp := s.tp, out := s.out } = s ∧
        ∀ e ∈ (tpm u m.val).replay, Out.flit m.val e.2.1 ∈ u.out) ∧
      (∀ e ∈ (tpm s m.val).replay, 256 ≤ (bits h.toNat 79 68 + 4096 - e.1) % 4096 → 8 ≤ e.2.2 →
        exec (.sidebandNak m h) s = .next (settle (logDev (retrainModule s m.val) 0x0506 1 [m.val])))) ∧
    (∀ (h : BitVec 128) (w : BitVec 128) (ws : List (BitVec 128)), sideOk h.toNat 13 (ws.length + 1) 0 false = true →
      (manifestBad s w.toNat (manifestEntries (w :: ws)) (ws.length + 1) = true →
        ∃ u, exec (.manifest m h (w :: ws)) s = .next (settle u) ∧ u.tp.manifests = s.tp.manifests ∧ u.pads = s.pads ∧
          (tpm u m.val).up = false ∧ (tpm u m.val).failed = true) ∧
      (manifestBad s w.toNat (manifestEntries (w :: ws)) (ws.length + 1) = false →
        ∃ u, exec (.manifest m h (w :: ws)) s = .next (settle u) ∧ Tbl.find u.tp.manifests (bits w.toNat 87 84) =
          some { header := w.toNat, entries := manifestEntries (w :: ws) })) ∧
    (∀ die : Fin 16, exec (.moduleLinkUp m die) s =
      .next (settle (fire (updTpm s m.val (fun _ => { up := true, die := some die.val })) (576 + m.val)))) ∧
    (∃ u, exec (.moduleTrainingFailed m) s = .next (settle u) ∧ (tpm u m.val).up = false ∧ (tpm u m.val).failed = true ∧
      (∀ die (p : PNum), (tpm s m.val).die = some die → (∀ n, n < 24 → n ≠ m.val → (tpm s n).die = some die → (tpm s n).up = false) →
        (∃ l ∈ (pad s p.val).lots, dieOf s l = some die) → (pad s p.val).state ≠ .empty → (pad u p.val).state = .faulted)) ∧
    (∀ (via : Path) (tag : Tag) (v : BitVec 8), ManagerAsks s via → v.toNat = 1 ∨ v.toNat = 2 →
      ∃ u, Answers (.sideReset via tag v) s u via (writeReq tag 0x1400 4 1) 1 0 ∧ Tbl.get u.flt.state (3 + v.toNat) = 2 ∧
        (∀ e ∈ u.tp.outst, (if e.2.module_ < 12 then 1 else 2) ≠ v.toNat) ∧
        ∀ n, n < 24 → (if n < 12 then 1 else 2) = v.toNat → (tpm s n).die ≠ none → (tpm u n).up = false ∧ (tpm u n).gated = false)

/-! ### The host function -/

/-- Reads of host memory and translations. The last completion of a read gives its command the bytes and frees the tag; an error status
ends the command with 0x0403, poison with 0x0409; a read without completion ends it with 0x0402, reports it and quarantines the tag; a
completion under a quarantined tag is counted and logged. A translation is kept unless an invalidation overtook it; an invalidation
forgets what it overlaps and is answered once the reads issued under it have ended. -/
def Sys2Proof.HostReadsAndTranslations : Prop :=
  ∀ (s : State) (t : BitVec 14), 2 ≤ s.sys.boot →
    (∀ o data key, t.toNat ∉ s.host.quar → Tbl.find s.host.outst t.toNat = some o → gated s o.p = false → islandOut s 3 = false →
      o.attached = true → readCurrent s o = true → hostOpen s o.p = true →
      (o.chunk = none → (o.got ++ data).length = o.len →
        exec (.hostCompletion t 0 false data key true) s = .next (settle (progress (updCmd
          { hostBytes s o.p data.length with host.outst := Tbl.erase s.host.outst t.toNat } o.cmd
          (fun c => { c with ext := c.ext ++ [(o.req, o.got ++ data)], asked := c.asked.filter (fun a => a ≠ o.req) })) o.p o.ctx))) ∧
      (exec (.hostCompletion t 0 false data key false) s = .next (settle
        { hostBytes s o.p data.length with host.outst := Tbl.set s.host.outst t.toNat { o with got := o.got ++ data } })) ∧
      (∀ status : BitVec 3, status.toNat ≠ 0 → exec (.hostCompletion t status false data key false) s =
        .next (settle (failCmd (readBad s t.toNat) o.cmd 0x0403))) ∧
      (exec (.hostCompletion t 0 true data key false) s = .next (settle (failCmd (readBad s t.toNat) o.cmd 0x0409)))) ∧
    (∀ status poisoned data key last, t.toNat ∈ s.host.quar → exec (.hostCompletion t status poisoned data key last) s =
      .next (settle (logDev (addO s 0x1500 7 1 32) 0x0408 0 [t.toNat]))) ∧
    (∀ o, Tbl.find s.host.outst t.toNat = some o → o.attached = true → readCurrent s o = true →
      exec (.cplTimeout t) s = .next (settle (failCmd (fire (emit { s with
        host.outst := Tbl.erase s.host.outst t.toNat, host.quar := s.host.quar ++ [t.toNat] } (.aer o.p t.toNat)) 723) o.cmd 0x0402))) ∧
    (exec (.hostTagQuarantineEnd t) s = .next (settle { s with host.quar := s.host.quar.filter (fun x => x ≠ t.toNat) })) ∧
    (∀ n (host : BitVec 64) size r w a, getPair s.host.ats n = some a → a.done = false →
      (a.stale = false → ∃ u, exec (.atsTranslationCompletion n host size r w) s = .next (settle u) ∧
        getPair u.host.ats n = some { a with host := host.toNat, size := max 4096 size, r := r, w := w, done := true, cmd := none } ∧
        u.pads = s.pads ∧ u.cmd = s.cmd ∧ u.rick.cells = s.rick.cells) ∧
      (a.stale = true → ∃ u, exec (.atsTranslationCompletion n host size r w) s = .next (settle u) ∧
        Out.ats a.p s.host.nextAts a.base ∈ u.out ∧ u.rick = s.rick)) ∧
    (∀ (vf : PNum) (itag : BitVec 5) (base : BitVec 64) size,
      ∃ u, exec (.atsInvalidationRequest vf itag base size) s = .next (settle u) ∧
        (∀ e ∈ u.host.ats, e.2.p = vf.val → overlap e.2.base e.2.size base.toNat size = true → e.2.done = false ∧ e.2.stale = true) ∧
        (∀ e ∈ u.rick.tlb, ¬ (e.1 = vf.val ∧ overlap e.2.1 e.2.2.1 base.toNat size = true)) ∧ u.pads = s.pads ∧ u.out = s.out) ∧
    (∀ (vf : PNum) (itag : BitVec 5) e, s.host.atsInv.find? (fun e => e.1 = vf.val && e.2.1 = itag.toNat) = some e →
      (e.2.2.2.2.any (fun t => Tbl.has s.host.outst t) = true → exec (.invalidationCompletion vf itag) s = .next (settle s)) ∧
      (e.2.2.2.2.any (fun t => Tbl.has s.host.outst t) = false → exec (.invalidationCompletion vf itag) s =
        .next (settle (emit { s with host.atsInv := s.host.atsInv.erase e } (.atsDone vf.val itag.toNat)))))

/-- Bus Master Enable, vectors and resets of functions. Clearing it detaches the VF's reads and ends their commands with 0x0401; setting it
sends the unmasked vectors that waited; unmasking a pending vector sends it; a Function Level Reset kills every command of its paddock and
ends with the Stile IDLE, no queue and Bus Master Enable 0; the wider resets begin one for every VF and fire their source; BOUNCE_FLOOR only
rises. -/
def Sys2Proof.HostFunctionsResetAndResume : Prop :=
  ∀ (s : State) (p : PNum), 2 ≤ s.sys.boot →
    (readers s p.val = [] → ∃ u, exec (.busMasterEnableClear (some p)) s = .next (settle u) ∧ (func u (some p)).master = false ∧
      (∀ e ∈ u.host.outst, e.2.p = p.val → e.2.attached = false) ∧ u.cmd = s.cmd) ∧
    (∀ id, readers s p.val = [id] → ∃ u, exec (.busMasterEnableClear (some p)) s = .next (settle (failCmd u id 0x0401)) ∧
      (func u (some p)).master = false ∧ u.cmd = s.cmd) ∧
    ((func s (some p)).inReset = false → (∀ e ∈ (pad s p.val).queues, e.2.waiting = []) →
      ∃ u, exec (.busMasterEnableSet (some p)) s = .next (settle u) ∧ (func u (some p)).master = true ∧
        (∀ v ∈ (func s (some p)).pba, v ∈ (func s (some p)).unmasked → Out.msix (some p) v ∈ u.out ∧ v ∉ (func u (some p)).pba) ∧
        { u with host := s.host, out := s.out } = s) ∧
    (∀ v : BitVec 8, v.toNat ∈ (func s (some p)).pba → (func s (some p)).master = true → (func s (some p)).inReset = false →
      ∃ u, exec (.msixVectorUnmask (some p) v) s = .next (settle u) ∧ Out.msix (some p) v.toNat ∈ u.out ∧ v.toNat ∉ (func u (some p)).pba ∧
        v.toNat ∈ (func u (some p)).unmasked ∧ { u with host := s.host, out := s.out } = s) ∧
    ((func s (some p)).inReset = false → padCmds s p.val = [] → (∀ e ∈ (pad s p.val).ctxs, e.2.slot = none) →
      ∃ u, exec (.functionLevelReset p) s = .next (settle u) ∧ (func u (some p)).inReset = true ∧
        (∀ k, strip (pad u k) = strip (pad s k)) ∧ u.out = s.out) ∧
    ((func s (some p)).inReset = true → exec (.functionLevelReset p) s = .next (settle s)) ∧
    ((func s (some p)).inReset = true → (∀ e ∈ s.host.outst, e.2.p ≠ p.val) → padCmds s p.val = [] →
      ∃ u, exec (.flrComplete p) s = .next (settle u) ∧ (pad u p.val).queues = [] ∧ (∀ k ∈ u.cmd.killed, k.p ≠ p.val) ∧
        (func u (some p)).inReset = false ∧ (func u (some p)).master = false ∧ (func u (some p)).stile = 0 ∧ (func u (some p)).unmasked = [] ∧
        (func u (some p)).pba = [] ∧ (∀ k, strip (pad u k) = strip (pad s k))) ∧
    (∃ u, exec .vfEnableClear s = .next (settle (fire u 724)) ∧ (func u (some p)).inReset = true ∧
      (∀ e ∈ u.host.vfs, e.2.enabled = false)) ∧
    (∃ u, exec .pfFunctionLevelReset s = .next (settle (fire u 721)) ∧ (func u (some p)).inReset = true ∧ (func u none).master = false ∧
      (func u none).stile = 0 ∧ (s.obj.draftOwner = some .pf → u.obj.draftOwner = none ∧ u.obj.draft = u.obj.committed)) ∧
    (∃ u, exec .hotReset s = .next (settle (fire u 722)) ∧ (func u (some p)).inReset = true) ∧
    (∃ u, exec .pcieLinkDown s = .next (settle (fire (setO u 0x1500 1 0) 720)) ∧ (func u (some p)).inReset = true) ∧
    (∀ (rate : BitVec 3) (width : BitVec 5), exec (.hostLinkTrained rate width) s =
      .next (settle (fire (setO (setO (setO s 0x1500 1 2) 0x1500 2 rate.toNat) 0x1500 3 width.toNat) 720))) ∧
    (∀ v : BitVec 64, (func s (some p)).inReset = false →
      exec (.bounceFloor p v) s = .next (settle (updPad s p.val (fun d => { d with bounceFloor := max d.bounceFloor v.toNat }))))

/-- The host function: reads and translations of host memory, and the resets and vectors of its functions.
Choices of the model behind it: logs 13, 85. -/
def Obligations.HostFunction : Prop := HostReadsAndTranslations ∧ HostFunctionsResetAndResume

/-! ### Beluth transport -/

/-- A packet of a type passes the receive check: the state that goes on, its paddock and its QP. -/
def Sys2Proof.Arrives (s : State) (on : Port) (pkt : Packet) (type : Nat) (t : State) (p qpn : Nat) : Prop :=
  2 ≤ s.sys.boot ∧ receive s on pkt type = (t, some (p, qpn))

/-- QPs. QP_CREATE makes a QP in RESET with a zeroed backing entry; QP_MODIFY takes it from RESET to INIT with its MTU, to READY with its peer
and paths, from READY to DRAINED once no message is open, and back to RESET, which clears paths and sequence state but no quarantine;
QP_DESTROY erases a QP in RESET. A number outside the paddock or unknown is refused with 0x0601 and a wrong state with 0x0603.
Choices of the model behind it: log 18. -/
def Obligations.QueuePairsMoveThroughTheirStates : Prop :=
  ∀ (s : State) (via : Path) (tag : Tag) (p : PNum), OwnerAsks s p via →
    (∀ (a : BitVec 128) (pls : List (Place × Nat)), bits a.toNat 81 0 = 0 → bits a.toNat 103 100 = 1 ∨ bits a.toNat 103 100 = 2 →
      qpPad (bits a.toNat 127 104) = p.val → Tbl.has s.net.qps (bits a.toNat 127 104) = false → paired s = false →
      bits a.toNat 127 104 % 2 ^ 18 < cfgP s p.val 0x52 7 →
      accessAll s p.val (cfgP s p.val 0x52 6 + 1024 * (bits a.toNat 127 104 % 2 ^ 18)) 1024 true = .ok pls →
      (pls.any (fun e => match e.1 with | .rick .. => false | _ => true)) = false →
      ∃ u, Answers (.qpCreate via tag p a) s u via (writeReq tag (pidx p.val 0x52) 1 16) 16 0 ∧
        Tbl.find u.net.qps (bits a.toNat 127 104) = some {
          type := bits a.toNat 103 100, recvCtx := bits a.toNat 99 88, recvQ := bits a.toNat 87 82 } ∧
        (∀ k, k ≠ bits a.toNat 127 104 → Tbl.find u.net.qps k = Tbl.find s.net.qps k) ∧ u.cmd = s.cmd) ∧
    (∀ (a : BitVec 256) (q : Qp), bits a.toNat 54 0 = 0 → Tbl.find s.net.qps (bits a.toNat 255 232) = some q →
      qpPad (bits a.toNat 255 232) = p.val → q.type ≠ 3 →
      (q.st = 0 → 8 ≤ bits a.toNat 227 224 → bits a.toNat 227 224 ≤ 12 →
        Answers (.qpModifyInit via tag p a) s (updQp s (bits a.toNat 255 232) (fun q => { q with st := 1, mtu := bits a.toNat 227 224 })) via
          (writeReq tag (pidx p.val 0x52) 2 32) 32 0) ∧
      (q.st = 1 → (∀ k, k ≤ bits a.toNat 186 183 → bit (pad s p.val).links (bits a.toNat (182 - 6 * k) (177 - 6 * k)) = true) →
        (q.type = 2 → qpPad (bits a.toNat 210 187) = p.val) →
        ∃ u, Answers (.qpModifyReady via tag p a) s u via (writeReq tag (pidx p.val 0x52) 2 32) 32 0 ∧
          ∃ y, Tbl.find u.net.qps (bits a.toNat 255 232) = some y ∧ y.st = 2 ∧ y.node = bits a.toNat 223 211 ∧
            y.peer = bits a.toNat 210 187 ∧ y.mtu = q.mtu ∧ y.paths.length = bits a.toNat 186 183 + 1 ∧
            (∀ k pa, y.paths[k]? = some pa → pa.link = bits a.toNat (182 - 6 * k) (177 - 6 * k) ∧ pa.tx = bits a.toNat 86 55) ∧
            { u with net := s.net } = s) ∧
      (q.st = 4 → Answers (.qpModifyReady via tag p a) s (updQp s (bits a.toNat 255 232) (fun q => { q with st := 2 })) via
        (writeReq tag (pidx p.val 0x52) 2 32) 32 0) ∧
      (q.st = 2 → ∃ u, Answers (.qpModifyDrained via tag p a) s u via (writeReq tag (pidx p.val 0x52) 2 32) 32 0 ∧
        (q.tx = [] → q.rx = [] → Tbl.find u.net.qps (bits a.toNat 255 232) = some { q with st := 4, draining := false }) ∧
        (q.tx ≠ [] → Tbl.find u.net.qps (bits a.toNat 255 232) = some { q with draining := true })) ∧
      (q.st = 1 ∨ q.st = 4 ∨ q.st = 3 → q.rx = [] →
        Answers (.qpModifyReset via tag p a) s (updQp s (bits a.toNat 255 232) (fun q => {
          type := q.type, recvCtx := q.recvCtx, recvQ := q.recvQ, quar := q.quar, readDone := q.readDone, lastErr := q.lastErr,
          retx := q.retx })) via (writeReq tag (pidx p.val 0x52) 2 32) 32 0) ∧
      (q.st ≠ 0 → Answers (.qpModifyInit via tag p a) s s via (writeReq tag (pidx p.val 0x52) 2 32) 32 0x0603)) ∧
    (∀ (v : BitVec 32), v.toNat < 2 ^ 24 →
      (∀ q, Tbl.find s.net.qps v.toNat = some q → qpPad v.toNat = p.val → q.type ≠ 3 → 
        (q.st = 0 → Answers (.qpDestroy via tag p v) s { s with net.qps := Tbl.erase s.net.qps v.toNat } via
          (writeReq tag (pidx p.val 0x52) 3 4) 4 0) ∧
        (q.st ≠ 0 → Answers (.qpDestroy via tag p v) s s via (writeReq tag (pidx p.val 0x52) 3 4) 4 0x0603)) ∧
      (Tbl.find s.net.qps v.toNat = none → Answers (.qpDestroy via tag p v) s s via (writeReq tag (pidx p.val 0x52) 3 4) 4 0x0601))

/-- What the engine does with a command of transport that may run, s1 being the state in which it has started. WRITE, READ and ATOMIC open
one message of the command on their QP, once that has room and is resident and the local bytes or places are at hand; the command then
waits for one message. On a QP that is not READY each ends with 0x0604. DISPATCH sends one transaction to its lot; COPY reaches its commit
with the bytes it gathered as its effect.
Choices of the model behind it: log 14. -/
def Obligations.TransportCommandsOpenOneMessage : Prop :=
  ∀ (s s1 s2 v : State) (id : Nat) (c k : Cmd) (q : Qp) (pls : List (Place × Nat)) (b : Bytes),
    s1 = updCmd s id (fun c => { c with phase := .started }) → k = { c with phase := .started } →
    (∀ i op, i = Instr.write id ∧ op = 0x20 ∨ i = .read id ∧ op = 0x21 ∨ i = .atomic id ∧ op = 0x24 → Works s id c op → c.msgs = [] →
      dArg c.desc 3 < 2 ^ 24 → dArg c.desc 4 = 0 → dArg c.desc 5 = 0 → 0 < dArg c.desc 1 → dArg c.desc 1 < 64 → dArg c.desc 0 % 32 = 0 →
      dArg c.desc 2 % 8 = 0 → Tbl.find s.net.qps (dArg c.desc 3) = some q → qpPad (dArg c.desc 3) = c.p → q.type ≠ 3 → q.st ≠ 2 →
      exec i s = .next (settle (failCmd s1 id 0x0604))) ∧
    (Works s id c 0x20 → c.msgs = [] → dArg c.desc 3 < 2 ^ 24 → dArg c.desc 4 < 2 ^ 33 → dArg c.desc 5 = 0 → 0 < dArg c.desc 1 →
      dArg c.desc 1 ≤ 262144 → dArg c.desc 2 + dArg c.desc 1 ≤ vaEnd → qpCmdStatus s c.p (dArg c.desc 3) = 0 →
      msgRoom (qp s (dArg c.desc 3)) = true → admitQp s1 (dArg c.desc 3) = some s2 →
      gather s2 id c.p (dArg c.desc 0) (dArg c.desc 1) = (v, .bytes b) → 256 < b.length →
      ∃ t m, exec (.write id) s = .next (settle (pump t (dArg c.desc 3))) ∧ m.msg = nextMsgOf (qp v (dArg c.desc 3)) ∧ m.epoch = c.epoch ∧
        m.cmd = some id ∧ m.kind = 0 ∧ m.bytes = b.length ∧ m.sealed_ = false ∧ m.recv = bit (dArg c.desc 4) 32 ∧
        m.imm = bits (dArg c.desc 4) 31 0 ∧ m.todo = cutPackets (2 ^ (qp v (dArg c.desc 3)).mtu) (b.length + 1) (dArg c.desc 2) b ∧
        t = updCmd (updQp v (dArg c.desc 3) (fun q => { q with nextMsg := (m.msg + 1) % 4096, tx := q.tx ++ [m] })) id (fun c => { c with
          msgs := c.msgs ++ [(dArg c.desc 3, m.msg)], due := c.due + 1 })) ∧
    (Works s id c 0x21 → c.msgs = [] → dArg c.desc 3 < 2 ^ 24 → dArg c.desc 4 = 0 → dArg c.desc 5 = 0 → 256 < dArg c.desc 1 →
      dArg c.desc 1 ≤ 262144 → dArg c.desc 2 + dArg c.desc 1 ≤ vaEnd → qpCmdStatus s c.p (dArg c.desc 3) = 0 →
      msgRoom (qp s (dArg c.desc 3)) = true → admitQp s1 (dArg c.desc 3) = some s2 →
      accessAll s2 c.p (dArg c.desc 0) (dArg c.desc 1) true = .ok pls → (∀ e ∈ pls, ∀ a, e.1 ≠ .host a) →
      ∃ m, exec (.read id) s = .next (settle (sendRequest (noteMsg (holdDest s2 id pls) id (dArg c.desc 3) m.msg) (dArg c.desc 3) 4 m
          (dArg c.desc 2) (beBytes 16 (dArg c.desc 1 * 2 ^ 64 + (2 ^ (qp s2 (dArg c.desc 3)).paths.length - 1) % 65536 * 2 ^ 48)))) ∧
        m.msg = nextMsgOf (qp s2 (dArg c.desc 3)) ∧ m.epoch = c.epoch ∧ m.cmd = some id ∧ m.bytes = dArg c.desc 1 ∧ m.limit = getO s2 0x1600 1) ∧
    (Works s id c 0x24 → c.msgs = [] → dArg c.desc 3 < 2 ^ 24 → dArg c.desc 4 = 0 → dArg c.desc 5 = 0 → dArg c.desc 1 < 64 →
      dArg c.desc 0 % 32 = 0 → dArg c.desc 2 % 8 = 0 → qpCmdStatus s c.p (dArg c.desc 3) = 0 →
      msgRoom (qp s (dArg c.desc 3)) = true → admitQp s1 (dArg c.desc 3) = some s2 →
      accessAll s2 c.p (dArg c.desc 2) (8 * (dArg c.desc 1 + 1)) true = .ok pls → (∀ e ∈ pls, ∀ a, e.1 ≠ .host a) →
      gather (holdDest s2 id pls) id c.p (dArg c.desc 0) (32 * (dArg c.desc 1 + 1)) = (v, .bytes b) →
      ∃ m, exec (.atomic id) s = .next (settle (sendRequest (noteMsg (smallOp v c.thread) id (dArg c.desc 3) m.msg) (dArg c.desc 3) 6 m 0 b)) ∧
        m.msg = nextMsgOf (qp v (dArg c.desc 3)) ∧ m.epoch = c.epoch ∧ m.cmd = some id ∧ m.bytes = 32 * (dArg c.desc 1 + 1)) ∧
    (∀ lot, Works s id c 0x2C → c.due = 0 → dArg c.desc 0 < 2 ^ 33 → dArg c.desc 3 = 0 → dArg c.desc 4 = 0 → dArg c.desc 5 = 0 →
      dispatchLot s1 c.p (dArg c.desc 0) (dArg c.desc 1) = some lot → (moduleFor s1 lot).isSome = true →
      ∃ o, exec (.dispatch id) s = .next (settle (issueTp (updCmd s1 id (fun c => { c with due := 1 })) o (dArg c.desc 2) [])) ∧
        o.p = c.p ∧ o.ctx = c.ctx ∧ o.epoch = c.epoch ∧ o.kind = 5 ∧ o.cmd = id ∧ o.lot = lot ∧ o.off = dArg c.desc 1) ∧
    (Works s id c 0x2D → dArg c.desc 3 = 0 → dArg c.desc 4 = 0 → dArg c.desc 5 = 0 → 256 < dArg c.desc 1 → dArg c.desc 1 ≤ 262144 →
      accessAll s1 c.p (dArg c.desc 2) (dArg c.desc 1) true = .ok pls → (∀ e ∈ pls, ∃ a sel, e.1 = .rick a sel) →
      gather (holdDest s1 id pls) id c.p (dArg c.desc 0) (dArg c.desc 1) = (v, .bytes b) → cmdOf v id = cmdOf (holdDest s1 id pls) id → c.inner = false →
      ∃ w y, Finishes (.copy id) s w id y ∧ y.effects = writeEffects pls b ∧ y.status = 0)

/-- Replies. An ACK frees what it covers; a NAK with a code ends the message's command with it; a COMMIT_ACK of a message whose commit has
left ends the message, and the last one brings its command to its commit; ABORT_ACK ends an abort; READ_RESP and ATOMIC_RESP that answer an
open request carry its bytes to its destination, and one that answers none is dropped and counted. -/
def Sys2Proof.RepliesEndMessages : Prop :=
  ∀ (s t : State) (on : Port) (pkt : Packet) (p qpn : Nat),
    (∀ pa, Arrives s on pkt 2 t p qpn → (qp t qpn).paths[bPath pkt.hdr.toNat]? = some pa → pkt.payload.length = 40 →
      bits (beNat pkt.payload) 31 0 = 0 → bits (beNat pkt.payload) 319 64 = 0 → bMsg pkt.hdr.toNat = 0 → bEpoch pkt.hdr.toNat = 0 →
      psnAhead pa.tx (bPsn pkt.hdr.toNat) < 2 ^ 31 → Tbl.has t.net.qps qpn = true →
      ∃ u, (exec (.ackPacket on pkt) s = .next (settle u) ∨ exec (.ackPacket on pkt) s = .next (settle (pumpPad u p))) ∧
        ∃ pa', (qp u qpn).paths[bPath pkt.hdr.toNat]? = some pa' ∧ (∀ x, x ∈ pa'.unacked ↔ (x ∈ pa.unacked ∧
          ¬ (psnAhead (bPsn pkt.hdr.toNat) x.1 ≠ 0 ∧ psnAhead (bPsn pkt.hdr.toNat) x.1 < 2 ^ 31))) ∧ u.cmd = t.cmd ∧ u.pads = t.pads) ∧
    (∀ m code, Arrives s on pkt 3 t p qpn → code = bits (beNat (pkt.payload.take 8)) 63 48 →
      pkt.payload.length = 8 + 8 * bits (beNat (pkt.payload.take 8)) 47 32 → bits (beNat (pkt.payload.take 8)) 31 0 = 0 →
      repliedMsg t qpn pkt.hdr.toNat (code ≠ 0) = some m →
      (code = 0 → exec (.nakPacket on pkt) s = .next (settle (resendMissing t qpn m (nakRanges pkt.payload)))) ∧
      (code = 0x060E → exec (.nakPacket on pkt) s = .next (settle (qpError t qpn 0x060E))) ∧
      (code ≠ 0 → code ≠ 0x060E → exec (.nakPacket on pkt) s =
        .next (settle (pumpPad (messageFailed (qpProgress t qpn) qpn m code) p)))) ∧
    (∀ m, Arrives s on pkt 10 t p qpn → repliedMsg t qpn pkt.hdr.toNat false = some m → m.sealed_ = true →
      exec (.commitAck on pkt) s = .next (settle (pumpPad (match m.cmd with
        | some id => messageDone (qpProgress (endMsg t qpn m.msg (m.kind = 5)) qpn) id
        | none => qpProgress (endMsg t qpn m.msg (m.kind = 5)) qpn) p))) ∧
    (∀ id c, cmdOf t id = some c → c.due = 1 → c.killWaits = false →
      ∃ u x, messageDone t id = conclude u id x c.effects c.result ∧ (cmdOf u id).map (·.due) = some 0 ∧ u.net = t.net) ∧
    (∀ m, (qp t qpn).tx = [m] → m.kind ≠ 5 → Tbl.has t.net.qps qpn = true → (qp t qpn).draining = false →
      (qp (endMsg t qpn m.msg false) qpn).tx = [] ∧ m.msg ∈ (qp (endMsg t qpn m.msg false) qpn).quar) ∧
    (∀ m, Arrives s on pkt 9 t p qpn → m ∈ (qp t qpn).tx → m.msg = bMsg pkt.hdr.toNat → m.kind ≠ 5 → m.aborting = true →
      exec (.abortAck on pkt) s = .next (settle (pumpPad (qpProgress (endMsg t qpn (bMsg pkt.hdr.toNat) false) qpn) p))) ∧
    (∀ m id c pls u, Arrives s on pkt 7 t p qpn → requestOf t qpn pkt.hdr.toNat 6 = some (m, id, c) → pkt.payload.length = m.bytes / 4 →
      c.killWaits = false → (∀ e ∈ pls, ∃ a sel, e.1 = .rick a sel) →
      u = updCmd (progress (qpProgress (endMsg t qpn (bMsg pkt.hdr.toNat) false) qpn) c.p c.ctx) id (fun c => { c with due := 0 }) →
      accessAll u p (dArg c.desc 2) pkt.payload.length true = .ok pls →
      exec (.atomicResp on pkt) s = .next (settle (finish u id (writeEffects pls pkt.payload) 0))) ∧
    (∀ m id c pa pls off, Arrives s on pkt 5 t p qpn → requestOf t qpn pkt.hdr.toNat 4 = some (m, id, c) → bCommit pkt.hdr.toNat = false →
      (qp t qpn).paths[bPath pkt.hdr.toNat]? = some pa → psnSeen pa (bPsn pkt.hdr.toNat) = false →
      bAddr pkt.hdr.toNat = bAddr m.last.1 + off → off + pkt.payload.length ≤ m.bytes →
      accessAll t p (dArg c.desc 0 + off) pkt.payload.length true = .ok pls → (qp t qpn).rx = [] → Tbl.has t.net.qps qpn = true →
      ∃ u v, exec (.readResp on pkt) s = .next (settle (progress (acceptPsn u p qpn pkt.hdr.toNat) c.p c.ctx)) ∧ (qp u qpn).rx = [v] ∧
        v.msg = bMsg pkt.hdr.toNat ∧ v.cmd = some id ∧ v.bytes = pkt.payload.length ∧ v.psns = [(bPath pkt.hdr.toNat, bPsn pkt.hdr.toNat)] ∧
        (v.placed.map (·.2)).flatten = pkt.payload.take ((pls.map (·.2)).sum) ∧ { u with net := t.net } = t) ∧
    (∀ n, n = 5 ∨ n = 7 → Arrives s on pkt n t p qpn → requestOf t qpn pkt.hdr.toNat (n - 1) = none → (qp t qpn).readDone = [] →
      exec (if n = 5 then .readResp on pkt else .atomicResp on pkt) s = .next (settle (stale t p)))

/-- What a receiver does. DATA is placed and held out of sight, and the PSN noted; a COMMIT for which nothing is missing makes the held
bytes visible and is answered with COMMIT_ACK, one for which packets are missing is answered with a NAK; a packet of a message already
committed is answered or counted and has no further effect; READ_REQ and ATOMIC_REQ begin an access of the QP's paddock; ABORT keeps the
message's bytes held and is answered; ABANDON releases them; GRANT raises a limit.
Choices of the model behind it: log 21. -/
def Obligations.ReceiversPlaceAndCommit : Prop :=
  ∀ (s t : State) (on : Port) (pkt : Packet) (p qpn : Nat),
    (∀ pls, Arrives s on pkt 0 t p qpn → judge (qp t qpn) pkt.hdr.toNat = .accept → bCommit pkt.hdr.toNat = false → (qp t qpn).type ≠ 3 →
      bindingFor t p qpn (bAddr pkt.hdr.toNat) = none → accessAll t p (bAddr pkt.hdr.toNat) pkt.payload.length true = .ok pls →
      (qp t qpn).rx = [] → Tbl.has t.net.qps qpn = true →
      ∃ u v, exec (.dataPacket on pkt) s = .next (settle (acceptPsn u p qpn pkt.hdr.toNat)) ∧ (qp u qpn).rx = [v] ∧
        v.msg = bMsg pkt.hdr.toNat ∧ v.epoch = bEpoch pkt.hdr.toNat ∧ v.aborted = false ∧ v.bytes = pkt.payload.length ∧
        v.psns = [(bPath pkt.hdr.toNat, bPsn pkt.hdr.toNat)] ∧ { u with net := t.net } = t) ∧
    (∀ m sum, Arrives s on pkt 1 t p qpn → sum = beNat (pkt.payload.take 24) →
      pkt.payload.length = 24 + 8 * popCount 16 (bits sum 63 48) → bits sum 33 0 = 0 → judge (qp t qpn) pkt.hdr.toNat = .accept →
      (qp t qpn).type ≠ 3 → (qp t qpn).rx = [m] → m.msg = bMsg pkt.hdr.toNat → m.cmd = none → Tbl.has t.net.qps qpn = true →
      ∃ u m', (qp u qpn).rx = [m'] ∧ m' = { m with lastAt := ns t } ∧ { u with net := t.net } = t ∧
        (missing m (tailEntries pkt.payload) = [] → m.bytes = bits sum 191 128 →
          exec (.commitPacket on pkt) s = .next (settle (rxCommit u on p qpn pkt.hdr.toNat sum m'))) ∧
        (missing m (tailEntries pkt.payload) ≠ [] ∨ m.bytes ≠ bits sum 191 128 →
          exec (.commitPacket on pkt) s = .next (settle (sendNak u on p pkt.hdr.toNat 0 (missing m (tailEntries pkt.payload)))))) ∧
    (∀ m a sel data h, (qp t qpn).rx = [m] → m.placed = [(.rick a sel, data)] → m.cmd = none → Tbl.has t.net.qps qpn = true →
      placesOpen t p [(.rick a sel, data.length)] = true → bit h 46 = false → bit h 47 = false →
      ∃ u, rxCommit t on p qpn pkt.hdr.toNat h m = drainCheck (sendBack u on qpn 10 pkt.hdr.toNat 0 []) qpn ∧ (qp u qpn).rx = [] ∧
        m.msg ∈ (qp u qpn).committed ∧ u.rick = (putPlace t p (.rick a sel) data).rick) ∧
    (Arrives s on pkt 0 t p qpn → bMsg pkt.hdr.toNat ∈ (qp t qpn).committed → bCommit pkt.hdr.toNat = false →
      exec (.dataPacket on pkt) s = .next (settle (bump t p 0x53 6 1))) ∧
    (Arrives s on pkt 4 t p qpn → pkt.payload.length = 16 → bits (beNat pkt.payload) 47 0 = 0 → txMsg t qpn (bMsg pkt.hdr.toNat) true = none →
      t.cmd.heldReads = [] → 0 < bits (beNat pkt.payload) 127 64 → bits (beNat pkt.payload) 127 64 ≤ 2 ^ 32 →
      exec (.readReq on pkt) s = .next (settle (beginInner t p (.readReq on pkt)))) ∧
    (Arrives s on pkt 6 t p qpn →
      (∀ x, (qp t qpn).kept.find? (fun e => e.1 = bMsg pkt.hdr.toNat) = some x →
        exec (.atomicReq on pkt) s = .next (settle (sendBack t on qpn 7 pkt.hdr.toNat 0 x.2))) ∧
      ((qp t qpn).kept = [] → t.cmd.heldReads = [] → pkt.payload ≠ [] → pkt.payload.length % 32 = 0 → pkt.payload.length ≤ 2048 →
        exec (.atomicReq on pkt) s = .next (settle (beginInner t p (.atomicReq on pkt))))) ∧
    (Arrives s on pkt 8 t p qpn → t.cmd.heldReads = [] → txMsg t qpn (bMsg pkt.hdr.toNat) true = none →
      (rxMsg (qp t qpn) (bMsg pkt.hdr.toNat) false = none →
        exec (.abort on pkt) s = .next (settle (drainCheck (sendBack t on qpn 9 pkt.hdr.toNat 0 []) qpn))) ∧
      (∀ m, (qp t qpn).rx = [m] → m.msg = bMsg pkt.hdr.toNat → m.cmd = none → Tbl.has t.net.qps qpn = true →
        ∃ u, exec (.abort on pkt) s = .next (settle (drainCheck (sendBack u on qpn 9 pkt.hdr.toNat 0 []) qpn)) ∧
          (qp u qpn).rx = [{ m with aborted := true }] ∧ u.rick = t.rick)) ∧
    (Arrives s on pkt 11 t p qpn → exec (.abandon on pkt) s = .next (settle (releaseRx t qpn (bMsg pkt.hdr.toNat)))) ∧
    (∀ key g n x, Arrives s on pkt 12 t p qpn → x = beNat pkt.payload → pkt.payload.length = 8 → bits x 59 32 = 0 →
      (qp t qpn).group = some key → groupOf t qpn = some g → recoverInst g (bAddr pkt.hdr.toNat) = some n → (∃ i ∈ g.insts, i.num = n) →
      limitOf t qpn (key, n) (bits x 63 60) < bits x 31 0 →
      ∃ u, exec (.grant on pkt) s = .next (settle (pump u qpn)) ∧ limitOf u qpn (key, n) (bits x 63 60) = bits x 31 0 ∧
        { u with sheaf := t.sheaf } = t)

/-- Timers of the transport. A command whose ATOMIC_RESP or whose READ's commit does not come ends with 0x0607 or 0x0606; a kept response, a
MSG quarantine and the interval of an ACK end; an inbound message without packets is discarded, its bytes released, with 0x060C; a QP whose
retransmit timer expires sends again and waits longer, and at RETRY_LIMIT it enters ERROR and its messages end with 0x0605. -/
def Sys2Proof.TransportTimersExpire : Prop :=
  ∀ (s : State) (id : Nat) (qpn : BitVec 24) (msg : BitVec 12) (q : Qp), 2 ≤ s.sys.boot → 
    (∀ m, s.net.qps = [(qpn.toNat, q)] → q.tx = [m] → m.kind = 6 → m.cmd = some id → m.aborting = false →
      exec (.atomicTimeout id) s = .next (settle (messageFailed s qpn.toNat m 0x0607))) ∧
    (∀ m c code, m.cmd = some id → cmdOf s id = some c → c.killWaits = false → messageFailed s qpn.toNat m code =
      failCmd (endMsg s qpn.toNat m.msg (m.kind = 5)) id code) ∧
    (∀ m, s.net.qps = [(qpn.toNat, q)] → q.tx = [m] → m.kind = 4 → m.cmd = some id → m.aborting = false →
      exec (.readTimeout id) s = .next (settle (failCmd s id 0x0606))) ∧
    (∀ (path : Fin 16) pa, Tbl.find s.net.qps qpn.toNat = some q → q.paths[path.val]? = some pa → 0 < pa.sinceAck → q.st = 2 →
      exec (.ackIntervalExpiry qpn path) s = .next (settle (ackPath s qpn.toNat path.val))) ∧
    (Tbl.find s.net.qps qpn.toNat = some q →
      (exec (.atomicResponseExpiry qpn msg) s = .next (settle (updQp s qpn.toNat (fun q => { q with
        kept := q.kept.filter (fun e => e.1 ≠ msg.toNat) })))) ∧
      (exec (.msgQuarantineEnd qpn msg) s = .next (settle (updQp s qpn.toNat (fun q => { q with
        quar := q.quar.filter (fun k => k ≠ msg.toNat), readDone := q.readDone.filter (fun k => k ≠ msg.toNat) })))) ∧
      (∀ m, rxMsg q msg.toNat false = some m →
        exec (.orphaned qpn msg) s = .next (settle (logPad (bump (releaseRx s qpn.toNat msg.toNat) (qpPad qpn.toNat) 0x53 9 1)
          (qpPad qpn.toNat) 0x060C 0 [qpn.toNat, msg.toNat])) ∧ rxMsg (qp (releaseRx s qpn.toNat msg.toNat) qpn.toNat) msg.toNat false = none) ∧
      (retxRuns q = true → q.st = 2 ∨ q.st = 4 → getO s 0x1600 4 ≤ q.expiries + 1 →
        exec (.retxTimerExpiry qpn) s = .next (settle (qpError s qpn.toNat 0x0605))) ∧
      (retxRuns q = true → q.st = 2 ∨ q.st = 4 → q.expiries + 1 < getO s 0x1600 4 →
        ∃ u y, exec (.retxTimerExpiry qpn) s = .next (settle u) ∧ Tbl.find u.net.qps qpn.toNat = some y ∧ y.expiries = q.expiries + 1 ∧
          y.rto = min (2 * q.rto) (getO s 0x1600 3 : Nat) ∧ y.st = q.st ∧ (∀ pa ∈ y.paths, (getO s 0x1600 0x0B : Nat) ≤ pa.rate) ∧
          u.cmd = s.cmd))

/-- An inbound packet whose TAG equals no TENANT_TAG of the device is dropped and counted in FABRIC_DROPPED_UNMATCHED, whatever its type. -/
def Obligations.UnmatchedTagIsDroppedAndCounted : Prop :=
  ∀ (s : State) (l : Fin 68) (pkt : Packet) (i : Instr), 2 ≤ s.sys.boot → islandOut s (portIsland (some l)) = false → trnOut s = false →
    forOther s pkt = false → padByTag s (bTag pkt.hdr.toNat) = none →
    i ∈ [Instr.dataPacket (some l) pkt, .commitPacket (some l) pkt, .ackPacket (some l) pkt, .nakPacket (some l) pkt,
      .readReq (some l) pkt, .readResp (some l) pkt, .atomicReq (some l) pkt, .atomicResp (some l) pkt, .abort (some l) pkt,
      .abortAck (some l) pkt, .commitAck (some l) pkt, .abandon (some l) pkt, .grant (some l) pkt] →
    exec i s = .next (settle (addO s 0x1600 0x11 1 64))

/-- Replies and timers of the transport.
Choices of the model behind it: logs 21, 85. -/
def Obligations.RepliesAndTimersEndMessages : Prop := RepliesEndMessages ∧ TransportTimersExpire

/-! ### Links, time and swathes -/

/-- The transitions of a link. Signal takes it from DOWN to TRAINING, lock to INIT with INIT sent, INIT from the partner to UP with its
sequence counters started again and its partner's node identifier held; the timeouts of TRAINING, INIT and RETRAIN and a loss of signal take
it to DOWN with its replay buffer discarded; a cause of retraining takes an UP link to RETRAIN and keeps the buffer, and lock takes it back.
RETRAIN_REBIND moves its paths to other links. LINK_RETRAIN is answered at once.
Choices of the model behind it: logs 13, 22, 85. -/
def Obligations.LinksFollowTheirTransitions : Prop :=
  ∀ (s : State) (l : Fin 68), 2 ≤ s.sys.boot →
    ((link s l.val).st = .down → s.pow.st < 2 → islandOut s (lnkIsland l.val) = false →
      exec (.signalDetected l) s = .next (settle (setLState s l.val .training))) ∧
    ((link s l.val).st = .training →
      exec (.trainingDone l) s = .next (settle (setLState (sendBare s l.val (2 ^ 120 + nodeId s % 2 ^ 13 * 2 ^ 107)) l.val .init)) ∧
      exec (.trainingTimeout l) s = .next (settle (toDown s l.val))) ∧
    (∀ ctl : BitVec 128, (link s l.val).st = .init → bits ctl.toNat 127 120 = 1 → bits ctl.toNat 106 0 = 0 →
      ∃ u, exec (.initFrame l ctl) s = .next (settle u) ∧ (l.val < 64 ∨ s.pair.st ≠ 3 → (link u l.val).st = .up ∧
        (link u l.val).rx = none ∧ (link u l.val).partner = bits ctl.toNat 119 107 ∧ (∀ k, k ≠ l.val → link u k = link s k))) ∧
    ((link s l.val).st = .init → exec (.initTimeout l) s = .next (settle (toDown s l.val))) ∧
    ((link s l.val).st = .up → (link s l.val).replay ≠ [] → exec (.ackWindowExpiry l) s = .next (settle (toRetrain s l.val 1))) ∧
    ((link s l.val).replay = [] → exec (.ackWindowExpiry l) s = .next (settle s)) ∧
    (∀ ctl : BitVec 128, bits ctl.toNat 127 120 = 5 → bits ctl.toNat 111 0 = 0 →
      exec (.retrainReq l ctl) s = .next (settle (toRetrain s l.val 4))) ∧
    (∀ (via : Path) (tag : Tag) (v : BitVec 8), ManagerAsks s via → v.toNat < 64 →
      Answers (.linkRetrain via tag v) s (toRetrain s v.toNat 5) via (writeReq tag 0x1700 0x12 1) 1 0) ∧
    (∀ cause, (link s l.val).st = .up → (link (toRetrain s l.val cause) l.val).st = .retrain ∧
      (l.val < 64 → (link (toRetrain s l.val cause) l.val).replay = (link s l.val).replay ∧
        Tbl.get (toRetrain s l.val cause).ev.occurs (512 + l.val) = (Tbl.get s.ev.occurs (512 + l.val) + 1) % 65536)) ∧
    (∀ cause, (link s l.val).st ≠ .up → toRetrain s l.val cause = s) ∧
    ((link s l.val).st = .retrain → s.pow.st ≠ 2 →
      (∃ u, exec (.retrainLock l) s = .next (settle u) ∧ (l.val < 64 ∨ s.pair.st ≠ 3 → (link u l.val).st = .up ∧
        (link u l.val).rebound = false)) ∧
      exec (.retrainTimeout l) s = .next (settle (toDown s l.val))) ∧
    ((link s l.val).st = .retrain → exec (.retrainRebind l) s =
      .next (settle (rebind (updLink s l.val (fun k => { k with rebound := true })) l.val))) ∧
    ((link s l.val).st = .up → exec (.lossOfSignal l) s = .next (settle (toDown s l.val))) ∧
    (s.net.qps = [] → (link (toDown s l.val) l.val).st = .down ∧ (link (toDown s l.val) l.val).replay = [] ∧
      (link (toDown s l.val) l.val).waiting = [])

/-- Frames of a link that is UP. A DATA, CREDIT or POOL_MAP frame is accepted when it is intact and carries the SEQ after the last one
accepted; a broken one or another SEQ is discarded and answered by one NAK with the last good SEQ. A DATA frame beyond its pool's credits
sends the link to RETRAIN; CREDIT adds or sets credits; POOL_MAP binds or unbinds a pool; LINK_ACK frees frames; LINK_NAK replays the rest,
and the eighth replay of a frame retrains; THROTTLE sets and clears classes until it expires; a key switch makes the next key current.
Choices of the model behind it: logs 23, 42, 85. -/
def Obligations.LinkFramesAreTakenInOrder : Prop :=
  ∀ (s : State) (l : Fin 68), 2 ≤ s.sys.boot → (link s l.val).st = .up →
    (∀ (h : BitVec 64) (data : Bytes), frameOk h.toNat 1 data.length = true → bit h.toNat 17 = false →
      bits h.toNat 49 34 = (match (link s l.val).rx with | some r => (r + 1) % 65536 | none => 0) →
      (ceilDiv (12 + data.length) 256 ≤ ownCredits (link s l.val) (bits h.toNat 56 50) (bits h.toNat 59 57) →
        ∃ u, exec (.dataFrame l h data true) s = .next (settle u) ∧ (link u l.val).rx = some (bits h.toNat 49 34) ∧
          (link u l.val).st = .up ∧ (link u l.val).nakked = false) ∧
      (ownCredits (link s l.val) (bits h.toNat 56 50) (bits h.toNat 59 57) < ceilDiv (12 + data.length) 256 →
        ∃ v, exec (.dataFrame l h data true) s = .next (settle (toRetrain v l.val 3)) ∧ (link v l.val).rx = some (bits h.toNat 49 34) ∧
          (link v l.val).st = .up)) ∧
    (∀ (h : BitVec 64) (data : Bytes) (ok : Bool), ok = false ∨ (bit h.toNat 17 = false ∧
        bits h.toNat 49 34 ≠ (match (link s l.val).rx with | some r => (r + 1) % 65536 | none => 0)) →
      ((link s l.val).nakked = true → exec (.dataFrame l h data ok) s = .next (settle s)) ∧
      ((link s l.val).nakked = false → exec (.dataFrame l h data ok) s = .next (settle (sendBare
        (updLink s l.val (fun k => { k with nakked := true })) l.val (nakCtl ((link s l.val).rx.getD 65535)))))) ∧
    (∀ (h : BitVec 64) (ctl : BitVec 128), frameOk h.toNat 2 16 = true → bit h.toNat 17 = false →
      bits h.toNat 49 34 = (match (link s l.val).rx with | some r => (r + 1) % 65536 | none => 0) →
      (bits ctl.toNat 127 120 = 2 → bits ctl.toNat 92 0 = 0 → (link s l.val).waiting = [] →
        ∃ u, exec (.credit l h ctl) s = .next (settle u) ∧ (link u l.val).rx = some (bits h.toNat 49 34) ∧
          creditHeld (link u l.val) (bits ctl.toNat 116 110) (bits ctl.toNat 119 117) = (if bit ctl.toNat 93 then bits ctl.toNat 109 94
            else creditHeld (link s l.val) (bits ctl.toNat 116 110) (bits ctl.toNat 119 117) + bits ctl.toNat 109 94) ∧
          (∀ pool vc, (pool, vc) ≠ (bits ctl.toNat 116 110, bits ctl.toNat 119 117) →
            creditHeld (link u l.val) pool vc = creditHeld (link s l.val) pool vc) ∧ { u with net := s.net, out := s.out } = s) ∧
      (bits ctl.toNat 127 120 = 4 → bits ctl.toNat 95 0 = 0 →
        ∃ u, exec (.poolMap l h ctl) s = .next (settle u) ∧ (link u l.val).rx = some (bits h.toNat 49 34) ∧
          (link u l.val).map = (link s l.val).map.filter (fun e => e.1 ≠ bits ctl.toNat 119 113) ++
            (if bit ctl.toNat 96 then [(bits ctl.toNat 119 113, bits ctl.toNat 112 97)] else []) ∧ { u with net := s.net, out := s.out } = s)) ∧
    (∀ h : BitVec 64, frameOk h.toNat 2 16 = true → bit h.toNat 17 = true →
      exec (.linkAck l h) s = .next (settle (freeFrames s l.val (bits h.toNat 33 18)))) ∧
    (∀ n, (link s l.val).waiting = [] → (link (freeFrames s l.val n) l.val).replay =
      (link s l.val).replay.filter (fun e => 32768 ≤ (n + 65536 - e.1) % 65536)) ∧
    (∀ ctl : BitVec 128, bits ctl.toNat 127 120 = 3 → bits ctl.toNat 103 0 = 0 → (link s l.val).waiting = [] →
      ((∀ e ∈ (link s l.val).replay, e.2.2.2.2 < 7) →
        ∃ u, exec (.linkNak l ctl) s = .next (settle u) ∧ (link u l.val).replay = ((link s l.val).replay.filter
          (fun e => 32768 ≤ (bits ctl.toNat 119 104 + 65536 - e.1) % 65536)).map (fun e => (e.1, e.2.1, e.2.2.1, e.2.2.2.1, e.2.2.2.2 + 1)) ∧
          u.out.length = s.out.length + (link u l.val).replay.length ∧ u.pads = s.pads) ∧
      ((∃ e ∈ (link s l.val).replay, 32768 ≤ (bits ctl.toNat 119 104 + 65536 - e.1) % 65536 ∧ 7 ≤ e.2.2.2.2) →
        exec (.linkNak l ctl) s = .next (settle (toRetrain (freeFrames s l.val (bits ctl.toNat 119 104)) l.val 2)))) ∧
    (∀ ctl : BitVec 128, bits ctl.toNat 127 120 = 7 → bits ctl.toNat 112 0 = 0 → (link s l.val).partner = 0x1FFF →
      (bit ctl.toNat 119 = false → exec (.throttle l ctl) s = .next (settle (updLink s l.val (fun k => { k with
        throttled := less k.throttled (bits ctl.toNat 118 113) })))) ∧
      (bit ctl.toNat 119 = true → ∃ u, exec (.throttle l ctl) s = .next (settle u) ∧
        link u l.val = { link s l.val with throttled := join (link s l.val).throttled (bits ctl.toNat 118 113) } ∧
        u.cmd = s.cmd ∧ u.rick = s.rick)) ∧
    (exec (.throttleExpiry l) s = .next (settle (updLink s l.val (fun k => { k with throttled := 0 })))) ∧
    (∀ (tag : BitVec 16) v t, (Tbl.get s.net.linkKeys tag.toNat).next = some (v, t) → Tbl.has s.net.linkKeys tag.toNat = true →
      ∃ u, exec (.linkKeySwitch (some tag)) s = .next (settle u) ∧ { u with net := s.net } = s ∧
        Tbl.get u.net.linkKeys tag.toNat = { cur := some v, next := none, old := (Tbl.get s.net.linkKeys tag.toNat).cur.map (fun c => (c, t)) } ∧
        (∀ k, k ≠ tag.toNat → Tbl.get u.net.linkKeys k = Tbl.get s.net.linkKeys k)) ∧
    (exec (.linkKeySwitch none) s = .next (settle { s with ftm.key := switchKey s.ftm.key }))

/-- Fabric time and the swathe schedule. A good REQ is answered, a good RESP adds a sample, and the first one from a candidate starts the
acquisition; an interval that misses its parent the fourth time leaves HOLDOVER or UNSYNC; the eighth good interval leaves SYNC and lets
injection resume; HOLDOVER's limit ends in UNSYNC without injection; TIME_SET sets the grandmaster's time and is refused with 0x0705
elsewhere. SWATHE_APPLY stages a table that passes its checks, SWATHE_CANCEL drops it, at SWATHE_SWITCH it is the active one; at a cycle
boundary injection may resume; a TX swathe opens and its injection ends.
Choices of the model behind it: logs 8, 40. -/
def Obligations.TimeAndSwathes : Prop :=
  ∀ (s : State) (l : Fin 68) (pkt : Packet), 2 ≤ s.sys.boot →
    (timeOk s l.val 1 pkt = (s, true) → exec (.timeReq l pkt) s = .next (settle (sendTime s l.val (bSrc pkt.hdr.toNat) 2
      (timeBody pkt.payload).seq (timeBody pkt.payload).tSend (ofSigned 80 ((now80 s : Int) - (timeBody pkt.payload).corr))))) ∧
    ((link s l.val).st = .up → keyOpens s s.ftm.key pkt = false →
      exec (.timeReq l pkt) s = .next (settle (logDev s 0x0706 0 [l.val, bSrc pkt.hdr.toNat])) ∧
      exec (.timeResp l pkt) s = .next (settle (logDev s 0x0706 0 [l.val, bSrc pkt.hdr.toNat]))) ∧
    (∀ old, timeOk s l.val 2 pkt = (s, true) → old = Tbl.get s.ftm.peers (bSrc pkt.hdr.toNat) → bSrc pkt.hdr.toNat ∈ timePeers s →
      (timeBody pkt.payload).seq = old.seq → (timeBody pkt.payload).tEcho = old.t1 →
      ∃ u x, exec (.timeResp l pkt) s = .next (settle u) ∧ Tbl.get u.ftm.peers (bSrc pkt.hdr.toNat) = x ∧ x.fresh = true ∧
        (∃ smp, x.samples = (smp :: old.samples).take 8) ∧ x.st = (timeBody pkt.payload).st ∧ x.stratum = (timeBody pkt.payload).stratum ∧
        (s.ftm.st = 0 → candidate x = true → u.ftm.st = 1 ∧ u.ftm.parent = bSrc pkt.hdr.toNat ∧ u.ftm.good = 0) ∧
        (s.ftm.st ≠ 0 → u.ftm.st = s.ftm.st) ∧ u.ftm.time = s.ftm.time ∧ u.cmd = s.cmd ∧ u.pads = s.pads) ∧
    (∃ v, exec .timeIntervalTick s = .next (settle (sendReqs v)) ∧
      (s.ftm.st = 0 ∨ s.ftm.st = 4 → { v with ftm.peers := s.ftm.peers } = s) ∧
      (s.ftm.st = 2 → bestParent s = none → s.ftm.misses = 3 → v.ftm.st = 3 ∧ v.ftm.time = s.ftm.time) ∧
      (s.ftm.st = 1 → bestParent s = none → s.ftm.misses = 3 → v.ftm.st = 0) ∧
      (s.ftm.st = 2 → bestParent s = none → s.ftm.misses < 3 → v.ftm.st = 2 ∧ v.ftm.misses = s.ftm.misses + 1 ∧ v.ftm.good = 0 ∧ v.ftm.slew = 0) ∧
      (∀ n d o, s.ftm.st = 1 → bestParent s = some n → (Tbl.get s.ftm.peers n).fresh = true → (Tbl.get s.ftm.peers n).samples = [(d, o)] →
        o.natAbs ≤ 10 * 2 ^ 17 → (Tbl.get s.ftm.peers n).u + getO s 0x1700 0x0E ≤ guardNs s * 8 → s.ftm.good = 7 →
        v.ftm.st = 2 ∧ v.sw.resumeAt = true ∧ v.ftm.stratum = (Tbl.get s.ftm.peers n).stratum + 1 ∧ v.ftm.parent = n)) ∧
    (s.ftm.st = 3 → ∃ u, exec .holdoverExpired s = .next (settle u) ∧ u.ftm.st = 0 ∧ u.sw.injecting = false) ∧
    (∀ (via : Path) (tag : Tag) (v : BitVec 64), ManagerAsks s via →
      (s.ftm.st ≠ 4 → Answers (.timeSet via tag v) s s via (writeReq tag 0x1700 0x0D 8) 8 0x0705) ∧
      (s.ftm.st = 4 → ∃ u, Answers (.timeSet via tag v) s u via (writeReq tag 0x1700 0x0D 8) 8 0 ∧ u.ftm.time = v.toNat * 2 ^ 40 ∧
        Tbl.get u.ev.occurs 707 = (Tbl.get s.ev.occurs 707 + 1) % 65536)) ∧
    (∀ (via : Path) (tag : Tag) (f : Facts), ManagerAsks s via →
      (∀ t, swatheCheck s (stagedSwathe s) f = .ok t → Answers (.swatheApply via tag f) s (fire { s with sw.shadow := some t } 709) via
        (writeReq tag 0x1700 0x14 1) 1 0) ∧
      (∀ e, swatheCheck s (stagedSwathe s) f = .error e → (e = 0x0707 ∨ e = 0x0708) ∧
        Answers (.swatheApply via tag f) s s via (writeReq tag 0x1700 0x14 1) 1 e) ∧
      Answers (.swatheCancel via tag) s { s with sw.shadow := none } via (writeReq tag 0x1700 0x15 1) 1 0) ∧
    (∀ t, s.sw.shadow = some t → ∃ u, exec .swatheSwitch s = .next (settle u) ∧ u.sw.active = some t ∧ u.sw.shadow = none ∧
      u.sw.openSwathes = [] ∧ u.sw.injecting = synced s ∧ u.rick = s.rick) ∧
    (∀ t, s.sw.active = some t →
      (∃ u, exec .cycleBoundary s = .next (settle u) ∧ u.sw.injecting = (s.sw.injecting || (s.sw.resumeAt && synced s)) ∧
        u.sw.openSwathes = [] ∧ u.sw.intruders = [] ∧ { u with sw := s.sw } = s) ∧
      (∀ e, bits (t.entries.getD e 0) 127 126 = 1 → s.sw.injecting = true → e ∉ s.sw.openSwathes →
        ∃ u, exec (.swatheOpen e) s = .next (settle u) ∧ u.sw.openSwathes = e :: s.sw.openSwathes ∧
          (∀ k, k ≠ bits (t.entries.getD e 0) 125 120 → link u k = link s k)) ∧
      (∀ e, exec (.swatheInjectionEnd e) s = .next (settle { s with sw.openSwathes := s.sw.openSwathes.filter (fun k => k ≠ e) })))

/-! ### The Sward and the Sheaf -/

/-- Programs and tussocks. SWARD_RUN whose program and ranges resolve opens tiles from the first; a finished tile step meters its tussock, counts the scratch
errors corrected in it and computes its tile, and the last one of the last instruction brings the command to its commit with its tiles as effect; a checkpoint keeps
what is open before the kill goes on; a scratch error that no command suffers is logged and the third in a day retires the tussock; SELFTEST
takes a free or retired tussock, and its result brings it back or retires it.
Choices of the model behind it: logs 14, 25, 43, 44, 46. -/
def Obligations.SwardRunsPrograms : Prop :=
  ∀ (s : State),
    (∀ (s1 v1 v2 v3 v4 : State) (id : Nat) (c k : Cmd) (hb b : Bytes) (n : Nat) (p : Program), Works s id c 0x50 →
      s1 = updCmd s id (fun c => { c with phase := .started }) → k = { c with phase := .started } → c.run = none → s.pow.brake = none →
      dArg c.desc 4 = 0 → dArg c.desc 5 = 0 → noTussock s1 c.p = 0 → dArg c.desc 0 % 64 = 0 → dArg c.desc 1 % 4096 = 0 →
      gather s1 id c.p (dArg c.desc 0) 64 = (v1, .bytes hb) → programBody (beNat hb) = some n →
      gather v1 id c.p (dArg c.desc 0 + 64) n = (v2, .bytes b) → p = programOf (beNat hb) b → programStatus p = 0 →
      dArg c.desc 1 = 0 ∨ ckptNeed v2 c.p p ≤ dArg c.desc 2 →
      (∀ f, withDests v2 id k ((p.ins.map (instrWrites p)).flatten) f = f v3) →
      (∀ f, withRanges v3 id k ((p.ins.map (instrReads p)).flatten) f = f v4) →
      exec (.swardRun id) s = .next (settle (startRun (wakeArray v4) id k p)) ∧
      (c.reruns = 0 → startRun (wakeArray v4) id k p =
        openTiles id p (popCount 64 (usable (wakeArray v4) c.p) + 1) (updCmd (wakeArray v4) id (fun c => { c with run := some {} })))) ∧
    (∀ (k : Fin 64) (id : Nat) (corrected : List (BitVec 32)) (c : Cmd) (r : Run) tile k0 kn (p : Program) x, 2 ≤ s.sys.boot → cmdOf s id = some c → c.run = some r →
      r.opened.find? (fun o => o.2.2.2 = k.val) = some (tile, k0, kn, k.val) → k.val ∉ r.boundary → islandOut s (15 + k.val / 8) = false →
      c.killWaits = false → p = runProgram s c → x = p.ins.getD r.instr 0 →
      (iOp x = 2 ∨ oCols (p.ops.getD (iA x) 0) ≤ kn + (spanOf p x).1 →
        ∃ u, exec (.tileStepDone k id corrected) s = .next (settle (nextInstr (computeTile u id p x tile) id p)) ∧
          (cmdOf u id).bind (·.run) = some { r with opened := r.opened.filter (fun o => o.2.2.2 ≠ k.val) } ∧ u.rick = s.rick ∧
          (getO s 0x1800 6 + corrected.length < 2 ^ 64 → getO u 0x1800 6 = getO s 0x1800 6 + corrected.length)) ∧
      (iOp x ≠ 2 → kn + (spanOf p x).1 < oCols (p.ops.getD (iA x) 0) →
        ∃ u, exec (.tileStepDone k id corrected) s = .next (settle u) ∧ (cmdOf u id).bind (·.run) = some { r with
          opened := r.opened.map (fun o => if o.2.2.2 = k.val then (tile, k0, kn + (spanOf p x).1, k.val) else o) } ∧ u.rick = s.rick)) ∧
    (∀ (id : Nat) (c : Cmd) (r : Run) (p : Program), cmdOf s id = some c → c.run = some r → r.opened = [] →
      (tileGrid p (p.ins.getD r.instr 0)).1 * (tileGrid p (p.ins.getD r.instr 0)).2 ≤ r.tile → p.ins.length ≤ r.instr + 1 →
      nextInstr s id p = conclude s id c c.effects (swardResult 0 r.resumes r.status)) ∧
    (∀ (id : Nat) (c : Cmd) (r : Run) x slot pls, 2 ≤ s.sys.boot → cmdOf s id = some c → c.run = some r → c.killWaits = true → r.stop = true →
      (∀ o ∈ r.opened, o.2.2.2 ∈ r.boundary) → ctxOf s c.p c.ctx = some x →
      (List.range 64).find? (fun n => !x.ckpts.any (fun k => k.slot = n)) = some slot →
      accessAll s c.p (dArg c.desc 1) (ckptArea s c (runProgram s c) r).length true = .ok pls →
      ∃ u y k, exec (.checkpointWritten id) s = .next (settle (endDeferredKill u id)) ∧ ctxOf u c.p c.ctx = some y ∧ y.ckpts = x.ckpts ++ [k] ∧
        k.cmdId = dId c.desc ∧ k.entry = c.entry ∧ k.queue = c.q ∧ k.instr = r.instr ∧ k.tile = r.tile ∧ k.slot = slot ∧
        k.opened = r.opened.map (fun o => (o.1, o.2.1, o.2.2.1)) ∧ k.status = r.status ∧ k.resumes = r.resumes ∧ u.cmd = s.cmd) ∧
    (∀ k : Fin 64, 2 ≤ s.sys.boot → (∀ e ∈ s.cmd.live, e.2.run = none) →
      ∃ u, exec (.scratchUncorrectable k) s = .next (settle u) ∧ u.cmd = s.cmd ∧ u.rick = s.rick ∧
        ((s.sward.scratchErrs.filter (fun e => e.1 = k.val ∧ s.sys.uptime < e.2 + 86400 * 10 ^ 9)).length < 2 →
          u.sward.tussockRetired = s.sward.tussockRetired) ∧
        (2 ≤ (s.sward.scratchErrs.filter (fun e => e.1 = k.val ∧ s.sys.uptime < e.2 + 86400 * 10 ^ 9)).length →
          bit u.sward.tussockRetired k.val = true)) ∧
    (∀ (via : Path) (tag : Tag) (v : BitVec 8), ManagerAsks s via → v.toNat < 64 →
      (bit (freeTussocks s) v.toNat = true ∨ (bit s.sward.tussockRetired v.toNat = true ∧ v.toNat ∉ s.sward.selftest) →
        Answers (.selftest via tag v) s { s with sward.selftest := s.sward.selftest ++ [v.toNat] } via (writeReq tag 0x1800 3 1) 1 0) ∧
      (bit (freeTussocks s) v.toNat = false → bit s.sward.tussockRetired v.toNat = false →
        Answers (.selftest via tag v) s s via (writeReq tag 0x1800 3 1) 1 0x080B)) ∧
    (∀ k : Fin 64, 2 ≤ s.sys.boot → k.val ∈ s.sward.selftest →
      ∃ u, exec (.selftestDone k true) s = .next (settle u) ∧ u.sward.selftest = s.sward.selftest.filter (fun x => x ≠ k.val) ∧
        bit u.sward.tussockRetired k.val = false ∧
        ∃ v, exec (.selftestDone k false) s = .next (settle v) ∧ bit v.sward.tussockRetired k.val = true ∧
          v.sward.selftest = s.sward.selftest.filter (fun x => x ≠ k.val))

/-- Transform commands, once their operands pass and their ranges resolve, s1 being the state in which the command has started. XWRITE sends
the transformed rows as one message, XCOPY and MOE_COMBINE reach their commit with their rows as effect, MOE_DISPATCH reaches it where every
expert is local, and else sends to its experts and waits for as many messages; ROSTER_STEP gives its instance the partials of its pages.
Choices of the model behind it: logs 14, 49, 50. -/
def Obligations.TransformCommandsSendOrCommit : Prop :=
  ∀ (s s1 v : State) (id : Nat) (c k : Cmd), s1 = updCmd s id (fun c => { c with phase := .started }) → k = { c with phase := .started } →
    s.pow.brake = none →
    (∀ v2 v3 slot b w, Works s id c 0x51 → c.msgs = [] → slot = c.slot.getD 0 → dArg c.desc 3 < 2 ^ 28 → dArg c.desc 4 < 2 ^ 33 →
      dArg c.desc 5 = 0 → noTussock s1 c.p = 0 → slValid slot = true → slotBad slot = false → 0 < dArg c.desc 1 → dArg c.desc 1 ≤ 262144 →
      xLength slot (dArg c.desc 1) = 0 → qpCmdStatus s1 c.p (bits (dArg c.desc 3) 23 0) = 0 →
      dArg c.desc 2 + dArg c.desc 1 / slInBytes slot * slOutBytes slot ≤ vaEnd → msgRoom (qp s1 (bits (dArg c.desc 3) 23 0)) = true →
      admitQp s1 (bits (dArg c.desc 3) 23 0) = some v → gather v id c.p (dArg c.desc 0) (dArg c.desc 1) = (v2, .bytes b) →
      (∀ f, withW v2 id k slot f = f v3 w) →
      ∃ u, exec (.xwrite id) s = .next (settle (openWrite u id k (bits (dArg c.desc 3) 23 0) (dArg c.desc 2)
          (rowsTransform (wakeArray v3) c.p slot 0 w b).2.1 (bits (dArg c.desc 4) 31 0) (bit (dArg c.desc 4) 32) false)) ∧
        u.net = v3.net ∧ u.rick = v3.rick) ∧
    (∀ v2 v3 slot b w pls, Works s id c 0x52 → c.acksDue = 0 → slot = c.slot.getD 0 → dArg c.desc 3 < 2 ^ 28 → dArg c.desc 3 % 2 ^ 24 = 0 →
      dArg c.desc 4 = 0 → dArg c.desc 5 = 0 → noTussock s1 c.p = 0 → slValid slot = true → slotBad slot = false → 0 < dArg c.desc 1 →
      dArg c.desc 1 ≤ 262144 → xLength slot (dArg c.desc 1) = 0 →
      (∀ f, withDest s1 id k (dArg c.desc 2) (dArg c.desc 1 / slInBytes slot * slOutBytes slot) f = f v pls) →
      gather (holdDest v id pls) id c.p (dArg c.desc 0) (dArg c.desc 1) = (v2, .bytes b) → (∀ f, withW v2 id k slot f = f v3 w) →
      ∃ u st, exec (.xcopy id) s = .next (settle (conclude u id k (writeEffects pls (rowsTransform (wakeArray v3) c.p slot 0 w b).2.1)
        (swardResult 0 0 st))) ∧ u.rick = v3.rick ∧ u.cmd = v3.cmd) ∧
    (∀ v2 v3 v4 v5 v6 v7 d rs x xb wb w g gp, Works s id c 0x58 → c.acksDue = 0 → c.effects = [] → (∀ f, withMoe s1 id k f = f v d rs) →
      moeSlot v id k d = (v2, x, 0) → gather v2 id c.p (moX d) (2 * moDim d * moTokens d) = (v3, .bytes xb) →
      gather v3 id c.p (moWg d) (2 * moDim d * moExperts d) = (v4, .bytes wb) → (∀ f, withW v4 id k (x.getD 0) f = f v5 w) →
      g = gating d (rs.map roCapacity) xb wb c.order → routeStatus v5 c.p rs g (moeRow d x) = 0 →
      (∀ f, withDest v5 id k (moGate d) (8 * moTokens d * moTop d) f = f v6 gp) →
      (∀ f, withDests (holdDest v6 id gp) id k (((rs.zipIdx.filter (fun r => !(tokensOf g r.2).isEmpty)).filter (fun r => bit r.1 103)).map
        (fun r => (roDest r.1, (tokensOf g r.2).length * moeRow d x))) f = f v7) →
      ∃ u es, (writeEffects gp g.records) <+: es ∧ u.net = v7.net ∧ u.rick = v7.rick ∧
        ((∀ r ∈ rs.zipIdx, tokensOf g r.2 ≠ [] → bit r.1 103 = true) →
          ∃ n, exec (.moeDispatch id) s = .next (settle (conclude u id k es n))) ∧
        ((∃ r ∈ rs.zipIdx, tokensOf g r.2 ≠ [] ∧ bit r.1 103 = false) →
          exec (.moeDispatch id) s = .next (settle (sendExperts u id d x w xb g
            ((rs.zipIdx.filter (fun r => !(tokensOf g r.2).isEmpty)).filter (fun r => !bit r.1 103)))))) ∧
    (∀ v2 v3 v4 d rs gb terms pls y, Works s id c 0x59 → c.acksDue = 0 → (∀ f, withMoe s1 id k f = f v d rs) →
      gather v id c.p (moGate d) (8 * moTokens d * moTop d) = (v2, .bytes gb) →
      terms = (List.range (moTokens d)).map (fun t => combineTerms (rs.map roCapacity)
        (numsOf 8 ((gb.drop (8 * moTop d * t)).take (8 * moTop d)))) →
      (∀ f, withDest v2 id k (moOut d) (packedBytes (moOf d) (moDim d) * moTokens d) f = f v3 pls) →
      (∀ f, withRanges (holdDest v3 id pls) id k (((terms.map (fun t => (t.getD []).map (·.2))).flatten).map
        (fun r => (moY d + 2 * moDim d * r, 2 * moDim d))) f = f v4) → cmdOf v4 id = some y →
      ∃ u bs st, exec (.moeCombine id) s = .next (settle (conclude u id y (writeEffects pls bs) (swardResult 0 0 st))) ∧ u.rick = v4.rick ∧
        u.cmd = v4.cmd) ∧
    (∀ t v2 v3 v4 gn n key g i rows b ls y, Works s id c 0x60 → c.inst = some (gn, n) → key = groupKey c.p gn →
      getPair s.sheaf.groups key = some g → g.insts.find? (fun i => i.num = n) = some i → i.src = none → i.rows = [] →
      bankBusy s1 id k = false → n < oldestInst g + 2 ^ 24 → noTussock s1 c.p = 0 → getP s1 c.p 0x60 6 ≠ 0 →
      gather s1 id c.p (getP s1 c.p 0x60 (4 + dArg c.desc 0)) (64 * getP s1 c.p 0x60 6) = (v, .bytes b) →
      rows = (numsOf 64 b).filter roActive → (∀ r ∈ rows, rowBad r = false) → t = updInst v key n (fun i => { i with rows := rows }) →
      (∀ f, withLists t id k rows [] f = f v2 ls) → (∀ e ∈ ls, ∀ x ∈ e.2, pageBad x = false) →
      (∀ f, withDests v2 id k (if g.self = 0 then rows.map (fun r => (roOut r, roQ r * packedBytes (roOf r) (roDim r))) else []) f = f v3) →
      (∀ f, withRanges v3 id k ((ls.map (fun e => (roQBase e.1, roQ e.1 * roDim e.1 * 2) ::
        e.2.map (fun x => (bits x 127 64, pageBytes e.1)))).flatten) f = f v4) → cmdOf v4 id = some y →
      ∃ u, exec (.rosterStep id) s = .next (settle (updInst u key n (fun i => { i with
          src := some (((allPartials v4 y ls).map Partial.bytes).flatten), cmd := some id }))) ∧ u.sheaf = v4.sheaf ∧ u.rick = v4.rick)

/-- Collectives. Each opcode gives its instance the bytes that its member contributes, once source and destination resolve; when every
message of the plan has come, the command reaches its commit with the result as its effect. GROUP_CREATE makes a group and a READY QP to each
other member; GROUP_DESTROY erases both, and is refused with 0x0909 while an instance is open; COLL_TIMEOUT ends a collective with 0x0905,
COLL_KILL_WAIT with 0x0904.
Choices of the model behind it: logs 14, 26, 47, 48, 53. -/
def Obligations.CollectivesContributeAndComplete : Prop :=
  ∀ (s s1 v w : State) (id : Nat) (c k : Cmd), s1 = updCmd s id (fun c => { c with phase := .started }) → k = { c with phase := .started } →
    (∀ gn n key g i x op src va len b, c.inst = some (gn, n) → key = groupKey c.p gn → getPair s.sheaf.groups key = some g →
      g.insts.find? (fun i => i.num = n) = some i → i.src = none → n < oldestInst g + 2 ^ 24 → Works s id c op →
      (x, op, src) ∈ [(Instr.allreduce id, 0x80, wholeSource g k), (.reduce id, 0x81, wholeSource g k),
        (.reduceScatter id, 0x82, wholeSource g k),
        (.allgather id, 0x83, some (dArg c.desc 0, (pieceRange (dArg c.desc 1) g.size g.self).2 - (pieceRange (dArg c.desc 1) g.size g.self).1)),
        (.broadcast id, 0x84, some (dArg c.desc 0, if g.self = cRoot c.desc then dArg c.desc 1 else 0))] →
      src = some (va, len) → 0 < len →
      (collDest g (workOf g c.desc n) c.desc = none ∧ v = s1) ∨
        (∃ d ks t pls, collDest g (workOf g c.desc n) c.desc = some (d, ks) ∧ 0 < (ks.map (workOf g c.desc n).pieceLen).foldl (· + ·) 0 * (workOf g c.desc n).outBytes ∧
          (∀ f, withDest s1 id k d ((ks.map (workOf g c.desc n).pieceLen).foldl (· + ·) 0 * (workOf g c.desc n).outBytes) f = f t pls) ∧
          v = holdDest t id pls) →
      gather v id c.p va len = (w, .bytes b) →
      exec x s = .next (settle (updInst w key n (fun i => { i with src := some b, cmd := some id })))) ∧
    (∀ gn n key g i, c.inst = some (gn, n) → key = groupKey c.p gn → getPair s.sheaf.groups key = some g →
      g.insts.find? (fun i => i.num = n) = some i → i.src = none → n < oldestInst g + 2 ^ 24 → Works s id c 0x85 →
      exec (.barrier id) s = .next (settle (updInst s1 key n (fun i => { i with src := some [0, 0, 0, 0], cmd := some id })))) ∧
    (∀ p g key x i sends rs va ks pls, collDest g x c.desc = some (va, ks) →
      (matched rs i (x.h.upStages + 2 * x.h.n + 8)).length = rs.length →
      accessAll s p va ((ks.map (resultOf x i g.self rs (x.h.upStages + 2 * x.h.n + 8))).flatten).length true = .ok pls →
      completeColl s p g key x i sends rs id c =
        conclude s id c (writeEffects pls ((ks.map (resultOf x i g.self rs (x.h.upStages + 2 * x.h.n + 8))).flatten)) 0) ∧
    (∀ hb eb g, Works s id c 0x90 → (∀ j, j < 5 → dArg c.desc (j + 1) = 0) → dArg c.desc 0 % 32 = 0 →
      gather s1 id c.p (dArg c.desc 0) 32 = (v, .bytes hb) → 0 < bits (beNat hb) 239 227 → bits (beNat hb) 239 227 ≤ 4096 →
      gather v id c.p (dArg c.desc 0 + 32) (8 * bits (beNat hb) 239 227) = (w, .bytes eb) →
      groupAsked w c.p (beNat hb) (numsOf 8 eb) = (g, 0) →
      ∃ u, exec (.groupCreate id) s = .next (settle (finish u id [] 0)) ∧ getPair u.sheaf.groups (groupKey c.p g.num) = some g ∧
        (∀ m, m < bits (beNat hb) 239 227 → m ≠ g.self → ∃ q, Tbl.find u.net.qps (groupQp c.p g m) = some q ∧ q.type = 3 ∧ q.st = 2 ∧
          q.group = some (groupKey c.p g.num) ∧ q.node = bits (g.members.getD m 0) 63 51) ∧ u.cmd = w.cmd ∧ u.pads = w.pads) ∧
    (∀ g, Works s id c 0x91 → dArg c.desc 0 < 64 → (∀ j, j < 5 → dArg c.desc (j + 1) = 0) →
      getPair s.sheaf.groups (groupKey c.p (dArg c.desc 0)) = some g →
      (g.insts = [] → ∃ u, exec (.groupDestroy id) s = .next (settle (finish u id [] 0)) ∧
        getPair u.sheaf.groups (groupKey c.p (dArg c.desc 0)) = none ∧
        (∀ e ∈ u.net.qps, e.2.group ≠ some (groupKey c.p (dArg c.desc 0))) ∧
        (∀ e ∈ s.net.qps, e.2.group ≠ some (groupKey c.p (dArg c.desc 0)) → e ∈ u.net.qps) ∧ u.pads = s.pads) ∧
      (g.insts ≠ [] → exec (.groupDestroy id) s = .next (settle (failCmd s1 id 0x0909)))) ∧
    (∀ gn n, 2 ≤ s.sys.boot → cmdOf s id = some c → c.inst = some (gn, n) → c.status = 0 → c.phase ≠ .ready →
      exec (.collTimeout id) s = .next (settle (failCmd (updInst s (groupKey c.p gn) n (fun i => if i.failed = 0 then { i with
        failed := 0x0905 } else i)) id 0x0905))) ∧
    (2 ≤ s.sys.boot → cmdOf s id = some c → c.killWaits = true → contributed s c = true →
      exec (.collKillWaitExpiry id) s = .next (settle (failCmd s id 0x0904)))

/-! ### The rick and its translation -/

/-- A byte is listed only in a line that was written under some key. -/
def Sys2Proof.LinesKeyed (s : State) : Prop := ∀ a, Tbl.find s.rick.lineKey (a / 64) = none → Mem.get s.rick.cells a = 0

/-- Stored bytes of the rick. A write under a key reads back under that key; every byte outside the range reads under the key as before, and
a line that the range does not touch reads under every key as before; the canonical form of the store, and that only written lines list
bytes, are kept; poison leaves exactly the lines that are covered whole. Zeroised lines read as zero under every key. -/
def Obligations.RickReadsBackWhatWasWritten : Prop :=
  Memory.wf State.reset.rick.cells = true ∧ LinesKeyed State.reset ∧
  ∀ (s : State), Memory.wf s.rick.cells = true → LinesKeyed s →
    (∀ (key a : Nat) (bs : Bytes),
      Memory.wf (rickWrite s key a bs).rick.cells = true ∧ LinesKeyed (rickWrite s key a bs) ∧
      rickRead (rickWrite s key a bs) key a bs.length = bs ∧
      (∀ c, c < a ∨ a + bs.length ≤ c → seen (rickWrite s key a bs) key c = seen s key c) ∧
      (∀ c k, c / 64 ∉ linesOf a bs.length → seen (rickWrite s key a bs) k c = seen s k c) ∧
      (∀ l, l ∈ (rickWrite s key a bs).rick.poisoned ↔ (l ∈ s.rick.poisoned ∧ ¬ (a ≤ 64 * l ∧ 64 * l + 64 ≤ a + bs.length ∧ bs ≠ [])))) ∧
    (∀ (a n : Nat), a % 64 = 0 → n % 64 = 0 →
      Memory.wf (rickZero s a n).rick.cells = true ∧ LinesKeyed (rickZero s a n) ∧
      (∀ c k, a ≤ c → c < a + n → seen (rickZero s a n) k c = 0) ∧
      (∀ c k, c < a ∨ a + n ≤ c → seen (rickZero s a n) k c = seen s k c) ∧
      (∀ l, l ∈ (rickZero s a n).rick.poisoned ↔ (l ∈ s.rick.poisoned ∧ ¬ (a ≤ 64 * l ∧ 64 * l < a + n))))

/-- Page tables. A PT_WRITE that fails a check writes no entry and is answered with the first failure; one that passes writes its entries, and
answers at once unless an entry was valid before: then it invalidates and answers at RANGE_INVALIDATION_DONE. PT_QUERY_RESULT answers a fresh
walk. A stale walk starts again, and one that ends loads its page. PREFETCH starts a walk, ADVISE and INVALIDATE act on cached translations,
and a batch of fault records is flushed.
Choices of the model behind it: log 55. -/
def Obligations.PageTablesAndTranslations : Prop :=
  ∀ (s : State) (p : PNum),
    (∀ (via : Path) (tag : Tag) (data : Bytes), ManagerAsks s via → 16 ≤ data.length → data.length ≤ 1024 → data.length % 16 = 0 →
      (ptWriteCheck s p.val data ≠ 0 → Answers (.ptWrite via tag p data) s s via (writeReq tag (pidx p.val 0x40) 3 data.length) data.length
        (ptWriteCheck s p.val data)) ∧
      ((pad s p.val).state = .empty ∨ (pad s p.val).state = .faulted → ptWriteCheck s p.val data = 0x0A0B) ∧
      (∀ e slot, ptWriteCheck s p.val data = 0 → ptEntries data = [e] → slotOf s p.val (ptVa e) (ptLevel e) = .ok slot →
        Memory.wf s.rick.cells = true → slot % 8 = 0 → 
        (bit (tableNat s slot 8) 63 = false → ∃ u, Answers (.ptWrite via tag p data) s u via
            (writeReq tag (pidx p.val 0x40) 3 data.length) data.length 0 ∧ tableNat u slot 8 = ptPte e ∧ u.rick.tlb = s.rick.tlb) ∧
        (bit (tableNat s slot 8) 63 = true → ∃ u, exec (.ptWrite via tag p data) s = .next (settle u) ∧ tableNat u slot 8 = ptPte e ∧
          u.rick.invals = s.rick.invals ++ [(s.rick.nextInval, p.val, 0, 0)] ∧ (via, tag, p.val, s.rick.nextInval) ∈ u.obj.deferred ∧
          (∀ x ∈ u.rick.tlb, ¬ (x.1 = p.val ∧ overlap x.2.1 x.2.2.1 (ptVa e) (levelRange (ptLevel e)) = true)) ∧
          (∀ w ∈ u.rick.walks, w.p = p.val → w.stale = true) ∧ u.out = s.out))) ∧
    (∀ n via tag, 2 ≤ s.sys.boot → s.rick.invals = [(n, p.val, 0, 0)] → s.obj.deferred = [(via, tag, p.val, n)] → cmdOf s 0 = none →
      ∃ u hdr, exec (.rangeInvalidationDone n) s = .next (settle u) ∧ u.rick.invals = [] ∧ u.obj.deferred = [] ∧
        .response via hdr [] ∈ u.out ∧ hTag hdr.toNat = tag.toNat ∧ bits hdr.toNat 31 16 = 0) ∧
    (∀ n a k id c, 2 ≤ s.sys.boot → s.rick.invals = [(n, a, k, id)] → s.obj.deferred = [] → cmdOf s id = some c → c.inval = some n →
      exec (.rangeInvalidationDone n) s = .next (settle (finish { s with rick.invals := [] } id c.effects c.result))) ∧
    (∀ (via : Path) (tag : Tag), ManagerAsks s via → exec (.ptQueryResult via tag p) s = .next (settle (answer (fresh1 s) via
      { op := 1, tag := tag, index := pidx p.val 0x40, sub := 5, len := 0 } 0 0 (beBytes 16 (queryResult s p.val))))) ∧
    (∀ n w, 2 ≤ s.sys.boot → s.rick.walks.find? (fun w => w.id = n && w.running) = some w → w.stale = true →
      exec (.walkComplete n) s = .next (settle (bump { s with
        rick.walks := s.rick.walks.map (fun x => if x.id = n then { x with stale := false } else x) } w.p 0x41 4 1))) ∧
    (∀ n w t c pte level, 2 ≤ s.sys.boot → s.rick.walks.find? (fun w => w.id = n && w.running) = some w → w.stale = false →
      t = bump (startWalks 32 { s with rick.walks := s.rick.walks.filter (fun x => x.id ≠ n) }) w.p 0x41 3 1 → cmdOf t w.cmd = some c →
      (walk t w.p w.va = .leaf pte level → bits pte 61 60 = 0 → t.rick.streams = [] →
        (t.rick.tlb.filter (fun e => e.1 = w.p)).length < tlbRoom t w.p →
        ∃ u, exec (.walkComplete n) s = .next (settle (prefetchOn u w.cmd c (w.va / leafSize pte level * leafSize pte level + leafSize pte level)
            (c.result + 1))) ∧
          (∃ e ∈ u.rick.tlb, e.1 = w.p ∧ e.2.1 = w.va / leafSize pte level * leafSize pte level) ∧ u.cmd = t.cmd) ∧
      (∀ code, walk t w.p w.va = .fault code level pte → ∃ u, exec (.walkComplete n) s =
        .next (settle (prefetchOn u w.cmd c ((w.va / 4096 + 1) * 4096) c.result)) ∧ u.cmd = t.cmd)) ∧
    (∀ id c loaded va, cmdOf s id = some c → dArg c.desc 0 + dArg c.desc 1 ≤ va →
      prefetchOn s id c va loaded = finish (updCmd s id (fun c => { c with waitOn := some va, result := loaded })) id [] loaded) ∧
    (∀ (s1 : State) id c k, s1 = updCmd s id (fun c => { c with phase := .started }) → k = { c with phase := .started } →
      (Works s id c 0xA2 → c.waitOn = none → rangeCheck c [2, 3, 4, 5] = 0 → exec (.prefetch id) s =
        .next (settle (queueWalk (updCmd s1 id (fun c => { c with waitOn := some (dArg c.desc 0) })) id c.p (dArg c.desc 0)))) ∧
      (Works s id c 0xA2 → c.waitOn = none → dArg c.desc 1 = 0 → exec (.prefetch id) s = .next (settle (failCmd s1 id 0x0A10))) ∧
      (Works s id c 0xA3 → rangeCheck c [3, 4, 5] = 0 →
        (dArg c.desc 2 = 0 → ∃ u k, exec (.advise id) s = .next (settle (finish u id [] k)) ∧ { u with rick := s1.rick } = s1 ∧
          (∀ e ∈ u.rick.tlb, tlbIn c.p (dArg c.desc 0) (dArg c.desc 1) e = true → e.2.2.2.1 = false) ∧
          k = (s.rick.tlb.filter (fun e => tlbIn c.p (dArg c.desc 0) (dArg c.desc 1) e && e.2.2.2.1)).length) ∧
        (dArg c.desc 2 = 1 → ∃ u k, exec (.advise id) s = .next (settle (finish u id [] k)) ∧ { u with rick := s1.rick } = s1 ∧
          u.rick.tlb.map (fun e => (e.1, e.2.1)) = s.rick.tlb.map (fun e => (e.1, e.2.1)) ∧
          (u.rick.tlb.filter (fun e => e.1 = c.p && e.2.2.2.1)).length = (s.rick.tlb.filter (fun e => e.1 = c.p && e.2.2.2.1)).length + k) ∧
        (dArg c.desc 2 = 2 → exec (.advise id) s = .next (settle (finish { s1 with
          rick.tlb := s.rick.tlb.filter (fun e => !tlbIn c.p (dArg c.desc 0) (dArg c.desc 1) e) } id []
          (s.rick.tlb.filter (tlbIn c.p (dArg c.desc 0) (dArg c.desc 1))).length))) ∧
        (dArg c.desc 2 = 3 → exec (.advise id) s = .next (settle (finish { s1 with
          rick.streams := s.rick.streams ++ [(c.p, dArg c.desc 0, dArg c.desc 1)] } id [] 0)))) ∧
      (Works s id c 0xA4 → c.inval = none → rangeCheck c [2, 3, 4, 5] = 0 →
        ∃ u y, exec (.invalidate id) s = .next (settle u) ∧ cmdOf u id = some y ∧ y.inval = some s.rick.nextInval ∧
          u.rick.invals = s.rick.invals ++ [(s.rick.nextInval, c.p, dArg c.desc 1, id)] ∧
          (∀ e ∈ u.rick.tlb, tlbIn c.p (dArg c.desc 0) (dArg c.desc 1) e = false) ∧ u.rick.cells = s.rick.cells)) ∧
    (2 ≤ s.sys.boot → ((pad s p.val).faultBatch = [] → exec (.faultBatchFlush p) s = .next (settle s)) ∧
      ((pad s p.val).faultBatch ≠ [] → ∃ u, exec (.faultBatchFlush p) s = .next (settle u) ∧ (pad u p.val).faultBatch = [] ∧ u.cmd = s.cmd ∧
        Tbl.get u.ev.occurs (8 * p.val + 1) = (Tbl.get s.ev.occurs (8 * p.val + 1) + 1) % 65536))

/-- Mowing and repair. A line without an error only moves MOW on; one symbol error is corrected and counted; more poison the line and make its
granule's repair due. RICK_REPAIR of a granule that nobody holds takes it out of the Commons, and of one in use is refused with 0x0A0D; a
repair that succeeds returns the granule, zeroised, to the Commons, and one that fails retires it.
Choices of the model behind it: logs 13, 54, 55. -/
def Obligations.MowingFindsAndRepairMends : Prop :=
  ∀ s : State, 2 ≤ s.sys.boot →
    (∀ line errors, line + 1 < rickLines → s.pow.st < 2 → s.rick.mowAt ≤ line →
      (errors = 0 → exec (.mowRead line errors) s = .next (settle { s with rick.mowAt := line + 1 })) ∧
      (errors = 1 → line ∉ s.rick.poisoned → ∃ u, exec (.mowRead line errors) s = .next (settle u) ∧
        u.rick.cells = s.rick.cells ∧ u.rick.mowAt = line + 1 ∧
        getO u 0x1B00 3 = (getO s 0x1B00 3 + 1) % 2 ^ 64 ∧ Tbl.get u.ev.occurs 738 = (Tbl.get s.ev.occurs 738 + 1) % 65536) ∧
      (2 ≤ errors → line ∉ s.rick.poisoned → ∃ u, exec (.mowRead line errors) s = .next (settle u) ∧
        u.rick.cells = s.rick.cells ∧ (line / 2 ^ 22 ≠ 124 → line ∈ u.rick.poisoned) ∧ bit u.com.repairDue (line / 2 ^ 22) = true ∧
        Tbl.get u.ev.occurs 739 = (Tbl.get s.ev.occurs 739 + 1) % 65536)) ∧
    (∀ (via : Path) (tag : Tag) (v : BitVec 8), ManagerAsks s via → v.toNat < 124 →
      ((∀ e ∈ s.pads, bit e.2.granules v.toNat = false) → v.toNat ∉ s.com.zeroising → v.toNat ∉ s.com.repairing →
        Answers (.rickRepair via tag v) s { s with
          com.free := less s.com.free (2 ^ v.toNat), com.repairing := s.com.repairing ++ [v.toNat] } via (writeReq tag 0x1B00 8 1) 1 0) ∧
      ((∃ e ∈ s.pads, bit e.2.granules v.toNat = true) ∨ v.toNat ∈ s.com.zeroising ∨ v.toNat ∈ s.com.repairing →
        Answers (.rickRepair via tag v) s s via (writeReq tag 0x1B00 8 1) 1 0x0A0D)) ∧
    (∀ g rest, s.com.repairing = g :: rest → g < 124 →
      (∃ u, exec (.repairDone true) s = .next (settle u) ∧ u.com.repairing = rest ∧ bit u.com.repairDue g = false ∧
        (∀ a, granuleOf a = g → Mem.get u.rick.cells a = 0) ∧ (∀ a, granuleOf a ≠ g → Mem.get u.rick.cells a = Mem.get s.rick.cells a) ∧
        (bit s.com.retired g = false → bit u.com.free g = true) ∧ Tbl.get u.ev.occurs 740 = (Tbl.get s.ev.occurs 740 + 1) % 65536) ∧
      (∃ u, exec (.repairDone false) s = .next (settle u) ∧ u.com.repairing = rest ∧ bit u.com.retired g = true ∧
        u.com.free = s.com.free ∧ getO u 0x1B00 9 = 0x0A0E ∧ u.rick.cells = s.rick.cells))

/-! ### Accounting, events and observation -/

/-- The accounting rows. LEDGER_TICK hands every arbiter every V. METER_TICK adds each rail's energy; where no paddock holds anything all of it
is the device's; while the sensor bus has failed the tick counts as estimated. PERIOD_END forgets who was behind whom, takes ACCT_PERIOD anew
and forms a snapshot of each paddock that is not EMPTY. SNAPSHOT_PUBLISHED shows the oldest journaled snapshot and fires its source.
Choices of the model behind it: log 13. -/
def Obligations.AccountingTicksAndPeriods : Prop :=
  ∀ (s : State), 2 ≤ s.sys.boot →
    exec .ledgerTick s = .next (settle { s with acct.snapshotV := allPads.map (fun p => (pad s p).v) }) ∧
    (∀ e : List Nat, ∃ u, exec (.meterTick e) s = .next (settle u) ∧
      u.acct.meterEnergy = s.acct.meterEnergy + (e.take 4).foldl (· + ·) 0 ∧
      (notEmpty s = [] → u.acct.deviceEnergy = s.acct.deviceEnergy + (e.take 4).foldl (· + ·) 0 ∧ u.pads = s.pads) ∧
      (s.pow.sensorBus ≠ 2 → getO u 0x1C00 5 = 0 ∧ u.acct.estimated = s.acct.estimated ∧
        { u with acct := s.acct, pads := s.pads, obj := s.obj, fresh := s.fresh } = s) ∧
      (s.pow.sensorBus = 2 → u.acct.estimated = true ∧ u.rick.cells = s.rick.cells ∧ u.cmd = s.cmd)) ∧
    (∃ u, exec .periodEnd s = .next (settle u) ∧ u.acct.estimated = false ∧ u.acct.accPeriod = getO u 0x1C00 4 ∧
      (∀ p, (pad u p).behind = []) ∧
      (∀ p, notEmpty s = [p] → s.sec.st ≠ 2 → s.store.work = [] → (∀ e ∈ (pad s p).ctxs, e.2.slot = none) →
        (pad u p).snapSeq = (pad s p).snapSeq + 1 ∧ (∃ rcd, u.store.work = [.snapshot p rcd] ∧ (pad u p).snapPrev = sha384 rcd))) ∧
    (s.acct.snapWork = [] → exec .snapshotPublished s = .next (settle s)) ∧
    (∀ p rcd rest, s.acct.snapWork = (p, rcd) :: rest → ∃ u, exec .snapshotPublished s = .next (settle u) ∧ u.acct.snapWork = rest ∧
      (pad u p).snap = rcd ∧ Tbl.get u.ev.occurs (8 * p + 4) = (Tbl.get s.ev.occurs (8 * p + 4) + 1) % 65536 ∧
      { u with acct := s.acct, pads := s.pads, ev := s.ev } = s)

/-- Event targets and raises. A value that the register may not hold is refused with 0x0106; any other replaces all its bits. EVENT_RAISE sets
PENDING, and an overrun where it was set, without counting an occurrence; HOLDOFF_EXPIRY ends one hold-off. -/
def Sys2Proof.EventTargetsAndRaises : Prop :=
  ∀ (s : State) (via : Path) (tag : Tag),
    (∀ (src : Fin 1024) (own : Bool) (v : BitVec 32), (own = false ∨ 512 ≤ src.val) → ManagerAsks s via →
      (targetBad s src.val false v.toNat = true → Answers (.eventTargetWrite via tag src own v) s s via
        (writeReq tag (0x1E10 + src.val / 128) (src.val % 128 + 1) 4) 4 0x0106) ∧
      (targetBad s src.val false v.toNat = false → Answers (.eventTargetWrite via tag src own v) s
        { s with ev.targets := Tbl.set s.ev.targets src.val v.toNat } via (writeReq tag (0x1E10 + src.val / 128) (src.val % 128 + 1) 4) 4 0)) ∧
    (∀ (p : PNum) (k : Fin 8) (src : Fin 1024) (v : BitVec 32), src.val = 8 * p.val + k.val → OwnerAsks s p via →
      (targetBad s src.val (roleOf s via = 2) v.toNat = true → Answers (.eventTargetWrite via tag src true v) s s via
        (writeReq tag (pidx p.val 0x90) (k.val + 1) 4) 4 0x0106) ∧
      (targetBad s src.val (roleOf s via = 2) v.toNat = false → Answers (.eventTargetWrite via tag src true v) s
        { s with ev.targets := Tbl.set s.ev.targets src.val v.toNat } via (writeReq tag (pidx p.val 0x90) (k.val + 1) 4) 4 0)) ∧
    (∀ v : BitVec 16, v.toNat ≤ 1023 → ManagerAsks s via →
      Answers (.eventRaise via tag v) s (raise s v.toNat) via (writeReq tag 0x1E00 2 2) 2 0) ∧
    (∀ (p : PNum) (k : BitVec 8), k.toNat ≤ 7 → OwnerAsks s p via →
      Answers (.paddockEventRaise via tag p k) s (raise s (8 * p.val + k.toNat)) via (writeReq tag (pidx p.val 0x90) 9 1) 1 0) ∧
    (∀ src, (raise s src).ev.occurs = s.ev.occurs ∧ bit (Tbl.get (raise s src).ev.targets src) 29 = true ∧
      (∀ k, k ≠ src → Tbl.get (raise s src).ev.targets k = Tbl.get s.ev.targets k) ∧ { raise s src with ev := s.ev } = s) ∧
    (∀ (g : Fin 64) (dst : Target), 2 ≤ s.sys.boot → exec (.holdoffExpiry g dst) s =
      .next (settle { s with ev.holdoffs := s.ev.holdoffs.filter (fun e => e ≠ (g.val, dst)) }))

/-- The Lark. A slot that is armed for an input that shows sets FIRED; from DOZE or SLEEP the device runs again, LARK_LAST names the slot, and
after SLEEP every island is back and the rick waits for its zeroise; a slot that is not armed does nothing. The wake timer reads 0 once it
has expired, and an edge of a pin fires the pin's source. -/
def Sys2Proof.LarkSlotsFireAndWake : Prop :=
  ∀ (s : State), 2 ≤ s.sys.boot →
    (∀ (k : Fin 32) t, Tbl.get s.ev.lark k.val = t →
      (bit t 31 = false → exec (.larkFire k) s = .next (settle s)) ∧
      (bit t 31 = true → bits t 29 28 ≠ 3 → (bits t 29 28 ≠ 0 ∨ s.pow.st ≠ 3 ∨ alwaysOn (bits t 27 18) = true) →
        (s.pow.st ≠ 2 → s.pow.st ≠ 3 → exec (.larkFire k) s =
          .next (settle { s with ev.lark := Tbl.set s.ev.lark k.val (putBit t 30 true) })) ∧
        (s.pow.st = 2 → exec (.larkFire k) s = .next (settle { s with
          ev.lark := Tbl.set s.ev.lark k.val (putBit t 30 true), ev.larkLast := k.val, pow.st := 0 })) ∧
        (s.pow.st = 3 → ∃ u, exec (.larkFire k) s = .next (settle u) ∧ u.pow.st = 0 ∧ u.ev.larkLast = k.val ∧
          bit (Tbl.get u.ev.lark k.val) 30 = true ∧ u.com.zeroising = zeroOrder ∧
          (∀ i, 3 ≤ i → i < 39 → Tbl.get u.flt.state i = 0) ∧ u.pads = s.pads ∧ u.obj.committed = s.obj.committed))) ∧
    (∃ u, exec .wakeTimerExpiry s = .next (settle u) ∧ getO u 0x1E00 4 = 0 ∧
      (∀ e ∈ s.ev.lark, larkMatch s 2 0 e.2 = true → (e.1, putBit e.2 30 true) ∈ u.ev.lark) ∧
      { u with obj := s.obj, ev := s.ev } = s) ∧
    (∀ pin : Fin 16, ∃ u, exec (.gpioEdge pin) s = .next (settle u) ∧
      Tbl.get u.ev.occurs (832 + pin.val) = (Tbl.get s.ev.occurs (832 + pin.val) + 1) % 65536 ∧
      (∀ e ∈ s.ev.lark, larkMatch s 1 pin.val e.2 = true → (e.1, putBit e.2 30 true) ∈ u.ev.lark) ∧ { u with ev := s.ev } = s)

/-- Observation. COUNTER_LATCH stores the counter rows of this instant. TRACE_MARK, SAMPLE_PERIOD_TICK and PC_PERIOD_TICK put records in the
trace shares of paddocks that ask for them and change nothing else but counters and reports. A write to TRACE_MIRROR_BASE starts the mirror
again at the oldest record; TRACE_MIRROR_COPY copies records, and does nothing without a base or after a fault.
Choices of the model behind it: logs 31, 73. -/
def Obligations.ObservationRecordsAndLatches : Prop :=
  ∀ (s : State) (p : PNum) (via : Path) (tag : Tag),
    (OwnerAsks s p via →
      Answers (.counterLatch via tag p) s (fresh1 (updPad s p.val (fun d => { d with latched := latchedBytes s p.val }))) via
        (writeReq tag (pidx p.val 0x81) 1 1) 1 0 ∧
      (∀ v : BitVec 32, Answers (.traceMark via tag p v) s
        (putTrace s p.val (traceRecord s 7 p.val 0 0 0 0 0 (v.toNat * 2 ^ 288))) via (writeReq tag (pidx p.val 0x82) 9 4) 4 0) ∧
      (∀ v : BitVec 64, v.toNat % 64 = 0 → Answers (.traceMirrorBase via tag p v) s
        (updPad (setP s p.val 0x82 6 v.toNat) p.val (fun d => { d with mirrorNext := d.traceFirst, mirrorRing := 0, traceFaulted := false }))
        via (writeReq tag (pidx p.val 0x82) 6 8) 8 0)) ∧
    (∀ rcd, (pad s p.val).traceLost = 0 → (pad s p.val).trace.length < traceRoom s p.val →
      (pad (putTrace s p.val rcd) p.val).trace = (pad s p.val).trace ++ [rcd] ∧
      (pad (putTrace s p.val rcd) p.val).traceFirst = (pad s p.val).traceFirst ∧
      (∀ q, q ≠ p.val → pad (putTrace s p.val rcd) q = pad s q)) ∧
    (2 ≤ s.sys.boot →
      (∃ u, exec .samplePeriodTick s = .next (settle u) ∧ u.cmd = s.cmd ∧ u.rick.cells = s.rick.cells ∧
        ((∀ q ∈ notEmpty s, bit (getP s q 0x82 1) 0 = false) → u = fresh1 s)) ∧
      (∀ k, ∃ u, exec (.pcPeriodTick k) s = .next (settle u) ∧ u.cmd = s.cmd ∧ u.rick.cells = s.rick.cells ∧
        ((∀ e ∈ s.pads, bit (getP s e.1 0x82 1) 1 = false ∧ bit (getP s e.1 0x82 1) 2 = false) → u = fresh1 s)) ∧
      (getP s p.val 0x82 6 = 0 ∨ (pad s p.val).traceFaulted = true → exec (.traceMirrorCopy p) s = .next (settle s)) ∧
      (∀ rcd pls, getP s p.val 0x82 6 ≠ 0 → (pad s p.val).traceFaulted = false → (pad s p.val).trace = [rcd] → rcd ≠ [] →
        (pad s p.val).mirrorNext = (pad s p.val).traceFirst →
        ¬ 2 ^ getP s p.val 0x82 7 ≤ ((pad s p.val).mirrorRing + 2 ^ 32 - getP s p.val 0x82 8) % 2 ^ 32 →
        accessAll s p.val (getP s p.val 0x82 6 + 64 * ((pad s p.val).mirrorRing % 2 ^ getP s p.val 0x82 7)) 64 true = .ok pls →
        placesOpen s p.val pls = true → exec (.traceMirrorCopy p) s = .next (settle (charge (updPad (putPlaces s p.val pls rcd) p.val (fun d =>
          { d with mirrorNext := d.mirrorNext + 1, mirrorRing := (d.mirrorRing + 1) % 2 ^ 32 })) p.val 4 64))))

/-- The Event Router's registers and the Lark.
Choices of the model behind it: logs 13, 66. -/
def Obligations.EventRouterAndLark : Prop := EventTargetsAndRaises ∧ LarkSlotsFireAndWake

/-! ### Keys, seals, sessions and attestation -/

/-- Key envelopes. KEY_INSTALL replaces the install nonce whatever becomes of the envelope; one that fails a check moves no key and is
answered with the check's code. One that passes is delivered: a link key, the fabric time key, a selector's key or a bounce key, each at
once or, where NEXT is set, as the next key; a filled slot gives 0x0B05.
Choices of the model behind it: logs 8, 11. -/
def Obligations.EnvelopesDeliverKeys : Prop :=
  ∀ (s : State) (via : Path) (tag : Tag) (data : Bytes) (f : Facts) (e : Nat), data.length = 240 → e = beNat data →
    (ManagerAsks s via →
      (∀ code, envCheck s e false (eDest e = 2 || eDest e = 5) (deviceNonce s) f = code → code ≠ 0 →
        Answers (.keyInstall via tag data f) s (newDeviceNonce s) via (writeReq tag 0x1D00 3 240) 240 code) ∧
      (envCheck s e false (eDest e = 2 || eDest e = 5) (deviceNonce s) f = 0 → s.pair.st = 0 →
        (eDest e = 5 → eNext e = false → Answers (.keyInstall via tag data f) s { newDeviceNonce s with
          ftm.key := { cur := some (unwrapped f), next := none, old := s.ftm.key.cur.map (fun c => (c, ns s)) } } via
          (writeReq tag 0x1D00 3 240) 240 0) ∧
        (∀ c, eDest e = 5 → eNext e = true → s.ftm.key.cur = some c → ns s + 1000000 ≤ eSwitch e →
          Answers (.keyInstall via tag data f) s { newDeviceNonce s with
            ftm.key := { s.ftm.key with next := some (unwrapped f, eSwitch e) } } via (writeReq tag 0x1D00 3 240) 240 0) ∧
        (eDest e = 5 → eNext e = true → (s.ftm.key.cur = none ∨ eSwitch e < ns s + 1000000) →
          Answers (.keyInstall via tag data f) s (newDeviceNonce s) via (writeReq tag 0x1D00 3 240) 240 0x0B07) ∧
        (eDest e = 2 → eNext e = false → Tbl.has s.net.linkKeys (eTag e) = false → 64 ≤ s.net.linkKeys.length →
          Answers (.keyInstall via tag data f) s (newDeviceNonce s) via (writeReq tag 0x1D00 3 240) 240 0x0B05) ∧
        (eDest e = 2 → eNext e = false → (Tbl.has s.net.linkKeys (eTag e) = true ∨ s.net.linkKeys.length < 64) →
          ∃ u, Answers (.keyInstall via tag data f) s u via (writeReq tag 0x1D00 3 240) 240 0 ∧
            (Tbl.get u.net.linkKeys (eTag e)).cur = some (unwrapped f) ∧ (Tbl.get u.net.linkKeys (eTag e)).next = none ∧
            (∀ t, t ≠ eTag e → Tbl.find u.net.linkKeys t = Tbl.find s.net.linkKeys t) ∧ { u with net := s.net, sec := s.sec } = s))) ∧
    (∀ p : PNum, OwnerAsks s p via →
      (∀ code, envCheck s e true (padDest s p.val e) (padNonce s p.val) f = code → code ≠ 0 →
        Answers (.paddockKeyInstall via tag p data f) s (newPadNonce s p.val) via (writeReq tag (pidx p.val 0x70) 2 240) 240 code) ∧
      ((pad s p.val).state = .empty ∨ (pad s p.val).state = .faulted → padDest s p.val e = false) ∧
      (envCheck s e true (padDest s p.val e) (padNonce s p.val) f = 0 → s.pair.st = 0 →
        (eDest e = 1 → (Tbl.get (pad s p.val).sels (eSlot e)).st ≠ 0 → Answers (.paddockKeyInstall via tag p data f) s
          (newPadNonce s p.val) via (writeReq tag (pidx p.val 0x70) 2 240) 240 0x0B05) ∧
        (eDest e = 1 → (Tbl.get (pad s p.val).sels (eSlot e)).st = 0 → Answers (.paddockKeyInstall via tag p data f) s
          (updPad (newPadNonce s p.val) p.val (fun d => { d with sels := Tbl.set d.sels (eSlot e) { st := 1, key := unwrapped f } })) via
          (writeReq tag (pidx p.val 0x70) 2 240) 240 0) ∧
        (eDest e = 3 → (pad s p.val).bounceH2d = none → Answers (.paddockKeyInstall via tag p data f) s
          (updPad (newPadNonce s p.val) p.val (fun d => { d with bounceH2d := some (unwrapped f), bounceFloor := 0 })) via
          (writeReq tag (pidx p.val 0x70) 2 240) 240 0) ∧
        (eDest e = 4 → (pad s p.val).bounceD2h = none → Answers (.paddockKeyInstall via tag p data f) s
          (updPad (newPadNonce s p.val) p.val (fun d => { d with bounceD2h := some (unwrapped f), bounceTx := 0 })) via
          (writeReq tag (pidx p.val 0x70) 2 240) 240 0))) ∧
    (envBroken e false = true → s.sec.st ≠ 2 → envCheck s e false true (deviceNonce s) f = 0x0B01) ∧
    (s.sec.st = 2 → envCheck s e false true (deviceNonce s) f = 0x0B0C)

/-- Clearing keys, and the one-way settings. KEY_CLEAR takes away the key that it names, and any other destination or slot is refused with
0x0B04; a link-key table that fails the read-back of the zeroise faults every paddock whose key sat in it; KEY_MASK_REFRESH changes no key; MIN_SECURITY_VERSION and DEBUG_LOCK only rise; an internal debug access empties every selector and
faults every paddock that is not EMPTY, and does nothing once DEBUG_LOCK is set; SECURE_ERASE takes every key, grant and anchor.
Choices of the model behind it: logs 8, 56, 57. -/
def Obligations.KeysAreClearedAndLocksOnlyRise : Prop :=
  ∀ (s : State) (via : Path) (tag : Tag),
    (ManagerAsks s via →
      (∀ (v : BitVec 32) (f : Facts), bits v.toNat 23 16 = 0 → f.stuck = 10 ∨ (23 ≤ f.stuck ∧ f.stuck ≤ 38) → bits v.toNat 31 24 = 2 →
        Tbl.has s.net.linkKeys (bits v.toNat 15 0) = true →
        (∀ e ∈ s.pads, e.2.state = .opened ∨ e.2.state = .draining → e.2.tag ≠ bits v.toNat 15 0) →
        ∃ u, Answers (.keyClear via tag v f) s u via (writeReq tag 0x1D00 4 4) 4 0 ∧
          Tbl.has u.net.linkKeys (bits v.toNat 15 0) = false ∧
          (∀ p, (pad s p).state ≠ .empty → Tbl.has s.net.linkKeys (pad s p).tag = true →
            (pad u p).state = .faulted ∧ ((pad s p).state ≠ .faulted → (pad u p).cause = 0x0B13))) ∧
      (∀ (v : BitVec 32) (f : Facts), f.stuck = 0 → bits v.toNat 23 16 = 0 →
        (bits v.toNat 31 24 ≠ 2 → (bits v.toNat 31 24 ≠ 5 ∨ bits v.toNat 15 0 ≠ 0) →
          Answers (.keyClear via tag v f) s s via (writeReq tag 0x1D00 4 4) 4 0x0B04) ∧
        (bits v.toNat 31 24 = 5 → bits v.toNat 15 0 = 0 →
          Answers (.keyClear via tag v f) s { s with ftm.key := {} } via (writeReq tag 0x1D00 4 4) 4 0) ∧
        (bits v.toNat 31 24 = 2 → (∀ e ∈ s.pads, e.2.state = .opened ∨ e.2.state = .draining → e.2.tag ≠ bits v.toNat 15 0) →
          Answers (.keyClear via tag v f) s { s with net.linkKeys := Tbl.erase s.net.linkKeys (bits v.toNat 15 0) } via
            (writeReq tag 0x1D00 4 4) 4 0) ∧
        (∀ e ∈ s.pads, bits v.toNat 31 24 = 2 → (e.2.state = .opened ∨ e.2.state = .draining) → e.2.tag = bits v.toNat 15 0 →
          Tbl.has s.net.linkKeys (bits v.toNat 15 0) = true → Answers (.keyClear via tag v f) s s via (writeReq tag 0x1D00 4 4) 4 0x0B05)) ∧
      (∀ v : BitVec 32, (v.toNat < s.sec.minSv ∨ s.sys.securityVersion < v.toNat) →
        Answers (.minSvRaise via tag v) s s via (writeReq tag 0x1D00 6 4) 4 0x0106) ∧
      (∀ v : BitVec 32, s.sec.minSv < v.toNat → v.toNat ≤ s.sys.securityVersion → s.sec.svRaises < 64 →
        Answers (.minSvRaise via tag v) s { s with sec.minSv := v.toNat, sec.svRaises := s.sec.svRaises + 1 } via
          (writeReq tag 0x1D00 6 4) 4 0) ∧
      Answers (.debugLockSet via tag) s { s with sec.debugLock := true } via (writeReq tag 0x1D00 8 1) 1 0 ∧
      (∀ (data : Bytes) (f : Facts), 1 ≤ data.length → data.length ≤ 1024 →
        ((∃ e ∈ s.pads, e.2.state ≠ .empty) → Answers (.secureErase via tag data f) s s via (writeReq tag 0x1D00 10 data.length)
          data.length 0x0201) ∧
        ((∀ e ∈ s.pads, e.2.state = .empty) → f.sigOk = true →
          ∃ u, Answers (.secureErase via tag data f) s u via (writeReq tag 0x1D00 10 data.length) data.length 0 ∧
            u.net.linkKeys = [] ∧ u.ftm.key = {} ∧ u.rick.granuleKeys = [] ∧
            (∀ p, (pad u p).sels = [] ∧ (pad u p).bounceH2d = none ∧ (pad u p).bounceD2h = none) ∧
            u.sec.grants = [] ∧ u.sec.anchors = [0, 0] ∧ u.sec.sessions = [] ∧ u.obj.requireSigned = false ∧
            u.sec.debugLock = s.sec.debugLock ∧ u.sec.minSv = s.sec.minSv ∧ u.obj.cvn = s.obj.cvn ∧ u.rick.cells = s.rick.cells))) ∧
    (∀ (p : PNum) (v : BitVec 16) (f : Facts), f.stuck = 0 → OwnerAsks s p via →
      (bits v.toNat 15 8 = 3 → bits v.toNat 7 0 = 0 → Answers (.paddockKeyClear via tag p v f) s
        (updPad s p.val (fun d => { d with bounceH2d := none })) via (writeReq tag (pidx p.val 0x70) 3 2) 2 0) ∧
      (bits v.toNat 15 8 = 4 → bits v.toNat 7 0 = 0 → Answers (.paddockKeyClear via tag p v f) s
        (updPad s p.val (fun d => { d with bounceD2h := none })) via (writeReq tag (pidx p.val 0x70) 3 2) 2 0) ∧
      (bits v.toNat 15 8 = 1 → 1 ≤ bits v.toNat 7 0 → bits v.toNat 7 0 ≤ 63 →
        (Tbl.get (pad s p.val).sels (bits v.toNat 7 0)).lockTag = none → Answers (.paddockKeyClear via tag p v f) s
        (updPad s p.val (fun d => { d with sels := Tbl.erase d.sels (bits v.toNat 7 0) })) via (writeReq tag (pidx p.val 0x70) 3 2) 2 0) ∧
      ((bits v.toNat 15 8 ∉ [1, 3, 4] ∨ (bits v.toNat 15 8 = 1 ∧ (bits v.toNat 7 0 = 0 ∨ 63 < bits v.toNat 7 0)) ∨
          (bits v.toNat 15 8 ≠ 1 ∧ bits v.toNat 7 0 ≠ 0)) →
        Answers (.paddockKeyClear via tag p v f) s s via (writeReq tag (pidx p.val 0x70) 3 2) 2 0x0B04)) ∧
    (2 ≤ s.sys.boot → exec .keyMaskRefresh s = .next (settle { s with sec.maskDraws := s.sec.maskDraws + 1 })) ∧
    (∀ i : Fin 64, 2 ≤ s.sys.boot →
      (s.sec.debugLock = true ∨ i.val = 2 ∨ 38 < i.val → exec (.jtagDebugAccess i) s = .next (settle s)) ∧
      (s.sec.debugLock = false → i.val ≠ 2 → i.val ≤ 38 →
        ∃ u, exec (.jtagDebugAccess i) s = .next (settle u) ∧ u.sec.debugOpened = true ∧ u.sec.st = s.sec.st ∧
          (∀ p, (pad u p).sels = [] ∧ (pad u p).bounceH2d = none ∧ (pad u p).bounceD2h = none) ∧
          (∀ p, (pad s p).state ≠ .empty → (pad u p).state = .faulted ∧ ((pad s p).state ≠ .faulted → (pad u p).cause = 0x0B11)) ∧
          (∀ p, (pad s p).state = .empty → (pad s p).pend = none → (pad u p).state = .empty)))

/-- Sealed weights. SEAL_GRANT keeps a grant, and refuses one that is not newer with 0x0B09. SEAL_BIND puts the set key into an empty selector in
LOAD. SEAL_LOCK begins the lock and is answered when the digest is there: SEALED where it matches, LOAD and 0x0B0B where it does not, 0x0B14
where the writers do not end. SEAL_REVOKE drops the grant.
Choices of the model behind it: logs 8, 57, 78. -/
def Obligations.SealsAreGrantedBoundAndLocked : Prop :=
  ∀ (s : State) (via : Path) (tag : Tag) (p : PNum),
    (∀ (data : Bytes) (f : Facts) (h e nonce : Nat), OwnerAsks s p via → data.length = 336 → h = beNat (data.take 96) → e = beNat (data.drop 96) →
      nonce = sha384 (data.take 96) / 2 ^ 128 → grantBroken h = false →
      (∀ code, envCheck s e false (eDest e = 6) nonce f = code → code ≠ 0 →
        Answers (.sealGrant via tag p data f) s s via (writeReq tag (pidx p.val 0x70) 7 336) 336 code) ∧
      (envCheck s e false (eDest e = 6) nonce f = 0 → ∀ old k, grantOf s (gSet h) = some (old, k) → gVersion h ≤ gVersion old →
        Answers (.sealGrant via tag p data f) s s via (writeReq tag (pidx p.val 0x70) 7 336) 336 0x0B09) ∧
      (envCheck s e false (eDest e = 6) nonce f = 0 → grantOf s (gSet h) = none → 16 ≤ s.sec.grants.length →
        Answers (.sealGrant via tag p data f) s s via (writeReq tag (pidx p.val 0x70) 7 336) 336 0x0B09) ∧
      (envCheck s e false (eDest e = 6) nonce f = 0 → grantOf s (gSet h) = none → s.sec.grants.length < 16 →
        ∃ u, Answers (.sealGrant via tag p data f) s u via (writeReq tag (pidx p.val 0x70) 7 336) 336 0 ∧
          u.sec.grants = s.sec.grants ++ [(gSet h, h, unwrapped f)] ∧ grantOf u (gSet h) = some (h, unwrapped f) ∧ u.pads = s.pads ∧
          u.rick = s.rick)) ∧
    (∀ (arg : BitVec 128) (id k : Nat), OwnerAsks s p via → id = bits arg.toNat 127 64 → k = bits arg.toNat 63 58 →
      bits arg.toNat 57 0 = 0 → k ≠ 0 →
      (grantOf s id = none → Answers (.sealBind via tag p arg) s s via (writeReq tag (pidx p.val 0x70) 8 16) 16 0x0B09) ∧
      (∀ h key, grantOf s id = some (h, key) → less (gMask h) (pad s p.val).granules = 0 → bit h 614 = false →
        ((Tbl.get (pad s p.val).sels k).st ≠ 0 → Answers (.sealBind via tag p arg) s s via (writeReq tag (pidx p.val 0x70) 8 16) 16 0x0B05) ∧
        ((Tbl.get (pad s p.val).sels k).st = 0 → Answers (.sealBind via tag p arg) s
          (updPad s p.val (fun d => { d with sels := Tbl.set d.sels k { st := 2, key := key, set := id } })) via
          (writeReq tag (pidx p.val 0x70) 8 16) 16 0))) ∧
    (∀ v : BitVec 8, OwnerAsks s p via → 1 ≤ v.toNat → v.toNat ≤ 63 →
      (∀ x, Tbl.get (pad s p.val).sels v.toNat = x → x.st ≠ 2 ∨ x.locking = true → Answers (.sealLock via tag p v) s s via
        (writeReq tag (pidx p.val 0x70) 9 1) 1 0x0B0A) ∧
      (∀ x, Tbl.get (pad s p.val).sels v.toNat = x → x.st = 2 → x.locking = false → exec (.sealLock via tag p v) s =
        .next (settle (updPad { s with obj.serving := some (via, tag) } p.val (fun d =>
          { d with sels := Tbl.set d.sels v.toNat { x with locking := true, lockTag := some (via, tag) } })))) ) ∧
    (∀ (sel : Fin 64) x path tag, 2 ≤ s.sys.boot → Tbl.get (pad s p.val).sels sel.val = x → x.locking = true → x.lockTag = some (path, tag) →
      (writersThrough s p.val sel.val = false → ∀ (digest : BitVec 384) h key, grantOf s x.set = some (h, key) →
        (gDigest h = digest.toNat → exec (.sealDigestDone p sel digest) s = .next (settle (respond (updPad s p.val (fun d => { d with
          sels := Tbl.set d.sels sel.val { x with st := 3, locking := false, lockTag := none } })) path tag 2 (pidx p.val 0x70) 9 0 []))) ∧
        (gDigest h ≠ digest.toNat → ∃ u, exec (.sealDigestDone p sel digest) s = .next (settle (respond u path tag 2 (pidx p.val 0x70) 9
          0x0B0B [])) ∧ Tbl.get (pad u p.val).sels sel.val = { x with st := 2, locking := false, lockTag := none } ∧
          Tbl.get u.ev.occurs (8 * p.val + 2) = (Tbl.get s.ev.occurs (8 * p.val + 2) + 1) % 65536)) ∧
      (writersThrough s p.val sel.val = true → (∀ digest, exec (.sealDigestDone p sel digest) s = .next (settle s)) ∧
        exec (.sealLockTimeout p sel) s = .next (settle (respond (updPad s p.val (fun d => { d with
          sels := Tbl.set d.sels sel.val { x with st := 2, locking := false, lockTag := none } })) path tag 2 (pidx p.val 0x70) 9 0x0B14 [])))) ∧
    (∀ v : BitVec 64, ManagerAsks s via →
      (grantOf s v.toNat = none → (∀ e ∈ s.pads, e.2.sels = []) → Answers (.sealRevoke via tag v) s s via (writeReq tag 0x1D03 0 8) 8 0) ∧
      ((∀ e ∈ s.pads, e.2.sels = []) → ∃ u, Answers (.sealRevoke via tag v) s u via (writeReq tag 0x1D03 0 8) 8 0 ∧
        grantOf u v.toNat = none ∧ (∀ id, id ≠ v.toNat → grantOf u id = grantOf s id) ∧ u.pads = s.pads))

/-- Management sessions and trust anchors. An envelope that passes and a signature under the manager root open session k + 1 with SEQ 0, or the
request is refused with 0x0B10; idle time closes a session; ANCHOR_SET fills an empty row, and a filled row changes only under its own
signature. -/
def Sys2Proof.SessionsAndAnchors : Prop :=
  ∀ (s : State) (via : Path) (tag : Tag) (data : Bytes) (f : Facts),
    (∀ (e k : Nat), ManagerAsks s via → data.length = 336 → e = beNat (data.take 240) → k = eSlot e →
      envCheck s e false (eDest e = 7 && k < 8) (deviceNonce s) f = 0 →
      (s.sec.anchors.getD 0 0 ≠ 0 → f.sigOk = true → ∃ u, Answers (.udpSessionOpen via tag data f) s u via (writeReq tag 0x1D00 0x0B 336) 336 0 ∧
        Tbl.get u.sec.sessions (k + 1) = { key := unwrapped f, used := s.sys.uptime } ∧
        (∀ j, j ≠ k + 1 → Tbl.find u.sec.sessions j = Tbl.find s.sec.sessions j) ∧ { u with sec := s.sec, ev := s.ev } = s) ∧
      (s.sec.anchors.getD 0 0 = 0 ∨ f.sigOk = false → Answers (.udpSessionOpen via tag data f) s (newDeviceNonce s) via
        (writeReq tag 0x1D00 0x0B 336) 336 0x0B10)) ∧
    (∀ k : Fin 8, 2 ≤ s.sys.boot → exec (.sessionIdleTimeout k) s =
      .next (settle { s with sec.sessions := Tbl.erase s.sec.sessions (k.val + 1) })) ∧
    (∀ row : Nat, ManagerAsks s via → row = beNat (data.take 4) →
      (data.length = 100 → (row = 1 ∨ row = 2) → s.sec.anchors.getD (row - 1) 0 = 0 → s.sec.anchors.length = 2 →
        ∃ u, Answers (.anchorSet via tag data f) s u via (writeReq tag 0x1D00 9 100) 100 0 ∧
          u.sec.anchors.getD (row - 1) 0 = beNat ((data.drop 4).take 96) ∧ { u.sec with anchors := s.sec.anchors } = s.sec ∧ u.pads = s.pads) ∧
      (data.length = 100 → (row = 1 ∨ row = 2) → s.sec.anchors.getD (row - 1) 0 ≠ 0 →
        Answers (.anchorSet via tag data f) s s via (writeReq tag 0x1D00 9 100) 100 0x0B0F) ∧
      (data.length = 196 → f.sigOk = false → (row = 1 ∨ row = 2) → s.sec.anchors.getD (row - 1) 0 ≠ 0 →
        Answers (.anchorSet via tag data f) s s via (writeReq tag 0x1D00 9 196) 196 0x0B0F))

/-- The SPDM responder serves a requester that has come far enough: each request is answered with the code of its response, a request out of
sequence with an error, and FINISH makes a session only where the requester's proof holds. -/
def Sys2Proof.SpdmAnswersInSequence : Prop :=
  ∀ (s : State) (pcie : Bool) (who : BitVec 28) (body : Bytes), s.sys.boot = 3 → islandOut s 1 = false → islandOut s 2 = false → s.sec.st = 1 →
    let x := spdmOf s pcie who.toNat
    let said := fun (i : Instr) (code : Nat) => ∃ u part, exec i s = .next (settle u) ∧ Out.spdm pcie who.toNat code part ∈ u.out ∧ u.obj = s.obj ∧
      u.pads = s.pads ∧ u.rick = s.rick
    said (.getVersion pcie who body) 0x04 ∧
    (2 ≤ x.stage → said (.getCapabilities pcie who body) 0x61 ∧ said (.negotiateAlgorithms pcie who body) 0x63) ∧
    (x.stage = 3 → said (.getDigests pcie who body) 0x01 ∧ said (.challenge pcie who body) 0x03 ∧
      (body.getD 0 0 = 0 → leNat ((body.drop 1).take 2) = 0 → said (.getCertificate pcie who body) 0x02) ∧
      (body.getD 0 0 = 4 → said (.getMeasurements pcie who body) 0x60) ∧
      (∀ f, said (.keyExchange pcie who body f) 0x64) ∧
      (∀ f : Facts, x.pending = true → f.sigOk = true → said (.spdmFinish pcie who body f) 0x65 ∧
        ∃ u, exec (.spdmFinish pcie who body f) s = .next (settle u) ∧ (spdmOf u pcie who.toNat).session = true) ∧
      (∀ f : Facts, x.pending = true → f.sigOk = false → said (.spdmFinish pcie who body f) 0x7F ∧
        ∃ u, exec (.spdmFinish pcie who body f) s = .next (settle u) ∧ (spdmOf u pcie who.toNat).session = x.session) ∧
      (x.session = true → said (.spdmHeartbeat pcie who body) 0x68 ∧ said (.keyUpdate pcie who body) 0x69 ∧ said (.endSession pcie who body) 0x6C ∧
        ∃ u, exec (.endSession pcie who body) s = .next (settle u) ∧ (spdmOf u pcie who.toNat).session = false) ∧
      (x.session = false → said (.spdmHeartbeat pcie who body) 0x7F) ∧
      (x.chunks ≠ [] → said (.chunkGet pcie who body) 0x06)) ∧
    (x.stage < 3 → said (.challenge pcie who body) 0x7F)

/-- Management sessions, trust anchors and the SPDM responder.
Choices of the model behind it: logs 8, 57, 58. -/
def Obligations.SessionsAndAttestation : Prop := SessionsAndAnchors ∧ SpdmAnswersInSequence

/-! ### Faults, hangs and recovery -/

/-- Islands. ISLAND_RESET takes an island out of service, of a Sward or rick island that no command uses nothing else changes, and of one
already in reset nothing at all; the return brings it back and logs 0x0121, waits while SEC or RCK0 has to give it its keys first, and is ignored where it is not in reset; a
failure to return leaves it failed and logs 0x0122. A wedged island fires its source and is reset where ISLAND_AUTO_RESET is 1.
Choices of the model behind it: logs 13, 60. -/
def Obligations.IslandsResetReturnAndFail : Prop :=
  ∀ (s : State),
    (∀ (via : Path) (tag : Tag) (v : BitVec 8) (f : Facts), f.stuck = 0 → ManagerAsks s via → 1 ≤ v.toNat → v.toNat ≤ 38 →
      (Tbl.get s.flt.state v.toNat = 1 ∨ Tbl.get s.flt.state v.toNat = 2 ∨ Tbl.get s.flt.state v.toNat = 4 ∨ s.pow.st = 4 →
        Answers (.islandReset via tag v f) s s via (writeReq tag 0x1F00 4 1) 1 0) ∧
      (Tbl.get s.flt.state v.toNat = 0 → s.pow.st ≠ 4 →
        ∃ u, Answers (.islandReset via tag v f) s u via (writeReq tag 0x1F00 4 1) 1 0 ∧ islandOut u v.toNat = true) ∧
      (15 ≤ v.toNat → v.toNat ≤ 22 → Tbl.get s.flt.state v.toNat = 0 → s.pow.st ≠ 4 → islandUsers s v.toNat = [] →
        Answers (.islandReset via tag v f) s { s with
          flt.state := Tbl.set s.flt.state v.toNat 2, flt.wedged := s.flt.wedged.filter (fun i => i ≠ v.toNat), flt.killed := Tbl.set s.flt.killed v.toNat 0 } via
          (writeReq tag 0x1F00 4 1) 1 0) ∧
      (11 ≤ v.toNat → v.toNat ≤ 14 → Tbl.get s.flt.state v.toNat = 0 → s.pow.st ≠ 4 → islandUsers s v.toNat = [] →
        ∃ u, Answers (.islandReset via tag v f) s u via (writeReq tag 0x1F00 4 1) 1 0 ∧ islandOut u v.toNat = true ∧
          (Tbl.get u.flt.state v.toNat = 1 ↔ (islandOut s 2 = true ∨ (v.toNat ≠ 11 ∧ islandOut s 11 = true))) ∧ u.rick = s.rick ∧
          u.pads = s.pads)) ∧
    (∀ i : Fin 64, s.sys.boot = 3 →
      (Tbl.get s.flt.state i.val ≠ 1 → Tbl.get s.flt.state i.val ≠ 2 → exec (.islandReturn i) s = .next (settle s)) ∧
      (Tbl.get s.flt.state i.val = 2 → s.pow.st ≠ 4 → keysReady s i.val = false → exec (.islandReturn i) s =
        .next (settle { s with flt.state := Tbl.set s.flt.state i.val 1 })) ∧
      (Tbl.get s.flt.state i.val = 1 ∨ Tbl.get s.flt.state i.val = 2 → s.pow.st ≠ 4 → keysReady s i.val = true → i.val ∉ [1, 4, 5, 9] →
        ∃ u, exec (.islandReturn i) s = .next (settle u) ∧ Tbl.get u.flt.state i.val = 0 ∧
          (∀ j, j ≠ i.val → Tbl.get u.flt.state j = Tbl.get s.flt.state j) ∧
          Tbl.get u.ev.occurs 736 = (Tbl.get s.ev.occurs 736 + 1) % 65536 ∧ u.pads = s.pads ∧ u.cmd = s.cmd) ∧
      (Tbl.get s.flt.state i.val = 2 → s.pow.st ≠ 4 → i.val ≠ 1 → failHits s i.val = [] →
        ∃ u, exec (.islandFailed i) s = .next (settle u) ∧ Tbl.get u.flt.state i.val = 3 ∧
          (∀ j, j ≠ i.val → Tbl.get u.flt.state j = Tbl.get s.flt.state j) ∧ u.pads = s.pads ∧ u.cmd = s.cmd ∧
          (vital i.val = true → deviceHealth u = 2)) ∧
      (Tbl.get s.flt.state i.val ≠ 2 → exec (.islandFailed i) s = .next (settle s)) ∧
      (∀ paddock ctx, i.val = 0 ∨ 38 < i.val ∨ islandOut s i.val = true ∨ i.val ∈ s.flt.wedged →
        exec (.islandWedged i paddock ctx) s = .next (settle s)) ∧
      (∀ paddock ctx, i.val ≠ 0 → i.val ≤ 38 → islandOut s i.val = false → i.val ∉ s.flt.wedged → getO s 0x1F00 6 = 0 →
        ∃ u, exec (.islandWedged i paddock ctx) s = .next (settle u) ∧ u.flt.wedged = s.flt.wedged ++ [i.val] ∧
          Tbl.get u.ev.occurs (768 + i.val) = (Tbl.get s.ev.occurs (768 + i.val) + 1) % 65536 ∧ u.flt.state = s.flt.state ∧
          u.pads = s.pads ∧ u.cmd = s.cmd))

/-- Hangs. CTX_NO_PROGRESS of a context that does not run or waits only where it may is ignored; of any other it kills the context with
LAST_ERROR 0x0123. WAITGRAPH_SCAN with no wait between contexts changes nothing; a cycle loses its youngest command, whose rerun is withheld
until WAITGRAPH_BACKOFF_EXPIRY. -/
def Sys2Proof.HangsAreBroken : Prop :=
  ∀ (s : State), 2 ≤ s.sys.boot →
    (∀ (p : PNum) (c : BitVec 12),
      (ctxOf s p.val c.toNat = none → exec (.ctxNoProgress p c) s = .next (settle s)) ∧
      (∀ x, ctxOf s p.val c.toNat = some x →
        (x.st ≠ .running ∨ (∀ id ∈ ctxCmds s p.val c.toNat, watched s id = false) → exec (.ctxNoProgress p c) s = .next (settle s)) ∧
        (∀ id k, x.st = .running → ctxCmds s p.val c.toNat = [id] → watched s id = true → cmdOf s id = some k →
          exec (.ctxNoProgress p c) s = .next (settle (updCtx (stopCtx (geqCmd s k 0x0123 2 [c.toNat, x.progress]) p.val c.toNat .control .killed)
            p.val c.toNat (fun x => { x with lastErr := 0x0123 })))))) ∧
    (waitEdges s = [] → exec .waitgraphScan s = .next (settle s)) ∧
    (∀ a cs es ctxs n, es = waitEdges s → cs = (es.map (fun e => (ctxKey s e.1, ctxKey s e.2))).eraseDups →
      (cs.map (fun e => e.1)).find? (fun a => !(cycleOf cs a).isEmpty) = some a → ctxs = cycleOf cs a → s.cmd.live.length = n + 1 →
      waitEdges (breakCycle s (cycleCmds s es ctxs) ctxs) = [] →
      exec .waitgraphScan s = .next (settle (breakCycle s (cycleCmds s es ctxs) ctxs))) ∧
    (∀ ids ctxs id, youngest s ids = some id → cmdOf s id ≠ none →
      (id, ids.filter (fun i => i ≠ id)) ∈ (breakCycle s ids ctxs).flt.withheld ∧
      (∀ k ∈ (breakCycle s ids ctxs).cmd.killed, k.id = id → k.backoff = true)) ∧
    (∀ id, ∃ u, exec (.waitgraphBackoffExpiry id) s = .next (settle u) ∧ (∀ w ∈ u.flt.withheld, w.1 ≠ id) ∧
      (∀ k ∈ u.cmd.killed, k.id = id → k.backoff = false) ∧ { u with flt := s.flt, cmd := s.cmd } = s)

/-- Snapshots, dumps, Mbomon's kicks and the hard fence. An island that runs refreshes its buffer; SNAPSHOT_TAKE freezes the buffers into a
free dump slot, or logs 0x0126; a dump on flash is unread until DUMP_RELEASE. A kick restarts the second that MGT_WATCHDOG waits for; the
first and second reset within 10 s lose what MGT held. HARD_FENCE gates the paddock and faults it with 0x020E, and an EMPTY one is refused. -/
def Sys2Proof.DumpsWatchdogsAndHardFence : Prop :=
  ∀ (s : State) (via : Path) (tag : Tag),
    (∀ i : Fin 64, 2 ≤ s.sys.boot →
      (i.val = 0 ∨ 38 < i.val ∨ islandOut s i.val = true ∨ i.val ∈ s.flt.wedged → exec (.snapshotBufferUpdate i) s = .next (settle s)) ∧
      (i.val ≠ 0 → i.val ≤ 38 → islandOut s i.val = false → i.val ∉ s.flt.wedged → exec (.snapshotBufferUpdate i) s =
        .next (settle { s with flt.snapBuffers := Tbl.set s.flt.snapBuffers i.val (ns s, bufferOf s i.val) }))) ∧
    (ManagerAsks s via →
      (dumpSlot s = none ∨ s.log.frozen ≠ none → Answers (.snapshotTake via tag) s (logDev s 0x0126 0 [0xFF]) via
        (writeReq tag 0x1F00 0x0B 1) 1 0) ∧
      (∀ k, dumpSlot s = some k → s.log.frozen = none → ∃ u, Answers (.snapshotTake via tag) s u via (writeReq tag 0x1F00 0x0B 1) 1 0 ∧
        u.log.frozen = some k ∧ (∃ d, u.log.dumps = s.log.dumps.set k d ∧ d.st = 1 ∧ d.cause = 0xFF ∧ d.boot = s.sys.bootCount ∧ d.time = ns s) ∧
        u.store.work = s.store.work ++ [.dump] ∧ u.pads = s.pads ∧ u.rick = s.rick) ∧
      (∀ v : BitVec 8, 1 ≤ v.toNat → v.toNat ≤ 4 → Answers (.dumpRelease via tag v) s { s with
        log.dumps := s.log.dumps.zipIdx.map (fun e => if e.2 + 1 = v.toNat && e.1.st = 2 then { e.1 with st := 3 } else e.1) } via
        (writeReq tag 0x1F04 4 1) 1 0) ∧
      (∀ v : BitVec 8, v.toNat < 64 →
        ((pad s v.toNat).state = .empty → Answers (.hardFence via tag v) s s via (writeReq tag 0x1F00 2 1) 1 0x0201) ∧
        ((pad s v.toNat).state = .faulted → (pad s v.toNat).pend = none → (pad s v.toNat).lots = [] →
          Answers (.hardFence via tag v) s (logPad { s with flt.gate := join s.flt.gate (2 ^ v.toNat) } v.toNat 0x020E 0 []) via
            (writeReq tag 0x1F00 2 1) 1 0) ∧
        ((pad s v.toNat).state ≠ .empty → (pad s v.toNat).state ≠ .faulted →
          ∃ u, Answers (.hardFence via tag v) s u via (writeReq tag 0x1F00 2 1) 1 0 ∧ u.flt.gate = join s.flt.gate (2 ^ v.toNat) ∧
          (pad u v.toNat).state = .faulted ∧ (pad u v.toNat).cause = 0x020E ∧ (pad u v.toNat).pend = none ∧
          (∀ k, k ≠ v.toNat → strip (pad u k) = strip (pad s k))))) ∧
    (2 ≤ s.sys.boot →
      (s.log.frozen = none → exec .dumpWritten s = .next (settle s)) ∧
      (∀ k, s.log.frozen = some k → ∃ u, exec .dumpWritten s = .next (settle u) ∧ u.log.frozen = none ∧
        (∃ d, u.log.dumps = s.log.dumps.set k d ∧ d.st = 2 ∧ d.len = 262144 ∧ d.data = (s.log.dumps.getD k {}).data) ∧
        .dump ∉ u.store.work ∧ u.pads = s.pads) ∧
      exec .mgtKick s = .next (settle { s with flt.kickAt := s.sys.uptime }) ∧
      (∀ b, s.sys.boot ≠ 3 ∨ islandOut s 1 = true ∨ s.sys.uptime < s.flt.kickAt + 10 ^ 9 → exec (.mgtWatchdog b) s = .next (settle s)) ∧
      (∀ b, s.sys.boot = 3 → Tbl.get s.flt.state 1 = 0 → s.pow.st ≠ 4 → s.flt.kickAt + 10 ^ 9 ≤ s.sys.uptime → (recentMgtResets s).length < 3 →
        ∃ u, exec (.mgtWatchdog b) s = .next (settle u) ∧ islandOut u 1 = true ∧ u.flt.mgtResets = recentMgtResets s ∧
          u.obj.draft = u.obj.committed ∧ u.obj.committed = s.obj.committed ∧ u.obj.draftOwner = none ∧ u.sec.sessions = [] ∧
          u.ev.lark = [] ∧ u.pads = s.pads ∧ u.rick.cells = s.rick.cells))

/-- Watchdogs, the wait graph, dumps and the hard fence.
Choices of the model behind it: logs 13, 62, 85. -/
def Obligations.WatchdogsDumpsAndHardFence : Prop := HangsAreBroken ∧ DumpsWatchdogsAndHardFence

/-! ### Paired mode -/

/-- Joins and splits. A join whose conditions hold makes the halves one unit with the larger CVN_LAST; one that fails leaves UNPAIRED. Neither
row acts on a half that is not joining. The loss of a unit leaves SPLIT: a paddock that spans the halves is FAULTED with 0x0E03, and one that
the other half holds becomes a mirror entry. -/
def Sys2Proof.HalvesJoinAndSplit : Prop :=
  ∀ (s : State), 2 ≤ s.sys.boot →
    (∀ x : Peer, s.pair.st = 1 →
      (joinCondition s x = 0 → s.pair.mirrorEntries = [] → ∃ u, exec (.joinComplete x) s = .next (settle u) ∧ u.pair.st = 2 ∧
        u.pair.peer = some x ∧ u.pair.pairKey = some x.key ∧ u.pair.mirrorOut = [] ∧ u.obj.cvnLast = max s.obj.cvnLast x.cvnLast ∧
        u.obj.committed = s.obj.committed ∧ u.pads = s.pads) ∧
      (∀ c, joinCondition s x = c → c ≠ 0 → exec (.joinComplete x) s =
        .next (settle (logDev { s with pair.st := 0 } 0x0E01 0 [c, x.uid.toNat])))) ∧
    (∀ (x : Peer) (cond : BitVec 8), s.pair.st ≠ 1 → s.pair.st ≠ 4 →
      exec (.joinComplete x) s = .next (settle s) ∧ exec (.joinFailed cond) s = .next (settle s)) ∧
    (∀ cond : BitVec 8, s.pair.st = 1 → exec (.joinFailed cond) s =
      .next (settle (logDev { s with pair.st := 0 } 0x0E01 0 [cond.toNat, (s.pair.peer.map (fun x => x.uid.toNat)).getD 0]))) ∧
    (∀ cause : BitVec 8,
      (paired s = false → exec (.pairLost cause) s = .next (settle s)) ∧
      (paired s = true → ∃ u, exec (.pairLost cause) s = .next (settle u) ∧ u.pair.st = 4 ∧ u.pair.mirrorOut = [] ∧
        u.pair.mirrorEntries = ((s.pads.filter (fun e => e.2.state ≠ .empty || e.2.pend.isSome)).map (fun e => e.1)).filter (elsewhere s) ∧
        (∀ p, (pad s p).state ≠ .empty → spans s p = true ∨ elsewhere s p = true →
          (pad u p).state = .faulted ∧ ((pad s p).state ≠ .faulted → (pad u p).cause = 0x0E03) ∧ (pad u p).pend = none) ∧
        (∀ p, spans s p = false → elsewhere s p = false → strip (pad u p) = strip (pad s p))))

/-- Heartbeats and mirror requests. A heartbeat goes out while a pair port is UP. The secondary acknowledges a request that it has carried out,
repeats the acknowledgement of an older one, and ignores a broken one; the primary goes on at the acknowledgement, and sends again the request
that got none. -/
def Sys2Proof.MirrorRequestsAreCarriedOut : Prop :=
  ∀ (s : State), 2 ≤ s.sys.boot →
    (s.pair.st ≠ 0 → portsUp s ≠ 0 → exec .pairHeartbeat s = .next (settle (emit s (.pair 0 0 0 0)))) ∧
    (s.pair.st = 0 ∨ portsUp s = 0 → exec .pairHeartbeat s = .next (settle s)) ∧
    (∀ (n : BitVec 32) (p : PNum) (cmd : BitVec 8),
      (∀ ok, paired s = false ∨ secondHalf s = false ∨ ok = false → exec (.mirrorRequest n p cmd ok) s = .next (settle s)) ∧
      (paired s = true → secondHalf s = true →
        (n.toNat < s.pair.mirrorNext → exec (.mirrorRequest n p cmd true) s = .next (settle (emit s (.pair 2 n.toNat p.val cmd.toNat)))) ∧
        (∀ t, s.pair.mirrorNext ≤ n.toNat → doPaddockControl s p.val cmd.toNat = (t, some 0) →
          (pad t p.val).pend ≠ none ∨ (pad t p.val).result = 0 → exec (.mirrorRequest n p cmd true) s =
          .next (settle (emit { t with pair.mirrorNext := n.toNat + 1 } (.pair 2 n.toNat p.val cmd.toNat)))) ∧
        (∀ t code, s.pair.mirrorNext ≤ n.toNat → doPaddockControl s p.val cmd.toNat = (t, some code) → code ≠ 0 →
          exec (.mirrorRequest n p cmd true) s = .next (settle s)))) ∧
    (∀ n : BitVec 32,
      (s.pair.mirrorOut.find? (fun m => m.1 = n.toNat) = none →
        exec (.mirrorAck n) s = .next (settle s) ∧ exec (.mirrorResend n) s = .next (settle s)) ∧
      (∀ p cmd t, s.pair.mirrorOut.find? (fun m => m.1 = n.toNat) = some (n.toNat, p, cmd) →
        t = { s with pair.mirrorOut := s.pair.mirrorOut.filter (fun x => x.1 ≠ n.toNat) } →
        exec (.mirrorResend n) s = .next (settle (emit s (.pair 1 n.toNat p cmd))) ∧
        (cmd ≠ 3 → exec (.mirrorAck n) s = .next (settle (pendStep t p))) ∧
        (cmd = 3 → (pad s p).state = .opened → exec (.mirrorAck n) s = .next (settle (startDrain t p)))))

/-- Joins, splits, heartbeats and mirror requests.
Choices of the model behind it: logs 13, 64. -/
def Obligations.PairedMode : Prop := HalvesJoinAndSplit ∧ MirrorRequestsAreCarriedOut

/-! ### Management, sensors and power -/

/-- The sensor bus and the power cap. Readings are kept while the bus works, and each fault bit is logged; three failed retries leave the bus
failed, which a later recovery ends. CAP_TICK follows the power manager's procedure: over the cap or under the throttle the Sward's clock
falls by 100 MHz to 1200 MHz at least, then its duty by one sixteenth; 10 W below the cap they rise again; under the brake and after a trip
neither moves.
Choices of the model behind it: logs 13, 66. -/
def Obligations.SensorBusAndPowerCap : Prop :=
  ∀ (s : State), 2 ≤ s.sys.boot →
    (∀ r status, s.pow.sensorBus ≠ 0 → exec (.sensorPoll r status) s = .next (settle s)) ∧
    (∀ r, s.pow.sensorBus = 0 → exec (.sensorPoll r []) s = .next (settle { s with pow.readings := r }) ∧
      (∀ a v b, setBits 16 v = [b] → exec (.sensorPoll r [(a, v)]) s = .next (settle (logDev { s with pow.readings := r } 0x0C0A 0 [a, b])))) ∧
    exec (.sensorBusRecovery true) s = .next (settle s) ∧
    (s.pow.sensorBus = 0 → exec (.sensorBusRecovery false) s = .next (settle { s with pow.sensorBus := 1, pow.sensorTries := 0 })) ∧
    (s.pow.sensorBus = 1 →
      exec (.sensorBusRetry true) s = .next (settle { s with pow.sensorBus := 0, pow.sensorTries := 0 }) ∧
      (s.pow.sensorTries < 2 → exec (.sensorBusRetry false) s = .next (settle { s with pow.sensorTries := s.pow.sensorTries + 1 })) ∧
      (2 ≤ s.pow.sensorTries → ∃ u, exec (.sensorBusRetry false) s = .next (settle u) ∧ u.pow.sensorBus = 2 ∧ capInForce u = 765 ∧
        Tbl.get u.ev.occurs 701 = (Tbl.get s.ev.occurs 701 + 1) % 65536 ∧ u.pads = s.pads)) ∧
    (s.pow.sensorBus = 2 →
      exec (.sensorBusPeriodicRecovery false) s = .next (settle { s with pow.sensorTries := s.pow.sensorTries + 1 }) ∧
      ∃ u, exec (.sensorBusPeriodicRecovery true) s = .next (settle u) ∧ u.pow.sensorBus = 0 ∧ capInForce u = getO s 0x2100 3 ∧
        Tbl.get u.ev.occurs 702 = (Tbl.get s.ev.occurs 702 + 1) % 65536 ∧ u.pads = s.pads) ∧
    (∀ mw, ∃ u, exec (.capTick mw) s = .next (settle u) ∧ u.pow.modulePower = mw ∧ u.pads = s.pads ∧ u.cmd = s.cmd ∧
      (s.pow.brake ≠ none ∨ s.pow.st = 4 → u.pow.freqMhz = s.pow.freqMhz ∧ u.pow.duty = s.pow.duty) ∧
      (s.pow.brake = none → s.pow.st ≠ 4 →
        (1000 * capInForce s < mw ∨ s.pow.throttle = true →
          (1200 < s.pow.freqMhz → u.pow.freqMhz = max (s.pow.freqMhz - 100) 1200 ∧ u.pow.duty = s.pow.duty) ∧
          (s.pow.freqMhz ≤ 1200 → u.pow.freqMhz = s.pow.freqMhz ∧ u.pow.duty = s.pow.duty - 1)) ∧
        (mw ≤ 1000 * capInForce s → s.pow.throttle = false →
          (mw + 10000 < 1000 * capInForce s → s.pow.duty < 16 → u.pow.freqMhz = s.pow.freqMhz ∧ u.pow.duty = s.pow.duty + 1) ∧
          (mw + 10000 < 1000 * capInForce s → 16 ≤ s.pow.duty → u.pow.freqMhz = min (s.pow.freqMhz + 25) (getO s 0x1800 1) ∧
            u.pow.duty = s.pow.duty) ∧
          (1000 * capInForce s ≤ mw + 10000 → u.pow.freqMhz = s.pow.freqMhz ∧ u.pow.duty = s.pow.duty))))

/-- Power states. POWER_STATE_SET 0 does nothing in RUN and IDLE and is refused with 0x0C01 elsewhere; DOZE is refused while a command runs or a
paddock drains, SLEEP while a paddock is not EMPTY; DOZE takes no link UP, SLEEP leaves AON, MGT and SEC alone and loses the rick. IDLE follows
when no tussock has work. -/
def Sys2Proof.PowerStatesAreEntered : Prop :=
  ∀ (s : State) (via : Path) (tag : Tag),
    (ManagerAsks s via →
      (s.pow.st ≤ 1 → Answers (.powerStateSetRun via tag) s s via (writeReq tag 0x2100 2 1) 1 0) ∧
      (2 ≤ s.pow.st → Answers (.powerStateSetRun via tag) s s via (writeReq tag 0x2100 2 1) 1 0x0C01) ∧
      ((2 < s.pow.st ∨ (∃ e ∈ s.cmd.live, e.2.inner = false) ∨ ∃ e ∈ s.pads, e.2.state = .draining) →
        Answers (.powerStateSetDoze via tag) s s via (writeReq tag 0x2100 2 1) 1 0x0C01) ∧
      (s.pow.st ≤ 1 → (∀ e ∈ s.cmd.live, e.2.inner = true) → (∀ e ∈ s.pads, e.2.state ≠ .draining) →
        (∀ l, l < 68 → (link s l).st ≠ .up) → s.ftm.st ≠ 2 →
        Answers (.powerStateSetDoze via tag) s { s with pow.st := 2 } via (writeReq tag 0x2100 2 1) 1 0) ∧
      (s.pow.st ≤ 1 → (∀ e ∈ s.cmd.live, e.2.inner = true) → (∀ e ∈ s.pads, e.2.state ≠ .draining) → s.net.qps = [] → s.ftm.st ≠ 2 →
        ∃ u, Answers (.powerStateSetDoze via tag) s u via (writeReq tag 0x2100 2 1) 1 0 ∧ u.pow.st = 2 ∧ u.rick.cells = s.rick.cells ∧
          ∀ l, l < 68 → (link u l).st ≠ .up) ∧
      (notEmpty s ≠ [] ∨ s.pow.st = 4 → Answers (.powerStateSetSleep via tag) s s via (writeReq tag 0x2100 2 1) 1 0x0C01) ∧
      (notEmpty s = [] → s.pow.st ≤ 2 → ∃ u, Answers (.powerStateSetSleep via tag) s u via (writeReq tag 0x2100 2 1) 1 0 ∧ u.pow.st = 3 ∧
        u.rick.cells = [] ∧ u.com.free = 0 ∧ u.log.geq = [] ∧ (∀ p, (pad u p).trace = []) ∧ (∀ i, 3 ≤ i → i < 39 → Tbl.get u.flt.state i = 4))) ∧
    (2 ≤ s.sys.boot →
      (s.pow.st = 0 → arrayBusy s = false → exec .idleEntry s = .next (settle { s with pow.st := 1 })) ∧
      (s.pow.st ≠ 0 ∨ arrayBusy s = true → exec .idleEntry s = .next (settle s)))

/-- Heat and brownout. A threshold event records the reading; the throttle begins at 100 °C and ends when every sensor reads below 97 °C; a trip
holds every island but AON, MGT and SEC in reset, drives alert_n low and leaves TRIPPED. A brownout warning engages the brake once and counts
one episode, which keeps the lowest reading; its end releases the brake and logs 0x0C02.
Choices of the model behind it: logs 13, 67. -/
def Obligations.HeatAndBrownout : Prop :=
  ∀ (s : State), 2 ≤ s.sys.boot →
    (∀ (k : Fin 64) (m : BitVec 32), ∃ u, exec (.thermalThreshold k m) s = .next (settle u) ∧
      u.pow.temps = Tbl.set s.pow.temps k.val m.toNat ∧
      Tbl.get u.ev.occurs (608 + k.val) = (Tbl.get s.ev.occurs (608 + k.val) + 1) % 65536 ∧
      ((100000 : Int) ≤ toSigned 32 m.toNat → u.pow.throttle = true) ∧
      (s.pow.throttle = false → (100000 : Int) ≤ toSigned 32 m.toNat →
        Tbl.get u.ev.occurs 699 = (Tbl.get s.ev.occurs 699 + 1) % 65536) ∧
      ((∀ j, j < 64 → toSigned 32 (Tbl.get u.pow.temps j) < 97000) → u.pow.throttle = false) ∧
      (toSigned 32 m.toNat < 100000 → (∃ j, j < 64 ∧ (97000 : Int) ≤ toSigned 32 (Tbl.get u.pow.temps j)) → u.pow.throttle = s.pow.throttle) ∧
      u.pads = s.pads ∧ u.cmd = s.cmd) ∧
    (∀ k : Fin 64, (s.pow.st = 4 → exec (.thermalTrip k) s = .next (settle s)) ∧
      (s.pow.st ≠ 4 → ∃ u, exec (.thermalTrip k) s = .next (settle u) ∧ u.pow.st = 4 ∧ u.sys.alertLow = true ∧ Out.alertN true ∈ u.out ∧
        (∀ i, 3 ≤ i → i < 39 → islandOut u i = true))) ∧
    (∀ (rail : Fin 24) (mv : Nat),
      (s.pow.brake = none → ∃ u, exec (.brownoutWarning rail mv) s = .next (settle u) ∧ u.pow.brake = some (rail.val, mv) ∧
        u.pow.brownouts = (s.pow.brownouts + 1) % 2 ^ 32 ∧ Tbl.get u.ev.occurs 696 = (Tbl.get s.ev.occurs 696 + 1) % 65536 ∧
        Tbl.get u.ev.occurs 698 = (Tbl.get s.ev.occurs 698 + 1) % 65536 ∧ { u with pow := s.pow, ev := s.ev, store.running := s.store.running } = s) ∧
      (∀ r m, s.pow.brake = some (r, m) → ∃ u, exec (.brownoutWarning rail mv) s = .next (settle u) ∧
        u.pow.brake = some (if mv < m then (rail.val, mv) else (r, m)) ∧ u.pow.brownouts = s.pow.brownouts ∧
        { u with pow := s.pow, ev := s.ev } = s)) ∧
    (∀ mv us, (s.pow.brake = none → exec (.brakeRelease mv us) s = .next (settle s)) ∧
      (∀ r m, s.pow.brake = some (r, m) → ∃ u, exec (.brakeRelease mv us) s = .next (settle u) ∧ u.pow.brake = none ∧
        u.pow.brownoutLast = pack [(8, r), (32, min m mv), (24, us), (64, ns s)] ∧
        Tbl.get u.ev.occurs 697 = (Tbl.get s.ev.occurs 697 + 1) % 65536 ∧ u.pads = s.pads ∧ u.cmd = s.cmd))

/-- The management Ethernet and the board's pins. A frame with an error sets its sticky bits and is dropped; a good one for a listed or the
broadcast address is answered where Mbomon answers it, and any other is ignored. -/
def Sys2Proof.ManagementEthernet : Prop :=
  ∀ (s : State), 2 ≤ s.sys.boot →
    (∀ (dst : BitVec 48) (body : Bytes) (errors : BitVec 8),
      (errors.toNat ≠ 0 → exec (.ethFrame dst body errors) s =
        .next (settle { s with pow.ethStats := join s.pow.ethStats (errors.toNat % 128) })) ∧
      (errors.toNat = 0 → dst.toNat ≠ 2 ^ 48 - 1 → dst.toNat ∉ unicast s → exec (.ethFrame dst body errors) s = .next (settle s)) ∧
      (errors.toNat = 0 → dst.toNat = 2 ^ 48 - 1 ∨ dst.toNat ∈ unicast s →
        (∀ a, ethAnswer s body = some a → exec (.ethFrame dst body errors) s = .next (settle (emit s (.eth a)))) ∧
        (ethAnswer s body = none → exec (.ethFrame dst body errors) s = .next (settle s)))) ∧
    (∃ u, exec .pauseWatchdog s = .next (settle u) ∧ u.pow.ethStats = join s.pow.ethStats 128 ∧
      Tbl.get u.ev.occurs 849 = (Tbl.get s.ev.occurs 849 + 1) % 65536 ∧ u.pads = s.pads ∧ u.obj = s.obj) ∧
    (∀ (via : Path) (tag : Tag) (v : BitVec 8), ManagerAsks s via → Answers (.ethStatsClear via tag v) s
      { s with pow.ethStats := less s.pow.ethStats v.toNat } via (writeReq tag 0x2111 6 1) 1 0) ∧
    (∀ v : BitVec 8, (4 < v.toNat → exec (.ethLinkChange v) s = .next (settle s)) ∧
      (v.toNat ≤ 4 → exec (.ethLinkChange v) s = .next (settle (fire { s with
        pow.ethLink := if v.toNat ≠ 0 && cfg s 0x2111 3 ≠ 0 then cfg s 0x2111 3 else v.toNat } 848)))) ∧
    exec .sensorBusAlert s = .next (settle (fire s 852))

/-- Power states, and the management Ethernet.
Choices of the model behind it: logs 13, 30, 44, 65, 66. -/
def Obligations.PowerStatesAndEthernet : Prop := PowerStatesAreEntered ∧ ManagementEthernet

/-! ### The persistent store -/

/-- Programs, erases and mowing. A program that ends well puts its entry, its snapshot or its image data where it belongs, and its operation
leaves the queue; one that fails retires the block. An erase that passed its blank check counts one erase of the block and closes it, and any
other retires the block. Mowing yields to every other operation, counts the bits it corrects, and retires a block it cannot read.
Choices of the model behind it: logs 10, 13, 69, 71, 72, 87. -/
def Obligations.FlashOperationsTakeEffect : Prop :=
  ∀ (s : State), 2 ≤ s.sys.boot → s.pow.brake = none → s.store.readOnly = false →
    (s.store.work = [] → (∀ ok, exec (.flashProgramDone ok) s = .next (settle s)) ∧ ∀ ok blank, exec (.flashEraseDone ok blank) s = .next (settle s)) ∧
    (∀ e, s.store.work = [.cairn e] → s.log.cairn.length < cairnRoom → ∃ u, exec (.flashProgramDone true) s = .next (settle u) ∧
      u.log.cairn = s.log.cairn ++ [e] ∧ u.store.work = [] ∧ Tbl.get u.ev.occurs 853 = (Tbl.get s.ev.occurs 853 + 1) % 65536 ∧ u.pads = s.pads) ∧
    (∀ p rcd, s.store.work = [.snapshot p rcd] → s.acct.meterJournal.length < meterRoom → ∃ u,
      exec (.flashProgramDone true) s = .next (settle u) ∧ u.acct.meterJournal = s.acct.meterJournal ++ [(p, bits (beNat rcd) 3935 3904, rcd)] ∧
      u.acct.snapWork = s.acct.snapWork ++ [(p, rcd)] ∧ u.store.work = [] ∧ u.pads = s.pads) ∧
    (∀ k off data, s.store.work = [.fw k off data] → ∃ u, exec (.flashProgramDone true) s = .next (settle u) ∧
      (k, off, data) ∈ u.store.images ∧ (∀ e ∈ s.store.images, (e.1, e.2.1) ≠ (k, off) → e ∈ u.store.images) ∧ u.store.work = [] ∧ u.pads = s.pads) ∧
    (∀ e, s.store.work = [.cairn e] → badBlock s (opBlock s (.cairn e)) = false → ∃ u, exec (.flashProgramDone false) s = .next (settle u) ∧
      badBlock u (opBlock s (.cairn e)) = true ∧ u.log.cairn = s.log.cairn ∧ FlashOp.cairn e ∈ u.store.work ∧
      Tbl.get u.ev.occurs 746 = (Tbl.get s.ev.occurs 746 + 1) % 65536) ∧
    (∀ b, s.store.work = [.erase b] →
      (∃ u, exec (.flashEraseDone true true) s = .next (settle u) ∧ Tbl.get u.store.erases b = erases s b + 1 ∧ badBlock u b = badBlock s b ∧
        u.pads = s.pads) ∧
      (∀ ok blank, (ok = false ∨ blank = false) → badBlock s b = false → ∃ u, exec (.flashEraseDone ok blank) s = .next (settle u) ∧
        badBlock u b = true ∧ u.store.erases = s.store.erases ∧ u.pads = s.pads)) ∧
    (∀ block corrected readable,
      (s.store.work ≠ [] ∨ flashBlocks ≤ block ∨ badBlock s block = true → exec (.flashMow block corrected readable) s = .next (settle s)) ∧
      (s.store.work = [] → block < flashBlocks → badBlock s block = false → block ∉ s.store.eraseOpen → islandOut s 1 = false →
        (corrected < 6 → exec (.flashMow block corrected true) s = .next (settle (addO s 0x2200 0x0C corrected 64))) ∧
        (∃ u, exec (.flashMow block corrected false) s = .next (settle u) ∧ badBlock u block = true ∧ u.pads = s.pads)))

/-- The firmware update. Each command finishes with 0x0D0B in a slot state that does not allow it, and changes nothing. FW_BEGIN erases the
inactive slot and leaves it WRITING; FW_DATA queues 1,024 bytes at FW_OFFSET, which advances; FW_FINISH checks the image once its programs are
done: READY, or FAILED with 0x0D09; FW_ACTIVATE and FW_CONFIRM rewrite the boot record copy by copy, and are answered after copy 0.
Choices of the model behind it: logs 8, 70. -/
def Obligations.FirmwareUpdateFollowsItsTransitions : Prop :=
  ∀ (s : State) (via : Path) (tag : Tag) (k : Nat), ManagerAsks s via → k = otherSlot s →
    (slotState s k ≠ 0 → slotState s k ≠ 2 → slotState s k ≠ 5 →
      Answers (.fwBegin via tag) s s via (writeReq tag 0x2202 1 1) 1 0x0D0B) ∧
    ((slotState s k = 0 ∨ slotState s k = 2 ∨ slotState s k = 5) → ∃ u, Answers (.fwBegin via tag) s u via (writeReq tag 0x2202 1 1) 1 0 ∧
      u.store.slots = s.store.slots.set k 1 ∧ (∀ e ∈ u.store.images, e.1 ≠ k) ∧
      u.store.work = s.store.work ++ (List.range 64).map (fun i => .erase (phys s (64 * k + i))) ∧ u.pads = s.pads) ∧
    (∀ data : Bytes, data.length = 1024 →
      (slotState s k ≠ 1 → Answers (.fwData via tag data) s s via (writeReq tag 0x2202 3 1024) 1024 0x0D0B) ∧
      (slotState s k = 1 → slotBytes < getO s 0x2202 2 + 1024 → Answers (.fwData via tag data) s s via (writeReq tag 0x2202 3 1024) 1024 0x0106) ∧
      (slotState s k = 1 → getO s 0x2202 2 + 1024 ≤ slotBytes → Answers (.fwData via tag data) s { setO s 0x2202 2 (getO s 0x2202 2 + 1024) with
        store.work := s.store.work ++ [.fw k (getO s 0x2202 2) data] } via (writeReq tag 0x2202 3 1024) 1024 0)) ∧
    (∀ (v : BitVec 32) (f : Facts), 1 ≤ v.toNat → v.toNat ≤ slotBytes →
      (slotState s k ≠ 1 → Answers (.fwFinish via tag v f) s s via (writeReq tag 0x2202 4 4) 4 0x0D0B) ∧
      (slotState s k = 1 → s.store.work = [] → s.pow.brake = none → s.store.readOnly = false → k < s.store.slots.length →
        ∃ u hdr, exec (.fwFinish via tag v f) s = .next (settle u) ∧ Out.response via hdr [] ∈ u.out ∧ hTag hdr.toNat = tag.toNat ∧
          bits hdr.toNat 31 16 = (if f.sigOk then 0 else 0x0D09) ∧ u.store.slots = s.store.slots.set k (if f.sigOk then 2 else 5) ∧
          u.store.work = [] ∧ u.obj.serving = none ∧ u.pads = s.pads)) ∧
    (slotState s k ≠ 2 → Answers (.fwActivate via tag) s s via (writeReq tag 0x2202 5 1) 1 0x0D0B) ∧
    (slotState s k = 2 → s.store.work = [] → (∀ c, c < 4 → badBlock s c = false) → ∃ u gen a b, exec (.fwActivate via tag) s = .next (settle u) ∧
      a = (s.store.slots.set k 3).getD 0 0 ∧ b = (s.store.slots.set k 3).getD 1 0 ∧ u.store.work = [.erase 3, .boot 3 gen a b via tag 5, .erase 2,
        .boot 2 gen a b via tag 5, .erase 1, .boot 1 gen a b via tag 5, .erase 0, .boot 0 gen a b via tag 5] ∧ gen = bootGen s + 1 ∧
      u.store.slots = s.store.slots ∧ u.obj.serving = some (via, tag) ∧ u.out = s.out) ∧
    (slotState s s.sys.bootSlot ≠ 3 → Answers (.fwConfirm via tag) s s via (writeReq tag 0x2202 6 1) 1 0x0D0B) ∧
    (slotState s s.sys.bootSlot = 3 → s.store.work = [] → (∀ c, c < 4 → badBlock s c = false) → ∃ u gen a b l,
      exec (.fwConfirm via tag) s = .next (settle u) ∧
      l = (if slotState s (1 - s.sys.bootSlot) = 4 then (s.store.slots.set s.sys.bootSlot 4).set (1 - s.sys.bootSlot) 2 else s.store.slots.set s.sys.bootSlot 4) ∧
      a = l.getD 0 0 ∧ b = l.getD 1 0 ∧ u.store.work = [.erase 3, .boot 3 gen a b via tag 6, .erase 2, .boot 2 gen a b via tag 6, .erase 1,
        .boot 1 gen a b via tag 6, .erase 0, .boot 0 gen a b via tag 6] ∧ gen = bootGen s + 1 ∧ u.store.slots = s.store.slots) ∧
    (∀ (c gen a b : Nat) (path : Path) (tag : Tag) (sub : Nat), s.store.work = [.boot c gen a b path tag sub] → s.pow.brake = none →
      s.store.readOnly = false → c < 4 →
      ∃ u, exec (.flashProgramDone true) s = .next (settle u) ∧ u.store.copies = s.store.copies.set c (gen, a, b) ∧ u.store.slots = [a, b] ∧
        u.store.work = [] ∧ (c = 0 → ∃ hdr, Out.response path hdr [] ∈ u.out ∧ hTag hdr.toNat = tag.toNat ∧ bits hdr.toNat 31 16 = 0))
end

