-- ==== Sys2Proof/Laws/Bytes.lean ====
section
/-! SUPPORT. Byte order: a number written in n bytes reads back. -/

namespace Sys2Proof.Machine
open Sys2Proof

@[simp] theorem leBytes_length : ∀ n x : Nat, (leBytes n x).length = n
  | 0, _ => rfl
  | n + 1, x => by simp [leBytes, leBytes_length n]

@[simp] theorem beBytes_length (n x : Nat) : (beBytes n x).length = n := by simp [beBytes]

theorem leNat_leBytes : ∀ n x : Nat, leNat (leBytes n x) = x % 256 ^ n
  | 0, x => by simp [leBytes, leNat, Nat.mod_one]
  | n + 1, x => by
    have h : (BitVec.ofNat 8 x).toNat = x % 256 := rfl
    simp only [leBytes, leNat, leNat_leBytes n, h, Nat.pow_succ']
    rw [Nat.mod_mul]

theorem beNat_reverse : ∀ b : Bytes, beNat b.reverse = leNat b
  | [] => rfl
  | x :: t => by
    have := beNat_reverse t
    simp only [beNat] at this
    simp only [beNat, List.reverse_cons, List.foldl_append, List.foldl_cons, List.foldl_nil, leNat, this]
    omega

/-- A number that fits in n bytes reads back. -/
theorem beNat_beBytes {n x : Nat} (h : x < 256 ^ n) : beNat (beBytes n x) = x := by
  rw [beBytes, beNat_reverse, leNat_leBytes, Nat.mod_eq_of_lt h]

end Sys2Proof.Machine
end

