-- ==== Sys2Proof/Laws/State.lean ====
section
/-! SUPPORT. One lemma per field for each plain update of the state, true by unfolding: an update leaves every other field as it
was. -/

namespace Sys2Proof.Machine
open Sys2Proof

/-- States with the same fields are the same. -/
theorem State.ext_fields {s t : State}
    (h0 : s.pending = t.pending) (h1 : s.out = t.out) (h2 : s.fresh = t.fresh) (h3 : s.obj = t.obj)
    (h4 : s.sys = t.sys) (h5 : s.com = t.com) (h6 : s.cmd = t.cmd) (h7 : s.log = t.log)
    (h8 : s.tp = t.tp) (h9 : s.host = t.host) (h10 : s.net = t.net) (h11 : s.sw = t.sw)
    (h12 : s.sward = t.sward) (h13 : s.sheaf = t.sheaf) (h14 : s.rick = t.rick) (h15 : s.acct = t.acct)
    (h16 : s.sec = t.sec) (h17 : s.ev = t.ev) (h18 : s.flt = t.flt) (h19 : s.pair = t.pair)
    (h20 : s.pow = t.pow) (h21 : s.pads = t.pads) (h22 : s.ftm = t.ftm) (h23 : s.store = t.store) : s = t := by
  cases s; cases t; simp_all

/-! ### setO -/
@[simp] theorem setO_pending (s : State) (i sub v : Nat) : (setO s i sub v).pending = s.pending := rfl
@[simp] theorem setO_out (s : State) (i sub v : Nat) : (setO s i sub v).out = s.out := rfl
@[simp] theorem setO_fresh (s : State) (i sub v : Nat) : (setO s i sub v).fresh = s.fresh := rfl
@[simp] theorem setO_sys (s : State) (i sub v : Nat) : (setO s i sub v).sys = s.sys := rfl
@[simp] theorem setO_com (s : State) (i sub v : Nat) : (setO s i sub v).com = s.com := rfl
@[simp] theorem setO_cmd (s : State) (i sub v : Nat) : (setO s i sub v).cmd = s.cmd := rfl
@[simp] theorem setO_log (s : State) (i sub v : Nat) : (setO s i sub v).log = s.log := rfl
@[simp] theorem setO_tp (s : State) (i sub v : Nat) : (setO s i sub v).tp = s.tp := rfl
@[simp] theorem setO_host (s : State) (i sub v : Nat) : (setO s i sub v).host = s.host := rfl
@[simp] theorem setO_net (s : State) (i sub v : Nat) : (setO s i sub v).net = s.net := rfl
@[simp] theorem setO_sw (s : State) (i sub v : Nat) : (setO s i sub v).sw = s.sw := rfl
@[simp] theorem setO_sward (s : State) (i sub v : Nat) : (setO s i sub v).sward = s.sward := rfl
@[simp] theorem setO_sheaf (s : State) (i sub v : Nat) : (setO s i sub v).sheaf = s.sheaf := rfl
@[simp] theorem setO_rick (s : State) (i sub v : Nat) : (setO s i sub v).rick = s.rick := rfl
@[simp] theorem setO_acct (s : State) (i sub v : Nat) : (setO s i sub v).acct = s.acct := rfl
@[simp] theorem setO_sec (s : State) (i sub v : Nat) : (setO s i sub v).sec = s.sec := rfl
@[simp] theorem setO_ev (s : State) (i sub v : Nat) : (setO s i sub v).ev = s.ev := rfl
@[simp] theorem setO_flt (s : State) (i sub v : Nat) : (setO s i sub v).flt = s.flt := rfl
@[simp] theorem setO_pair (s : State) (i sub v : Nat) : (setO s i sub v).pair = s.pair := rfl
@[simp] theorem setO_pow (s : State) (i sub v : Nat) : (setO s i sub v).pow = s.pow := rfl
@[simp] theorem setO_pads (s : State) (i sub v : Nat) : (setO s i sub v).pads = s.pads := rfl
@[simp] theorem setO_ftm (s : State) (i sub v : Nat) : (setO s i sub v).ftm = s.ftm := rfl
@[simp] theorem setO_store (s : State) (i sub v : Nat) : (setO s i sub v).store = s.store := rfl

/-! ### setP -/
@[simp] theorem setP_pending (s : State) (p off sub v : Nat) : (setP s p off sub v).pending = s.pending := rfl
@[simp] theorem setP_out (s : State) (p off sub v : Nat) : (setP s p off sub v).out = s.out := rfl
@[simp] theorem setP_fresh (s : State) (p off sub v : Nat) : (setP s p off sub v).fresh = s.fresh := rfl
@[simp] theorem setP_sys (s : State) (p off sub v : Nat) : (setP s p off sub v).sys = s.sys := rfl
@[simp] theorem setP_com (s : State) (p off sub v : Nat) : (setP s p off sub v).com = s.com := rfl
@[simp] theorem setP_cmd (s : State) (p off sub v : Nat) : (setP s p off sub v).cmd = s.cmd := rfl
@[simp] theorem setP_log (s : State) (p off sub v : Nat) : (setP s p off sub v).log = s.log := rfl
@[simp] theorem setP_tp (s : State) (p off sub v : Nat) : (setP s p off sub v).tp = s.tp := rfl
@[simp] theorem setP_host (s : State) (p off sub v : Nat) : (setP s p off sub v).host = s.host := rfl
@[simp] theorem setP_net (s : State) (p off sub v : Nat) : (setP s p off sub v).net = s.net := rfl
@[simp] theorem setP_sw (s : State) (p off sub v : Nat) : (setP s p off sub v).sw = s.sw := rfl
@[simp] theorem setP_sward (s : State) (p off sub v : Nat) : (setP s p off sub v).sward = s.sward := rfl
@[simp] theorem setP_sheaf (s : State) (p off sub v : Nat) : (setP s p off sub v).sheaf = s.sheaf := rfl
@[simp] theorem setP_rick (s : State) (p off sub v : Nat) : (setP s p off sub v).rick = s.rick := rfl
@[simp] theorem setP_acct (s : State) (p off sub v : Nat) : (setP s p off sub v).acct = s.acct := rfl
@[simp] theorem setP_sec (s : State) (p off sub v : Nat) : (setP s p off sub v).sec = s.sec := rfl
@[simp] theorem setP_ev (s : State) (p off sub v : Nat) : (setP s p off sub v).ev = s.ev := rfl
@[simp] theorem setP_flt (s : State) (p off sub v : Nat) : (setP s p off sub v).flt = s.flt := rfl
@[simp] theorem setP_pair (s : State) (p off sub v : Nat) : (setP s p off sub v).pair = s.pair := rfl
@[simp] theorem setP_pow (s : State) (p off sub v : Nat) : (setP s p off sub v).pow = s.pow := rfl
@[simp] theorem setP_pads (s : State) (p off sub v : Nat) : (setP s p off sub v).pads = s.pads := rfl
@[simp] theorem setP_ftm (s : State) (p off sub v : Nat) : (setP s p off sub v).ftm = s.ftm := rfl
@[simp] theorem setP_store (s : State) (p off sub v : Nat) : (setP s p off sub v).store = s.store := rfl

/-! ### addO -/
@[simp] theorem addO_pending (s : State) (i sub n w : Nat) : (addO s i sub n w).pending = s.pending := rfl
@[simp] theorem addO_out (s : State) (i sub n w : Nat) : (addO s i sub n w).out = s.out := rfl
@[simp] theorem addO_fresh (s : State) (i sub n w : Nat) : (addO s i sub n w).fresh = s.fresh := rfl
@[simp] theorem addO_sys (s : State) (i sub n w : Nat) : (addO s i sub n w).sys = s.sys := rfl
@[simp] theorem addO_com (s : State) (i sub n w : Nat) : (addO s i sub n w).com = s.com := rfl
@[simp] theorem addO_cmd (s : State) (i sub n w : Nat) : (addO s i sub n w).cmd = s.cmd := rfl
@[simp] theorem addO_log (s : State) (i sub n w : Nat) : (addO s i sub n w).log = s.log := rfl
@[simp] theorem addO_tp (s : State) (i sub n w : Nat) : (addO s i sub n w).tp = s.tp := rfl
@[simp] theorem addO_host (s : State) (i sub n w : Nat) : (addO s i sub n w).host = s.host := rfl
@[simp] theorem addO_net (s : State) (i sub n w : Nat) : (addO s i sub n w).net = s.net := rfl
@[simp] theorem addO_sw (s : State) (i sub n w : Nat) : (addO s i sub n w).sw = s.sw := rfl
@[simp] theorem addO_sward (s : State) (i sub n w : Nat) : (addO s i sub n w).sward = s.sward := rfl
@[simp] theorem addO_sheaf (s : State) (i sub n w : Nat) : (addO s i sub n w).sheaf = s.sheaf := rfl
@[simp] theorem addO_rick (s : State) (i sub n w : Nat) : (addO s i sub n w).rick = s.rick := rfl
@[simp] theorem addO_acct (s : State) (i sub n w : Nat) : (addO s i sub n w).acct = s.acct := rfl
@[simp] theorem addO_sec (s : State) (i sub n w : Nat) : (addO s i sub n w).sec = s.sec := rfl
@[simp] theorem addO_ev (s : State) (i sub n w : Nat) : (addO s i sub n w).ev = s.ev := rfl
@[simp] theorem addO_flt (s : State) (i sub n w : Nat) : (addO s i sub n w).flt = s.flt := rfl
@[simp] theorem addO_pair (s : State) (i sub n w : Nat) : (addO s i sub n w).pair = s.pair := rfl
@[simp] theorem addO_pow (s : State) (i sub n w : Nat) : (addO s i sub n w).pow = s.pow := rfl
@[simp] theorem addO_pads (s : State) (i sub n w : Nat) : (addO s i sub n w).pads = s.pads := rfl
@[simp] theorem addO_ftm (s : State) (i sub n w : Nat) : (addO s i sub n w).ftm = s.ftm := rfl
@[simp] theorem addO_store (s : State) (i sub n w : Nat) : (addO s i sub n w).store = s.store := rfl

/-! ### bump -/
@[simp] theorem bump_pending (s : State) (p off r n : Nat) : (bump s p off r n).pending = s.pending := rfl
@[simp] theorem bump_out (s : State) (p off r n : Nat) : (bump s p off r n).out = s.out := rfl
@[simp] theorem bump_fresh (s : State) (p off r n : Nat) : (bump s p off r n).fresh = s.fresh := rfl
@[simp] theorem bump_sys (s : State) (p off r n : Nat) : (bump s p off r n).sys = s.sys := rfl
@[simp] theorem bump_com (s : State) (p off r n : Nat) : (bump s p off r n).com = s.com := rfl
@[simp] theorem bump_cmd (s : State) (p off r n : Nat) : (bump s p off r n).cmd = s.cmd := rfl
@[simp] theorem bump_log (s : State) (p off r n : Nat) : (bump s p off r n).log = s.log := rfl
@[simp] theorem bump_tp (s : State) (p off r n : Nat) : (bump s p off r n).tp = s.tp := rfl
@[simp] theorem bump_host (s : State) (p off r n : Nat) : (bump s p off r n).host = s.host := rfl
@[simp] theorem bump_net (s : State) (p off r n : Nat) : (bump s p off r n).net = s.net := rfl
@[simp] theorem bump_sw (s : State) (p off r n : Nat) : (bump s p off r n).sw = s.sw := rfl
@[simp] theorem bump_sward (s : State) (p off r n : Nat) : (bump s p off r n).sward = s.sward := rfl
@[simp] theorem bump_sheaf (s : State) (p off r n : Nat) : (bump s p off r n).sheaf = s.sheaf := rfl
@[simp] theorem bump_rick (s : State) (p off r n : Nat) : (bump s p off r n).rick = s.rick := rfl
@[simp] theorem bump_acct (s : State) (p off r n : Nat) : (bump s p off r n).acct = s.acct := rfl
@[simp] theorem bump_sec (s : State) (p off r n : Nat) : (bump s p off r n).sec = s.sec := rfl
@[simp] theorem bump_ev (s : State) (p off r n : Nat) : (bump s p off r n).ev = s.ev := rfl
@[simp] theorem bump_flt (s : State) (p off r n : Nat) : (bump s p off r n).flt = s.flt := rfl
@[simp] theorem bump_pair (s : State) (p off r n : Nat) : (bump s p off r n).pair = s.pair := rfl
@[simp] theorem bump_pow (s : State) (p off r n : Nat) : (bump s p off r n).pow = s.pow := rfl
@[simp] theorem bump_pads (s : State) (p off r n : Nat) : (bump s p off r n).pads = s.pads := rfl
@[simp] theorem bump_ftm (s : State) (p off r n : Nat) : (bump s p off r n).ftm = s.ftm := rfl
@[simp] theorem bump_store (s : State) (p off r n : Nat) : (bump s p off r n).store = s.store := rfl

/-! ### meter -/
@[simp] theorem meter_pending (s : State) (p r n : Nat) : (meter s p r n).pending = s.pending := rfl
@[simp] theorem meter_out (s : State) (p r n : Nat) : (meter s p r n).out = s.out := rfl
@[simp] theorem meter_fresh (s : State) (p r n : Nat) : (meter s p r n).fresh = s.fresh := rfl
@[simp] theorem meter_sys (s : State) (p r n : Nat) : (meter s p r n).sys = s.sys := rfl
@[simp] theorem meter_com (s : State) (p r n : Nat) : (meter s p r n).com = s.com := rfl
@[simp] theorem meter_cmd (s : State) (p r n : Nat) : (meter s p r n).cmd = s.cmd := rfl
@[simp] theorem meter_log (s : State) (p r n : Nat) : (meter s p r n).log = s.log := rfl
@[simp] theorem meter_tp (s : State) (p r n : Nat) : (meter s p r n).tp = s.tp := rfl
@[simp] theorem meter_host (s : State) (p r n : Nat) : (meter s p r n).host = s.host := rfl
@[simp] theorem meter_net (s : State) (p r n : Nat) : (meter s p r n).net = s.net := rfl
@[simp] theorem meter_sw (s : State) (p r n : Nat) : (meter s p r n).sw = s.sw := rfl
@[simp] theorem meter_sward (s : State) (p r n : Nat) : (meter s p r n).sward = s.sward := rfl
@[simp] theorem meter_sheaf (s : State) (p r n : Nat) : (meter s p r n).sheaf = s.sheaf := rfl
@[simp] theorem meter_rick (s : State) (p r n : Nat) : (meter s p r n).rick = s.rick := rfl
@[simp] theorem meter_acct (s : State) (p r n : Nat) : (meter s p r n).acct = s.acct := rfl
@[simp] theorem meter_sec (s : State) (p r n : Nat) : (meter s p r n).sec = s.sec := rfl
@[simp] theorem meter_ev (s : State) (p r n : Nat) : (meter s p r n).ev = s.ev := rfl
@[simp] theorem meter_flt (s : State) (p r n : Nat) : (meter s p r n).flt = s.flt := rfl
@[simp] theorem meter_pair (s : State) (p r n : Nat) : (meter s p r n).pair = s.pair := rfl
@[simp] theorem meter_pow (s : State) (p r n : Nat) : (meter s p r n).pow = s.pow := rfl
@[simp] theorem meter_pads (s : State) (p r n : Nat) : (meter s p r n).pads = s.pads := rfl
@[simp] theorem meter_ftm (s : State) (p r n : Nat) : (meter s p r n).ftm = s.ftm := rfl
@[simp] theorem meter_store (s : State) (p r n : Nat) : (meter s p r n).store = s.store := rfl

/-! ### emit -/
@[simp] theorem emit_pending (s : State) (o : Out) : (emit s o).pending = s.pending := rfl
@[simp] theorem emit_fresh (s : State) (o : Out) : (emit s o).fresh = s.fresh := rfl
@[simp] theorem emit_obj (s : State) (o : Out) : (emit s o).obj = s.obj := rfl
@[simp] theorem emit_sys (s : State) (o : Out) : (emit s o).sys = s.sys := rfl
@[simp] theorem emit_com (s : State) (o : Out) : (emit s o).com = s.com := rfl
@[simp] theorem emit_cmd (s : State) (o : Out) : (emit s o).cmd = s.cmd := rfl
@[simp] theorem emit_log (s : State) (o : Out) : (emit s o).log = s.log := rfl
@[simp] theorem emit_tp (s : State) (o : Out) : (emit s o).tp = s.tp := rfl
@[simp] theorem emit_host (s : State) (o : Out) : (emit s o).host = s.host := rfl
@[simp] theorem emit_net (s : State) (o : Out) : (emit s o).net = s.net := rfl
@[simp] theorem emit_sw (s : State) (o : Out) : (emit s o).sw = s.sw := rfl
@[simp] theorem emit_sward (s : State) (o : Out) : (emit s o).sward = s.sward := rfl
@[simp] theorem emit_sheaf (s : State) (o : Out) : (emit s o).sheaf = s.sheaf := rfl
@[simp] theorem emit_rick (s : State) (o : Out) : (emit s o).rick = s.rick := rfl
@[simp] theorem emit_acct (s : State) (o : Out) : (emit s o).acct = s.acct := rfl
@[simp] theorem emit_sec (s : State) (o : Out) : (emit s o).sec = s.sec := rfl
@[simp] theorem emit_ev (s : State) (o : Out) : (emit s o).ev = s.ev := rfl
@[simp] theorem emit_flt (s : State) (o : Out) : (emit s o).flt = s.flt := rfl
@[simp] theorem emit_pair (s : State) (o : Out) : (emit s o).pair = s.pair := rfl
@[simp] theorem emit_pow (s : State) (o : Out) : (emit s o).pow = s.pow := rfl
@[simp] theorem emit_pads (s : State) (o : Out) : (emit s o).pads = s.pads := rfl
@[simp] theorem emit_ftm (s : State) (o : Out) : (emit s o).ftm = s.ftm := rfl
@[simp] theorem emit_store (s : State) (o : Out) : (emit s o).store = s.store := rfl

/-! ### fresh1 -/
@[simp] theorem fresh1_pending (s : State) : (fresh1 s).pending = s.pending := rfl
@[simp] theorem fresh1_out (s : State) : (fresh1 s).out = s.out := rfl
@[simp] theorem fresh1_obj (s : State) : (fresh1 s).obj = s.obj := rfl
@[simp] theorem fresh1_sys (s : State) : (fresh1 s).sys = s.sys := rfl
@[simp] theorem fresh1_com (s : State) : (fresh1 s).com = s.com := rfl
@[simp] theorem fresh1_cmd (s : State) : (fresh1 s).cmd = s.cmd := rfl
@[simp] theorem fresh1_log (s : State) : (fresh1 s).log = s.log := rfl
@[simp] theorem fresh1_tp (s : State) : (fresh1 s).tp = s.tp := rfl
@[simp] theorem fresh1_host (s : State) : (fresh1 s).host = s.host := rfl
@[simp] theorem fresh1_net (s : State) : (fresh1 s).net = s.net := rfl
@[simp] theorem fresh1_sw (s : State) : (fresh1 s).sw = s.sw := rfl
@[simp] theorem fresh1_sward (s : State) : (fresh1 s).sward = s.sward := rfl
@[simp] theorem fresh1_sheaf (s : State) : (fresh1 s).sheaf = s.sheaf := rfl
@[simp] theorem fresh1_rick (s : State) : (fresh1 s).rick = s.rick := rfl
@[simp] theorem fresh1_acct (s : State) : (fresh1 s).acct = s.acct := rfl
@[simp] theorem fresh1_sec (s : State) : (fresh1 s).sec = s.sec := rfl
@[simp] theorem fresh1_ev (s : State) : (fresh1 s).ev = s.ev := rfl
@[simp] theorem fresh1_flt (s : State) : (fresh1 s).flt = s.flt := rfl
@[simp] theorem fresh1_pair (s : State) : (fresh1 s).pair = s.pair := rfl
@[simp] theorem fresh1_pow (s : State) : (fresh1 s).pow = s.pow := rfl
@[simp] theorem fresh1_pads (s : State) : (fresh1 s).pads = s.pads := rfl
@[simp] theorem fresh1_ftm (s : State) : (fresh1 s).ftm = s.ftm := rfl
@[simp] theorem fresh1_store (s : State) : (fresh1 s).store = s.store := rfl

/-! ### updPad -/
@[simp] theorem updPad_pending (s : State) (p : Nat) (f : Paddock → Paddock) : (updPad s p f).pending = s.pending := rfl
@[simp] theorem updPad_out (s : State) (p : Nat) (f : Paddock → Paddock) : (updPad s p f).out = s.out := rfl
@[simp] theorem updPad_fresh (s : State) (p : Nat) (f : Paddock → Paddock) : (updPad s p f).fresh = s.fresh := rfl
@[simp] theorem updPad_obj (s : State) (p : Nat) (f : Paddock → Paddock) : (updPad s p f).obj = s.obj := rfl
@[simp] theorem updPad_sys (s : State) (p : Nat) (f : Paddock → Paddock) : (updPad s p f).sys = s.sys := rfl
@[simp] theorem updPad_com (s : State) (p : Nat) (f : Paddock → Paddock) : (updPad s p f).com = s.com := rfl
@[simp] theorem updPad_cmd (s : State) (p : Nat) (f : Paddock → Paddock) : (updPad s p f).cmd = s.cmd := rfl
@[simp] theorem updPad_log (s : State) (p : Nat) (f : Paddock → Paddock) : (updPad s p f).log = s.log := rfl
@[simp] theorem updPad_tp (s : State) (p : Nat) (f : Paddock → Paddock) : (updPad s p f).tp = s.tp := rfl
@[simp] theorem updPad_host (s : State) (p : Nat) (f : Paddock → Paddock) : (updPad s p f).host = s.host := rfl
@[simp] theorem updPad_net (s : State) (p : Nat) (f : Paddock → Paddock) : (updPad s p f).net = s.net := rfl
@[simp] theorem updPad_sw (s : State) (p : Nat) (f : Paddock → Paddock) : (updPad s p f).sw = s.sw := rfl
@[simp] theorem updPad_sward (s : State) (p : Nat) (f : Paddock → Paddock) : (updPad s p f).sward = s.sward := rfl
@[simp] theorem updPad_sheaf (s : State) (p : Nat) (f : Paddock → Paddock) : (updPad s p f).sheaf = s.sheaf := rfl
@[simp] theorem updPad_rick (s : State) (p : Nat) (f : Paddock → Paddock) : (updPad s p f).rick = s.rick := rfl
@[simp] theorem updPad_acct (s : State) (p : Nat) (f : Paddock → Paddock) : (updPad s p f).acct = s.acct := rfl
@[simp] theorem updPad_sec (s : State) (p : Nat) (f : Paddock → Paddock) : (updPad s p f).sec = s.sec := rfl
@[simp] theorem updPad_ev (s : State) (p : Nat) (f : Paddock → Paddock) : (updPad s p f).ev = s.ev := rfl
@[simp] theorem updPad_flt (s : State) (p : Nat) (f : Paddock → Paddock) : (updPad s p f).flt = s.flt := rfl
@[simp] theorem updPad_pair (s : State) (p : Nat) (f : Paddock → Paddock) : (updPad s p f).pair = s.pair := rfl
@[simp] theorem updPad_pow (s : State) (p : Nat) (f : Paddock → Paddock) : (updPad s p f).pow = s.pow := rfl
@[simp] theorem updPad_ftm (s : State) (p : Nat) (f : Paddock → Paddock) : (updPad s p f).ftm = s.ftm := rfl
@[simp] theorem updPad_store (s : State) (p : Nat) (f : Paddock → Paddock) : (updPad s p f).store = s.store := rfl

/-! ### flash -/
@[simp] theorem flash_pending (s : State) (op : FlashOp) : (flash s op).pending = s.pending := rfl
@[simp] theorem flash_out (s : State) (op : FlashOp) : (flash s op).out = s.out := rfl
@[simp] theorem flash_fresh (s : State) (op : FlashOp) : (flash s op).fresh = s.fresh := rfl
@[simp] theorem flash_obj (s : State) (op : FlashOp) : (flash s op).obj = s.obj := rfl
@[simp] theorem flash_sys (s : State) (op : FlashOp) : (flash s op).sys = s.sys := rfl
@[simp] theorem flash_com (s : State) (op : FlashOp) : (flash s op).com = s.com := rfl
@[simp] theorem flash_cmd (s : State) (op : FlashOp) : (flash s op).cmd = s.cmd := rfl
@[simp] theorem flash_log (s : State) (op : FlashOp) : (flash s op).log = s.log := rfl
@[simp] theorem flash_tp (s : State) (op : FlashOp) : (flash s op).tp = s.tp := rfl
@[simp] theorem flash_host (s : State) (op : FlashOp) : (flash s op).host = s.host := rfl
@[simp] theorem flash_net (s : State) (op : FlashOp) : (flash s op).net = s.net := rfl
@[simp] theorem flash_sw (s : State) (op : FlashOp) : (flash s op).sw = s.sw := rfl
@[simp] theorem flash_sward (s : State) (op : FlashOp) : (flash s op).sward = s.sward := rfl
@[simp] theorem flash_sheaf (s : State) (op : FlashOp) : (flash s op).sheaf = s.sheaf := rfl
@[simp] theorem flash_rick (s : State) (op : FlashOp) : (flash s op).rick = s.rick := rfl
@[simp] theorem flash_acct (s : State) (op : FlashOp) : (flash s op).acct = s.acct := rfl
@[simp] theorem flash_sec (s : State) (op : FlashOp) : (flash s op).sec = s.sec := rfl
@[simp] theorem flash_ev (s : State) (op : FlashOp) : (flash s op).ev = s.ev := rfl
@[simp] theorem flash_flt (s : State) (op : FlashOp) : (flash s op).flt = s.flt := rfl
@[simp] theorem flash_pair (s : State) (op : FlashOp) : (flash s op).pair = s.pair := rfl
@[simp] theorem flash_pow (s : State) (op : FlashOp) : (flash s op).pow = s.pow := rfl
@[simp] theorem flash_pads (s : State) (op : FlashOp) : (flash s op).pads = s.pads := rfl
@[simp] theorem flash_ftm (s : State) (op : FlashOp) : (flash s op).ftm = s.ftm := rfl

/-! ### addRecord -/
@[simp] theorem addRecord_pending (s : State) (t : Nat) (d : List Nat) : (addRecord s t d).pending = s.pending := rfl
@[simp] theorem addRecord_out (s : State) (t : Nat) (d : List Nat) : (addRecord s t d).out = s.out := rfl
@[simp] theorem addRecord_fresh (s : State) (t : Nat) (d : List Nat) : (addRecord s t d).fresh = s.fresh := rfl
@[simp] theorem addRecord_obj (s : State) (t : Nat) (d : List Nat) : (addRecord s t d).obj = s.obj := rfl
@[simp] theorem addRecord_sys (s : State) (t : Nat) (d : List Nat) : (addRecord s t d).sys = s.sys := rfl
@[simp] theorem addRecord_com (s : State) (t : Nat) (d : List Nat) : (addRecord s t d).com = s.com := rfl
@[simp] theorem addRecord_cmd (s : State) (t : Nat) (d : List Nat) : (addRecord s t d).cmd = s.cmd := rfl
@[simp] theorem addRecord_log (s : State) (t : Nat) (d : List Nat) : (addRecord s t d).log = s.log := rfl
@[simp] theorem addRecord_tp (s : State) (t : Nat) (d : List Nat) : (addRecord s t d).tp = s.tp := rfl
@[simp] theorem addRecord_host (s : State) (t : Nat) (d : List Nat) : (addRecord s t d).host = s.host := rfl
@[simp] theorem addRecord_net (s : State) (t : Nat) (d : List Nat) : (addRecord s t d).net = s.net := rfl
@[simp] theorem addRecord_sw (s : State) (t : Nat) (d : List Nat) : (addRecord s t d).sw = s.sw := rfl
@[simp] theorem addRecord_sward (s : State) (t : Nat) (d : List Nat) : (addRecord s t d).sward = s.sward := rfl
@[simp] theorem addRecord_sheaf (s : State) (t : Nat) (d : List Nat) : (addRecord s t d).sheaf = s.sheaf := rfl
@[simp] theorem addRecord_rick (s : State) (t : Nat) (d : List Nat) : (addRecord s t d).rick = s.rick := rfl
@[simp] theorem addRecord_acct (s : State) (t : Nat) (d : List Nat) : (addRecord s t d).acct = s.acct := rfl
@[simp] theorem addRecord_sec (s : State) (t : Nat) (d : List Nat) : (addRecord s t d).sec = s.sec := rfl
@[simp] theorem addRecord_ev (s : State) (t : Nat) (d : List Nat) : (addRecord s t d).ev = s.ev := rfl
@[simp] theorem addRecord_flt (s : State) (t : Nat) (d : List Nat) : (addRecord s t d).flt = s.flt := rfl
@[simp] theorem addRecord_pair (s : State) (t : Nat) (d : List Nat) : (addRecord s t d).pair = s.pair := rfl
@[simp] theorem addRecord_pow (s : State) (t : Nat) (d : List Nat) : (addRecord s t d).pow = s.pow := rfl
@[simp] theorem addRecord_pads (s : State) (t : Nat) (d : List Nat) : (addRecord s t d).pads = s.pads := rfl
@[simp] theorem addRecord_ftm (s : State) (t : Nat) (d : List Nat) : (addRecord s t d).ftm = s.ftm := rfl

end Sys2Proof.Machine
end

