-- ==== Sys2Proof/Laws/Frames.lean ====
section
/-! SUPPORT. What the shared operations that raise events, log, journal and answer leave as it was: one lemma per field. -/

namespace Sys2Proof.Machine
open Sys2Proof

/-- What each step of a fold keeps, the fold keeps. -/
theorem foldl_keeps {α β γ : Type} (g : β → γ) (f : β → α → β) (h : ∀ s a, g (f s a) = g s) :
    ∀ (l : List α) (s : β), g (l.foldl f s) = g s
  | [], _ => rfl
  | a :: t, s => (foldl_keeps g f h t (f s a)).trans (h s a)

/-! ### larkSee -/
@[simp] theorem larkSee_pending (s : State) (k n : Nat) : (larkSee s k n).pending = s.pending := by
  simp only [larkSee]; split <;> rfl
@[simp] theorem larkSee_out (s : State) (k n : Nat) : (larkSee s k n).out = s.out := by
  simp only [larkSee]; split <;> rfl
@[simp] theorem larkSee_fresh (s : State) (k n : Nat) : (larkSee s k n).fresh = s.fresh := by
  simp only [larkSee]; split <;> rfl
@[simp] theorem larkSee_obj (s : State) (k n : Nat) : (larkSee s k n).obj = s.obj := by
  simp only [larkSee]; split <;> rfl
@[simp] theorem larkSee_sys (s : State) (k n : Nat) : (larkSee s k n).sys = s.sys := by
  simp only [larkSee]; split <;> rfl
@[simp] theorem larkSee_com (s : State) (k n : Nat) : (larkSee s k n).com = s.com := by
  simp only [larkSee]; split <;> rfl
@[simp] theorem larkSee_cmd (s : State) (k n : Nat) : (larkSee s k n).cmd = s.cmd := by
  simp only [larkSee]; split <;> rfl
@[simp] theorem larkSee_log (s : State) (k n : Nat) : (larkSee s k n).log = s.log := by
  simp only [larkSee]; split <;> rfl
@[simp] theorem larkSee_tp (s : State) (k n : Nat) : (larkSee s k n).tp = s.tp := by
  simp only [larkSee]; split <;> rfl
@[simp] theorem larkSee_host (s : State) (k n : Nat) : (larkSee s k n).host = s.host := by
  simp only [larkSee]; split <;> rfl
@[simp] theorem larkSee_net (s : State) (k n : Nat) : (larkSee s k n).net = s.net := by
  simp only [larkSee]; split <;> rfl
@[simp] theorem larkSee_sw (s : State) (k n : Nat) : (larkSee s k n).sw = s.sw := by
  simp only [larkSee]; split <;> rfl
@[simp] theorem larkSee_sward (s : State) (k n : Nat) : (larkSee s k n).sward = s.sward := by
  simp only [larkSee]; split <;> rfl
@[simp] theorem larkSee_sheaf (s : State) (k n : Nat) : (larkSee s k n).sheaf = s.sheaf := by
  simp only [larkSee]; split <;> rfl
@[simp] theorem larkSee_rick (s : State) (k n : Nat) : (larkSee s k n).rick = s.rick := by
  simp only [larkSee]; split <;> rfl
@[simp] theorem larkSee_acct (s : State) (k n : Nat) : (larkSee s k n).acct = s.acct := by
  simp only [larkSee]; split <;> rfl
@[simp] theorem larkSee_sec (s : State) (k n : Nat) : (larkSee s k n).sec = s.sec := by
  simp only [larkSee]; split <;> rfl
@[simp] theorem larkSee_flt (s : State) (k n : Nat) : (larkSee s k n).flt = s.flt := by
  simp only [larkSee]; split <;> rfl
@[simp] theorem larkSee_pair (s : State) (k n : Nat) : (larkSee s k n).pair = s.pair := by
  simp only [larkSee]; split <;> rfl
@[simp] theorem larkSee_pow (s : State) (k n : Nat) : (larkSee s k n).pow = s.pow := by
  simp only [larkSee]; split <;> rfl
@[simp] theorem larkSee_pads (s : State) (k n : Nat) : (larkSee s k n).pads = s.pads := by
  simp only [larkSee]; split <;> rfl
@[simp] theorem larkSee_ftm (s : State) (k n : Nat) : (larkSee s k n).ftm = s.ftm := by
  simp only [larkSee]; split <;> rfl
@[simp] theorem larkSee_store (s : State) (k n : Nat) : (larkSee s k n).store = s.store := by
  simp only [larkSee]; split <;> rfl

/-! ### raise -/
@[simp] theorem raise_pending (s : State) (n : Nat) : (raise s n).pending = s.pending := by
  simp [raise]
@[simp] theorem raise_out (s : State) (n : Nat) : (raise s n).out = s.out := by
  simp [raise]
@[simp] theorem raise_fresh (s : State) (n : Nat) : (raise s n).fresh = s.fresh := by
  simp [raise]
@[simp] theorem raise_obj (s : State) (n : Nat) : (raise s n).obj = s.obj := by
  simp [raise]
@[simp] theorem raise_sys (s : State) (n : Nat) : (raise s n).sys = s.sys := by
  simp [raise]
@[simp] theorem raise_com (s : State) (n : Nat) : (raise s n).com = s.com := by
  simp [raise]
@[simp] theorem raise_cmd (s : State) (n : Nat) : (raise s n).cmd = s.cmd := by
  simp [raise]
@[simp] theorem raise_log (s : State) (n : Nat) : (raise s n).log = s.log := by
  simp [raise]
@[simp] theorem raise_tp (s : State) (n : Nat) : (raise s n).tp = s.tp := by
  simp [raise]
@[simp] theorem raise_host (s : State) (n : Nat) : (raise s n).host = s.host := by
  simp [raise]
@[simp] theorem raise_net (s : State) (n : Nat) : (raise s n).net = s.net := by
  simp [raise]
@[simp] theorem raise_sw (s : State) (n : Nat) : (raise s n).sw = s.sw := by
  simp [raise]
@[simp] theorem raise_sward (s : State) (n : Nat) : (raise s n).sward = s.sward := by
  simp [raise]
@[simp] theorem raise_sheaf (s : State) (n : Nat) : (raise s n).sheaf = s.sheaf := by
  simp [raise]
@[simp] theorem raise_rick (s : State) (n : Nat) : (raise s n).rick = s.rick := by
  simp [raise]
@[simp] theorem raise_acct (s : State) (n : Nat) : (raise s n).acct = s.acct := by
  simp [raise]
@[simp] theorem raise_sec (s : State) (n : Nat) : (raise s n).sec = s.sec := by
  simp [raise]
@[simp] theorem raise_flt (s : State) (n : Nat) : (raise s n).flt = s.flt := by
  simp [raise]
@[simp] theorem raise_pair (s : State) (n : Nat) : (raise s n).pair = s.pair := by
  simp [raise]
@[simp] theorem raise_pow (s : State) (n : Nat) : (raise s n).pow = s.pow := by
  simp [raise]
@[simp] theorem raise_pads (s : State) (n : Nat) : (raise s n).pads = s.pads := by
  simp [raise]
@[simp] theorem raise_ftm (s : State) (n : Nat) : (raise s n).ftm = s.ftm := by
  simp [raise]
@[simp] theorem raise_store (s : State) (n : Nat) : (raise s n).store = s.store := by
  simp [raise]

/-! ### fire -/
@[simp] theorem fire_pending (s : State) (n : Nat) : (fire s n).pending = s.pending := by
  simp [fire]
@[simp] theorem fire_out (s : State) (n : Nat) : (fire s n).out = s.out := by
  simp [fire]
@[simp] theorem fire_fresh (s : State) (n : Nat) : (fire s n).fresh = s.fresh := by
  simp [fire]
@[simp] theorem fire_obj (s : State) (n : Nat) : (fire s n).obj = s.obj := by
  simp [fire]
@[simp] theorem fire_sys (s : State) (n : Nat) : (fire s n).sys = s.sys := by
  simp [fire]
@[simp] theorem fire_com (s : State) (n : Nat) : (fire s n).com = s.com := by
  simp [fire]
@[simp] theorem fire_cmd (s : State) (n : Nat) : (fire s n).cmd = s.cmd := by
  simp [fire]
@[simp] theorem fire_log (s : State) (n : Nat) : (fire s n).log = s.log := by
  simp [fire]
@[simp] theorem fire_tp (s : State) (n : Nat) : (fire s n).tp = s.tp := by
  simp [fire]
@[simp] theorem fire_host (s : State) (n : Nat) : (fire s n).host = s.host := by
  simp [fire]
@[simp] theorem fire_net (s : State) (n : Nat) : (fire s n).net = s.net := by
  simp [fire]
@[simp] theorem fire_sw (s : State) (n : Nat) : (fire s n).sw = s.sw := by
  simp [fire]
@[simp] theorem fire_sward (s : State) (n : Nat) : (fire s n).sward = s.sward := by
  simp [fire]
@[simp] theorem fire_sheaf (s : State) (n : Nat) : (fire s n).sheaf = s.sheaf := by
  simp [fire]
@[simp] theorem fire_rick (s : State) (n : Nat) : (fire s n).rick = s.rick := by
  simp [fire]
@[simp] theorem fire_acct (s : State) (n : Nat) : (fire s n).acct = s.acct := by
  simp [fire]
@[simp] theorem fire_sec (s : State) (n : Nat) : (fire s n).sec = s.sec := by
  simp [fire]
@[simp] theorem fire_flt (s : State) (n : Nat) : (fire s n).flt = s.flt := by
  simp [fire]
@[simp] theorem fire_pair (s : State) (n : Nat) : (fire s n).pair = s.pair := by
  simp [fire]
@[simp] theorem fire_pow (s : State) (n : Nat) : (fire s n).pow = s.pow := by
  simp [fire]
@[simp] theorem fire_pads (s : State) (n : Nat) : (fire s n).pads = s.pads := by
  simp [fire]
@[simp] theorem fire_ftm (s : State) (n : Nat) : (fire s n).ftm = s.ftm := by
  simp [fire]
@[simp] theorem fire_store (s : State) (n : Nat) : (fire s n).store = s.store := by
  simp [fire]

/-! ### firePad -/
@[simp] theorem firePad_pending (s : State) (p k : Nat) : (firePad s p k).pending = s.pending := by
  simp [firePad]
@[simp] theorem firePad_out (s : State) (p k : Nat) : (firePad s p k).out = s.out := by
  simp [firePad]
@[simp] theorem firePad_fresh (s : State) (p k : Nat) : (firePad s p k).fresh = s.fresh := by
  simp [firePad]
@[simp] theorem firePad_obj (s : State) (p k : Nat) : (firePad s p k).obj = s.obj := by
  simp [firePad]
@[simp] theorem firePad_sys (s : State) (p k : Nat) : (firePad s p k).sys = s.sys := by
  simp [firePad]
@[simp] theorem firePad_com (s : State) (p k : Nat) : (firePad s p k).com = s.com := by
  simp [firePad]
@[simp] theorem firePad_cmd (s : State) (p k : Nat) : (firePad s p k).cmd = s.cmd := by
  simp [firePad]
@[simp] theorem firePad_log (s : State) (p k : Nat) : (firePad s p k).log = s.log := by
  simp [firePad]
@[simp] theorem firePad_tp (s : State) (p k : Nat) : (firePad s p k).tp = s.tp := by
  simp [firePad]
@[simp] theorem firePad_host (s : State) (p k : Nat) : (firePad s p k).host = s.host := by
  simp [firePad]
@[simp] theorem firePad_net (s : State) (p k : Nat) : (firePad s p k).net = s.net := by
  simp [firePad]
@[simp] theorem firePad_sw (s : State) (p k : Nat) : (firePad s p k).sw = s.sw := by
  simp [firePad]
@[simp] theorem firePad_sward (s : State) (p k : Nat) : (firePad s p k).sward = s.sward := by
  simp [firePad]
@[simp] theorem firePad_sheaf (s : State) (p k : Nat) : (firePad s p k).sheaf = s.sheaf := by
  simp [firePad]
@[simp] theorem firePad_rick (s : State) (p k : Nat) : (firePad s p k).rick = s.rick := by
  simp [firePad]
@[simp] theorem firePad_acct (s : State) (p k : Nat) : (firePad s p k).acct = s.acct := by
  simp [firePad]
@[simp] theorem firePad_sec (s : State) (p k : Nat) : (firePad s p k).sec = s.sec := by
  simp [firePad]
@[simp] theorem firePad_flt (s : State) (p k : Nat) : (firePad s p k).flt = s.flt := by
  simp [firePad]
@[simp] theorem firePad_pair (s : State) (p k : Nat) : (firePad s p k).pair = s.pair := by
  simp [firePad]
@[simp] theorem firePad_pow (s : State) (p k : Nat) : (firePad s p k).pow = s.pow := by
  simp [firePad]
@[simp] theorem firePad_pads (s : State) (p k : Nat) : (firePad s p k).pads = s.pads := by
  simp [firePad]
@[simp] theorem firePad_ftm (s : State) (p k : Nat) : (firePad s p k).ftm = s.ftm := by
  simp [firePad]
@[simp] theorem firePad_store (s : State) (p k : Nat) : (firePad s p k).store = s.store := by
  simp [firePad]

/-! ### geq -/
@[simp] theorem geq_pending (s : State) (e : Entry) : (geq s e).pending = s.pending := by
  simp only [geq]; repeat' split
  all_goals simp
@[simp] theorem geq_out (s : State) (e : Entry) : (geq s e).out = s.out := by
  simp only [geq]; repeat' split
  all_goals simp
@[simp] theorem geq_fresh (s : State) (e : Entry) : (geq s e).fresh = s.fresh := by
  simp only [geq]; repeat' split
  all_goals simp
@[simp] theorem geq_sys (s : State) (e : Entry) : (geq s e).sys = s.sys := by
  simp only [geq]; repeat' split
  all_goals simp
@[simp] theorem geq_com (s : State) (e : Entry) : (geq s e).com = s.com := by
  simp only [geq]; repeat' split
  all_goals simp
@[simp] theorem geq_cmd (s : State) (e : Entry) : (geq s e).cmd = s.cmd := by
  simp only [geq]; repeat' split
  all_goals simp
@[simp] theorem geq_tp (s : State) (e : Entry) : (geq s e).tp = s.tp := by
  simp only [geq]; repeat' split
  all_goals simp
@[simp] theorem geq_host (s : State) (e : Entry) : (geq s e).host = s.host := by
  simp only [geq]; repeat' split
  all_goals simp
@[simp] theorem geq_net (s : State) (e : Entry) : (geq s e).net = s.net := by
  simp only [geq]; repeat' split
  all_goals simp
@[simp] theorem geq_sw (s : State) (e : Entry) : (geq s e).sw = s.sw := by
  simp only [geq]; repeat' split
  all_goals simp
@[simp] theorem geq_sward (s : State) (e : Entry) : (geq s e).sward = s.sward := by
  simp only [geq]; repeat' split
  all_goals simp
@[simp] theorem geq_sheaf (s : State) (e : Entry) : (geq s e).sheaf = s.sheaf := by
  simp only [geq]; repeat' split
  all_goals simp
@[simp] theorem geq_acct (s : State) (e : Entry) : (geq s e).acct = s.acct := by
  simp only [geq]; repeat' split
  all_goals simp
@[simp] theorem geq_sec (s : State) (e : Entry) : (geq s e).sec = s.sec := by
  simp only [geq]; repeat' split
  all_goals simp
@[simp] theorem geq_flt (s : State) (e : Entry) : (geq s e).flt = s.flt := by
  simp only [geq]; repeat' split
  all_goals simp
@[simp] theorem geq_pair (s : State) (e : Entry) : (geq s e).pair = s.pair := by
  simp only [geq]; repeat' split
  all_goals simp
@[simp] theorem geq_pow (s : State) (e : Entry) : (geq s e).pow = s.pow := by
  simp only [geq]; repeat' split
  all_goals simp
@[simp] theorem geq_ftm (s : State) (e : Entry) : (geq s e).ftm = s.ftm := by
  simp only [geq]; repeat' split
  all_goals simp
@[simp] theorem geq_store (s : State) (e : Entry) : (geq s e).store = s.store := by
  simp only [geq]; repeat' split
  all_goals simp

/-! ### logDev -/
@[simp] theorem logDev_pending (s : State) (c v : Nat) (fs : List Nat) : (logDev s c v fs).pending = s.pending := by
  simp only [logDev, geq]; repeat' split
  all_goals simp_all
@[simp] theorem logDev_out (s : State) (c v : Nat) (fs : List Nat) : (logDev s c v fs).out = s.out := by
  simp only [logDev, geq]; repeat' split
  all_goals simp_all
@[simp] theorem logDev_fresh (s : State) (c v : Nat) (fs : List Nat) : (logDev s c v fs).fresh = s.fresh := by
  simp only [logDev, geq]; repeat' split
  all_goals simp_all
@[simp] theorem logDev_sys (s : State) (c v : Nat) (fs : List Nat) : (logDev s c v fs).sys = s.sys := by
  simp only [logDev, geq]; repeat' split
  all_goals simp_all
@[simp] theorem logDev_com (s : State) (c v : Nat) (fs : List Nat) : (logDev s c v fs).com = s.com := by
  simp only [logDev, geq]; repeat' split
  all_goals simp_all
@[simp] theorem logDev_cmd (s : State) (c v : Nat) (fs : List Nat) : (logDev s c v fs).cmd = s.cmd := by
  simp only [logDev, geq]; repeat' split
  all_goals simp_all
@[simp] theorem logDev_tp (s : State) (c v : Nat) (fs : List Nat) : (logDev s c v fs).tp = s.tp := by
  simp only [logDev, geq]; repeat' split
  all_goals simp_all
@[simp] theorem logDev_host (s : State) (c v : Nat) (fs : List Nat) : (logDev s c v fs).host = s.host := by
  simp only [logDev, geq]; repeat' split
  all_goals simp_all
@[simp] theorem logDev_net (s : State) (c v : Nat) (fs : List Nat) : (logDev s c v fs).net = s.net := by
  simp only [logDev, geq]; repeat' split
  all_goals simp_all
@[simp] theorem logDev_sw (s : State) (c v : Nat) (fs : List Nat) : (logDev s c v fs).sw = s.sw := by
  simp only [logDev, geq]; repeat' split
  all_goals simp_all
@[simp] theorem logDev_sward (s : State) (c v : Nat) (fs : List Nat) : (logDev s c v fs).sward = s.sward := by
  simp only [logDev, geq]; repeat' split
  all_goals simp_all
@[simp] theorem logDev_sheaf (s : State) (c v : Nat) (fs : List Nat) : (logDev s c v fs).sheaf = s.sheaf := by
  simp only [logDev, geq]; repeat' split
  all_goals simp_all
@[simp] theorem logDev_acct (s : State) (c v : Nat) (fs : List Nat) : (logDev s c v fs).acct = s.acct := by
  simp only [logDev, geq]; repeat' split
  all_goals simp_all
@[simp] theorem logDev_sec (s : State) (c v : Nat) (fs : List Nat) : (logDev s c v fs).sec = s.sec := by
  simp only [logDev, geq]; repeat' split
  all_goals simp_all
@[simp] theorem logDev_flt (s : State) (c v : Nat) (fs : List Nat) : (logDev s c v fs).flt = s.flt := by
  simp only [logDev, geq]; repeat' split
  all_goals simp_all
@[simp] theorem logDev_pair (s : State) (c v : Nat) (fs : List Nat) : (logDev s c v fs).pair = s.pair := by
  simp only [logDev, geq]; repeat' split
  all_goals simp_all
@[simp] theorem logDev_pow (s : State) (c v : Nat) (fs : List Nat) : (logDev s c v fs).pow = s.pow := by
  simp only [logDev, geq]; repeat' split
  all_goals simp_all
@[simp] theorem logDev_pads (s : State) (c v : Nat) (fs : List Nat) : (logDev s c v fs).pads = s.pads := by
  simp only [logDev, geq]; repeat' split
  all_goals simp_all
@[simp] theorem logDev_ftm (s : State) (c v : Nat) (fs : List Nat) : (logDev s c v fs).ftm = s.ftm := by
  simp only [logDev, geq]; repeat' split
  all_goals simp_all
@[simp] theorem logDev_store (s : State) (c v : Nat) (fs : List Nat) : (logDev s c v fs).store = s.store := by
  simp only [logDev, geq]; repeat' split
  all_goals simp_all

/-! ### logPad -/
@[simp] theorem logPad_pending (s : State) (p c v : Nat) (fs : List Nat) : (logPad s p c v fs).pending = s.pending := by
  simp [logPad]
@[simp] theorem logPad_out (s : State) (p c v : Nat) (fs : List Nat) : (logPad s p c v fs).out = s.out := by
  simp [logPad]
@[simp] theorem logPad_fresh (s : State) (p c v : Nat) (fs : List Nat) : (logPad s p c v fs).fresh = s.fresh := by
  simp [logPad]
@[simp] theorem logPad_sys (s : State) (p c v : Nat) (fs : List Nat) : (logPad s p c v fs).sys = s.sys := by
  simp [logPad]
@[simp] theorem logPad_com (s : State) (p c v : Nat) (fs : List Nat) : (logPad s p c v fs).com = s.com := by
  simp [logPad]
@[simp] theorem logPad_cmd (s : State) (p c v : Nat) (fs : List Nat) : (logPad s p c v fs).cmd = s.cmd := by
  simp [logPad]
@[simp] theorem logPad_tp (s : State) (p c v : Nat) (fs : List Nat) : (logPad s p c v fs).tp = s.tp := by
  simp [logPad]
@[simp] theorem logPad_host (s : State) (p c v : Nat) (fs : List Nat) : (logPad s p c v fs).host = s.host := by
  simp [logPad]
@[simp] theorem logPad_net (s : State) (p c v : Nat) (fs : List Nat) : (logPad s p c v fs).net = s.net := by
  simp [logPad]
@[simp] theorem logPad_sw (s : State) (p c v : Nat) (fs : List Nat) : (logPad s p c v fs).sw = s.sw := by
  simp [logPad]
@[simp] theorem logPad_sward (s : State) (p c v : Nat) (fs : List Nat) : (logPad s p c v fs).sward = s.sward := by
  simp [logPad]
@[simp] theorem logPad_sheaf (s : State) (p c v : Nat) (fs : List Nat) : (logPad s p c v fs).sheaf = s.sheaf := by
  simp [logPad]
@[simp] theorem logPad_acct (s : State) (p c v : Nat) (fs : List Nat) : (logPad s p c v fs).acct = s.acct := by
  simp [logPad]
@[simp] theorem logPad_sec (s : State) (p c v : Nat) (fs : List Nat) : (logPad s p c v fs).sec = s.sec := by
  simp [logPad]
@[simp] theorem logPad_flt (s : State) (p c v : Nat) (fs : List Nat) : (logPad s p c v fs).flt = s.flt := by
  simp [logPad]
@[simp] theorem logPad_pair (s : State) (p c v : Nat) (fs : List Nat) : (logPad s p c v fs).pair = s.pair := by
  simp [logPad]
@[simp] theorem logPad_pow (s : State) (p c v : Nat) (fs : List Nat) : (logPad s p c v fs).pow = s.pow := by
  simp [logPad]
@[simp] theorem logPad_ftm (s : State) (p c v : Nat) (fs : List Nat) : (logPad s p c v fs).ftm = s.ftm := by
  simp [logPad]
@[simp] theorem logPad_store (s : State) (p c v : Nat) (fs : List Nat) : (logPad s p c v fs).store = s.store := by
  simp [logPad]

/-! ### cairn -/
@[simp] theorem cairn_pending (s : State) (c v : Nat) (d : Bool) (p : Nat) (fs : List Nat) : (cairn s c v d p fs).pending = s.pending := by
  simp only [cairn]; split <;> simp
@[simp] theorem cairn_out (s : State) (c v : Nat) (d : Bool) (p : Nat) (fs : List Nat) : (cairn s c v d p fs).out = s.out := by
  simp only [cairn]; split <;> simp
@[simp] theorem cairn_fresh (s : State) (c v : Nat) (d : Bool) (p : Nat) (fs : List Nat) : (cairn s c v d p fs).fresh = s.fresh := by
  simp only [cairn]; split <;> simp
@[simp] theorem cairn_obj (s : State) (c v : Nat) (d : Bool) (p : Nat) (fs : List Nat) : (cairn s c v d p fs).obj = s.obj := by
  simp only [cairn]; split <;> simp
@[simp] theorem cairn_sys (s : State) (c v : Nat) (d : Bool) (p : Nat) (fs : List Nat) : (cairn s c v d p fs).sys = s.sys := by
  simp only [cairn]; split <;> simp
@[simp] theorem cairn_com (s : State) (c v : Nat) (d : Bool) (p : Nat) (fs : List Nat) : (cairn s c v d p fs).com = s.com := by
  simp only [cairn]; split <;> simp
@[simp] theorem cairn_cmd (s : State) (c v : Nat) (d : Bool) (p : Nat) (fs : List Nat) : (cairn s c v d p fs).cmd = s.cmd := by
  simp only [cairn]; split <;> simp
@[simp] theorem cairn_tp (s : State) (c v : Nat) (d : Bool) (p : Nat) (fs : List Nat) : (cairn s c v d p fs).tp = s.tp := by
  simp only [cairn]; split <;> simp
@[simp] theorem cairn_host (s : State) (c v : Nat) (d : Bool) (p : Nat) (fs : List Nat) : (cairn s c v d p fs).host = s.host := by
  simp only [cairn]; split <;> simp
@[simp] theorem cairn_net (s : State) (c v : Nat) (d : Bool) (p : Nat) (fs : List Nat) : (cairn s c v d p fs).net = s.net := by
  simp only [cairn]; split <;> simp
@[simp] theorem cairn_sw (s : State) (c v : Nat) (d : Bool) (p : Nat) (fs : List Nat) : (cairn s c v d p fs).sw = s.sw := by
  simp only [cairn]; split <;> simp
@[simp] theorem cairn_sward (s : State) (c v : Nat) (d : Bool) (p : Nat) (fs : List Nat) : (cairn s c v d p fs).sward = s.sward := by
  simp only [cairn]; split <;> simp
@[simp] theorem cairn_sheaf (s : State) (c v : Nat) (d : Bool) (p : Nat) (fs : List Nat) : (cairn s c v d p fs).sheaf = s.sheaf := by
  simp only [cairn]; split <;> simp
@[simp] theorem cairn_rick (s : State) (c v : Nat) (d : Bool) (p : Nat) (fs : List Nat) : (cairn s c v d p fs).rick = s.rick := by
  simp only [cairn]; split <;> simp
@[simp] theorem cairn_acct (s : State) (c v : Nat) (d : Bool) (p : Nat) (fs : List Nat) : (cairn s c v d p fs).acct = s.acct := by
  simp only [cairn]; split <;> simp
@[simp] theorem cairn_sec (s : State) (c v : Nat) (d : Bool) (p : Nat) (fs : List Nat) : (cairn s c v d p fs).sec = s.sec := by
  simp only [cairn]; split <;> simp
@[simp] theorem cairn_flt (s : State) (c v : Nat) (d : Bool) (p : Nat) (fs : List Nat) : (cairn s c v d p fs).flt = s.flt := by
  simp only [cairn]; split <;> simp
@[simp] theorem cairn_pair (s : State) (c v : Nat) (d : Bool) (p : Nat) (fs : List Nat) : (cairn s c v d p fs).pair = s.pair := by
  simp only [cairn]; split <;> simp
@[simp] theorem cairn_pow (s : State) (c v : Nat) (d : Bool) (p : Nat) (fs : List Nat) : (cairn s c v d p fs).pow = s.pow := by
  simp only [cairn]; split <;> simp
@[simp] theorem cairn_pads (s : State) (c v : Nat) (d : Bool) (p : Nat) (fs : List Nat) : (cairn s c v d p fs).pads = s.pads := by
  simp only [cairn]; split <;> simp
@[simp] theorem cairn_ftm (s : State) (c v : Nat) (d : Bool) (p : Nat) (fs : List Nat) : (cairn s c v d p fs).ftm = s.ftm := by
  simp only [cairn]; split <;> simp

/-! ### checkpoint -/
@[simp] theorem checkpoint_pending (s : State) : (checkpoint s).pending = s.pending := by
  simp only [checkpoint]; repeat' split
  all_goals simp [addRecord]
@[simp] theorem checkpoint_out (s : State) : (checkpoint s).out = s.out := by
  simp only [checkpoint]; repeat' split
  all_goals simp [addRecord]
@[simp] theorem checkpoint_fresh (s : State) : (checkpoint s).fresh = s.fresh := by
  simp only [checkpoint]; repeat' split
  all_goals simp [addRecord]
@[simp] theorem checkpoint_obj (s : State) : (checkpoint s).obj = s.obj := by
  simp only [checkpoint]; repeat' split
  all_goals simp [addRecord]
@[simp] theorem checkpoint_sys (s : State) : (checkpoint s).sys = s.sys := by
  simp only [checkpoint]; repeat' split
  all_goals simp [addRecord]
@[simp] theorem checkpoint_com (s : State) : (checkpoint s).com = s.com := by
  simp only [checkpoint]; repeat' split
  all_goals simp [addRecord]
@[simp] theorem checkpoint_cmd (s : State) : (checkpoint s).cmd = s.cmd := by
  simp only [checkpoint]; repeat' split
  all_goals simp [addRecord]
@[simp] theorem checkpoint_log (s : State) : (checkpoint s).log = s.log := by
  simp only [checkpoint]; repeat' split
  all_goals simp [addRecord]
@[simp] theorem checkpoint_tp (s : State) : (checkpoint s).tp = s.tp := by
  simp only [checkpoint]; repeat' split
  all_goals simp [addRecord]
@[simp] theorem checkpoint_host (s : State) : (checkpoint s).host = s.host := by
  simp only [checkpoint]; repeat' split
  all_goals simp [addRecord]
@[simp] theorem checkpoint_net (s : State) : (checkpoint s).net = s.net := by
  simp only [checkpoint]; repeat' split
  all_goals simp [addRecord]
@[simp] theorem checkpoint_sw (s : State) : (checkpoint s).sw = s.sw := by
  simp only [checkpoint]; repeat' split
  all_goals simp [addRecord]
@[simp] theorem checkpoint_sward (s : State) : (checkpoint s).sward = s.sward := by
  simp only [checkpoint]; repeat' split
  all_goals simp [addRecord]
@[simp] theorem checkpoint_sheaf (s : State) : (checkpoint s).sheaf = s.sheaf := by
  simp only [checkpoint]; repeat' split
  all_goals simp [addRecord]
@[simp] theorem checkpoint_rick (s : State) : (checkpoint s).rick = s.rick := by
  simp only [checkpoint]; repeat' split
  all_goals simp [addRecord]
@[simp] theorem checkpoint_acct (s : State) : (checkpoint s).acct = s.acct := by
  simp only [checkpoint]; repeat' split
  all_goals simp [addRecord]
@[simp] theorem checkpoint_sec (s : State) : (checkpoint s).sec = s.sec := by
  simp only [checkpoint]; repeat' split
  all_goals simp [addRecord]
@[simp] theorem checkpoint_flt (s : State) : (checkpoint s).flt = s.flt := by
  simp only [checkpoint]; repeat' split
  all_goals simp [addRecord]
@[simp] theorem checkpoint_pair (s : State) : (checkpoint s).pair = s.pair := by
  simp only [checkpoint]; repeat' split
  all_goals simp [addRecord]
@[simp] theorem checkpoint_pow (s : State) : (checkpoint s).pow = s.pow := by
  simp only [checkpoint]; repeat' split
  all_goals simp [addRecord]
@[simp] theorem checkpoint_pads (s : State) : (checkpoint s).pads = s.pads := by
  simp only [checkpoint]; repeat' split
  all_goals simp [addRecord]
@[simp] theorem checkpoint_ftm (s : State) : (checkpoint s).ftm = s.ftm := by
  simp only [checkpoint]; repeat' split
  all_goals simp [addRecord]

/-! ### journal -/
@[simp] theorem journal_pending (s : State) (t : Nat) (d : List Nat) : (journal s t d).pending = s.pending := by
  simp only [journal]; split <;> simp [addRecord]
@[simp] theorem journal_out (s : State) (t : Nat) (d : List Nat) : (journal s t d).out = s.out := by
  simp only [journal]; split <;> simp [addRecord]
@[simp] theorem journal_fresh (s : State) (t : Nat) (d : List Nat) : (journal s t d).fresh = s.fresh := by
  simp only [journal]; split <;> simp [addRecord]
@[simp] theorem journal_obj (s : State) (t : Nat) (d : List Nat) : (journal s t d).obj = s.obj := by
  simp only [journal]; split <;> simp [addRecord]
@[simp] theorem journal_sys (s : State) (t : Nat) (d : List Nat) : (journal s t d).sys = s.sys := by
  simp only [journal]; split <;> simp [addRecord]
@[simp] theorem journal_com (s : State) (t : Nat) (d : List Nat) : (journal s t d).com = s.com := by
  simp only [journal]; split <;> simp [addRecord]
@[simp] theorem journal_cmd (s : State) (t : Nat) (d : List Nat) : (journal s t d).cmd = s.cmd := by
  simp only [journal]; split <;> simp [addRecord]
@[simp] theorem journal_log (s : State) (t : Nat) (d : List Nat) : (journal s t d).log = s.log := by
  simp only [journal]; split <;> simp [addRecord]
@[simp] theorem journal_tp (s : State) (t : Nat) (d : List Nat) : (journal s t d).tp = s.tp := by
  simp only [journal]; split <;> simp [addRecord]
@[simp] theorem journal_host (s : State) (t : Nat) (d : List Nat) : (journal s t d).host = s.host := by
  simp only [journal]; split <;> simp [addRecord]
@[simp] theorem journal_net (s : State) (t : Nat) (d : List Nat) : (journal s t d).net = s.net := by
  simp only [journal]; split <;> simp [addRecord]
@[simp] theorem journal_sw (s : State) (t : Nat) (d : List Nat) : (journal s t d).sw = s.sw := by
  simp only [journal]; split <;> simp [addRecord]
@[simp] theorem journal_sward (s : State) (t : Nat) (d : List Nat) : (journal s t d).sward = s.sward := by
  simp only [journal]; split <;> simp [addRecord]
@[simp] theorem journal_sheaf (s : State) (t : Nat) (d : List Nat) : (journal s t d).sheaf = s.sheaf := by
  simp only [journal]; split <;> simp [addRecord]
@[simp] theorem journal_rick (s : State) (t : Nat) (d : List Nat) : (journal s t d).rick = s.rick := by
  simp only [journal]; split <;> simp [addRecord]
@[simp] theorem journal_acct (s : State) (t : Nat) (d : List Nat) : (journal s t d).acct = s.acct := by
  simp only [journal]; split <;> simp [addRecord]
@[simp] theorem journal_sec (s : State) (t : Nat) (d : List Nat) : (journal s t d).sec = s.sec := by
  simp only [journal]; split <;> simp [addRecord]
@[simp] theorem journal_flt (s : State) (t : Nat) (d : List Nat) : (journal s t d).flt = s.flt := by
  simp only [journal]; split <;> simp [addRecord]
@[simp] theorem journal_pair (s : State) (t : Nat) (d : List Nat) : (journal s t d).pair = s.pair := by
  simp only [journal]; split <;> simp [addRecord]
@[simp] theorem journal_pow (s : State) (t : Nat) (d : List Nat) : (journal s t d).pow = s.pow := by
  simp only [journal]; split <;> simp [addRecord]
@[simp] theorem journal_pads (s : State) (t : Nat) (d : List Nat) : (journal s t d).pads = s.pads := by
  simp only [journal]; split <;> simp [addRecord]
@[simp] theorem journal_ftm (s : State) (t : Nat) (d : List Nat) : (journal s t d).ftm = s.ftm := by
  simp only [journal]; split <;> simp [addRecord]

/-! ### updFunc -/
@[simp] theorem updFunc_pending (s : State) (fn : Fn) (f : Func → Func) : (updFunc s fn f).pending = s.pending := by
  cases fn <;> rfl
@[simp] theorem updFunc_out (s : State) (fn : Fn) (f : Func → Func) : (updFunc s fn f).out = s.out := by
  cases fn <;> rfl
@[simp] theorem updFunc_fresh (s : State) (fn : Fn) (f : Func → Func) : (updFunc s fn f).fresh = s.fresh := by
  cases fn <;> rfl
@[simp] theorem updFunc_obj (s : State) (fn : Fn) (f : Func → Func) : (updFunc s fn f).obj = s.obj := by
  cases fn <;> rfl
@[simp] theorem updFunc_sys (s : State) (fn : Fn) (f : Func → Func) : (updFunc s fn f).sys = s.sys := by
  cases fn <;> rfl
@[simp] theorem updFunc_com (s : State) (fn : Fn) (f : Func → Func) : (updFunc s fn f).com = s.com := by
  cases fn <;> rfl
@[simp] theorem updFunc_cmd (s : State) (fn : Fn) (f : Func → Func) : (updFunc s fn f).cmd = s.cmd := by
  cases fn <;> rfl
@[simp] theorem updFunc_log (s : State) (fn : Fn) (f : Func → Func) : (updFunc s fn f).log = s.log := by
  cases fn <;> rfl
@[simp] theorem updFunc_tp (s : State) (fn : Fn) (f : Func → Func) : (updFunc s fn f).tp = s.tp := by
  cases fn <;> rfl
@[simp] theorem updFunc_net (s : State) (fn : Fn) (f : Func → Func) : (updFunc s fn f).net = s.net := by
  cases fn <;> rfl
@[simp] theorem updFunc_sw (s : State) (fn : Fn) (f : Func → Func) : (updFunc s fn f).sw = s.sw := by
  cases fn <;> rfl
@[simp] theorem updFunc_sward (s : State) (fn : Fn) (f : Func → Func) : (updFunc s fn f).sward = s.sward := by
  cases fn <;> rfl
@[simp] theorem updFunc_sheaf (s : State) (fn : Fn) (f : Func → Func) : (updFunc s fn f).sheaf = s.sheaf := by
  cases fn <;> rfl
@[simp] theorem updFunc_rick (s : State) (fn : Fn) (f : Func → Func) : (updFunc s fn f).rick = s.rick := by
  cases fn <;> rfl
@[simp] theorem updFunc_acct (s : State) (fn : Fn) (f : Func → Func) : (updFunc s fn f).acct = s.acct := by
  cases fn <;> rfl
@[simp] theorem updFunc_sec (s : State) (fn : Fn) (f : Func → Func) : (updFunc s fn f).sec = s.sec := by
  cases fn <;> rfl
@[simp] theorem updFunc_ev (s : State) (fn : Fn) (f : Func → Func) : (updFunc s fn f).ev = s.ev := by
  cases fn <;> rfl
@[simp] theorem updFunc_flt (s : State) (fn : Fn) (f : Func → Func) : (updFunc s fn f).flt = s.flt := by
  cases fn <;> rfl
@[simp] theorem updFunc_pair (s : State) (fn : Fn) (f : Func → Func) : (updFunc s fn f).pair = s.pair := by
  cases fn <;> rfl
@[simp] theorem updFunc_pow (s : State) (fn : Fn) (f : Func → Func) : (updFunc s fn f).pow = s.pow := by
  cases fn <;> rfl
@[simp] theorem updFunc_pads (s : State) (fn : Fn) (f : Func → Func) : (updFunc s fn f).pads = s.pads := by
  cases fn <;> rfl
@[simp] theorem updFunc_ftm (s : State) (fn : Fn) (f : Func → Func) : (updFunc s fn f).ftm = s.ftm := by
  cases fn <;> rfl
@[simp] theorem updFunc_store (s : State) (fn : Fn) (f : Func → Func) : (updFunc s fn f).store = s.store := by
  cases fn <;> rfl

/-! ### msix -/
@[simp] theorem msix_pending (s : State) (fn : Fn) (v : Nat) : (msix s fn v).pending = s.pending := by
  simp only [msix]; split <;> simp
@[simp] theorem msix_fresh (s : State) (fn : Fn) (v : Nat) : (msix s fn v).fresh = s.fresh := by
  simp only [msix]; split <;> simp
@[simp] theorem msix_obj (s : State) (fn : Fn) (v : Nat) : (msix s fn v).obj = s.obj := by
  simp only [msix]; split <;> simp
@[simp] theorem msix_sys (s : State) (fn : Fn) (v : Nat) : (msix s fn v).sys = s.sys := by
  simp only [msix]; split <;> simp
@[simp] theorem msix_com (s : State) (fn : Fn) (v : Nat) : (msix s fn v).com = s.com := by
  simp only [msix]; split <;> simp
@[simp] theorem msix_cmd (s : State) (fn : Fn) (v : Nat) : (msix s fn v).cmd = s.cmd := by
  simp only [msix]; split <;> simp
@[simp] theorem msix_log (s : State) (fn : Fn) (v : Nat) : (msix s fn v).log = s.log := by
  simp only [msix]; split <;> simp
@[simp] theorem msix_tp (s : State) (fn : Fn) (v : Nat) : (msix s fn v).tp = s.tp := by
  simp only [msix]; split <;> simp
@[simp] theorem msix_net (s : State) (fn : Fn) (v : Nat) : (msix s fn v).net = s.net := by
  simp only [msix]; split <;> simp
@[simp] theorem msix_sw (s : State) (fn : Fn) (v : Nat) : (msix s fn v).sw = s.sw := by
  simp only [msix]; split <;> simp
@[simp] theorem msix_sward (s : State) (fn : Fn) (v : Nat) : (msix s fn v).sward = s.sward := by
  simp only [msix]; split <;> simp
@[simp] theorem msix_sheaf (s : State) (fn : Fn) (v : Nat) : (msix s fn v).sheaf = s.sheaf := by
  simp only [msix]; split <;> simp
@[simp] theorem msix_rick (s : State) (fn : Fn) (v : Nat) : (msix s fn v).rick = s.rick := by
  simp only [msix]; split <;> simp
@[simp] theorem msix_acct (s : State) (fn : Fn) (v : Nat) : (msix s fn v).acct = s.acct := by
  simp only [msix]; split <;> simp
@[simp] theorem msix_sec (s : State) (fn : Fn) (v : Nat) : (msix s fn v).sec = s.sec := by
  simp only [msix]; split <;> simp
@[simp] theorem msix_ev (s : State) (fn : Fn) (v : Nat) : (msix s fn v).ev = s.ev := by
  simp only [msix]; split <;> simp
@[simp] theorem msix_flt (s : State) (fn : Fn) (v : Nat) : (msix s fn v).flt = s.flt := by
  simp only [msix]; split <;> simp
@[simp] theorem msix_pair (s : State) (fn : Fn) (v : Nat) : (msix s fn v).pair = s.pair := by
  simp only [msix]; split <;> simp
@[simp] theorem msix_pow (s : State) (fn : Fn) (v : Nat) : (msix s fn v).pow = s.pow := by
  simp only [msix]; split <;> simp
@[simp] theorem msix_pads (s : State) (fn : Fn) (v : Nat) : (msix s fn v).pads = s.pads := by
  simp only [msix]; split <;> simp
@[simp] theorem msix_ftm (s : State) (fn : Fn) (v : Nat) : (msix s fn v).ftm = s.ftm := by
  simp only [msix]; split <;> simp
@[simp] theorem msix_store (s : State) (fn : Fn) (v : Nat) : (msix s fn v).store = s.store := by
  simp only [msix]; split <;> simp

/-! ### stileDone -/
@[simp] theorem stileDone_pending (s : State) (fn : Fn) (r : Bytes) : (stileDone s fn r).pending = s.pending := by
  simp only [stileDone]; repeat' split
  all_goals simp
@[simp] theorem stileDone_fresh (s : State) (fn : Fn) (r : Bytes) : (stileDone s fn r).fresh = s.fresh := by
  simp only [stileDone]; repeat' split
  all_goals simp
@[simp] theorem stileDone_obj (s : State) (fn : Fn) (r : Bytes) : (stileDone s fn r).obj = s.obj := by
  simp only [stileDone]; repeat' split
  all_goals simp
@[simp] theorem stileDone_sys (s : State) (fn : Fn) (r : Bytes) : (stileDone s fn r).sys = s.sys := by
  simp only [stileDone]; repeat' split
  all_goals simp
@[simp] theorem stileDone_com (s : State) (fn : Fn) (r : Bytes) : (stileDone s fn r).com = s.com := by
  simp only [stileDone]; repeat' split
  all_goals simp
@[simp] theorem stileDone_cmd (s : State) (fn : Fn) (r : Bytes) : (stileDone s fn r).cmd = s.cmd := by
  simp only [stileDone]; repeat' split
  all_goals simp
@[simp] theorem stileDone_log (s : State) (fn : Fn) (r : Bytes) : (stileDone s fn r).log = s.log := by
  simp only [stileDone]; repeat' split
  all_goals simp
@[simp] theorem stileDone_tp (s : State) (fn : Fn) (r : Bytes) : (stileDone s fn r).tp = s.tp := by
  simp only [stileDone]; repeat' split
  all_goals simp
@[simp] theorem stileDone_net (s : State) (fn : Fn) (r : Bytes) : (stileDone s fn r).net = s.net := by
  simp only [stileDone]; repeat' split
  all_goals simp
@[simp] theorem stileDone_sw (s : State) (fn : Fn) (r : Bytes) : (stileDone s fn r).sw = s.sw := by
  simp only [stileDone]; repeat' split
  all_goals simp
@[simp] theorem stileDone_sward (s : State) (fn : Fn) (r : Bytes) : (stileDone s fn r).sward = s.sward := by
  simp only [stileDone]; repeat' split
  all_goals simp
@[simp] theorem stileDone_sheaf (s : State) (fn : Fn) (r : Bytes) : (stileDone s fn r).sheaf = s.sheaf := by
  simp only [stileDone]; repeat' split
  all_goals simp
@[simp] theorem stileDone_rick (s : State) (fn : Fn) (r : Bytes) : (stileDone s fn r).rick = s.rick := by
  simp only [stileDone]; repeat' split
  all_goals simp
@[simp] theorem stileDone_acct (s : State) (fn : Fn) (r : Bytes) : (stileDone s fn r).acct = s.acct := by
  simp only [stileDone]; repeat' split
  all_goals simp
@[simp] theorem stileDone_sec (s : State) (fn : Fn) (r : Bytes) : (stileDone s fn r).sec = s.sec := by
  simp only [stileDone]; repeat' split
  all_goals simp
@[simp] theorem stileDone_ev (s : State) (fn : Fn) (r : Bytes) : (stileDone s fn r).ev = s.ev := by
  simp only [stileDone]; repeat' split
  all_goals simp
@[simp] theorem stileDone_flt (s : State) (fn : Fn) (r : Bytes) : (stileDone s fn r).flt = s.flt := by
  simp only [stileDone]; repeat' split
  all_goals simp
@[simp] theorem stileDone_pair (s : State) (fn : Fn) (r : Bytes) : (stileDone s fn r).pair = s.pair := by
  simp only [stileDone]; repeat' split
  all_goals simp
@[simp] theorem stileDone_pow (s : State) (fn : Fn) (r : Bytes) : (stileDone s fn r).pow = s.pow := by
  simp only [stileDone]; repeat' split
  all_goals simp
@[simp] theorem stileDone_pads (s : State) (fn : Fn) (r : Bytes) : (stileDone s fn r).pads = s.pads := by
  simp only [stileDone]; repeat' split
  all_goals simp
@[simp] theorem stileDone_ftm (s : State) (fn : Fn) (r : Bytes) : (stileDone s fn r).ftm = s.ftm := by
  simp only [stileDone]; repeat' split
  all_goals simp
@[simp] theorem stileDone_store (s : State) (fn : Fn) (r : Bytes) : (stileDone s fn r).store = s.store := by
  simp only [stileDone]; repeat' split
  all_goals simp

/-! ### sendResponse -/
@[simp] theorem sendResponse_pending (s : State) (v : Path) (h : BitVec 128) (b : Bytes) : (sendResponse s v h b).pending = s.pending := by
  simp only [sendResponse]; repeat' split
  all_goals simp
@[simp] theorem sendResponse_fresh (s : State) (v : Path) (h : BitVec 128) (b : Bytes) : (sendResponse s v h b).fresh = s.fresh := by
  simp only [sendResponse]; repeat' split
  all_goals simp
@[simp] theorem sendResponse_obj (s : State) (v : Path) (h : BitVec 128) (b : Bytes) : (sendResponse s v h b).obj = s.obj := by
  simp only [sendResponse]; repeat' split
  all_goals simp
@[simp] theorem sendResponse_sys (s : State) (v : Path) (h : BitVec 128) (b : Bytes) : (sendResponse s v h b).sys = s.sys := by
  simp only [sendResponse]; repeat' split
  all_goals simp
@[simp] theorem sendResponse_com (s : State) (v : Path) (h : BitVec 128) (b : Bytes) : (sendResponse s v h b).com = s.com := by
  simp only [sendResponse]; repeat' split
  all_goals simp
@[simp] theorem sendResponse_cmd (s : State) (v : Path) (h : BitVec 128) (b : Bytes) : (sendResponse s v h b).cmd = s.cmd := by
  simp only [sendResponse]; repeat' split
  all_goals simp
@[simp] theorem sendResponse_log (s : State) (v : Path) (h : BitVec 128) (b : Bytes) : (sendResponse s v h b).log = s.log := by
  simp only [sendResponse]; repeat' split
  all_goals simp
@[simp] theorem sendResponse_tp (s : State) (v : Path) (h : BitVec 128) (b : Bytes) : (sendResponse s v h b).tp = s.tp := by
  simp only [sendResponse]; repeat' split
  all_goals simp
@[simp] theorem sendResponse_net (s : State) (v : Path) (h : BitVec 128) (b : Bytes) : (sendResponse s v h b).net = s.net := by
  simp only [sendResponse]; repeat' split
  all_goals simp
@[simp] theorem sendResponse_sw (s : State) (v : Path) (h : BitVec 128) (b : Bytes) : (sendResponse s v h b).sw = s.sw := by
  simp only [sendResponse]; repeat' split
  all_goals simp
@[simp] theorem sendResponse_sward (s : State) (v : Path) (h : BitVec 128) (b : Bytes) : (sendResponse s v h b).sward = s.sward := by
  simp only [sendResponse]; repeat' split
  all_goals simp
@[simp] theorem sendResponse_sheaf (s : State) (v : Path) (h : BitVec 128) (b : Bytes) : (sendResponse s v h b).sheaf = s.sheaf := by
  simp only [sendResponse]; repeat' split
  all_goals simp
@[simp] theorem sendResponse_rick (s : State) (v : Path) (h : BitVec 128) (b : Bytes) : (sendResponse s v h b).rick = s.rick := by
  simp only [sendResponse]; repeat' split
  all_goals simp
@[simp] theorem sendResponse_acct (s : State) (v : Path) (h : BitVec 128) (b : Bytes) : (sendResponse s v h b).acct = s.acct := by
  simp only [sendResponse]; repeat' split
  all_goals simp
@[simp] theorem sendResponse_ev (s : State) (v : Path) (h : BitVec 128) (b : Bytes) : (sendResponse s v h b).ev = s.ev := by
  simp only [sendResponse]; repeat' split
  all_goals simp
@[simp] theorem sendResponse_flt (s : State) (v : Path) (h : BitVec 128) (b : Bytes) : (sendResponse s v h b).flt = s.flt := by
  simp only [sendResponse]; repeat' split
  all_goals simp
@[simp] theorem sendResponse_pair (s : State) (v : Path) (h : BitVec 128) (b : Bytes) : (sendResponse s v h b).pair = s.pair := by
  simp only [sendResponse]; repeat' split
  all_goals simp
@[simp] theorem sendResponse_pow (s : State) (v : Path) (h : BitVec 128) (b : Bytes) : (sendResponse s v h b).pow = s.pow := by
  simp only [sendResponse]; repeat' split
  all_goals simp
@[simp] theorem sendResponse_pads (s : State) (v : Path) (h : BitVec 128) (b : Bytes) : (sendResponse s v h b).pads = s.pads := by
  simp only [sendResponse]; repeat' split
  all_goals simp
@[simp] theorem sendResponse_ftm (s : State) (v : Path) (h : BitVec 128) (b : Bytes) : (sendResponse s v h b).ftm = s.ftm := by
  simp only [sendResponse]; repeat' split
  all_goals simp
@[simp] theorem sendResponse_store (s : State) (v : Path) (h : BitVec 128) (b : Bytes) : (sendResponse s v h b).store = s.store := by
  simp only [sendResponse]; repeat' split
  all_goals simp

/-! ### answer -/
@[simp] theorem answer_pending (s : State) (v : Path) (r : Req) (n c : Nat) (b : Bytes) : (answer s v r n c b).pending = s.pending := by
  simp [answer]
@[simp] theorem answer_fresh (s : State) (v : Path) (r : Req) (n c : Nat) (b : Bytes) : (answer s v r n c b).fresh = s.fresh := by
  simp [answer]
@[simp] theorem answer_obj (s : State) (v : Path) (r : Req) (n c : Nat) (b : Bytes) : (answer s v r n c b).obj = s.obj := by
  simp [answer]
@[simp] theorem answer_sys (s : State) (v : Path) (r : Req) (n c : Nat) (b : Bytes) : (answer s v r n c b).sys = s.sys := by
  simp [answer]
@[simp] theorem answer_com (s : State) (v : Path) (r : Req) (n c : Nat) (b : Bytes) : (answer s v r n c b).com = s.com := by
  simp [answer]
@[simp] theorem answer_cmd (s : State) (v : Path) (r : Req) (n c : Nat) (b : Bytes) : (answer s v r n c b).cmd = s.cmd := by
  simp [answer]
@[simp] theorem answer_log (s : State) (v : Path) (r : Req) (n c : Nat) (b : Bytes) : (answer s v r n c b).log = s.log := by
  simp [answer]
@[simp] theorem answer_tp (s : State) (v : Path) (r : Req) (n c : Nat) (b : Bytes) : (answer s v r n c b).tp = s.tp := by
  simp [answer]
@[simp] theorem answer_net (s : State) (v : Path) (r : Req) (n c : Nat) (b : Bytes) : (answer s v r n c b).net = s.net := by
  simp [answer]
@[simp] theorem answer_sw (s : State) (v : Path) (r : Req) (n c : Nat) (b : Bytes) : (answer s v r n c b).sw = s.sw := by
  simp [answer]
@[simp] theorem answer_sward (s : State) (v : Path) (r : Req) (n c : Nat) (b : Bytes) : (answer s v r n c b).sward = s.sward := by
  simp [answer]
@[simp] theorem answer_sheaf (s : State) (v : Path) (r : Req) (n c : Nat) (b : Bytes) : (answer s v r n c b).sheaf = s.sheaf := by
  simp [answer]
@[simp] theorem answer_rick (s : State) (v : Path) (r : Req) (n c : Nat) (b : Bytes) : (answer s v r n c b).rick = s.rick := by
  simp [answer]
@[simp] theorem answer_acct (s : State) (v : Path) (r : Req) (n c : Nat) (b : Bytes) : (answer s v r n c b).acct = s.acct := by
  simp [answer]
@[simp] theorem answer_ev (s : State) (v : Path) (r : Req) (n c : Nat) (b : Bytes) : (answer s v r n c b).ev = s.ev := by
  simp [answer]
@[simp] theorem answer_flt (s : State) (v : Path) (r : Req) (n c : Nat) (b : Bytes) : (answer s v r n c b).flt = s.flt := by
  simp [answer]
@[simp] theorem answer_pair (s : State) (v : Path) (r : Req) (n c : Nat) (b : Bytes) : (answer s v r n c b).pair = s.pair := by
  simp [answer]
@[simp] theorem answer_pow (s : State) (v : Path) (r : Req) (n c : Nat) (b : Bytes) : (answer s v r n c b).pow = s.pow := by
  simp [answer]
@[simp] theorem answer_pads (s : State) (v : Path) (r : Req) (n c : Nat) (b : Bytes) : (answer s v r n c b).pads = s.pads := by
  simp [answer]
@[simp] theorem answer_ftm (s : State) (v : Path) (r : Req) (n c : Nat) (b : Bytes) : (answer s v r n c b).ftm = s.ftm := by
  simp [answer]
@[simp] theorem answer_store (s : State) (v : Path) (r : Req) (n c : Nat) (b : Bytes) : (answer s v r n c b).store = s.store := by
  simp [answer]

end Sys2Proof.Machine
end

