-- ==== Sys2Proof/Laws/SendFrames.lean ====
section
/-! SUPPORT. What sending on links, on the Tenancy Port and to the host leaves as it was: one lemma per field. -/

namespace Sys2Proof.Machine
open Sys2Proof

/-- The object values and versions but for what hardware counts and LIVE objects. -/
def conf (s : State) : Objs := { s.obj with live := [], serving := none }

theorem conf_mk {a b c o d e f g h i j k l m n p q r t u v w x y} : conf (State.mk a b c o d e f g h i j k l m n p q r t u v w x y) = { o with live := [], serving := none } := rfl

theorem conf_obj {s t : State} (h : s.obj = t.obj) : conf s = conf t := by simp [conf, h]

@[simp] theorem larkSee_conf (s : State) (k n : Nat) : conf (larkSee s k n) = conf s := conf_obj (by simp)
@[simp] theorem raise_conf (s : State) (n : Nat) : conf (raise s n) = conf s := conf_obj (by simp)
@[simp] theorem fire_conf (s : State) (n : Nat) : conf (fire s n) = conf s := conf_obj (by simp)
@[simp] theorem firePad_conf (s : State) (p k : Nat) : conf (firePad s p k) = conf s := conf_obj (by simp)
@[simp] theorem cairn_conf (s : State) (c v : Nat) (d : Bool) (p : Nat) (fs : List Nat) : conf (cairn s c v d p fs) = conf s := conf_obj (by simp)
@[simp] theorem journal_conf (s : State) (t : Nat) (d : List Nat) : conf (journal s t d) = conf s := conf_obj (by simp)
@[simp] theorem updFunc_conf (s : State) (fn : Fn) (f : Func → Func) : conf (updFunc s fn f) = conf s := conf_obj (by simp)
@[simp] theorem msix_conf (s : State) (fn : Fn) (v : Nat) : conf (msix s fn v) = conf s := conf_obj (by simp)
@[simp] theorem sendResponse_conf (s : State) (v : Path) (h : BitVec 128) (b : Bytes) : conf (sendResponse s v h b) = conf s := conf_obj (by simp)
@[simp] theorem answer_conf (s : State) (v : Path) (r : Req) (n c : Nat) (b : Bytes) : conf (answer s v r n c b) = conf s := conf_obj (by simp)
@[simp] theorem emit_conf (s : State) (o : Out) : conf (emit s o) = conf s := conf_obj (by simp)
@[simp] theorem fresh1_conf (s : State)  : conf (fresh1 s ) = conf s := conf_obj (by simp)
@[simp] theorem updPad_conf (s : State) (p : Nat) (f : Paddock → Paddock) : conf (updPad s p f) = conf s := conf_obj (by simp)
@[simp] theorem flash_conf (s : State) (op : FlashOp) : conf (flash s op) = conf s := conf_obj (by simp)
@[simp] theorem addRecord_conf (s : State) (t : Nat) (d : List Nat) : conf (addRecord s t d) = conf s := conf_obj (by simp)
@[simp] theorem setO_conf (s : State) (i sub v : Nat) : conf (setO s i sub v) = conf s := by
  simp [conf, setO, setP, addO, bump, meter]
@[simp] theorem setP_conf (s : State) (p off sub v : Nat) : conf (setP s p off sub v) = conf s := by
  simp [conf, setO, setP, addO, bump, meter]
@[simp] theorem addO_conf (s : State) (i sub n w : Nat) : conf (addO s i sub n w) = conf s := by
  simp [conf, setO, setP, addO, bump, meter]
@[simp] theorem bump_conf (s : State) (p off r n : Nat) : conf (bump s p off r n) = conf s := by
  simp [conf, setO, setP, addO, bump, meter]
@[simp] theorem meter_conf (s : State) (p r n : Nat) : conf (meter s p r n) = conf s := by
  simp [conf, setO, setP, addO, bump, meter]
@[simp] theorem geq_conf (s : State) (e : Entry) : conf (geq s e) = conf s := by
  simp only [geq]; repeat' split
  all_goals simp [conf_mk]
  all_goals rfl
@[simp] theorem logDev_conf (s : State) (c v : Nat) (fs : List Nat) : conf (logDev s c v fs) = conf s := by
  simp only [logDev, geq_conf]
@[simp] theorem logPad_conf (s : State) (p c v : Nat) (fs : List Nat) : conf (logPad s p c v fs) = conf s := by
  simp only [logPad, geq_conf]

/-! ### charge -/
@[simp] theorem charge_pending (s : State) (p c u : Nat) : (charge s p c u).pending = s.pending := by
  simp [charge]
@[simp] theorem charge_out (s : State) (p c u : Nat) : (charge s p c u).out = s.out := by
  simp [charge]
@[simp] theorem charge_fresh (s : State) (p c u : Nat) : (charge s p c u).fresh = s.fresh := by
  simp [charge]
@[simp] theorem charge_obj (s : State) (p c u : Nat) : (charge s p c u).obj = s.obj := by
  simp [charge]
@[simp] theorem charge_sys (s : State) (p c u : Nat) : (charge s p c u).sys = s.sys := by
  simp [charge]
@[simp] theorem charge_com (s : State) (p c u : Nat) : (charge s p c u).com = s.com := by
  simp [charge]
@[simp] theorem charge_cmd (s : State) (p c u : Nat) : (charge s p c u).cmd = s.cmd := by
  simp [charge]
@[simp] theorem charge_log (s : State) (p c u : Nat) : (charge s p c u).log = s.log := by
  simp [charge]
@[simp] theorem charge_tp (s : State) (p c u : Nat) : (charge s p c u).tp = s.tp := by
  simp [charge]
@[simp] theorem charge_host (s : State) (p c u : Nat) : (charge s p c u).host = s.host := by
  simp [charge]
@[simp] theorem charge_net (s : State) (p c u : Nat) : (charge s p c u).net = s.net := by
  simp [charge]
@[simp] theorem charge_sw (s : State) (p c u : Nat) : (charge s p c u).sw = s.sw := by
  simp [charge]
@[simp] theorem charge_sward (s : State) (p c u : Nat) : (charge s p c u).sward = s.sward := by
  simp [charge]
@[simp] theorem charge_sheaf (s : State) (p c u : Nat) : (charge s p c u).sheaf = s.sheaf := by
  simp [charge]
@[simp] theorem charge_rick (s : State) (p c u : Nat) : (charge s p c u).rick = s.rick := by
  simp [charge]
@[simp] theorem charge_acct (s : State) (p c u : Nat) : (charge s p c u).acct = s.acct := by
  simp [charge]
@[simp] theorem charge_sec (s : State) (p c u : Nat) : (charge s p c u).sec = s.sec := by
  simp [charge]
@[simp] theorem charge_ev (s : State) (p c u : Nat) : (charge s p c u).ev = s.ev := by
  simp [charge]
@[simp] theorem charge_flt (s : State) (p c u : Nat) : (charge s p c u).flt = s.flt := by
  simp [charge]
@[simp] theorem charge_pair (s : State) (p c u : Nat) : (charge s p c u).pair = s.pair := by
  simp [charge]
@[simp] theorem charge_pow (s : State) (p c u : Nat) : (charge s p c u).pow = s.pow := by
  simp [charge]
@[simp] theorem charge_ftm (s : State) (p c u : Nat) : (charge s p c u).ftm = s.ftm := by
  simp [charge]
@[simp] theorem charge_store (s : State) (p c u : Nat) : (charge s p c u).store = s.store := by
  simp [charge]
@[simp] theorem charge_conf (s : State) (p c u : Nat) : conf (charge s p c u) = conf s := conf_obj (by simp)

/-! ### take -/
@[simp] theorem take_pending (s : State) (p c u : Nat) : (take s p c u).pending = s.pending := by
  simp only [take]; split <;> simp
@[simp] theorem take_out (s : State) (p c u : Nat) : (take s p c u).out = s.out := by
  simp only [take]; split <;> simp
@[simp] theorem take_fresh (s : State) (p c u : Nat) : (take s p c u).fresh = s.fresh := by
  simp only [take]; split <;> simp
@[simp] theorem take_obj (s : State) (p c u : Nat) : (take s p c u).obj = s.obj := by
  simp only [take]; split <;> simp
@[simp] theorem take_sys (s : State) (p c u : Nat) : (take s p c u).sys = s.sys := by
  simp only [take]; split <;> simp
@[simp] theorem take_com (s : State) (p c u : Nat) : (take s p c u).com = s.com := by
  simp only [take]; split <;> simp
@[simp] theorem take_cmd (s : State) (p c u : Nat) : (take s p c u).cmd = s.cmd := by
  simp only [take]; split <;> simp
@[simp] theorem take_log (s : State) (p c u : Nat) : (take s p c u).log = s.log := by
  simp only [take]; split <;> simp
@[simp] theorem take_tp (s : State) (p c u : Nat) : (take s p c u).tp = s.tp := by
  simp only [take]; split <;> simp
@[simp] theorem take_host (s : State) (p c u : Nat) : (take s p c u).host = s.host := by
  simp only [take]; split <;> simp
@[simp] theorem take_net (s : State) (p c u : Nat) : (take s p c u).net = s.net := by
  simp only [take]; split <;> simp
@[simp] theorem take_sw (s : State) (p c u : Nat) : (take s p c u).sw = s.sw := by
  simp only [take]; split <;> simp
@[simp] theorem take_sward (s : State) (p c u : Nat) : (take s p c u).sward = s.sward := by
  simp only [take]; split <;> simp
@[simp] theorem take_sheaf (s : State) (p c u : Nat) : (take s p c u).sheaf = s.sheaf := by
  simp only [take]; split <;> simp
@[simp] theorem take_rick (s : State) (p c u : Nat) : (take s p c u).rick = s.rick := by
  simp only [take]; split <;> simp
@[simp] theorem take_acct (s : State) (p c u : Nat) : (take s p c u).acct = s.acct := by
  simp only [take]; split <;> simp
@[simp] theorem take_sec (s : State) (p c u : Nat) : (take s p c u).sec = s.sec := by
  simp only [take]; split <;> simp
@[simp] theorem take_ev (s : State) (p c u : Nat) : (take s p c u).ev = s.ev := by
  simp only [take]; split <;> simp
@[simp] theorem take_flt (s : State) (p c u : Nat) : (take s p c u).flt = s.flt := by
  simp only [take]; split <;> simp
@[simp] theorem take_pair (s : State) (p c u : Nat) : (take s p c u).pair = s.pair := by
  simp only [take]; split <;> simp
@[simp] theorem take_pow (s : State) (p c u : Nat) : (take s p c u).pow = s.pow := by
  simp only [take]; split <;> simp
@[simp] theorem take_ftm (s : State) (p c u : Nat) : (take s p c u).ftm = s.ftm := by
  simp only [take]; split <;> simp
@[simp] theorem take_store (s : State) (p c u : Nat) : (take s p c u).store = s.store := by
  simp only [take]; split <;> simp
@[simp] theorem take_conf (s : State) (p c u : Nat) : conf (take s p c u) = conf s := conf_obj (by simp)

/-! ### waitBehind -/
@[simp] theorem waitBehind_pending (s : State) (p n w : Nat) : (waitBehind p n s w).pending = s.pending := by
  simp [waitBehind]
@[simp] theorem waitBehind_out (s : State) (p n w : Nat) : (waitBehind p n s w).out = s.out := by
  simp [waitBehind]
@[simp] theorem waitBehind_fresh (s : State) (p n w : Nat) : (waitBehind p n s w).fresh = s.fresh := by
  simp [waitBehind]
@[simp] theorem waitBehind_sys (s : State) (p n w : Nat) : (waitBehind p n s w).sys = s.sys := by
  simp [waitBehind]
@[simp] theorem waitBehind_com (s : State) (p n w : Nat) : (waitBehind p n s w).com = s.com := by
  simp [waitBehind]
@[simp] theorem waitBehind_cmd (s : State) (p n w : Nat) : (waitBehind p n s w).cmd = s.cmd := by
  simp [waitBehind]
@[simp] theorem waitBehind_log (s : State) (p n w : Nat) : (waitBehind p n s w).log = s.log := by
  simp [waitBehind]
@[simp] theorem waitBehind_tp (s : State) (p n w : Nat) : (waitBehind p n s w).tp = s.tp := by
  simp [waitBehind]
@[simp] theorem waitBehind_host (s : State) (p n w : Nat) : (waitBehind p n s w).host = s.host := by
  simp [waitBehind]
@[simp] theorem waitBehind_net (s : State) (p n w : Nat) : (waitBehind p n s w).net = s.net := by
  simp [waitBehind]
@[simp] theorem waitBehind_sw (s : State) (p n w : Nat) : (waitBehind p n s w).sw = s.sw := by
  simp [waitBehind]
@[simp] theorem waitBehind_sward (s : State) (p n w : Nat) : (waitBehind p n s w).sward = s.sward := by
  simp [waitBehind]
@[simp] theorem waitBehind_sheaf (s : State) (p n w : Nat) : (waitBehind p n s w).sheaf = s.sheaf := by
  simp [waitBehind]
@[simp] theorem waitBehind_rick (s : State) (p n w : Nat) : (waitBehind p n s w).rick = s.rick := by
  simp [waitBehind]
@[simp] theorem waitBehind_acct (s : State) (p n w : Nat) : (waitBehind p n s w).acct = s.acct := by
  simp [waitBehind]
@[simp] theorem waitBehind_sec (s : State) (p n w : Nat) : (waitBehind p n s w).sec = s.sec := by
  simp [waitBehind]
@[simp] theorem waitBehind_ev (s : State) (p n w : Nat) : (waitBehind p n s w).ev = s.ev := by
  simp [waitBehind]
@[simp] theorem waitBehind_flt (s : State) (p n w : Nat) : (waitBehind p n s w).flt = s.flt := by
  simp [waitBehind]
@[simp] theorem waitBehind_pair (s : State) (p n w : Nat) : (waitBehind p n s w).pair = s.pair := by
  simp [waitBehind]
@[simp] theorem waitBehind_pow (s : State) (p n w : Nat) : (waitBehind p n s w).pow = s.pow := by
  simp [waitBehind]
@[simp] theorem waitBehind_ftm (s : State) (p n w : Nat) : (waitBehind p n s w).ftm = s.ftm := by
  simp [waitBehind]
@[simp] theorem waitBehind_store (s : State) (p n w : Nat) : (waitBehind p n s w).store = s.store := by
  simp [waitBehind]
@[simp] theorem waitBehind_conf (s : State) (p n w : Nat) : conf (waitBehind p n s w) = conf s := by
  simp only [waitBehind]; repeat' split
  all_goals first | rfl | (simp; first | done | rfl) | (simp; exact conf_obj rfl)

/-! ### updLink -/
@[simp] theorem updLink_pending (s : State) (l : Nat) (f : Link → Link) : (updLink s l f).pending = s.pending := rfl
@[simp] theorem updLink_out (s : State) (l : Nat) (f : Link → Link) : (updLink s l f).out = s.out := rfl
@[simp] theorem updLink_fresh (s : State) (l : Nat) (f : Link → Link) : (updLink s l f).fresh = s.fresh := rfl
@[simp] theorem updLink_obj (s : State) (l : Nat) (f : Link → Link) : (updLink s l f).obj = s.obj := rfl
@[simp] theorem updLink_sys (s : State) (l : Nat) (f : Link → Link) : (updLink s l f).sys = s.sys := rfl
@[simp] theorem updLink_com (s : State) (l : Nat) (f : Link → Link) : (updLink s l f).com = s.com := rfl
@[simp] theorem updLink_cmd (s : State) (l : Nat) (f : Link → Link) : (updLink s l f).cmd = s.cmd := rfl
@[simp] theorem updLink_log (s : State) (l : Nat) (f : Link → Link) : (updLink s l f).log = s.log := rfl
@[simp] theorem updLink_tp (s : State) (l : Nat) (f : Link → Link) : (updLink s l f).tp = s.tp := rfl
@[simp] theorem updLink_host (s : State) (l : Nat) (f : Link → Link) : (updLink s l f).host = s.host := rfl
@[simp] theorem updLink_sw (s : State) (l : Nat) (f : Link → Link) : (updLink s l f).sw = s.sw := rfl
@[simp] theorem updLink_sward (s : State) (l : Nat) (f : Link → Link) : (updLink s l f).sward = s.sward := rfl
@[simp] theorem updLink_sheaf (s : State) (l : Nat) (f : Link → Link) : (updLink s l f).sheaf = s.sheaf := rfl
@[simp] theorem updLink_rick (s : State) (l : Nat) (f : Link → Link) : (updLink s l f).rick = s.rick := rfl
@[simp] theorem updLink_acct (s : State) (l : Nat) (f : Link → Link) : (updLink s l f).acct = s.acct := rfl
@[simp] theorem updLink_sec (s : State) (l : Nat) (f : Link → Link) : (updLink s l f).sec = s.sec := rfl
@[simp] theorem updLink_ev (s : State) (l : Nat) (f : Link → Link) : (updLink s l f).ev = s.ev := rfl
@[simp] theorem updLink_flt (s : State) (l : Nat) (f : Link → Link) : (updLink s l f).flt = s.flt := rfl
@[simp] theorem updLink_pair (s : State) (l : Nat) (f : Link → Link) : (updLink s l f).pair = s.pair := rfl
@[simp] theorem updLink_pow (s : State) (l : Nat) (f : Link → Link) : (updLink s l f).pow = s.pow := rfl
@[simp] theorem updLink_pads (s : State) (l : Nat) (f : Link → Link) : (updLink s l f).pads = s.pads := rfl
@[simp] theorem updLink_ftm (s : State) (l : Nat) (f : Link → Link) : (updLink s l f).ftm = s.ftm := rfl
@[simp] theorem updLink_store (s : State) (l : Nat) (f : Link → Link) : (updLink s l f).store = s.store := rfl
@[simp] theorem updLink_conf (s : State) (l : Nat) (f : Link → Link) : conf (updLink s l f) = conf s := conf_obj (by simp)

/-! ### updQp -/
@[simp] theorem updQp_pending (s : State) (n : Nat) (f : Qp → Qp) : (updQp s n f).pending = s.pending := rfl
@[simp] theorem updQp_out (s : State) (n : Nat) (f : Qp → Qp) : (updQp s n f).out = s.out := rfl
@[simp] theorem updQp_fresh (s : State) (n : Nat) (f : Qp → Qp) : (updQp s n f).fresh = s.fresh := rfl
@[simp] theorem updQp_obj (s : State) (n : Nat) (f : Qp → Qp) : (updQp s n f).obj = s.obj := rfl
@[simp] theorem updQp_sys (s : State) (n : Nat) (f : Qp → Qp) : (updQp s n f).sys = s.sys := rfl
@[simp] theorem updQp_com (s : State) (n : Nat) (f : Qp → Qp) : (updQp s n f).com = s.com := rfl
@[simp] theorem updQp_cmd (s : State) (n : Nat) (f : Qp → Qp) : (updQp s n f).cmd = s.cmd := rfl
@[simp] theorem updQp_log (s : State) (n : Nat) (f : Qp → Qp) : (updQp s n f).log = s.log := rfl
@[simp] theorem updQp_tp (s : State) (n : Nat) (f : Qp → Qp) : (updQp s n f).tp = s.tp := rfl
@[simp] theorem updQp_host (s : State) (n : Nat) (f : Qp → Qp) : (updQp s n f).host = s.host := rfl
@[simp] theorem updQp_sw (s : State) (n : Nat) (f : Qp → Qp) : (updQp s n f).sw = s.sw := rfl
@[simp] theorem updQp_sward (s : State) (n : Nat) (f : Qp → Qp) : (updQp s n f).sward = s.sward := rfl
@[simp] theorem updQp_sheaf (s : State) (n : Nat) (f : Qp → Qp) : (updQp s n f).sheaf = s.sheaf := rfl
@[simp] theorem updQp_rick (s : State) (n : Nat) (f : Qp → Qp) : (updQp s n f).rick = s.rick := rfl
@[simp] theorem updQp_acct (s : State) (n : Nat) (f : Qp → Qp) : (updQp s n f).acct = s.acct := rfl
@[simp] theorem updQp_sec (s : State) (n : Nat) (f : Qp → Qp) : (updQp s n f).sec = s.sec := rfl
@[simp] theorem updQp_ev (s : State) (n : Nat) (f : Qp → Qp) : (updQp s n f).ev = s.ev := rfl
@[simp] theorem updQp_flt (s : State) (n : Nat) (f : Qp → Qp) : (updQp s n f).flt = s.flt := rfl
@[simp] theorem updQp_pair (s : State) (n : Nat) (f : Qp → Qp) : (updQp s n f).pair = s.pair := rfl
@[simp] theorem updQp_pow (s : State) (n : Nat) (f : Qp → Qp) : (updQp s n f).pow = s.pow := rfl
@[simp] theorem updQp_pads (s : State) (n : Nat) (f : Qp → Qp) : (updQp s n f).pads = s.pads := rfl
@[simp] theorem updQp_ftm (s : State) (n : Nat) (f : Qp → Qp) : (updQp s n f).ftm = s.ftm := rfl
@[simp] theorem updQp_store (s : State) (n : Nat) (f : Qp → Qp) : (updQp s n f).store = s.store := rfl
@[simp] theorem updQp_conf (s : State) (n : Nat) (f : Qp → Qp) : conf (updQp s n f) = conf s := conf_obj (by simp)

/-! ### updTpm -/
@[simp] theorem updTpm_pending (s : State) (n : Nat) (f : TpModule → TpModule) : (updTpm s n f).pending = s.pending := rfl
@[simp] theorem updTpm_out (s : State) (n : Nat) (f : TpModule → TpModule) : (updTpm s n f).out = s.out := rfl
@[simp] theorem updTpm_fresh (s : State) (n : Nat) (f : TpModule → TpModule) : (updTpm s n f).fresh = s.fresh := rfl
@[simp] theorem updTpm_obj (s : State) (n : Nat) (f : TpModule → TpModule) : (updTpm s n f).obj = s.obj := rfl
@[simp] theorem updTpm_sys (s : State) (n : Nat) (f : TpModule → TpModule) : (updTpm s n f).sys = s.sys := rfl
@[simp] theorem updTpm_com (s : State) (n : Nat) (f : TpModule → TpModule) : (updTpm s n f).com = s.com := rfl
@[simp] theorem updTpm_cmd (s : State) (n : Nat) (f : TpModule → TpModule) : (updTpm s n f).cmd = s.cmd := rfl
@[simp] theorem updTpm_log (s : State) (n : Nat) (f : TpModule → TpModule) : (updTpm s n f).log = s.log := rfl
@[simp] theorem updTpm_host (s : State) (n : Nat) (f : TpModule → TpModule) : (updTpm s n f).host = s.host := rfl
@[simp] theorem updTpm_net (s : State) (n : Nat) (f : TpModule → TpModule) : (updTpm s n f).net = s.net := rfl
@[simp] theorem updTpm_sw (s : State) (n : Nat) (f : TpModule → TpModule) : (updTpm s n f).sw = s.sw := rfl
@[simp] theorem updTpm_sward (s : State) (n : Nat) (f : TpModule → TpModule) : (updTpm s n f).sward = s.sward := rfl
@[simp] theorem updTpm_sheaf (s : State) (n : Nat) (f : TpModule → TpModule) : (updTpm s n f).sheaf = s.sheaf := rfl
@[simp] theorem updTpm_rick (s : State) (n : Nat) (f : TpModule → TpModule) : (updTpm s n f).rick = s.rick := rfl
@[simp] theorem updTpm_acct (s : State) (n : Nat) (f : TpModule → TpModule) : (updTpm s n f).acct = s.acct := rfl
@[simp] theorem updTpm_sec (s : State) (n : Nat) (f : TpModule → TpModule) : (updTpm s n f).sec = s.sec := rfl
@[simp] theorem updTpm_ev (s : State) (n : Nat) (f : TpModule → TpModule) : (updTpm s n f).ev = s.ev := rfl
@[simp] theorem updTpm_flt (s : State) (n : Nat) (f : TpModule → TpModule) : (updTpm s n f).flt = s.flt := rfl
@[simp] theorem updTpm_pair (s : State) (n : Nat) (f : TpModule → TpModule) : (updTpm s n f).pair = s.pair := rfl
@[simp] theorem updTpm_pow (s : State) (n : Nat) (f : TpModule → TpModule) : (updTpm s n f).pow = s.pow := rfl
@[simp] theorem updTpm_pads (s : State) (n : Nat) (f : TpModule → TpModule) : (updTpm s n f).pads = s.pads := rfl
@[simp] theorem updTpm_ftm (s : State) (n : Nat) (f : TpModule → TpModule) : (updTpm s n f).ftm = s.ftm := rfl
@[simp] theorem updTpm_store (s : State) (n : Nat) (f : TpModule → TpModule) : (updTpm s n f).store = s.store := rfl
@[simp] theorem updTpm_conf (s : State) (n : Nat) (f : TpModule → TpModule) : conf (updTpm s n f) = conf s := conf_obj (by simp)

/-! ### putFrame -/
@[simp] theorem putFrame_pending (s : State) (l i : Nat) : (putFrame s l i).pending = s.pending := by
  have hw := fun p n (l : List Nat) (s : State) => foldl_keeps State.pending (waitBehind p n) (fun s w => waitBehind_pending s p n w) l s
  simp only [putFrame]; repeat' split
  all_goals simp [hw]
@[simp] theorem putFrame_fresh (s : State) (l i : Nat) : (putFrame s l i).fresh = s.fresh := by
  have hw := fun p n (l : List Nat) (s : State) => foldl_keeps State.fresh (waitBehind p n) (fun s w => waitBehind_fresh s p n w) l s
  simp only [putFrame]; repeat' split
  all_goals simp [hw]
@[simp] theorem putFrame_sys (s : State) (l i : Nat) : (putFrame s l i).sys = s.sys := by
  have hw := fun p n (l : List Nat) (s : State) => foldl_keeps State.sys (waitBehind p n) (fun s w => waitBehind_sys s p n w) l s
  simp only [putFrame]; repeat' split
  all_goals simp [hw]
@[simp] theorem putFrame_com (s : State) (l i : Nat) : (putFrame s l i).com = s.com := by
  have hw := fun p n (l : List Nat) (s : State) => foldl_keeps State.com (waitBehind p n) (fun s w => waitBehind_com s p n w) l s
  simp only [putFrame]; repeat' split
  all_goals simp [hw]
@[simp] theorem putFrame_cmd (s : State) (l i : Nat) : (putFrame s l i).cmd = s.cmd := by
  have hw := fun p n (l : List Nat) (s : State) => foldl_keeps State.cmd (waitBehind p n) (fun s w => waitBehind_cmd s p n w) l s
  simp only [putFrame]; repeat' split
  all_goals simp [hw]
@[simp] theorem putFrame_log (s : State) (l i : Nat) : (putFrame s l i).log = s.log := by
  have hw := fun p n (l : List Nat) (s : State) => foldl_keeps State.log (waitBehind p n) (fun s w => waitBehind_log s p n w) l s
  simp only [putFrame]; repeat' split
  all_goals simp [hw]
@[simp] theorem putFrame_tp (s : State) (l i : Nat) : (putFrame s l i).tp = s.tp := by
  have hw := fun p n (l : List Nat) (s : State) => foldl_keeps State.tp (waitBehind p n) (fun s w => waitBehind_tp s p n w) l s
  simp only [putFrame]; repeat' split
  all_goals simp [hw]
@[simp] theorem putFrame_host (s : State) (l i : Nat) : (putFrame s l i).host = s.host := by
  have hw := fun p n (l : List Nat) (s : State) => foldl_keeps State.host (waitBehind p n) (fun s w => waitBehind_host s p n w) l s
  simp only [putFrame]; repeat' split
  all_goals simp [hw]
@[simp] theorem putFrame_sw (s : State) (l i : Nat) : (putFrame s l i).sw = s.sw := by
  have hw := fun p n (l : List Nat) (s : State) => foldl_keeps State.sw (waitBehind p n) (fun s w => waitBehind_sw s p n w) l s
  simp only [putFrame]; repeat' split
  all_goals simp [hw]
@[simp] theorem putFrame_sward (s : State) (l i : Nat) : (putFrame s l i).sward = s.sward := by
  have hw := fun p n (l : List Nat) (s : State) => foldl_keeps State.sward (waitBehind p n) (fun s w => waitBehind_sward s p n w) l s
  simp only [putFrame]; repeat' split
  all_goals simp [hw]
@[simp] theorem putFrame_sheaf (s : State) (l i : Nat) : (putFrame s l i).sheaf = s.sheaf := by
  have hw := fun p n (l : List Nat) (s : State) => foldl_keeps State.sheaf (waitBehind p n) (fun s w => waitBehind_sheaf s p n w) l s
  simp only [putFrame]; repeat' split
  all_goals simp [hw]
@[simp] theorem putFrame_rick (s : State) (l i : Nat) : (putFrame s l i).rick = s.rick := by
  have hw := fun p n (l : List Nat) (s : State) => foldl_keeps State.rick (waitBehind p n) (fun s w => waitBehind_rick s p n w) l s
  simp only [putFrame]; repeat' split
  all_goals simp [hw]
@[simp] theorem putFrame_acct (s : State) (l i : Nat) : (putFrame s l i).acct = s.acct := by
  have hw := fun p n (l : List Nat) (s : State) => foldl_keeps State.acct (waitBehind p n) (fun s w => waitBehind_acct s p n w) l s
  simp only [putFrame]; repeat' split
  all_goals simp [hw]
@[simp] theorem putFrame_sec (s : State) (l i : Nat) : (putFrame s l i).sec = s.sec := by
  have hw := fun p n (l : List Nat) (s : State) => foldl_keeps State.sec (waitBehind p n) (fun s w => waitBehind_sec s p n w) l s
  simp only [putFrame]; repeat' split
  all_goals simp [hw]
@[simp] theorem putFrame_ev (s : State) (l i : Nat) : (putFrame s l i).ev = s.ev := by
  have hw := fun p n (l : List Nat) (s : State) => foldl_keeps State.ev (waitBehind p n) (fun s w => waitBehind_ev s p n w) l s
  simp only [putFrame]; repeat' split
  all_goals simp [hw]
@[simp] theorem putFrame_flt (s : State) (l i : Nat) : (putFrame s l i).flt = s.flt := by
  have hw := fun p n (l : List Nat) (s : State) => foldl_keeps State.flt (waitBehind p n) (fun s w => waitBehind_flt s p n w) l s
  simp only [putFrame]; repeat' split
  all_goals simp [hw]
@[simp] theorem putFrame_pair (s : State) (l i : Nat) : (putFrame s l i).pair = s.pair := by
  have hw := fun p n (l : List Nat) (s : State) => foldl_keeps State.pair (waitBehind p n) (fun s w => waitBehind_pair s p n w) l s
  simp only [putFrame]; repeat' split
  all_goals simp [hw]
@[simp] theorem putFrame_pow (s : State) (l i : Nat) : (putFrame s l i).pow = s.pow := by
  have hw := fun p n (l : List Nat) (s : State) => foldl_keeps State.pow (waitBehind p n) (fun s w => waitBehind_pow s p n w) l s
  simp only [putFrame]; repeat' split
  all_goals simp [hw]
@[simp] theorem putFrame_ftm (s : State) (l i : Nat) : (putFrame s l i).ftm = s.ftm := by
  have hw := fun p n (l : List Nat) (s : State) => foldl_keeps State.ftm (waitBehind p n) (fun s w => waitBehind_ftm s p n w) l s
  simp only [putFrame]; repeat' split
  all_goals simp [hw]
@[simp] theorem putFrame_store (s : State) (l i : Nat) : (putFrame s l i).store = s.store := by
  have hw := fun p n (l : List Nat) (s : State) => foldl_keeps State.store (waitBehind p n) (fun s w => waitBehind_store s p n w) l s
  simp only [putFrame]; repeat' split
  all_goals simp [hw]
@[simp] theorem putFrame_conf (s : State) (l i : Nat) : conf (putFrame s l i) = conf s := by
  have hw := fun p n (l : List Nat) (s : State) => foldl_keeps conf (waitBehind p n) (fun s w => waitBehind_conf s p n w) l s
  simp only [putFrame]; repeat' split
  all_goals simp only [meter_conf, updPad_conf, charge_conf, take_conf, setO_conf, emit_conf, updLink_conf, hw]

/-! ### drainLink -/
@[simp] theorem drainLink_pending (s : State) (l n : Nat) : (drainLink l n s).pending = s.pending := by
  induction n generalizing s with
  | zero => rfl
  | succ n ih => simp only [drainLink]; split <;> simp [ih]
@[simp] theorem drainLink_fresh (s : State) (l n : Nat) : (drainLink l n s).fresh = s.fresh := by
  induction n generalizing s with
  | zero => rfl
  | succ n ih => simp only [drainLink]; split <;> simp [ih]
@[simp] theorem drainLink_sys (s : State) (l n : Nat) : (drainLink l n s).sys = s.sys := by
  induction n generalizing s with
  | zero => rfl
  | succ n ih => simp only [drainLink]; split <;> simp [ih]
@[simp] theorem drainLink_com (s : State) (l n : Nat) : (drainLink l n s).com = s.com := by
  induction n generalizing s with
  | zero => rfl
  | succ n ih => simp only [drainLink]; split <;> simp [ih]
@[simp] theorem drainLink_cmd (s : State) (l n : Nat) : (drainLink l n s).cmd = s.cmd := by
  induction n generalizing s with
  | zero => rfl
  | succ n ih => simp only [drainLink]; split <;> simp [ih]
@[simp] theorem drainLink_log (s : State) (l n : Nat) : (drainLink l n s).log = s.log := by
  induction n generalizing s with
  | zero => rfl
  | succ n ih => simp only [drainLink]; split <;> simp [ih]
@[simp] theorem drainLink_tp (s : State) (l n : Nat) : (drainLink l n s).tp = s.tp := by
  induction n generalizing s with
  | zero => rfl
  | succ n ih => simp only [drainLink]; split <;> simp [ih]
@[simp] theorem drainLink_host (s : State) (l n : Nat) : (drainLink l n s).host = s.host := by
  induction n generalizing s with
  | zero => rfl
  | succ n ih => simp only [drainLink]; split <;> simp [ih]
@[simp] theorem drainLink_sw (s : State) (l n : Nat) : (drainLink l n s).sw = s.sw := by
  induction n generalizing s with
  | zero => rfl
  | succ n ih => simp only [drainLink]; split <;> simp [ih]
@[simp] theorem drainLink_sward (s : State) (l n : Nat) : (drainLink l n s).sward = s.sward := by
  induction n generalizing s with
  | zero => rfl
  | succ n ih => simp only [drainLink]; split <;> simp [ih]
@[simp] theorem drainLink_sheaf (s : State) (l n : Nat) : (drainLink l n s).sheaf = s.sheaf := by
  induction n generalizing s with
  | zero => rfl
  | succ n ih => simp only [drainLink]; split <;> simp [ih]
@[simp] theorem drainLink_rick (s : State) (l n : Nat) : (drainLink l n s).rick = s.rick := by
  induction n generalizing s with
  | zero => rfl
  | succ n ih => simp only [drainLink]; split <;> simp [ih]
@[simp] theorem drainLink_acct (s : State) (l n : Nat) : (drainLink l n s).acct = s.acct := by
  induction n generalizing s with
  | zero => rfl
  | succ n ih => simp only [drainLink]; split <;> simp [ih]
@[simp] theorem drainLink_sec (s : State) (l n : Nat) : (drainLink l n s).sec = s.sec := by
  induction n generalizing s with
  | zero => rfl
  | succ n ih => simp only [drainLink]; split <;> simp [ih]
@[simp] theorem drainLink_ev (s : State) (l n : Nat) : (drainLink l n s).ev = s.ev := by
  induction n generalizing s with
  | zero => rfl
  | succ n ih => simp only [drainLink]; split <;> simp [ih]
@[simp] theorem drainLink_flt (s : State) (l n : Nat) : (drainLink l n s).flt = s.flt := by
  induction n generalizing s with
  | zero => rfl
  | succ n ih => simp only [drainLink]; split <;> simp [ih]
@[simp] theorem drainLink_pair (s : State) (l n : Nat) : (drainLink l n s).pair = s.pair := by
  induction n generalizing s with
  | zero => rfl
  | succ n ih => simp only [drainLink]; split <;> simp [ih]
@[simp] theorem drainLink_pow (s : State) (l n : Nat) : (drainLink l n s).pow = s.pow := by
  induction n generalizing s with
  | zero => rfl
  | succ n ih => simp only [drainLink]; split <;> simp [ih]
@[simp] theorem drainLink_ftm (s : State) (l n : Nat) : (drainLink l n s).ftm = s.ftm := by
  induction n generalizing s with
  | zero => rfl
  | succ n ih => simp only [drainLink]; split <;> simp [ih]
@[simp] theorem drainLink_store (s : State) (l n : Nat) : (drainLink l n s).store = s.store := by
  induction n generalizing s with
  | zero => rfl
  | succ n ih => simp only [drainLink]; split <;> simp [ih]
@[simp] theorem drainLink_conf (s : State) (l n : Nat) : conf (drainLink l n s) = conf s := by
  induction n generalizing s with
  | zero => rfl
  | succ n ih => simp only [drainLink]; split <;> simp [ih]

/-! ### activate -/
@[simp] theorem activate_pending (s : State) (p : Nat) : (activate s p).pending = s.pending := by
  simp only [activate]; repeat' split
  all_goals simp
@[simp] theorem activate_out (s : State) (p : Nat) : (activate s p).out = s.out := by
  simp only [activate]; repeat' split
  all_goals simp
@[simp] theorem activate_fresh (s : State) (p : Nat) : (activate s p).fresh = s.fresh := by
  simp only [activate]; repeat' split
  all_goals simp
@[simp] theorem activate_obj (s : State) (p : Nat) : (activate s p).obj = s.obj := by
  simp only [activate]; repeat' split
  all_goals simp
@[simp] theorem activate_sys (s : State) (p : Nat) : (activate s p).sys = s.sys := by
  simp only [activate]; repeat' split
  all_goals simp
@[simp] theorem activate_com (s : State) (p : Nat) : (activate s p).com = s.com := by
  simp only [activate]; repeat' split
  all_goals simp
@[simp] theorem activate_cmd (s : State) (p : Nat) : (activate s p).cmd = s.cmd := by
  simp only [activate]; repeat' split
  all_goals simp
@[simp] theorem activate_log (s : State) (p : Nat) : (activate s p).log = s.log := by
  simp only [activate]; repeat' split
  all_goals simp
@[simp] theorem activate_tp (s : State) (p : Nat) : (activate s p).tp = s.tp := by
  simp only [activate]; repeat' split
  all_goals simp
@[simp] theorem activate_host (s : State) (p : Nat) : (activate s p).host = s.host := by
  simp only [activate]; repeat' split
  all_goals simp
@[simp] theorem activate_net (s : State) (p : Nat) : (activate s p).net = s.net := by
  simp only [activate]; repeat' split
  all_goals simp
@[simp] theorem activate_sw (s : State) (p : Nat) : (activate s p).sw = s.sw := by
  simp only [activate]; repeat' split
  all_goals simp
@[simp] theorem activate_sward (s : State) (p : Nat) : (activate s p).sward = s.sward := by
  simp only [activate]; repeat' split
  all_goals simp
@[simp] theorem activate_sheaf (s : State) (p : Nat) : (activate s p).sheaf = s.sheaf := by
  simp only [activate]; repeat' split
  all_goals simp
@[simp] theorem activate_rick (s : State) (p : Nat) : (activate s p).rick = s.rick := by
  simp only [activate]; repeat' split
  all_goals simp
@[simp] theorem activate_acct (s : State) (p : Nat) : (activate s p).acct = s.acct := by
  simp only [activate]; repeat' split
  all_goals simp
@[simp] theorem activate_sec (s : State) (p : Nat) : (activate s p).sec = s.sec := by
  simp only [activate]; repeat' split
  all_goals simp
@[simp] theorem activate_ev (s : State) (p : Nat) : (activate s p).ev = s.ev := by
  simp only [activate]; repeat' split
  all_goals simp
@[simp] theorem activate_flt (s : State) (p : Nat) : (activate s p).flt = s.flt := by
  simp only [activate]; repeat' split
  all_goals simp
@[simp] theorem activate_pair (s : State) (p : Nat) : (activate s p).pair = s.pair := by
  simp only [activate]; repeat' split
  all_goals simp
@[simp] theorem activate_pow (s : State) (p : Nat) : (activate s p).pow = s.pow := by
  simp only [activate]; repeat' split
  all_goals simp
@[simp] theorem activate_ftm (s : State) (p : Nat) : (activate s p).ftm = s.ftm := by
  simp only [activate]; repeat' split
  all_goals simp
@[simp] theorem activate_store (s : State) (p : Nat) : (activate s p).store = s.store := by
  simp only [activate]; repeat' split
  all_goals simp
@[simp] theorem activate_conf (s : State) (p : Nat) : conf (activate s p) = conf s := conf_obj (by simp)

/-! ### toLink -/
@[simp] theorem toLink_pending (s : State) (l vc pool p : Nat) (k : Packet) : (toLink s l vc pool p k).pending = s.pending := by
  simp only [toLink]; repeat' split
  all_goals simp
@[simp] theorem toLink_fresh (s : State) (l vc pool p : Nat) (k : Packet) : (toLink s l vc pool p k).fresh = s.fresh := by
  simp only [toLink]; repeat' split
  all_goals simp
@[simp] theorem toLink_sys (s : State) (l vc pool p : Nat) (k : Packet) : (toLink s l vc pool p k).sys = s.sys := by
  simp only [toLink]; repeat' split
  all_goals simp
@[simp] theorem toLink_com (s : State) (l vc pool p : Nat) (k : Packet) : (toLink s l vc pool p k).com = s.com := by
  simp only [toLink]; repeat' split
  all_goals simp
@[simp] theorem toLink_cmd (s : State) (l vc pool p : Nat) (k : Packet) : (toLink s l vc pool p k).cmd = s.cmd := by
  simp only [toLink]; repeat' split
  all_goals simp
@[simp] theorem toLink_log (s : State) (l vc pool p : Nat) (k : Packet) : (toLink s l vc pool p k).log = s.log := by
  simp only [toLink]; repeat' split
  all_goals simp
@[simp] theorem toLink_tp (s : State) (l vc pool p : Nat) (k : Packet) : (toLink s l vc pool p k).tp = s.tp := by
  simp only [toLink]; repeat' split
  all_goals simp
@[simp] theorem toLink_host (s : State) (l vc pool p : Nat) (k : Packet) : (toLink s l vc pool p k).host = s.host := by
  simp only [toLink]; repeat' split
  all_goals simp
@[simp] theorem toLink_sw (s : State) (l vc pool p : Nat) (k : Packet) : (toLink s l vc pool p k).sw = s.sw := by
  simp only [toLink]; repeat' split
  all_goals simp
@[simp] theorem toLink_sward (s : State) (l vc pool p : Nat) (k : Packet) : (toLink s l vc pool p k).sward = s.sward := by
  simp only [toLink]; repeat' split
  all_goals simp
@[simp] theorem toLink_sheaf (s : State) (l vc pool p : Nat) (k : Packet) : (toLink s l vc pool p k).sheaf = s.sheaf := by
  simp only [toLink]; repeat' split
  all_goals simp
@[simp] theorem toLink_rick (s : State) (l vc pool p : Nat) (k : Packet) : (toLink s l vc pool p k).rick = s.rick := by
  simp only [toLink]; repeat' split
  all_goals simp
@[simp] theorem toLink_acct (s : State) (l vc pool p : Nat) (k : Packet) : (toLink s l vc pool p k).acct = s.acct := by
  simp only [toLink]; repeat' split
  all_goals simp
@[simp] theorem toLink_sec (s : State) (l vc pool p : Nat) (k : Packet) : (toLink s l vc pool p k).sec = s.sec := by
  simp only [toLink]; repeat' split
  all_goals simp
@[simp] theorem toLink_ev (s : State) (l vc pool p : Nat) (k : Packet) : (toLink s l vc pool p k).ev = s.ev := by
  simp only [toLink]; repeat' split
  all_goals simp
@[simp] theorem toLink_flt (s : State) (l vc pool p : Nat) (k : Packet) : (toLink s l vc pool p k).flt = s.flt := by
  simp only [toLink]; repeat' split
  all_goals simp
@[simp] theorem toLink_pair (s : State) (l vc pool p : Nat) (k : Packet) : (toLink s l vc pool p k).pair = s.pair := by
  simp only [toLink]; repeat' split
  all_goals simp
@[simp] theorem toLink_pow (s : State) (l vc pool p : Nat) (k : Packet) : (toLink s l vc pool p k).pow = s.pow := by
  simp only [toLink]; repeat' split
  all_goals simp
@[simp] theorem toLink_ftm (s : State) (l vc pool p : Nat) (k : Packet) : (toLink s l vc pool p k).ftm = s.ftm := by
  simp only [toLink]; repeat' split
  all_goals simp
@[simp] theorem toLink_store (s : State) (l vc pool p : Nat) (k : Packet) : (toLink s l vc pool p k).store = s.store := by
  simp only [toLink]; repeat' split
  all_goals simp
@[simp] theorem toLink_conf (s : State) (l vc pool p : Nat) (k : Packet) : conf (toLink s l vc pool p k) = conf s := by
  simp only [toLink]; repeat' split
  all_goals first | rfl | simp
  all_goals first | done | rfl

/-! ### sendControl -/
@[simp] theorem sendControl_pending (s : State) (l c : Nat) : (sendControl s l c).pending = s.pending := by
  simp [sendControl]
@[simp] theorem sendControl_fresh (s : State) (l c : Nat) : (sendControl s l c).fresh = s.fresh := by
  simp [sendControl]
@[simp] theorem sendControl_sys (s : State) (l c : Nat) : (sendControl s l c).sys = s.sys := by
  simp [sendControl]
@[simp] theorem sendControl_com (s : State) (l c : Nat) : (sendControl s l c).com = s.com := by
  simp [sendControl]
@[simp] theorem sendControl_cmd (s : State) (l c : Nat) : (sendControl s l c).cmd = s.cmd := by
  simp [sendControl]
@[simp] theorem sendControl_log (s : State) (l c : Nat) : (sendControl s l c).log = s.log := by
  simp [sendControl]
@[simp] theorem sendControl_tp (s : State) (l c : Nat) : (sendControl s l c).tp = s.tp := by
  simp [sendControl]
@[simp] theorem sendControl_host (s : State) (l c : Nat) : (sendControl s l c).host = s.host := by
  simp [sendControl]
@[simp] theorem sendControl_sw (s : State) (l c : Nat) : (sendControl s l c).sw = s.sw := by
  simp [sendControl]
@[simp] theorem sendControl_sward (s : State) (l c : Nat) : (sendControl s l c).sward = s.sward := by
  simp [sendControl]
@[simp] theorem sendControl_sheaf (s : State) (l c : Nat) : (sendControl s l c).sheaf = s.sheaf := by
  simp [sendControl]
@[simp] theorem sendControl_rick (s : State) (l c : Nat) : (sendControl s l c).rick = s.rick := by
  simp [sendControl]
@[simp] theorem sendControl_acct (s : State) (l c : Nat) : (sendControl s l c).acct = s.acct := by
  simp [sendControl]
@[simp] theorem sendControl_sec (s : State) (l c : Nat) : (sendControl s l c).sec = s.sec := by
  simp [sendControl]
@[simp] theorem sendControl_ev (s : State) (l c : Nat) : (sendControl s l c).ev = s.ev := by
  simp [sendControl]
@[simp] theorem sendControl_flt (s : State) (l c : Nat) : (sendControl s l c).flt = s.flt := by
  simp [sendControl]
@[simp] theorem sendControl_pair (s : State) (l c : Nat) : (sendControl s l c).pair = s.pair := by
  simp [sendControl]
@[simp] theorem sendControl_pow (s : State) (l c : Nat) : (sendControl s l c).pow = s.pow := by
  simp [sendControl]
@[simp] theorem sendControl_ftm (s : State) (l c : Nat) : (sendControl s l c).ftm = s.ftm := by
  simp [sendControl]
@[simp] theorem sendControl_store (s : State) (l c : Nat) : (sendControl s l c).store = s.store := by
  simp [sendControl]
@[simp] theorem sendControl_conf (s : State) (l c : Nat) : conf (sendControl s l c) = conf s := by
  simp [sendControl]

/-! ### sendBare -/
@[simp] theorem sendBare_pending (s : State) (l c : Nat) : (sendBare s l c).pending = s.pending := by
  simp [sendBare]
@[simp] theorem sendBare_fresh (s : State) (l c : Nat) : (sendBare s l c).fresh = s.fresh := by
  simp [sendBare]
@[simp] theorem sendBare_obj (s : State) (l c : Nat) : (sendBare s l c).obj = s.obj := by
  simp [sendBare]
@[simp] theorem sendBare_sys (s : State) (l c : Nat) : (sendBare s l c).sys = s.sys := by
  simp [sendBare]
@[simp] theorem sendBare_com (s : State) (l c : Nat) : (sendBare s l c).com = s.com := by
  simp [sendBare]
@[simp] theorem sendBare_cmd (s : State) (l c : Nat) : (sendBare s l c).cmd = s.cmd := by
  simp [sendBare]
@[simp] theorem sendBare_log (s : State) (l c : Nat) : (sendBare s l c).log = s.log := by
  simp [sendBare]
@[simp] theorem sendBare_tp (s : State) (l c : Nat) : (sendBare s l c).tp = s.tp := by
  simp [sendBare]
@[simp] theorem sendBare_host (s : State) (l c : Nat) : (sendBare s l c).host = s.host := by
  simp [sendBare]
@[simp] theorem sendBare_net (s : State) (l c : Nat) : (sendBare s l c).net = s.net := by
  simp [sendBare]
@[simp] theorem sendBare_sw (s : State) (l c : Nat) : (sendBare s l c).sw = s.sw := by
  simp [sendBare]
@[simp] theorem sendBare_sward (s : State) (l c : Nat) : (sendBare s l c).sward = s.sward := by
  simp [sendBare]
@[simp] theorem sendBare_sheaf (s : State) (l c : Nat) : (sendBare s l c).sheaf = s.sheaf := by
  simp [sendBare]
@[simp] theorem sendBare_rick (s : State) (l c : Nat) : (sendBare s l c).rick = s.rick := by
  simp [sendBare]
@[simp] theorem sendBare_acct (s : State) (l c : Nat) : (sendBare s l c).acct = s.acct := by
  simp [sendBare]
@[simp] theorem sendBare_sec (s : State) (l c : Nat) : (sendBare s l c).sec = s.sec := by
  simp [sendBare]
@[simp] theorem sendBare_ev (s : State) (l c : Nat) : (sendBare s l c).ev = s.ev := by
  simp [sendBare]
@[simp] theorem sendBare_flt (s : State) (l c : Nat) : (sendBare s l c).flt = s.flt := by
  simp [sendBare]
@[simp] theorem sendBare_pair (s : State) (l c : Nat) : (sendBare s l c).pair = s.pair := by
  simp [sendBare]
@[simp] theorem sendBare_pow (s : State) (l c : Nat) : (sendBare s l c).pow = s.pow := by
  simp [sendBare]
@[simp] theorem sendBare_pads (s : State) (l c : Nat) : (sendBare s l c).pads = s.pads := by
  simp [sendBare]
@[simp] theorem sendBare_ftm (s : State) (l c : Nat) : (sendBare s l c).ftm = s.ftm := by
  simp [sendBare]
@[simp] theorem sendBare_store (s : State) (l c : Nat) : (sendBare s l c).store = s.store := by
  simp [sendBare]
@[simp] theorem sendBare_conf (s : State) (l c : Nat) : conf (sendBare s l c) = conf s := conf_obj (by simp)

/-! ### wear -/
@[simp] theorem wear_pending (s : State) (t q p : Nat) : (wear s t q p).pending = s.pending := by
  simp only [wear]; split <;> simp
@[simp] theorem wear_out (s : State) (t q p : Nat) : (wear s t q p).out = s.out := by
  simp only [wear]; split <;> simp
@[simp] theorem wear_fresh (s : State) (t q p : Nat) : (wear s t q p).fresh = s.fresh := by
  simp only [wear]; split <;> simp
@[simp] theorem wear_sys (s : State) (t q p : Nat) : (wear s t q p).sys = s.sys := by
  simp only [wear]; split <;> simp
@[simp] theorem wear_com (s : State) (t q p : Nat) : (wear s t q p).com = s.com := by
  simp only [wear]; split <;> simp
@[simp] theorem wear_cmd (s : State) (t q p : Nat) : (wear s t q p).cmd = s.cmd := by
  simp only [wear]; split <;> simp
@[simp] theorem wear_tp (s : State) (t q p : Nat) : (wear s t q p).tp = s.tp := by
  simp only [wear]; split <;> simp
@[simp] theorem wear_host (s : State) (t q p : Nat) : (wear s t q p).host = s.host := by
  simp only [wear]; split <;> simp
@[simp] theorem wear_sw (s : State) (t q p : Nat) : (wear s t q p).sw = s.sw := by
  simp only [wear]; split <;> simp
@[simp] theorem wear_sward (s : State) (t q p : Nat) : (wear s t q p).sward = s.sward := by
  simp only [wear]; split <;> simp
@[simp] theorem wear_sheaf (s : State) (t q p : Nat) : (wear s t q p).sheaf = s.sheaf := by
  simp only [wear]; split <;> simp
@[simp] theorem wear_acct (s : State) (t q p : Nat) : (wear s t q p).acct = s.acct := by
  simp only [wear]; split <;> simp
@[simp] theorem wear_sec (s : State) (t q p : Nat) : (wear s t q p).sec = s.sec := by
  simp only [wear]; split <;> simp
@[simp] theorem wear_flt (s : State) (t q p : Nat) : (wear s t q p).flt = s.flt := by
  simp only [wear]; split <;> simp
@[simp] theorem wear_pair (s : State) (t q p : Nat) : (wear s t q p).pair = s.pair := by
  simp only [wear]; split <;> simp
@[simp] theorem wear_pow (s : State) (t q p : Nat) : (wear s t q p).pow = s.pow := by
  simp only [wear]; split <;> simp
@[simp] theorem wear_pads (s : State) (t q p : Nat) : (wear s t q p).pads = s.pads := by
  simp only [wear]; split <;> simp
@[simp] theorem wear_ftm (s : State) (t q p : Nat) : (wear s t q p).ftm = s.ftm := by
  simp only [wear]; split <;> simp
@[simp] theorem wear_store (s : State) (t q p : Nat) : (wear s t q p).store = s.store := by
  simp only [wear]; split <;> simp
@[simp] theorem wear_conf (s : State) (t q p : Nat) : conf (wear s t q p) = conf s := by
  simp only [wear]; repeat' split
  all_goals first | rfl | (simp; first | done | rfl) | (simp; exact conf_obj rfl)

/-! ### sendOn -/
@[simp] theorem sendOn_pending (s : State) (p q l h : Nat) (b : Bytes) (d : Bool) : (sendOn s p q l h b d).pending = s.pending := by
  simp only [sendOn]; repeat' split
  all_goals simp
@[simp] theorem sendOn_fresh (s : State) (p q l h : Nat) (b : Bytes) (d : Bool) : (sendOn s p q l h b d).fresh = s.fresh := by
  simp only [sendOn]; repeat' split
  all_goals simp
@[simp] theorem sendOn_sys (s : State) (p q l h : Nat) (b : Bytes) (d : Bool) : (sendOn s p q l h b d).sys = s.sys := by
  simp only [sendOn]; repeat' split
  all_goals simp
@[simp] theorem sendOn_com (s : State) (p q l h : Nat) (b : Bytes) (d : Bool) : (sendOn s p q l h b d).com = s.com := by
  simp only [sendOn]; repeat' split
  all_goals simp
@[simp] theorem sendOn_cmd (s : State) (p q l h : Nat) (b : Bytes) (d : Bool) : (sendOn s p q l h b d).cmd = s.cmd := by
  simp only [sendOn]; repeat' split
  all_goals simp
@[simp] theorem sendOn_tp (s : State) (p q l h : Nat) (b : Bytes) (d : Bool) : (sendOn s p q l h b d).tp = s.tp := by
  simp only [sendOn]; repeat' split
  all_goals simp
@[simp] theorem sendOn_host (s : State) (p q l h : Nat) (b : Bytes) (d : Bool) : (sendOn s p q l h b d).host = s.host := by
  simp only [sendOn]; repeat' split
  all_goals simp
@[simp] theorem sendOn_sw (s : State) (p q l h : Nat) (b : Bytes) (d : Bool) : (sendOn s p q l h b d).sw = s.sw := by
  simp only [sendOn]; repeat' split
  all_goals simp
@[simp] theorem sendOn_sward (s : State) (p q l h : Nat) (b : Bytes) (d : Bool) : (sendOn s p q l h b d).sward = s.sward := by
  simp only [sendOn]; repeat' split
  all_goals simp
@[simp] theorem sendOn_sheaf (s : State) (p q l h : Nat) (b : Bytes) (d : Bool) : (sendOn s p q l h b d).sheaf = s.sheaf := by
  simp only [sendOn]; repeat' split
  all_goals simp
@[simp] theorem sendOn_acct (s : State) (p q l h : Nat) (b : Bytes) (d : Bool) : (sendOn s p q l h b d).acct = s.acct := by
  simp only [sendOn]; repeat' split
  all_goals simp
@[simp] theorem sendOn_sec (s : State) (p q l h : Nat) (b : Bytes) (d : Bool) : (sendOn s p q l h b d).sec = s.sec := by
  simp only [sendOn]; repeat' split
  all_goals simp
@[simp] theorem sendOn_flt (s : State) (p q l h : Nat) (b : Bytes) (d : Bool) : (sendOn s p q l h b d).flt = s.flt := by
  simp only [sendOn]; repeat' split
  all_goals simp
@[simp] theorem sendOn_pair (s : State) (p q l h : Nat) (b : Bytes) (d : Bool) : (sendOn s p q l h b d).pair = s.pair := by
  simp only [sendOn]; repeat' split
  all_goals simp
@[simp] theorem sendOn_pow (s : State) (p q l h : Nat) (b : Bytes) (d : Bool) : (sendOn s p q l h b d).pow = s.pow := by
  simp only [sendOn]; repeat' split
  all_goals simp
@[simp] theorem sendOn_ftm (s : State) (p q l h : Nat) (b : Bytes) (d : Bool) : (sendOn s p q l h b d).ftm = s.ftm := by
  simp only [sendOn]; repeat' split
  all_goals simp
@[simp] theorem sendOn_store (s : State) (p q l h : Nat) (b : Bytes) (d : Bool) : (sendOn s p q l h b d).store = s.store := by
  simp only [sendOn]; repeat' split
  all_goals simp
@[simp] theorem sendOn_conf (s : State) (p q l h : Nat) (b : Bytes) (d : Bool) : conf (sendOn s p q l h b d) = conf s := by
  simp only [sendOn]; repeat' split
  all_goals first | rfl | simp
  all_goals first | done | rfl

/-! ### sendCtl -/
@[simp] theorem sendCtl_pending (s : State) (q t pa e m ps a : Nat) (b : Bytes) : (sendCtl s q t pa e m ps a b).pending = s.pending := by
  simp [sendCtl]
@[simp] theorem sendCtl_fresh (s : State) (q t pa e m ps a : Nat) (b : Bytes) : (sendCtl s q t pa e m ps a b).fresh = s.fresh := by
  simp [sendCtl]
@[simp] theorem sendCtl_sys (s : State) (q t pa e m ps a : Nat) (b : Bytes) : (sendCtl s q t pa e m ps a b).sys = s.sys := by
  simp [sendCtl]
@[simp] theorem sendCtl_com (s : State) (q t pa e m ps a : Nat) (b : Bytes) : (sendCtl s q t pa e m ps a b).com = s.com := by
  simp [sendCtl]
@[simp] theorem sendCtl_cmd (s : State) (q t pa e m ps a : Nat) (b : Bytes) : (sendCtl s q t pa e m ps a b).cmd = s.cmd := by
  simp [sendCtl]
@[simp] theorem sendCtl_tp (s : State) (q t pa e m ps a : Nat) (b : Bytes) : (sendCtl s q t pa e m ps a b).tp = s.tp := by
  simp [sendCtl]
@[simp] theorem sendCtl_host (s : State) (q t pa e m ps a : Nat) (b : Bytes) : (sendCtl s q t pa e m ps a b).host = s.host := by
  simp [sendCtl]
@[simp] theorem sendCtl_sw (s : State) (q t pa e m ps a : Nat) (b : Bytes) : (sendCtl s q t pa e m ps a b).sw = s.sw := by
  simp [sendCtl]
@[simp] theorem sendCtl_sward (s : State) (q t pa e m ps a : Nat) (b : Bytes) : (sendCtl s q t pa e m ps a b).sward = s.sward := by
  simp [sendCtl]
@[simp] theorem sendCtl_sheaf (s : State) (q t pa e m ps a : Nat) (b : Bytes) : (sendCtl s q t pa e m ps a b).sheaf = s.sheaf := by
  simp [sendCtl]
@[simp] theorem sendCtl_acct (s : State) (q t pa e m ps a : Nat) (b : Bytes) : (sendCtl s q t pa e m ps a b).acct = s.acct := by
  simp [sendCtl]
@[simp] theorem sendCtl_sec (s : State) (q t pa e m ps a : Nat) (b : Bytes) : (sendCtl s q t pa e m ps a b).sec = s.sec := by
  simp [sendCtl]
@[simp] theorem sendCtl_flt (s : State) (q t pa e m ps a : Nat) (b : Bytes) : (sendCtl s q t pa e m ps a b).flt = s.flt := by
  simp [sendCtl]
@[simp] theorem sendCtl_pair (s : State) (q t pa e m ps a : Nat) (b : Bytes) : (sendCtl s q t pa e m ps a b).pair = s.pair := by
  simp [sendCtl]
@[simp] theorem sendCtl_pow (s : State) (q t pa e m ps a : Nat) (b : Bytes) : (sendCtl s q t pa e m ps a b).pow = s.pow := by
  simp [sendCtl]
@[simp] theorem sendCtl_ftm (s : State) (q t pa e m ps a : Nat) (b : Bytes) : (sendCtl s q t pa e m ps a b).ftm = s.ftm := by
  simp [sendCtl]
@[simp] theorem sendCtl_store (s : State) (q t pa e m ps a : Nat) (b : Bytes) : (sendCtl s q t pa e m ps a b).store = s.store := by
  simp [sendCtl]
@[simp] theorem sendCtl_conf (s : State) (q t pa e m ps a : Nat) (b : Bytes) : conf (sendCtl s q t pa e m ps a b) = conf s := by
  simp [sendCtl]

/-! ### sendTp -/
@[simp] theorem sendTp_pending (s : State) (m p : Nat) (h : BitVec 256) (b : Bytes) : (sendTp s m p h b).pending = s.pending := by
  simp [sendTp]
@[simp] theorem sendTp_fresh (s : State) (m p : Nat) (h : BitVec 256) (b : Bytes) : (sendTp s m p h b).fresh = s.fresh := by
  simp [sendTp]
@[simp] theorem sendTp_sys (s : State) (m p : Nat) (h : BitVec 256) (b : Bytes) : (sendTp s m p h b).sys = s.sys := by
  simp [sendTp]
@[simp] theorem sendTp_com (s : State) (m p : Nat) (h : BitVec 256) (b : Bytes) : (sendTp s m p h b).com = s.com := by
  simp [sendTp]
@[simp] theorem sendTp_cmd (s : State) (m p : Nat) (h : BitVec 256) (b : Bytes) : (sendTp s m p h b).cmd = s.cmd := by
  simp [sendTp]
@[simp] theorem sendTp_log (s : State) (m p : Nat) (h : BitVec 256) (b : Bytes) : (sendTp s m p h b).log = s.log := by
  simp [sendTp]
@[simp] theorem sendTp_host (s : State) (m p : Nat) (h : BitVec 256) (b : Bytes) : (sendTp s m p h b).host = s.host := by
  simp [sendTp]
@[simp] theorem sendTp_net (s : State) (m p : Nat) (h : BitVec 256) (b : Bytes) : (sendTp s m p h b).net = s.net := by
  simp [sendTp]
@[simp] theorem sendTp_sw (s : State) (m p : Nat) (h : BitVec 256) (b : Bytes) : (sendTp s m p h b).sw = s.sw := by
  simp [sendTp]
@[simp] theorem sendTp_sward (s : State) (m p : Nat) (h : BitVec 256) (b : Bytes) : (sendTp s m p h b).sward = s.sward := by
  simp [sendTp]
@[simp] theorem sendTp_sheaf (s : State) (m p : Nat) (h : BitVec 256) (b : Bytes) : (sendTp s m p h b).sheaf = s.sheaf := by
  simp [sendTp]
@[simp] theorem sendTp_rick (s : State) (m p : Nat) (h : BitVec 256) (b : Bytes) : (sendTp s m p h b).rick = s.rick := by
  simp [sendTp]
@[simp] theorem sendTp_acct (s : State) (m p : Nat) (h : BitVec 256) (b : Bytes) : (sendTp s m p h b).acct = s.acct := by
  simp [sendTp]
@[simp] theorem sendTp_sec (s : State) (m p : Nat) (h : BitVec 256) (b : Bytes) : (sendTp s m p h b).sec = s.sec := by
  simp [sendTp]
@[simp] theorem sendTp_ev (s : State) (m p : Nat) (h : BitVec 256) (b : Bytes) : (sendTp s m p h b).ev = s.ev := by
  simp [sendTp]
@[simp] theorem sendTp_flt (s : State) (m p : Nat) (h : BitVec 256) (b : Bytes) : (sendTp s m p h b).flt = s.flt := by
  simp [sendTp]
@[simp] theorem sendTp_pair (s : State) (m p : Nat) (h : BitVec 256) (b : Bytes) : (sendTp s m p h b).pair = s.pair := by
  simp [sendTp]
@[simp] theorem sendTp_pow (s : State) (m p : Nat) (h : BitVec 256) (b : Bytes) : (sendTp s m p h b).pow = s.pow := by
  simp [sendTp]
@[simp] theorem sendTp_ftm (s : State) (m p : Nat) (h : BitVec 256) (b : Bytes) : (sendTp s m p h b).ftm = s.ftm := by
  simp [sendTp]
@[simp] theorem sendTp_store (s : State) (m p : Nat) (h : BitVec 256) (b : Bytes) : (sendTp s m p h b).store = s.store := by
  simp [sendTp]
@[simp] theorem sendTp_conf (s : State) (m p : Nat) (h : BitVec 256) (b : Bytes) : conf (sendTp s m p h b) = conf s := by
  simp only [sendTp]; repeat' split
  all_goals first | rfl | (simp; first | done | rfl) | (simp; exact conf_obj rfl)

/-! ### sendSide -/
@[simp] theorem sendSide_pending (s : State) (m : Nat) (h : BitVec 128) (w : List (BitVec 128)) : (sendSide s m h w).pending = s.pending := rfl
@[simp] theorem sendSide_fresh (s : State) (m : Nat) (h : BitVec 128) (w : List (BitVec 128)) : (sendSide s m h w).fresh = s.fresh := rfl
@[simp] theorem sendSide_obj (s : State) (m : Nat) (h : BitVec 128) (w : List (BitVec 128)) : (sendSide s m h w).obj = s.obj := rfl
@[simp] theorem sendSide_sys (s : State) (m : Nat) (h : BitVec 128) (w : List (BitVec 128)) : (sendSide s m h w).sys = s.sys := rfl
@[simp] theorem sendSide_com (s : State) (m : Nat) (h : BitVec 128) (w : List (BitVec 128)) : (sendSide s m h w).com = s.com := rfl
@[simp] theorem sendSide_cmd (s : State) (m : Nat) (h : BitVec 128) (w : List (BitVec 128)) : (sendSide s m h w).cmd = s.cmd := rfl
@[simp] theorem sendSide_log (s : State) (m : Nat) (h : BitVec 128) (w : List (BitVec 128)) : (sendSide s m h w).log = s.log := rfl
@[simp] theorem sendSide_tp (s : State) (m : Nat) (h : BitVec 128) (w : List (BitVec 128)) : (sendSide s m h w).tp = s.tp := rfl
@[simp] theorem sendSide_host (s : State) (m : Nat) (h : BitVec 128) (w : List (BitVec 128)) : (sendSide s m h w).host = s.host := rfl
@[simp] theorem sendSide_net (s : State) (m : Nat) (h : BitVec 128) (w : List (BitVec 128)) : (sendSide s m h w).net = s.net := rfl
@[simp] theorem sendSide_sw (s : State) (m : Nat) (h : BitVec 128) (w : List (BitVec 128)) : (sendSide s m h w).sw = s.sw := rfl
@[simp] theorem sendSide_sward (s : State) (m : Nat) (h : BitVec 128) (w : List (BitVec 128)) : (sendSide s m h w).sward = s.sward := rfl
@[simp] theorem sendSide_sheaf (s : State) (m : Nat) (h : BitVec 128) (w : List (BitVec 128)) : (sendSide s m h w).sheaf = s.sheaf := rfl
@[simp] theorem sendSide_rick (s : State) (m : Nat) (h : BitVec 128) (w : List (BitVec 128)) : (sendSide s m h w).rick = s.rick := rfl
@[simp] theorem sendSide_acct (s : State) (m : Nat) (h : BitVec 128) (w : List (BitVec 128)) : (sendSide s m h w).acct = s.acct := rfl
@[simp] theorem sendSide_sec (s : State) (m : Nat) (h : BitVec 128) (w : List (BitVec 128)) : (sendSide s m h w).sec = s.sec := rfl
@[simp] theorem sendSide_ev (s : State) (m : Nat) (h : BitVec 128) (w : List (BitVec 128)) : (sendSide s m h w).ev = s.ev := rfl
@[simp] theorem sendSide_flt (s : State) (m : Nat) (h : BitVec 128) (w : List (BitVec 128)) : (sendSide s m h w).flt = s.flt := rfl
@[simp] theorem sendSide_pair (s : State) (m : Nat) (h : BitVec 128) (w : List (BitVec 128)) : (sendSide s m h w).pair = s.pair := rfl
@[simp] theorem sendSide_pow (s : State) (m : Nat) (h : BitVec 128) (w : List (BitVec 128)) : (sendSide s m h w).pow = s.pow := rfl
@[simp] theorem sendSide_pads (s : State) (m : Nat) (h : BitVec 128) (w : List (BitVec 128)) : (sendSide s m h w).pads = s.pads := rfl
@[simp] theorem sendSide_ftm (s : State) (m : Nat) (h : BitVec 128) (w : List (BitVec 128)) : (sendSide s m h w).ftm = s.ftm := rfl
@[simp] theorem sendSide_store (s : State) (m : Nat) (h : BitVec 128) (w : List (BitVec 128)) : (sendSide s m h w).store = s.store := rfl
@[simp] theorem sendSide_conf (s : State) (m : Nat) (h : BitVec 128) (w : List (BitVec 128)) : conf (sendSide s m h w) = conf s := conf_obj (by simp)

/-! ### issueTp -/
@[simp] theorem issueTp_pending (s : State) (o : TpOut) (a : Nat) (b : Bytes) : (issueTp s o a b).pending = s.pending := by
  simp only [issueTp]; split <;> simp
@[simp] theorem issueTp_fresh (s : State) (o : TpOut) (a : Nat) (b : Bytes) : (issueTp s o a b).fresh = s.fresh := by
  simp only [issueTp]; split <;> simp
@[simp] theorem issueTp_sys (s : State) (o : TpOut) (a : Nat) (b : Bytes) : (issueTp s o a b).sys = s.sys := by
  simp only [issueTp]; split <;> simp
@[simp] theorem issueTp_com (s : State) (o : TpOut) (a : Nat) (b : Bytes) : (issueTp s o a b).com = s.com := by
  simp only [issueTp]; split <;> simp
@[simp] theorem issueTp_cmd (s : State) (o : TpOut) (a : Nat) (b : Bytes) : (issueTp s o a b).cmd = s.cmd := by
  simp only [issueTp]; split <;> simp
@[simp] theorem issueTp_log (s : State) (o : TpOut) (a : Nat) (b : Bytes) : (issueTp s o a b).log = s.log := by
  simp only [issueTp]; split <;> simp
@[simp] theorem issueTp_host (s : State) (o : TpOut) (a : Nat) (b : Bytes) : (issueTp s o a b).host = s.host := by
  simp only [issueTp]; split <;> simp
@[simp] theorem issueTp_net (s : State) (o : TpOut) (a : Nat) (b : Bytes) : (issueTp s o a b).net = s.net := by
  simp only [issueTp]; split <;> simp
@[simp] theorem issueTp_sw (s : State) (o : TpOut) (a : Nat) (b : Bytes) : (issueTp s o a b).sw = s.sw := by
  simp only [issueTp]; split <;> simp
@[simp] theorem issueTp_sward (s : State) (o : TpOut) (a : Nat) (b : Bytes) : (issueTp s o a b).sward = s.sward := by
  simp only [issueTp]; split <;> simp
@[simp] theorem issueTp_sheaf (s : State) (o : TpOut) (a : Nat) (b : Bytes) : (issueTp s o a b).sheaf = s.sheaf := by
  simp only [issueTp]; split <;> simp
@[simp] theorem issueTp_rick (s : State) (o : TpOut) (a : Nat) (b : Bytes) : (issueTp s o a b).rick = s.rick := by
  simp only [issueTp]; split <;> simp
@[simp] theorem issueTp_acct (s : State) (o : TpOut) (a : Nat) (b : Bytes) : (issueTp s o a b).acct = s.acct := by
  simp only [issueTp]; split <;> simp
@[simp] theorem issueTp_sec (s : State) (o : TpOut) (a : Nat) (b : Bytes) : (issueTp s o a b).sec = s.sec := by
  simp only [issueTp]; split <;> simp
@[simp] theorem issueTp_ev (s : State) (o : TpOut) (a : Nat) (b : Bytes) : (issueTp s o a b).ev = s.ev := by
  simp only [issueTp]; split <;> simp
@[simp] theorem issueTp_flt (s : State) (o : TpOut) (a : Nat) (b : Bytes) : (issueTp s o a b).flt = s.flt := by
  simp only [issueTp]; split <;> simp
@[simp] theorem issueTp_pair (s : State) (o : TpOut) (a : Nat) (b : Bytes) : (issueTp s o a b).pair = s.pair := by
  simp only [issueTp]; split <;> simp
@[simp] theorem issueTp_pow (s : State) (o : TpOut) (a : Nat) (b : Bytes) : (issueTp s o a b).pow = s.pow := by
  simp only [issueTp]; split <;> simp
@[simp] theorem issueTp_ftm (s : State) (o : TpOut) (a : Nat) (b : Bytes) : (issueTp s o a b).ftm = s.ftm := by
  simp only [issueTp]; split <;> simp
@[simp] theorem issueTp_store (s : State) (o : TpOut) (a : Nat) (b : Bytes) : (issueTp s o a b).store = s.store := by
  simp only [issueTp]; split <;> simp
@[simp] theorem issueTp_conf (s : State) (o : TpOut) (a : Nat) (b : Bytes) : conf (issueTp s o a b) = conf s := by
  simp only [issueTp]; repeat' split
  all_goals first | rfl | (simp; first | done | rfl) | (simp; exact conf_obj rfl)

/-! ### issueHost -/
@[simp] theorem issueHost_pending (s : State) (o : HostOut) : (issueHost s o).pending = s.pending := rfl
@[simp] theorem issueHost_fresh (s : State) (o : HostOut) : (issueHost s o).fresh = s.fresh := rfl
@[simp] theorem issueHost_obj (s : State) (o : HostOut) : (issueHost s o).obj = s.obj := rfl
@[simp] theorem issueHost_sys (s : State) (o : HostOut) : (issueHost s o).sys = s.sys := rfl
@[simp] theorem issueHost_com (s : State) (o : HostOut) : (issueHost s o).com = s.com := rfl
@[simp] theorem issueHost_cmd (s : State) (o : HostOut) : (issueHost s o).cmd = s.cmd := rfl
@[simp] theorem issueHost_log (s : State) (o : HostOut) : (issueHost s o).log = s.log := rfl
@[simp] theorem issueHost_tp (s : State) (o : HostOut) : (issueHost s o).tp = s.tp := rfl
@[simp] theorem issueHost_net (s : State) (o : HostOut) : (issueHost s o).net = s.net := rfl
@[simp] theorem issueHost_sw (s : State) (o : HostOut) : (issueHost s o).sw = s.sw := rfl
@[simp] theorem issueHost_sward (s : State) (o : HostOut) : (issueHost s o).sward = s.sward := rfl
@[simp] theorem issueHost_sheaf (s : State) (o : HostOut) : (issueHost s o).sheaf = s.sheaf := rfl
@[simp] theorem issueHost_rick (s : State) (o : HostOut) : (issueHost s o).rick = s.rick := rfl
@[simp] theorem issueHost_acct (s : State) (o : HostOut) : (issueHost s o).acct = s.acct := rfl
@[simp] theorem issueHost_sec (s : State) (o : HostOut) : (issueHost s o).sec = s.sec := rfl
@[simp] theorem issueHost_ev (s : State) (o : HostOut) : (issueHost s o).ev = s.ev := rfl
@[simp] theorem issueHost_flt (s : State) (o : HostOut) : (issueHost s o).flt = s.flt := rfl
@[simp] theorem issueHost_pair (s : State) (o : HostOut) : (issueHost s o).pair = s.pair := rfl
@[simp] theorem issueHost_pow (s : State) (o : HostOut) : (issueHost s o).pow = s.pow := rfl
@[simp] theorem issueHost_pads (s : State) (o : HostOut) : (issueHost s o).pads = s.pads := rfl
@[simp] theorem issueHost_ftm (s : State) (o : HostOut) : (issueHost s o).ftm = s.ftm := rfl
@[simp] theorem issueHost_store (s : State) (o : HostOut) : (issueHost s o).store = s.store := rfl
@[simp] theorem issueHost_conf (s : State) (o : HostOut) : conf (issueHost s o) = conf s := conf_obj (by simp)

/-! ### hostBytes -/
@[simp] theorem hostBytes_pending (s : State) (p n : Nat) : (hostBytes s p n).pending = s.pending := by
  simp [hostBytes]
@[simp] theorem hostBytes_out (s : State) (p n : Nat) : (hostBytes s p n).out = s.out := by
  simp [hostBytes]
@[simp] theorem hostBytes_fresh (s : State) (p n : Nat) : (hostBytes s p n).fresh = s.fresh := by
  simp [hostBytes]
@[simp] theorem hostBytes_sys (s : State) (p n : Nat) : (hostBytes s p n).sys = s.sys := by
  simp [hostBytes]
@[simp] theorem hostBytes_com (s : State) (p n : Nat) : (hostBytes s p n).com = s.com := by
  simp [hostBytes]
@[simp] theorem hostBytes_cmd (s : State) (p n : Nat) : (hostBytes s p n).cmd = s.cmd := by
  simp [hostBytes]
@[simp] theorem hostBytes_log (s : State) (p n : Nat) : (hostBytes s p n).log = s.log := by
  simp [hostBytes]
@[simp] theorem hostBytes_tp (s : State) (p n : Nat) : (hostBytes s p n).tp = s.tp := by
  simp [hostBytes]
@[simp] theorem hostBytes_host (s : State) (p n : Nat) : (hostBytes s p n).host = s.host := by
  simp [hostBytes]
@[simp] theorem hostBytes_net (s : State) (p n : Nat) : (hostBytes s p n).net = s.net := by
  simp [hostBytes]
@[simp] theorem hostBytes_sw (s : State) (p n : Nat) : (hostBytes s p n).sw = s.sw := by
  simp [hostBytes]
@[simp] theorem hostBytes_sward (s : State) (p n : Nat) : (hostBytes s p n).sward = s.sward := by
  simp [hostBytes]
@[simp] theorem hostBytes_sheaf (s : State) (p n : Nat) : (hostBytes s p n).sheaf = s.sheaf := by
  simp [hostBytes]
@[simp] theorem hostBytes_rick (s : State) (p n : Nat) : (hostBytes s p n).rick = s.rick := by
  simp [hostBytes]
@[simp] theorem hostBytes_acct (s : State) (p n : Nat) : (hostBytes s p n).acct = s.acct := by
  simp [hostBytes]
@[simp] theorem hostBytes_sec (s : State) (p n : Nat) : (hostBytes s p n).sec = s.sec := by
  simp [hostBytes]
@[simp] theorem hostBytes_ev (s : State) (p n : Nat) : (hostBytes s p n).ev = s.ev := by
  simp [hostBytes]
@[simp] theorem hostBytes_flt (s : State) (p n : Nat) : (hostBytes s p n).flt = s.flt := by
  simp [hostBytes]
@[simp] theorem hostBytes_pair (s : State) (p n : Nat) : (hostBytes s p n).pair = s.pair := by
  simp [hostBytes]
@[simp] theorem hostBytes_pow (s : State) (p n : Nat) : (hostBytes s p n).pow = s.pow := by
  simp [hostBytes]
@[simp] theorem hostBytes_ftm (s : State) (p n : Nat) : (hostBytes s p n).ftm = s.ftm := by
  simp [hostBytes]
@[simp] theorem hostBytes_store (s : State) (p n : Nat) : (hostBytes s p n).store = s.store := by
  simp [hostBytes]
@[simp] theorem hostBytes_conf (s : State) (p n : Nat) : conf (hostBytes s p n) = conf s := by
  simp only [hostBytes]; repeat' split
  all_goals first | rfl | (simp; first | done | rfl) | (simp; exact conf_obj rfl)

/-! ### respond -/
@[simp] theorem respond_pending (s : State) (v : Path) (t : Tag) (o i sb c : Nat) (b : Bytes) : (respond s v t o i sb c b).pending = s.pending := by
  simp only [respond]; split <;> simp
@[simp] theorem respond_fresh (s : State) (v : Path) (t : Tag) (o i sb c : Nat) (b : Bytes) : (respond s v t o i sb c b).fresh = s.fresh := by
  simp only [respond]; split <;> simp
@[simp] theorem respond_sys (s : State) (v : Path) (t : Tag) (o i sb c : Nat) (b : Bytes) : (respond s v t o i sb c b).sys = s.sys := by
  simp only [respond]; split <;> simp
@[simp] theorem respond_com (s : State) (v : Path) (t : Tag) (o i sb c : Nat) (b : Bytes) : (respond s v t o i sb c b).com = s.com := by
  simp only [respond]; split <;> simp
@[simp] theorem respond_cmd (s : State) (v : Path) (t : Tag) (o i sb c : Nat) (b : Bytes) : (respond s v t o i sb c b).cmd = s.cmd := by
  simp only [respond]; split <;> simp
@[simp] theorem respond_log (s : State) (v : Path) (t : Tag) (o i sb c : Nat) (b : Bytes) : (respond s v t o i sb c b).log = s.log := by
  simp only [respond]; split <;> simp
@[simp] theorem respond_tp (s : State) (v : Path) (t : Tag) (o i sb c : Nat) (b : Bytes) : (respond s v t o i sb c b).tp = s.tp := by
  simp only [respond]; split <;> simp
@[simp] theorem respond_net (s : State) (v : Path) (t : Tag) (o i sb c : Nat) (b : Bytes) : (respond s v t o i sb c b).net = s.net := by
  simp only [respond]; split <;> simp
@[simp] theorem respond_sw (s : State) (v : Path) (t : Tag) (o i sb c : Nat) (b : Bytes) : (respond s v t o i sb c b).sw = s.sw := by
  simp only [respond]; split <;> simp
@[simp] theorem respond_sward (s : State) (v : Path) (t : Tag) (o i sb c : Nat) (b : Bytes) : (respond s v t o i sb c b).sward = s.sward := by
  simp only [respond]; split <;> simp
@[simp] theorem respond_sheaf (s : State) (v : Path) (t : Tag) (o i sb c : Nat) (b : Bytes) : (respond s v t o i sb c b).sheaf = s.sheaf := by
  simp only [respond]; split <;> simp
@[simp] theorem respond_rick (s : State) (v : Path) (t : Tag) (o i sb c : Nat) (b : Bytes) : (respond s v t o i sb c b).rick = s.rick := by
  simp only [respond]; split <;> simp
@[simp] theorem respond_acct (s : State) (v : Path) (t : Tag) (o i sb c : Nat) (b : Bytes) : (respond s v t o i sb c b).acct = s.acct := by
  simp only [respond]; split <;> simp
@[simp] theorem respond_ev (s : State) (v : Path) (t : Tag) (o i sb c : Nat) (b : Bytes) : (respond s v t o i sb c b).ev = s.ev := by
  simp only [respond]; split <;> simp
@[simp] theorem respond_flt (s : State) (v : Path) (t : Tag) (o i sb c : Nat) (b : Bytes) : (respond s v t o i sb c b).flt = s.flt := by
  simp only [respond]; split <;> simp
@[simp] theorem respond_pair (s : State) (v : Path) (t : Tag) (o i sb c : Nat) (b : Bytes) : (respond s v t o i sb c b).pair = s.pair := by
  simp only [respond]; split <;> simp
@[simp] theorem respond_pow (s : State) (v : Path) (t : Tag) (o i sb c : Nat) (b : Bytes) : (respond s v t o i sb c b).pow = s.pow := by
  simp only [respond]; split <;> simp
@[simp] theorem respond_pads (s : State) (v : Path) (t : Tag) (o i sb c : Nat) (b : Bytes) : (respond s v t o i sb c b).pads = s.pads := by
  simp only [respond]; split <;> simp
@[simp] theorem respond_ftm (s : State) (v : Path) (t : Tag) (o i sb c : Nat) (b : Bytes) : (respond s v t o i sb c b).ftm = s.ftm := by
  simp only [respond]; split <;> simp
@[simp] theorem respond_store (s : State) (v : Path) (t : Tag) (o i sb c : Nat) (b : Bytes) : (respond s v t o i sb c b).store = s.store := by
  simp only [respond]; split <;> simp
@[simp] theorem respond_conf (s : State) (v : Path) (t : Tag) (o i sb c : Nat) (b : Bytes) : conf (respond s v t o i sb c b) = conf s := by
  simp only [respond]; repeat' split
  all_goals first | rfl | (simp; first | done | rfl) | (simp; exact conf_obj rfl)

/-! ### resend -/
@[simp] theorem resend_pending (s : State) (q l : Nat) (u : Nat × Bytes) : (resend s q l u).pending = s.pending := by
  simp [resend]
@[simp] theorem resend_fresh (s : State) (q l : Nat) (u : Nat × Bytes) : (resend s q l u).fresh = s.fresh := by
  simp [resend]
@[simp] theorem resend_sys (s : State) (q l : Nat) (u : Nat × Bytes) : (resend s q l u).sys = s.sys := by
  simp [resend]
@[simp] theorem resend_com (s : State) (q l : Nat) (u : Nat × Bytes) : (resend s q l u).com = s.com := by
  simp [resend]
@[simp] theorem resend_cmd (s : State) (q l : Nat) (u : Nat × Bytes) : (resend s q l u).cmd = s.cmd := by
  simp [resend]
@[simp] theorem resend_tp (s : State) (q l : Nat) (u : Nat × Bytes) : (resend s q l u).tp = s.tp := by
  simp [resend]
@[simp] theorem resend_host (s : State) (q l : Nat) (u : Nat × Bytes) : (resend s q l u).host = s.host := by
  simp [resend]
@[simp] theorem resend_sw (s : State) (q l : Nat) (u : Nat × Bytes) : (resend s q l u).sw = s.sw := by
  simp [resend]
@[simp] theorem resend_sward (s : State) (q l : Nat) (u : Nat × Bytes) : (resend s q l u).sward = s.sward := by
  simp [resend]
@[simp] theorem resend_sheaf (s : State) (q l : Nat) (u : Nat × Bytes) : (resend s q l u).sheaf = s.sheaf := by
  simp [resend]
@[simp] theorem resend_acct (s : State) (q l : Nat) (u : Nat × Bytes) : (resend s q l u).acct = s.acct := by
  simp [resend]
@[simp] theorem resend_sec (s : State) (q l : Nat) (u : Nat × Bytes) : (resend s q l u).sec = s.sec := by
  simp [resend]
@[simp] theorem resend_flt (s : State) (q l : Nat) (u : Nat × Bytes) : (resend s q l u).flt = s.flt := by
  simp [resend]
@[simp] theorem resend_pair (s : State) (q l : Nat) (u : Nat × Bytes) : (resend s q l u).pair = s.pair := by
  simp [resend]
@[simp] theorem resend_pow (s : State) (q l : Nat) (u : Nat × Bytes) : (resend s q l u).pow = s.pow := by
  simp [resend]
@[simp] theorem resend_ftm (s : State) (q l : Nat) (u : Nat × Bytes) : (resend s q l u).ftm = s.ftm := by
  simp [resend]
@[simp] theorem resend_store (s : State) (q l : Nat) (u : Nat × Bytes) : (resend s q l u).store = s.store := by
  simp [resend]
@[simp] theorem resend_conf (s : State) (q l : Nat) (u : Nat × Bytes) : conf (resend s q l u) = conf s := by
  simp only [resend]; repeat' split
  all_goals first | rfl | (simp; first | done | rfl) | (simp; exact conf_obj rfl)

end Sys2Proof.Machine
end

