-- ==== Sys2Proof/Laws/Tables.lean ====
section
/-! SUPPORT. Tables: a key reads as it was last set, and no other key changes. -/

namespace Sys2Proof

variable {α : Type}

theorem Tbl.find_set (i j : Nat) (a : α) : ∀ t : Tbl α, Tbl.find (Tbl.set t i a) j = if i = j then some a else Tbl.find t j
  | [] => by simp [Tbl.set, Tbl.find]
  | (k, v) :: t => by
    simp only [Tbl.set]
    split
    · simp only [Tbl.find]
    · split
      · rename_i h; subst h; simp only [Tbl.find]; split <;> rfl
      · rename_i h1 h2
        simp only [Tbl.find, Tbl.find_set i j a t]
        split
        · rename_i hk; subst hk; simp [h2]
        · rfl

@[simp] theorem Tbl.find_set_self (t : Tbl α) (i : Nat) (a : α) : Tbl.find (Tbl.set t i a) i = some a := by simp [Tbl.find_set]

theorem Tbl.find_set_ne {i j : Nat} (h : i ≠ j) (t : Tbl α) (a : α) : Tbl.find (Tbl.set t i a) j = Tbl.find t j := by
  simp [Tbl.find_set, h]

@[simp] theorem Tbl.get_set_self [Inhabited α] (t : Tbl α) (i : Nat) (a : α) : Tbl.get (Tbl.set t i a) i = a := by simp [Tbl.get]

theorem Tbl.get_set_ne [Inhabited α] {i j : Nat} (h : i ≠ j) (t : Tbl α) (a : α) : Tbl.get (Tbl.set t i a) j = Tbl.get t j := by
  simp [Tbl.get, Tbl.find_set_ne h]

@[simp] theorem Tbl.get_upd_self [Inhabited α] (t : Tbl α) (i : Nat) (f : α → α) : Tbl.get (Tbl.upd t i f) i = f (Tbl.get t i) := by
  simp [Tbl.upd]

theorem Tbl.get_upd_ne [Inhabited α] {i j : Nat} (h : i ≠ j) (t : Tbl α) (f : α → α) : Tbl.get (Tbl.upd t i f) j = Tbl.get t j := by
  simp [Tbl.upd, Tbl.get_set_ne h]

theorem Tbl.find_erase (i j : Nat) : ∀ t : Tbl α, Tbl.find (Tbl.erase t i) j = if i = j then none else Tbl.find t j
  | [] => by simp [Tbl.erase, Tbl.find]
  | (k, v) :: t => by
    simp only [Tbl.erase]
    split
    · rename_i h; subst h; rw [Tbl.find_erase]; simp only [Tbl.find]; split <;> rfl
    · rename_i h
      simp only [Tbl.find, Tbl.find_erase i j t]
      split
      · rename_i hk; subst hk; simp [Ne.symm h]
      · rfl

/-- A change of every entry that keeps its key. -/
theorem Tbl.find_map (f : Nat × α → Nat × α) (hf : ∀ e, (f e).1 = e.1) (j : Nat) :
    ∀ t : Tbl α, Tbl.find (t.map f) j = (Tbl.find t j).map (fun v => (f (j, v)).2)
  | [] => rfl
  | (k, v) :: t => by
    have h : f (k, v) = (k, (f (k, v)).2) := Prod.ext (hf _) rfl
    rw [List.map_cons, h]
    simp only [Tbl.find, Tbl.find_map f hf j t]
    split
    · rename_i hk; subst hk; rfl
    · rfl

/-- A key that reads something is listed. -/
theorem Tbl.mem_of_find {t : Tbl α} {i : Nat} {a : α} : Tbl.find t i = some a → i ∈ t.map (·.1) := by
  induction t with
  | nil => intro h; simp [Tbl.find] at h
  | cons e t ih =>
    obtain ⟨k, v⟩ := e
    intro h
    simp only [Tbl.find] at h
    split at h
    · rename_i hk; simp [hk]
    · simp [ih h]

end Sys2Proof
end

