-- ==== Sys2Proof/Laws/Held.lean ====
section
/-! SUPPORT. What the command layer (kills, commits, faults, rings, records of commands) leaves as it was: a paddock's claims and state,
the configuration, and everything outside commands, traffic, memory and logs; and which commands stay live. -/

namespace Sys2Proof.Machine
open Sys2Proof

/-- What command traffic never changes: claims and states of the paddocks, configuration, and the parts of the state that it has no
hand in. -/
def kept (s : State) : (Nat → Paddock) × Objs × List Instr × Sys × Commons × Acct × PairSt × Power × Ftm × Store × Swathe :=
  (fun k => strip (pad s k), conf s, s.pending, s.sys, s.com, s.acct, s.pair, s.pow, s.ftm, s.store, s.sw)

theorem kept_pad {s t : State} (h : kept s = kept t) (k : Nat) : strip (pad s k) = strip (pad t k) := congrFun (congrArg (·.1) h) k

theorem kept_of {s t : State} (h1 : ∀ k, strip (pad s k) = strip (pad t k)) (h2 : conf s = conf t) (h3 : s.pending = t.pending)
    (h4 : s.sys = t.sys) (h5 : s.com = t.com) (h6 : s.acct = t.acct) (h7 : s.pair = t.pair) (h8 : s.pow = t.pow) (h9 : s.ftm = t.ftm)
    (h10 : s.store = t.store) (h11 : s.sw = t.sw) : kept s = kept t := by
  simp [kept, funext h1, h2, h3, h4, h5, h6, h7, h8, h9, h10, h11]

theorem kept_of_pads {s t : State} (h1 : s.pads = t.pads) (h2 : conf s = conf t) (h3 : s.pending = t.pending)
    (h4 : s.sys = t.sys) (h5 : s.com = t.com) (h6 : s.acct = t.acct) (h7 : s.pair = t.pair) (h8 : s.pow = t.pow) (h9 : s.ftm = t.ftm)
    (h10 : s.store = t.store) (h11 : s.sw = t.sw) : kept s = kept t :=
  kept_of (fun k => by simp [pad, h1]) h2 h3 h4 h5 h6 h7 h8 h9 h10 h11

/-- Outside the parts that are kept a state may change freely. -/
@[simp] theorem kept_with (s : State) {a b c d e f g h i j k l m} :
    kept { s with out := a, fresh := b, cmd := c, log := d, tp := e, host := f, net := g, sheaf := h, rick := i, sec := j, ev := k,
                  flt := l, sward := m } = kept s := rfl

theorem get_upd (t : Tbl Paddock) (p k : Nat) (f : Paddock → Paddock) :
    Tbl.get (Tbl.upd t p f) k = if p = k then f (Tbl.get t p) else Tbl.get t k := by
  by_cases h : p = k
  · subst h; simp
  · simp [h, Tbl.get_upd_ne h]

theorem pad_updPad (s : State) (p k : Nat) (f : Paddock → Paddock) :
    pad (updPad s p f) k = if p = k then f (pad s p) else pad s k := get_upd s.pads p k f

/-- A change of a paddock that command traffic may make. -/
def Calm (f : Paddock → Paddock) : Prop := ∀ d, strip (f d) = strip d

theorem calm_with {x0 : Paddock → List Allocation} {x1 : Paddock → List (Nat × Nat)} {x2 : Paddock → Nat} {x3 : Paddock → Tbl Ctx} {x4 : Paddock → Tbl Queue} {x5 : Paddock → Nat} {x6 : Paddock → Option (Nat × Nat)} {x7 : Paddock → List Nat} {x8 : Paddock → Nat} {x9 : Paddock → List (List Nat)} {x10 : Paddock → Nat} {x11 : Paddock → Nat} {x12 : Paddock → Nat} {x13 : Paddock → List Nat} {x14 : Paddock → List (Nat × Nat)} {x15 : Paddock → Nat} {x16 : Paddock → List (Nat × Nat)} {x17 : Paddock → List Nat} {x18 : Paddock → List Bytes} {x19 : Paddock → Nat} {x20 : Paddock → Nat} {x21 : Paddock → Nat} {x22 : Paddock → Nat} : Calm (fun d => { d with allocs := x0 d, winPages := x1 d, bounceTx := x2 d, ctxs := x3 d, queues := x4 d, lastQueue := x5 d, excl := x6 d, geqSeqs := x7 d, mirrorTail := x8 d, faultBatch := x9 d, faultFrom := x10 d, usageSeq := x11 d, usageTail := x12 d, v := x13 d, buckets := x14 d, waited := x15 d, behind := x16 d, act := x17 d, trace := x18 d, traceFirst := x19 d, traceLost := x20 d, mirrorNext := x21 d, mirrorRing := x22 d }) := fun _ => rfl

theorem kept_updPad {f : Paddock → Paddock} (h : Calm f) (s : State) (p : Nat) : kept (updPad s p f) = kept s :=
  kept_of (fun k => by
    rw [pad_updPad]; split
    · rename_i e; rw [h, e]
    · rfl) rfl rfl rfl rfl rfl rfl rfl rfl rfl rfl

theorem foldl_kept {α : Type} {f : State → α → State} (h : ∀ s a, kept (f s a) = kept s) (l : List α) (s : State) :
    kept (l.foldl f s) = kept s := foldl_keeps kept f h l s
theorem foldl_live {α : Type} {f : State → α → State} (h : ∀ s a, (f s a).cmd.live = s.cmd.live) (l : List α) (s : State) :
    (l.foldl f s).cmd.live = s.cmd.live := foldl_keeps (fun s => s.cmd.live) f h l s
theorem foldl_killed {α : Type} {f : State → α → State} (h : ∀ s a, (f s a).cmd.killed = s.cmd.killed) (l : List α) (s : State) :
    (l.foldl f s).cmd.killed = s.cmd.killed := foldl_keeps (fun s => s.cmd.killed) f h l s

/-! ### fire -/
@[simp] theorem fire_kept (s : State) (n : Nat) : kept (fire s n) = kept s := kept_of_pads (by simp) (by simp) (by simp) (by simp) (by simp) (by simp) (by simp) (by simp) (by simp) (by simp) (by simp)

/-! ### firePad -/
@[simp] theorem firePad_kept (s : State) (p k : Nat) : kept (firePad s p k) = kept s := kept_of_pads (by simp) (by simp) (by simp) (by simp) (by simp) (by simp) (by simp) (by simp) (by simp) (by simp) (by simp)

/-! ### setO -/
@[simp] theorem setO_kept (s : State) (i u v : Nat) : kept (setO s i u v) = kept s := kept_of_pads (by simp) (by simp) (by simp) (by simp) (by simp) (by simp) (by simp) (by simp) (by simp) (by simp) (by simp)

/-! ### setP -/
@[simp] theorem setP_kept (s : State) (p o u v : Nat) : kept (setP s p o u v) = kept s := kept_of_pads (by simp) (by simp) (by simp) (by simp) (by simp) (by simp) (by simp) (by simp) (by simp) (by simp) (by simp)

/-! ### addO -/
@[simp] theorem addO_kept (s : State) (i u n w : Nat) : kept (addO s i u n w) = kept s := kept_of_pads (by simp) (by simp) (by simp) (by simp) (by simp) (by simp) (by simp) (by simp) (by simp) (by simp) (by simp)

/-! ### bump -/
@[simp] theorem bump_kept (s : State) (p o r n : Nat) : kept (bump s p o r n) = kept s := kept_of_pads (by simp) (by simp) (by simp) (by simp) (by simp) (by simp) (by simp) (by simp) (by simp) (by simp) (by simp)

/-! ### meter -/
@[simp] theorem meter_kept (s : State) (p r n : Nat) : kept (meter s p r n) = kept s := kept_of_pads (by simp) (by simp) (by simp) (by simp) (by simp) (by simp) (by simp) (by simp) (by simp) (by simp) (by simp)

/-! ### emit -/
@[simp] theorem emit_kept (s : State) (o : Out) : kept (emit s o) = kept s := kept_of_pads (by simp) (by simp) (by simp) (by simp) (by simp) (by simp) (by simp) (by simp) (by simp) (by simp) (by simp)

/-! ### fresh1 -/
@[simp] theorem fresh1_kept (s : State)  : kept (fresh1 s) = kept s := kept_of_pads (by simp) (by simp) (by simp) (by simp) (by simp) (by simp) (by simp) (by simp) (by simp) (by simp) (by simp)

/-! ### msix -/
@[simp] theorem msix_kept (s : State) (fn : Fn) (v : Nat) : kept (msix s fn v) = kept s := kept_of_pads (by simp) (by simp) (by simp) (by simp) (by simp) (by simp) (by simp) (by simp) (by simp) (by simp) (by simp)

/-! ### respond -/
@[simp] theorem respond_kept (s : State) (v : Path) (t : Tag) (o i u c : Nat) (b : Bytes) : kept (respond s v t o i u c b) = kept s := kept_of_pads (by simp) (by simp) (by simp) (by simp) (by simp) (by simp) (by simp) (by simp) (by simp) (by simp) (by simp)

/-! ### updLink -/
@[simp] theorem updLink_kept (s : State) (l : Nat) (f : Link → Link) : kept (updLink s l f) = kept s := kept_of_pads (by simp) (by simp) (by simp) (by simp) (by simp) (by simp) (by simp) (by simp) (by simp) (by simp) (by simp)

/-! ### updQp -/
@[simp] theorem updQp_kept (s : State) (n : Nat) (f : Qp → Qp) : kept (updQp s n f) = kept s := kept_of_pads (by simp) (by simp) (by simp) (by simp) (by simp) (by simp) (by simp) (by simp) (by simp) (by simp) (by simp)

/-! ### wear -/
@[simp] theorem wear_kept (s : State) (t q p : Nat) : kept (wear s t q p) = kept s := kept_of_pads (by simp) (by simp) (by simp) (by simp) (by simp) (by simp) (by simp) (by simp) (by simp) (by simp) (by simp)

/-! ### geq -/
@[simp] theorem geq_kept (s : State) (e : Entry) : kept (geq s e) = kept s := by
  refine kept_of (fun k => ?_) (geq_conf _ _) (geq_pending _ _) (geq_sys _ _) (geq_com _ _) (geq_acct _ _) (geq_pair _ _) (geq_pow _ _) (geq_ftm _ _) (geq_store _ _) (geq_sw _ _)
  simp only [geq, pad]; repeat' split
  all_goals simp [updPad, get_upd, strip]
  all_goals split <;> simp [*]

/-! ### logPad -/
@[simp] theorem logPad_kept (s : State) (p c v : Nat) (fs : List Nat) : kept (logPad s p c v fs) = kept s := by
  simp only [logPad, geq_kept]

/-! ### charge -/
@[simp] theorem charge_kept (s : State) (p c u : Nat) : kept (charge s p c u) = kept s := by
  simp only [charge, kept_updPad, calm_with]

/-! ### take -/
@[simp] theorem take_kept (s : State) (p c u : Nat) : kept (take s p c u) = kept s := by
  simp only [take]; split
  · rfl
  · simp only [kept_updPad, calm_with]

/-! ### waitBehind -/
@[simp] theorem waitBehind_kept (s : State) (p n w : Nat) : kept (waitBehind p n s w) = kept s := by
  simp only [waitBehind, setP_kept, kept_updPad, calm_with]

/-! ### putFrame -/
@[simp] theorem putFrame_kept (s : State) (l i : Nat) : kept (putFrame s l i) = kept s := by
  have hw := fun p n => foldl_kept (fun (s : State) w => waitBehind_kept s p n w)
  simp only [putFrame]; repeat' split
  all_goals simp only [meter_kept, charge_kept, take_kept, setO_kept, emit_kept, updLink_kept, hw, kept_updPad, calm_with, kept_with]

/-! ### drainLink -/
@[simp] theorem drainLink_kept (s : State) (l n : Nat) : kept (drainLink l n s) = kept s := by
  induction n generalizing s with
  | zero => rfl
  | succ n ih => simp only [drainLink]; split <;> simp only [ih, putFrame_kept]

/-! ### activate -/
@[simp] theorem activate_kept (s : State) (p : Nat) : kept (activate s p) = kept s := by
  simp only [activate]; repeat' split
  all_goals simp only [kept_updPad, calm_with]

/-! ### toLink -/
@[simp] theorem toLink_kept (s : State) (l vc pool p : Nat) (k : Packet) : kept (toLink s l vc pool p k) = kept s := by
  simp only [toLink]; repeat' split
  all_goals simp only [drainLink_kept, updLink_kept, activate_kept, kept_updPad, calm_with, kept_with]

/-! ### sendControl -/
@[simp] theorem sendControl_kept (s : State) (l c : Nat) : kept (sendControl s l c) = kept s := by
  simp only [sendControl, toLink_kept]

/-! ### sendOn -/
@[simp] theorem sendOn_kept (s : State) (p q l h : Nat) (b : Bytes) (d : Bool) : kept (sendOn s p q l h b d) = kept s := by
  simp only [sendOn]; repeat' split
  all_goals simp only [toLink_kept, wear_kept, bump_kept, emit_kept, kept_updPad, calm_with, kept_with]

/-! ### sendCtl -/
@[simp] theorem sendCtl_kept (s : State) (q t pa e m ps a : Nat) (b : Bytes) : kept (sendCtl s q t pa e m ps a b) = kept s := by
  simp only [sendCtl, sendOn_kept]

/-! ### sendTp -/
@[simp] theorem sendTp_kept (s : State) (m p : Nat) (h : BitVec 256) (b : Bytes) : kept (sendTp s m p h b) = kept s := by
  simp only [sendTp, meter_kept, emit_kept, charge_kept, updTpm, kept_with]

/-! ### issueTp -/
@[simp] theorem issueTp_kept (s : State) (o : TpOut) (a : Nat) (b : Bytes) : kept (issueTp s o a b) = kept s := by
  simp only [issueTp]; repeat' split
  all_goals simp only [sendTp_kept, kept_updPad, calm_with, kept_with]

/-! ### issueHost -/
@[simp] theorem issueHost_kept (s : State) (o : HostOut) : kept (issueHost s o) = kept s := rfl

/-! ### hostBytes -/
@[simp] theorem hostBytes_kept (s : State) (p n : Nat) : kept (hostBytes s p n) = kept s := by
  simp only [hostBytes, meter_kept, charge_kept]

/-! ### rekeyLine -/
@[simp] theorem rekeyLine_kept (s : State) (k l : Nat) : kept (rekeyLine s k l) = kept s := by
  simp only [rekeyLine]; repeat' split
  all_goals simp only [kept_with]
@[simp] theorem rekeyLine_live (s : State) (k l : Nat) : (rekeyLine s k l).cmd.live = s.cmd.live := by
  simp only [rekeyLine]; repeat' split
  all_goals rfl

/-! ### rickWrite -/
@[simp] theorem rickWrite_kept (s : State) (k a : Nat) (b : Bytes) : kept (rickWrite s k a b) = kept s := by
  have h := foldl_kept (fun (s : State) l => rekeyLine_kept s k l)
  simp only [rickWrite]; split
  · rfl
  · simp only [chargeRick, addO_kept, kept_with, h]
@[simp] theorem rickWrite_live (s : State) (k a : Nat) (b : Bytes) : (rickWrite s k a b).cmd.live = s.cmd.live := by
  have h := foldl_live (fun (s : State) l => rekeyLine_live s k l)
  simp only [rickWrite]; split
  · rfl
  · simp [chargeRick, h]

/-! ### rickZero -/
@[simp] theorem rickZero_kept (s : State) (a n : Nat) : kept (rickZero s a n) = kept s := rfl
@[simp] theorem rickZero_live (s : State) (a n : Nat) : (rickZero s a n).cmd.live = s.cmd.live := rfl

/-! ### writePlace -/
@[simp] theorem writePlace_kept (s : State) (p : Nat) (pl : Place) (b : Bytes) : kept (writePlace s p pl b) = kept s := by
  simp only [writePlace]; repeat' split
  all_goals simp only [rickWrite_kept, emit_kept, kept_updPad, calm_with, kept_with]
@[simp] theorem writePlace_live (s : State) (p : Nat) (pl : Place) (b : Bytes) : (writePlace s p pl b).cmd.live = s.cmd.live := by
  simp only [writePlace]; repeat' split
  all_goals simp

/-! ### putPte -/
@[simp] theorem putPte_kept (s : State) (a v : Nat) : kept (putPte s a v) = kept s := by
  simp only [putPte, rickWrite_kept]
@[simp] theorem putPte_live (s : State) (a v : Nat) : (putPte s a v).cmd.live = s.cmd.live := by
  simp [putPte]

/-! ### takeWinPage -/
@[simp] theorem takeWinPage_kept (s : State) (p k : Nat) : kept (takeWinPage s p k) = kept s := by
  simp only [takeWinPage]; repeat' split
  all_goals simp only [rickZero_kept, fresh1_kept, kept_updPad, calm_with, kept_with]
@[simp] theorem takeWinPage_live (s : State) (p k : Nat) : (takeWinPage s p k).cmd.live = s.cmd.live := by
  simp only [takeWinPage]; split <;> simp

/-! ### needL0 -/
@[simp] theorem needL0_kept (s : State) (p va : Nat) : kept (needL0 s p va) = kept s := by
  simp only [needL0]; repeat' split
  all_goals simp only [takeWinPage_kept, putPte_kept, kept_updPad, calm_with, kept_with]
@[simp] theorem needL0_live (s : State) (p va : Nat) : (needL0 s p va).cmd.live = s.cmd.live := by
  simp only [needL0]; repeat' split
  all_goals simp

/-! ### mapPage -/
@[simp] theorem mapPage_kept (s : State) (p z : Nat) (e : Nat × Nat) : kept (mapPage p z s e) = kept s := by
  have h := foldl_kept (fun (s : State) (x : Nat × Nat) => putPte_kept s x.1 x.2)
  simp only [mapPage]; split <;> simp only [h, needL0_kept]
@[simp] theorem mapPage_live (s : State) (p z : Nat) (e : Nat × Nat) : (mapPage p z s e).cmd.live = s.cmd.live := by
  have h := foldl_live (fun (s : State) (x : Nat × Nat) => putPte_live s x.1 x.2)
  simp only [mapPage]; split <;> simp [h]

/-! ### unmapPage -/
@[simp] theorem unmapPage_kept (s : State) (p z : Nat) (e : Nat × Nat) : kept (unmapPage p z s e) = kept s := by
  simp only [unmapPage]; exact foldl_kept (fun (s : State) (x : Nat × Nat) => putPte_kept s x.1 _) _ _
@[simp] theorem unmapPage_live (s : State) (p z : Nat) (e : Nat × Nat) : (unmapPage p z s e).cmd.live = s.cmd.live := by
  simp only [unmapPage]; exact foldl_live (fun (s : State) (x : Nat × Nat) => putPte_live s x.1 _) _ _

/-! ### mapAlloc -/
@[simp] theorem mapAlloc_kept (s : State) (p : Nat) (a : Allocation) : kept (mapAlloc s p a) = kept s := by
  have h := foldl_kept (fun (s : State) (e : Nat × Nat) => mapPage_kept s p a.psize e)
  simp only [mapAlloc, setMapped, kept_updPad, calm_with, h]
@[simp] theorem mapAlloc_live (s : State) (p : Nat) (a : Allocation) : (mapAlloc s p a).cmd.live = s.cmd.live := by
  have h := foldl_live (fun (s : State) (e : Nat × Nat) => mapPage_live s p a.psize e)
  simp [mapAlloc, setMapped, h]

/-! ### unmapAlloc -/
@[simp] theorem unmapAlloc_kept (s : State) (p : Nat) (a : Allocation) : kept (unmapAlloc s p a) = kept s := by
  have h := foldl_kept (fun (s : State) (e : Nat × Nat) => unmapPage_kept s p a.psize e)
  simp only [unmapAlloc, setMapped, kept_updPad, calm_with, h]
@[simp] theorem unmapAlloc_live (s : State) (p : Nat) (a : Allocation) : (unmapAlloc s p a).cmd.live = s.cmd.live := by
  have h := foldl_live (fun (s : State) (e : Nat × Nat) => unmapPage_live s p a.psize e)
  simp [unmapAlloc, setMapped, h]

/-! ### trimL0 -/
@[simp] theorem trimL0_kept (s : State) (p : Nat) : kept (trimL0 s p) = kept s := by
  simp only [trimL0, kept_updPad, calm_with]
  exact foldl_kept (fun s a => by split <;> simp only [putPte_kept]) _ _
@[simp] theorem trimL0_live (s : State) (p : Nat) : (trimL0 s p).cmd.live = s.cmd.live := by
  simp only [trimL0, updPad_cmd]
  exact foldl_live (fun s a => by split <;> simp only [putPte_live]) _ _

/-! ### dropAlloc -/
@[simp] theorem dropAlloc_kept (s : State) (p va : Nat) : kept (dropAlloc s p va) = kept s := by
  simp only [dropAlloc]; repeat' split
  all_goals simp only [trimL0_kept, kept_updPad, calm_with, kept_with]
@[simp] theorem dropAlloc_live (s : State) (p va : Nat) : (dropAlloc s p va).cmd.live = s.cmd.live := by
  simp [dropAlloc]

/-! ### invalidate -/
@[simp] theorem invalidate_kept (s : State) (p va n c : Nat) : kept (invalidate s p va n c) = kept s := by
  simp only [invalidate, bump_kept, kept_with]
@[simp] theorem invalidate_live (s : State) (p va n c : Nat) : (invalidate s p va n c).cmd.live = s.cmd.live := by
  simp [invalidate]

/-! ### traceAppend -/
theorem traceAppend_kept (s : State) (p : Nat) (r : Bytes) : kept (traceAppend s p r).1 = kept s := by
  simp only [traceAppend]; repeat' split
  all_goals simp only [bump_kept, kept_updPad, calm_with, kept_with]
theorem traceAppend_live (s : State) (p : Nat) (r : Bytes) : (traceAppend s p r).1.cmd = s.cmd := by
  simp only [traceAppend]; repeat' split
  all_goals simp
@[simp] theorem putTrace_kept (s : State) (p : Nat) (r : Bytes) : kept (putTrace s p r) = kept s := by
  simp only [putTrace]; repeat' split
  all_goals simp only [charge_kept, logPad_kept, bump_kept, kept_updPad, calm_with, traceAppend_kept]
@[simp] theorem putTrace_cmd (s : State) (p : Nat) (r : Bytes) : (putTrace s p r).cmd = s.cmd := by
  simp only [putTrace]; repeat' split
  all_goals simp [traceAppend_live]

/-! ### traceCmd -/
@[simp] theorem traceCmd_kept (s : State) (c : Cmd) (k st : Nat) : kept (traceCmd s c k st) = kept s := by
  simp only [traceCmd]; repeat' split
  all_goals simp only [putTrace_kept, kept_updPad, calm_with, kept_with]
@[simp] theorem traceCmd_live (s : State) (c : Cmd) (k st : Nat) : (traceCmd s c k st).cmd.live = s.cmd.live := by
  simp only [traceCmd]; split <;> simp

/-! ### hostPut -/
@[simp] theorem hostPut_kept (s : State) (p a : Nat) (b : Bytes) : kept (hostPut s p a b) = kept s := by
  simp only [hostPut]; repeat' split
  all_goals simp only [hostBytes_kept, emit_kept, kept_updPad, calm_with, kept_with]
@[simp] theorem hostPut_live (s : State) (p a : Nat) (b : Bytes) : (hostPut s p a b).cmd.live = s.cmd.live := by
  simp only [hostPut]; split <;> simp

/-! ### putPlace -/
@[simp] theorem putPlace_kept (s : State) (p : Nat) (pl : Place) (b : Bytes) : kept (putPlace s p pl b) = kept s := by
  cases pl <;> simp only [putPlace, charge_kept, writePlace_kept, hostPut_kept]
  exact foldl_kept (fun s _ => issueTp_kept s _ _ _) _ _
@[simp] theorem putPlace_live (s : State) (p : Nat) (pl : Place) (b : Bytes) : (putPlace s p pl b).cmd.live = s.cmd.live := by
  cases pl <;> simp only [putPlace, charge_cmd, writePlace_live, hostPut_live]
  exact foldl_live (fun s _ => by simp) _ _

/-! ### putPlaces -/
@[simp] theorem putPlaces_kept (s : State) (p : Nat) (pls : List (Place × Nat)) (b : Bytes) : kept (putPlaces s p pls b) = kept s :=
  foldl_keeps (fun a : State × Bytes => kept a.1) _ (fun a e => putPlace_kept a.1 p e.1 _) pls (s, b)
@[simp] theorem putPlaces_live (s : State) (p : Nat) (pls : List (Place × Nat)) (b : Bytes) : (putPlaces s p pls b).cmd.live = s.cmd.live :=
  foldl_keeps (fun a : State × Bytes => a.1.cmd.live) _ (fun a e => putPlace_live a.1 p e.1 _) pls (s, b)
theorem ringPut_kept {s t : State} {p b l h n : Nat} {r : Bytes} (e : ringPut s p b l h n r = some t) : kept t = kept s := by
  simp only [ringPut] at e; split at e
  · cases e
  · split at e
    · cases e
    · split at e
      · cases e; simp
      · cases e
theorem ringPut_live {s t : State} {p b l h n : Nat} {r : Bytes} (e : ringPut s p b l h n r = some t) : t.cmd.live = s.cmd.live := by
  simp only [ringPut] at e; split at e
  · cases e
  · split at e
    · cases e
    · split at e
      · cases e; simp
      · cases e

/-! ### freeFill -/
@[simp] theorem freeFill_kept (s : State) (r : Nat × Nat) : kept (freeFill s r) = kept s := by
  simp only [freeFill, rickWrite_kept, fresh1_kept]
@[simp] theorem freeFill_live (s : State) (r : Nat × Nat) : (freeFill s r).cmd.live = s.cmd.live := by
  simp [freeFill]

/-! ### updCtx -/
@[simp] theorem updCtx_kept (s : State) (p c : Nat) (f : Ctx → Ctx) : kept (updCtx s p c f) = kept s := kept_updPad (fun d => by split <;> rfl) _ _
@[simp] theorem updCtx_live (s : State) (p c : Nat) (f : Ctx → Ctx) : (updCtx s p c f).cmd.live = s.cmd.live := rfl

/-! ### updQueue -/
@[simp] theorem updQueue_kept (s : State) (p q : Nat) (f : Queue → Queue) : kept (updQueue s p q f) = kept s := kept_updPad (fun d => by split <;> rfl) _ _
@[simp] theorem updQueue_live (s : State) (p q : Nat) (f : Queue → Queue) : (updQueue s p q f).cmd.live = s.cmd.live := rfl

/-! ### updCmd -/
@[simp] theorem updCmd_kept (s : State) (id : Nat) (f : Cmd → Cmd) : kept (updCmd s id f) = kept s := by
  simp only [updCmd]; split <;> rfl

/-! ### useCtx -/
@[simp] theorem useCtx_kept (s : State) (p c k n : Nat) : kept (useCtx s p c k n) = kept s := updCtx_kept _ _ _ _
@[simp] theorem useCtx_live (s : State) (p c k n : Nat) : (useCtx s p c k n).cmd.live = s.cmd.live := rfl

/-! ### active -/
@[simp] theorem active_kept (s : State) (p c r n : Nat) : kept (active s p c r n) = kept s := by
  simp only [active]; repeat' split
  all_goals simp only [updCtx_kept, kept_updPad, calm_with, kept_with]
@[simp] theorem active_live (s : State) (p c r n : Nat) : (active s p c r n).cmd.live = s.cmd.live := rfl

/-! ### usageRecord -/
@[simp] theorem usageRecord_kept (s : State) (p c r : Nat) : kept (usageRecord s p c r) = kept s := by
  simp only [usageRecord]; split
  · rfl
  · split
    · rfl
    · split
      · simp only [addO_kept]
      · rename_i e; simp only [updCtx_kept, kept_updPad, calm_with, ringPut_kept e]
@[simp] theorem usageRecord_live (s : State) (p c r : Nat) : (usageRecord s p c r).cmd.live = s.cmd.live := by
  simp only [usageRecord]; split
  · rfl
  · split
    · rfl
    · split
      · simp
      · rename_i e; simp [ringPut_live e]

/-! ### freeSlot -/
@[simp] theorem freeSlot_kept (s : State) (p c : Nat) : kept (freeSlot s p c) = kept s := by
  simp only [freeSlot]; repeat' split
  all_goals simp only [updCtx_kept, usageRecord_kept, kept_updPad, calm_with, kept_with]
@[simp] theorem freeSlot_live (s : State) (p c : Nat) : (freeSlot s p c).cmd.live = s.cmd.live := by
  simp only [freeSlot]; repeat' split
  all_goals simp

/-! ### advanceEpoch -/
@[simp] theorem advanceEpoch_kept (s : State) (p c : Nat) : kept (advanceEpoch s p c) = kept s := updCtx_kept _ _ _ _
@[simp] theorem advanceEpoch_live (s : State) (p c : Nat) : (advanceEpoch s p c).cmd.live = s.cmd.live := rfl

/-! ### ready -/
@[simp] theorem ready_kept (s : State) (p c : Nat) : kept (ready s p c) = kept s := updCtx_kept _ _ _ _
@[simp] theorem ready_live (s : State) (p c : Nat) : (ready s p c).cmd.live = s.cmd.live := rfl

/-! ### progress -/
@[simp] theorem progress_kept (s : State) (p c : Nat) : kept (progress s p c) = kept s := updCtx_kept _ _ _ _
@[simp] theorem progress_live (s : State) (p c : Nat) : (progress s p c).cmd.live = s.cmd.live := rfl

/-! ### writeRecord -/
@[simp] theorem writeRecord_kept (s : State) (p n : Nat) (q : Queue) (pls : List (Place × Nat)) (r : Nat) (i : Bool) : kept (writeRecord s p n q pls r i) = kept s := by
  simp only [writeRecord]; repeat' split
  all_goals simp only [msix_kept, updQueue_kept, putPlaces_kept, kept_updPad, calm_with, kept_with]
@[simp] theorem writeRecord_live (s : State) (p n : Nat) (q : Queue) (pls : List (Place × Nat)) (r : Nat) (i : Bool) : (writeRecord s p n q pls r i).cmd.live = s.cmd.live := by
  simp only [writeRecord]; split <;> simp

/-! ### drainCq -/
@[simp] theorem drainCq_kept (s : State) (p n k : Nat) : kept (drainCq p n k s) = kept s := by
  induction k generalizing s with
  | zero => rfl
  | succ k ih =>
    simp only [drainCq]; repeat' split
    all_goals simp only [ih, writeRecord_kept, updQueue_kept]
@[simp] theorem drainCq_live (s : State) (p n k : Nat) : (drainCq p n k s).cmd.live = s.cmd.live := by
  induction k generalizing s with
  | zero => rfl
  | succ k ih =>
    simp only [drainCq]; repeat' split
    all_goals simp only [ih, writeRecord_live, updQueue_live]

/-! ### postRecord -/
@[simp] theorem postRecord_kept (s : State) (p n r : Nat) (i : Bool) : kept (postRecord s p n r i) = kept s := by
  simp only [postRecord]; repeat' split
  all_goals simp only [drainCq_kept, updQueue_kept, kept_updPad, calm_with, kept_with]
@[simp] theorem postRecord_live (s : State) (p n r : Nat) (i : Bool) : (postRecord s p n r i).cmd.live = s.cmd.live := by
  simp only [postRecord]; split <;> simp

/-! ### endEntry -/
@[simp] theorem endEntry_kept (s : State) (p q e : Nat) : kept (endEntry s p q e) = kept s := updQueue_kept _ _ _ _
@[simp] theorem endEntry_live (s : State) (p q e : Nat) : (endEntry s p q e).cmd.live = s.cmd.live := rfl

/-! ### geqCmd -/
@[simp] theorem geqCmd_kept (s : State) (c : Cmd) (k v : Nat) (fs : List Nat) : kept (geqCmd s c k v fs) = kept s := by
  simp only [geqCmd, geq_kept]
@[simp] theorem geqCmd_live (s : State) (c : Cmd) (k v : Nat) (fs : List Nat) : (geqCmd s c k v fs).cmd.live = s.cmd.live := by
  simp [geqCmd]

/-! ### faultRing -/
@[simp] theorem faultRing_kept (s : State) (p : Nat) (r : Bytes) : kept (faultRing s p r) = kept s := by
  simp only [faultRing]; split
  · rfl
  · split
    · simp only [addO_kept]
    · rename_i e; simp only [bump_kept, setP_kept, ringPut_kept e]
@[simp] theorem faultRing_live (s : State) (p : Nat) (r : Bytes) : (faultRing s p r).cmd.live = s.cmd.live := by
  simp only [faultRing]; split
  · rfl
  · split
    · simp
    · rename_i e; simp [ringPut_live e]

/-! ### flushBatch -/
@[simp] theorem flushBatch_kept (s : State) (p : Nat) : kept (flushBatch s p) = kept s := by
  have h := fun p => foldl_kept (fun (s : State) (f : List Nat) => faultRing_kept s p (batchRecord f))
  simp only [flushBatch]; split
  · rfl
  · simp only [logPad_kept, firePad_kept, h, kept_updPad, calm_with]
@[simp] theorem flushBatch_live (s : State) (p : Nat) : (flushBatch s p).cmd.live = s.cmd.live := by
  have h := fun p => foldl_live (fun (s : State) (f : List Nat) => faultRing_live s p (batchRecord f))
  simp only [flushBatch]; split
  · rfl
  · simp [h]

/-! ### strike -/
@[simp] theorem strike_kept (s : State) (p : Nat) (w : Bool) : kept (strike s p w) = kept s := rfl
@[simp] theorem strike_live (s : State) (p : Nat) (w : Bool) : (strike s p w).cmd.live = s.cmd.live := rfl

/-! ### recFault -/
@[simp] theorem recFault_kept (s : State) (p va l : Nat) (w : Bool) (src code ctx node id ly op : Nat) : kept (recFault s p va l w src code ctx node id ly op) = kept s := by
  simp only [recFault]; repeat' split
  all_goals simp only [flushBatch_kept, strike_kept, kept_updPad, calm_with]
@[simp] theorem recFault_live (s : State) (p va l : Nat) (w : Bool) (src code ctx node id ly op : Nat) : (recFault s p va l w src code ctx node id ly op).cmd.live = s.cmd.live := by
  simp only [recFault]; repeat' split
  all_goals simp

/-! ### refuse -/
@[simp] theorem refuse_kept (s : State) (p c : Nat) (fs : List Nat) : kept (refuse s p c fs) = kept s := by
  simp only [refuse, logPad_kept, bump_kept]
@[simp] theorem refuse_live (s : State) (p c : Nat) (fs : List Nat) : (refuse s p c fs).cmd.live = s.cmd.live := by
  simp [refuse]

/-! ### stale -/
@[simp] theorem stale_kept (s : State) (p : Nat) : kept (stale s p) = kept s := by
  simp only [stale, bump_kept]
@[simp] theorem stale_live (s : State) (p : Nat) : (stale s p).cmd.live = s.cmd.live := by
  simp [stale]

/-! ### exclEnd -/
@[simp] theorem exclEnd_kept (s : State) (p id : Nat) : kept (exclEnd s p id) = kept s := by
  refine kept_updPad ?_ s p
  intro d; dsimp only; split
  · split <;> rfl
  · rfl
@[simp] theorem exclEnd_live (s : State) (p id : Nat) : (exclEnd s p id).cmd.live = s.cmd.live := rfl

/-! ### detachCmd -/
@[simp] theorem detachCmd_kept (s : State) (id : Nat) : kept (detachCmd s id) = kept s := by
  simp only [detachCmd, kept_with]
  exact foldl_kept (fun s e => by split <;> simp only [sendTp_kept]) _ _
@[simp] theorem detachCmd_live (s : State) (id : Nat) : (detachCmd s id).cmd.live = s.cmd.live := by
  simp only [detachCmd]
  exact foldl_live (fun s e => by split <;> simp) _ _

/-! ### abortMsgs -/
@[simp] theorem abortMsgs_kept (s : State) (id : Nat) : kept (abortMsgs s id) = kept s := by
  simp only [abortMsgs]
  exact foldl_kept (fun s e => foldl_kept (fun s m => by simp only [sendOn_kept, updQp_kept]) _ _) _ _
@[simp] theorem abortMsgs_live (s : State) (id : Nat) : (abortMsgs s id).cmd.live = s.cmd.live := by
  simp only [abortMsgs]
  exact foldl_live (fun s e => foldl_live (fun s m => by simp) _ _) _ _

/-! ### undoAlloc -/
@[simp] theorem undoAlloc_kept (s : State) (c : Cmd) : kept (undoAlloc s c) = kept s := by
  have h := fun (l : List Effect) (s : State) => foldl_kept (f := fun s e => match e with | .addAlloc va _ => dropAlloc s c.p va | _ => s)
    (fun s e => by cases e <;> simp only [dropAlloc_kept]) l s
  simp only [undoAlloc]; repeat' split
  all_goals first | exact h _ _ | exact (mapAlloc_kept _ _ _).trans (h _ _)
@[simp] theorem undoAlloc_live (s : State) (c : Cmd) : (undoAlloc s c).cmd.live = s.cmd.live := by
  have h := fun (l : List Effect) (s : State) => foldl_live (f := fun s e => match e with | .addAlloc va _ => dropAlloc s c.p va | _ => s)
    (fun s e => by cases e <;> simp only [dropAlloc_live]) l s
  simp only [undoAlloc]; repeat' split
  all_goals first | exact h _ _ | exact (mapAlloc_live _ _ _).trans (h _ _)

/-! ### unbind -/
@[simp] theorem unbind_kept (s : State) (c : Cmd) : kept (unbind s c) = kept s := by
  simp only [unbind]; repeat' split
  all_goals simp only [setO_kept, active_kept, useCtx_kept, meter_kept, kept_updPad, calm_with, kept_with]
@[simp] theorem unbind_live (s : State) (c : Cmd) : (unbind s c).cmd.live = s.cmd.live := by
  simp [unbind]

/-! ### killCmd -/
@[simp] theorem killCmd_kept (s : State) (id : Nat) : kept (killCmd s id) = kept s := by
  simp only [killCmd]; repeat' split
  all_goals simp only [meter_kept, traceCmd_kept, exclEnd_kept, unbind_kept, undoAlloc_kept, abortMsgs_kept, detachCmd_kept, kept_updPad, calm_with, kept_with]

theorem killCmd_gone (s : State) (id : Nat) : (killCmd s id).cmd.live = Tbl.erase s.cmd.live id ∨ cmdOf s id = none ∧ killCmd s id = s := by
  simp only [killCmd]; split
  · rename_i h; exact .inr ⟨h, rfl⟩
  · left; simp

/-! ### clearCkpts -/
@[simp] theorem clearCkpts_kept (s : State) (p c : Nat) (f : Ckpt → Bool) : kept (clearCkpts s p c f) = kept s := by
  simp only [clearCkpts]; split
  · rfl
  · simp only [updCtx_kept]; exact foldl_kept (fun s k => by split <;> simp only [putPlaces_kept]) _ _
@[simp] theorem clearCkpts_live (s : State) (p c : Nat) (f : Ckpt → Bool) : (clearCkpts s p c f).cmd.live = s.cmd.live := by
  simp only [clearCkpts]; split
  · rfl
  · simp only [updCtx_live]; exact foldl_live (fun s k => by split <;> simp only [putPlaces_live]) _ _

/-! ### removeCtx -/
@[simp] theorem removeCtx_kept (s : State) (p c : Nat) : kept (removeCtx s p c) = kept s := by
  simp only [removeCtx, kept_updPad, calm_with, usageRecord_kept]
@[simp] theorem removeCtx_live (s : State) (p c : Nat) : (removeCtx s p c).cmd.live = s.cmd.live := by
  simp [removeCtx]

/-! ### idleCheck -/
@[simp] theorem idleCheck_kept (s : State) (p c : Nat) : kept (idleCheck s p c) = kept s := by
  simp only [idleCheck]; repeat' split
  all_goals simp only [respond_kept, removeCtx_kept, updCtx_kept, kept_updPad, calm_with, kept_with]
@[simp] theorem idleCheck_live (s : State) (p c : Nat) : (idleCheck s p c).cmd.live = s.cmd.live := by
  simp only [idleCheck]; repeat' split
  all_goals simp

/-! ### queueCheck -/
@[simp] theorem queueCheck_kept (s : State) (p q : Nat) : kept (queueCheck s p q) = kept s := by
  simp only [queueCheck]; repeat' split
  all_goals simp only [respond_kept, kept_updPad, calm_with, kept_with]
@[simp] theorem queueCheck_live (s : State) (p q : Nat) : (queueCheck s p q).cmd.live = s.cmd.live := by
  simp only [queueCheck]; repeat' split
  all_goals simp

/-! ### abandon -/
@[simp] theorem abandon_kept (s : State) (f : Killed → Bool) : kept (abandon s f) = kept s := by
  simp only [abandon]
  rw [foldl_kept (fun s k => ?_)]; · rfl
  have h1 := foldl_kept (fun (s : State) r => freeFill_kept s r)
  simp only [queueCheck_kept, postRecord_kept, updQueue_kept, bump_kept, endEntry_kept, clearCkpts_kept]
  rw [foldl_kept (fun s m => by simp only [sendOn_kept]), h1]
@[simp] theorem abandon_live (s : State) (f : Killed → Bool) : (abandon s f).cmd.live = s.cmd.live := by
  simp only [abandon]
  rw [foldl_live (fun s k => ?_)]
  have h1 := foldl_live (fun (s : State) r => freeFill_live s r)
  simp only [queueCheck_live, postRecord_live, updQueue_live, bump_cmd, endEntry_live, clearCkpts_live]
  rw [foldl_live (fun s m => by simp only [sendOn_cmd]), h1]

/-! ### afterEnd -/
@[simp] theorem afterEnd_kept (s : State) (p c q : Nat) : kept (afterEnd s p c q) = kept s := by
  simp only [afterEnd]; repeat' split
  all_goals simp only [queueCheck_kept, idleCheck_kept, freeSlot_kept, advanceEpoch_kept, kept_updPad, calm_with, kept_with]
@[simp] theorem afterEnd_live (s : State) (p c q : Nat) : (afterEnd s p c q).cmd.live = s.cmd.live := by
  simp only [afterEnd, queueCheck_live, idleCheck_live]; repeat' split
  all_goals simp

/-! ### applyEffect -/
@[simp] theorem applyEffect_kept (s : State) (p : Nat) (e : Effect) : kept (applyEffect p s e) = kept s := by
  have h := fun (n : Nat) => foldl_kept (fun (s : State) (f : Nat) => rickZero_kept s f n)
  cases e <;> simp only [applyEffect, putPlace_kept, putPlaces_kept, dropAlloc_kept]
  split
  · rfl
  · split <;> simp only [mapAlloc_kept, h]
@[simp] theorem applyEffect_live (s : State) (p : Nat) (e : Effect) : (applyEffect p s e).cmd.live = s.cmd.live := by
  have h := fun (n : Nat) => foldl_live (fun (s : State) (f : Nat) => rickZero_live s f n)
  cases e <;> simp only [applyEffect, putPlace_live, putPlaces_live, dropAlloc_live]
  split
  · rfl
  · split <;> simp only [mapAlloc_live, h]

/-! ### releaseRerun -/
@[simp] theorem releaseRerun_kept (s : State) (id : Nat) : kept (releaseRerun s id) = kept s := rfl
@[simp] theorem releaseRerun_live (s : State) (id : Nat) : (releaseRerun s id).cmd.live = s.cmd.live := rfl

/-! ### releaseCycle -/
@[simp] theorem releaseCycle_kept (s : State) (id : Nat) : kept (releaseCycle s id) = kept s := by
  simp only [releaseCycle]; exact foldl_kept (fun s (w : Nat × List Nat) => releaseRerun_kept s w.1) _ _
@[simp] theorem releaseCycle_live (s : State) (id : Nat) : (releaseCycle s id).cmd.live = s.cmd.live := by
  simp only [releaseCycle]; exact foldl_live (fun s (w : Nat × List Nat) => releaseRerun_live s w.1) _ _

/-! ### commitNow -/
@[simp] theorem commitNow_kept (s : State) (id : Nat) (c : Cmd) (pls : List (Place × Nat)) : kept (commitNow s id c pls) = kept s := by
  have h1 := foldl_kept (fun (s : State) e => applyEffect_kept s c.p e)
  have h2 := foldl_kept (fun (s : State) r => freeFill_kept s r)
  simp only [commitNow]; split
  · rfl
  · simp only [afterEnd_kept, writeRecord_kept, progress_kept, endEntry_kept, clearCkpts_kept]
    repeat' split
    all_goals simp only [meter_kept, updQueue_kept, bump_kept, traceCmd_kept, exclEnd_kept, unbind_kept, h1, h2, releaseCycle_kept, kept_with]

/-- A command that commits is no longer live, and every other stays. -/
theorem commitNow_live {s : State} {id : Nat} {c : Cmd} {pls : List (Place × Nat)} (hq : (queueOf s c.p c.q).isSome = true) :
    (commitNow s id c pls).cmd.live = Tbl.erase s.cmd.live id := by
  have h1 := foldl_live (fun (s : State) e => applyEffect_live s c.p e)
  have h2 := foldl_live (fun (s : State) r => freeFill_live s r)
  simp only [commitNow]; split
  · rename_i h; simp [h] at hq
  · simp only [afterEnd_live, writeRecord_live, progress_live, endEntry_live, clearCkpts_live]
    repeat' split
    all_goals simp only [meter_cmd, updQueue_live, bump_cmd, traceCmd_live, exclEnd_live, unbind_live, h1, h2, releaseCycle_live]

/-! ### failQuiet -/
@[simp] theorem failQuiet_kept (s : State) (id k : Nat) : kept (failQuiet s id k) = kept s := by
  simp only [failQuiet]; repeat' split
  all_goals simp only [updCmd_kept, commitNow_kept, undoAlloc_kept, abortMsgs_kept, detachCmd_kept, kept_updPad, calm_with, kept_with]

/-! ### stopCmdWith -/
@[simp] theorem stopCmdWith_kept (s : State) (y : Stop) (id : Nat) : kept (stopCmdWith failQuiet y s id) = kept s := by
  simp only [stopCmdWith]; repeat' split
  all_goals simp only [failQuiet_kept, updCmd_kept, killCmd_kept, kept_updPad, calm_with, kept_with]

/-! ### stopCtx -/
@[simp] theorem stopCtx_kept (s : State) (p c : Nat) (y : Stop) (nxt : CState) : kept (stopCtx s p c y nxt) = kept s := by
  have h := foldl_kept (fun (s : State) id => stopCmdWith_kept s y id)
  simp only [stopCtx]; repeat' split
  all_goals simp only [updCtx_kept, freeSlot_kept, advanceEpoch_kept, h]

/-! ### unwait -/
@[simp] theorem unwait_kept (s : State) (p c : Nat) : kept (unwait s p c) = kept s := by
  simp only [unwait]; repeat' split
  all_goals simp only [updCtx_kept, ready_kept, kept_updPad, calm_with, kept_with]
@[simp] theorem unwait_live (s : State) (p c : Nat) : (unwait s p c).cmd.live = s.cmd.live := by
  simp only [unwait]; repeat' split
  all_goals simp

/-! ### park -/
@[simp] theorem park_kept (s : State) (c : Cmd) (va l : Nat) (w : Bool) (k : Nat) (r : Bool) : kept (park s c va l w k r) = kept s := by
  simp only [park]; repeat' split
  all_goals simp only [strike_kept, firePad_kept, updCtx_kept, stopCtx_kept, geqCmd_kept, faultRing_kept, bump_kept, kept_updPad, calm_with, kept_with]

/-! ### tryCommit -/
@[simp] theorem tryCommit_kept (s : State) (id : Nat) : kept (tryCommit s id) = kept s := by
  simp only [tryCommit]; repeat' split
  all_goals simp only [commitNow_kept, updCmd_kept, park_kept, kept_updPad, calm_with, kept_with]

/-! ### failCmd -/
@[simp] theorem failCmd_kept (s : State) (id k : Nat) : kept (failCmd s id k) = kept s := by
  simp only [failCmd, tryCommit_kept, failQuiet_kept]

/-! ### becomeReady -/
@[simp] theorem becomeReady_kept (s : State) (id : Nat) (c : Cmd) (es : List Effect) (r : Nat) : kept (becomeReady s id c es r) = kept s := by
  simp only [becomeReady, updCmd_kept]; exact foldl_kept (fun s e => issueTp_kept s _ _ _) _ _

/-! ### finish -/
@[simp] theorem finish_kept (s : State) (id : Nat) (es : List Effect) (r : Nat) : kept (finish s id es r) = kept s := by
  simp only [finish, tryCommit_kept, updCmd_kept]

/-! ### conclude -/
@[simp] theorem conclude_kept (s : State) (id : Nat) (c : Cmd) (es : List Effect) (r : Nat) : kept (conclude s id c es r) = kept s := by
  simp only [conclude]; repeat' split
  all_goals simp only [becomeReady_kept, finish_kept, kept_updPad, calm_with, kept_with]

/-! ### holdDest -/
@[simp] theorem holdDest_kept (s : State) (id : Nat) (pls : List (Place × Nat)) : kept (holdDest s id pls) = kept s := updCmd_kept _ _ _

/-! ### killBatch -/
@[simp] theorem killBatch_kept (s : State) (ids : List Nat) (y : Stop) : kept (killBatch s ids y) = kept s := by
  have h := foldl_kept (fun (s : State) id => stopCmdWith_kept s y id)
  simp only [killBatch]; split
  · exact foldl_kept (fun s id => updCmd_kept _ _ _) _ _
  · rw [foldl_kept (fun s e => by simp only [afterEnd_kept]; split <;> simp only [unwait_kept]),
      foldl_kept (fun s e => by repeat' split
                                all_goals simp only [advanceEpoch_kept]), h]

/-! ### endDeferredKill -/
@[simp] theorem endDeferredKill_kept (s : State) (id : Nat) : kept (endDeferredKill s id) = kept s := by
  simp only [endDeferredKill]; repeat' split
  all_goals simp only [afterEnd_kept, abandon_kept, advanceEpoch_kept, killCmd_kept]

end Sys2Proof.Machine
end

