-- ==== Sys2Proof/Laws/Commands.lean ====
section
/-! SUPPORT. Lemmas about commands: what a change of one live command leaves alone, and how a row reaches its command. -/

namespace Sys2Proof.Machine
open Sys2Proof

@[simp] theorem updCmd_pending (s : State) (id : Nat) (f : Cmd → Cmd) : (updCmd s id f).pending = s.pending := by simp only [updCmd]; split <;> rfl
@[simp] theorem updCmd_out (s : State) (id : Nat) (f : Cmd → Cmd) : (updCmd s id f).out = s.out := by simp only [updCmd]; split <;> rfl
@[simp] theorem updCmd_fresh (s : State) (id : Nat) (f : Cmd → Cmd) : (updCmd s id f).fresh = s.fresh := by simp only [updCmd]; split <;> rfl
@[simp] theorem updCmd_obj (s : State) (id : Nat) (f : Cmd → Cmd) : (updCmd s id f).obj = s.obj := by simp only [updCmd]; split <;> rfl
@[simp] theorem updCmd_sys (s : State) (id : Nat) (f : Cmd → Cmd) : (updCmd s id f).sys = s.sys := by simp only [updCmd]; split <;> rfl
@[simp] theorem updCmd_com (s : State) (id : Nat) (f : Cmd → Cmd) : (updCmd s id f).com = s.com := by simp only [updCmd]; split <;> rfl
@[simp] theorem updCmd_log (s : State) (id : Nat) (f : Cmd → Cmd) : (updCmd s id f).log = s.log := by simp only [updCmd]; split <;> rfl
@[simp] theorem updCmd_tp (s : State) (id : Nat) (f : Cmd → Cmd) : (updCmd s id f).tp = s.tp := by simp only [updCmd]; split <;> rfl
@[simp] theorem updCmd_host (s : State) (id : Nat) (f : Cmd → Cmd) : (updCmd s id f).host = s.host := by simp only [updCmd]; split <;> rfl
@[simp] theorem updCmd_net (s : State) (id : Nat) (f : Cmd → Cmd) : (updCmd s id f).net = s.net := by simp only [updCmd]; split <;> rfl
@[simp] theorem updCmd_sw (s : State) (id : Nat) (f : Cmd → Cmd) : (updCmd s id f).sw = s.sw := by simp only [updCmd]; split <;> rfl
@[simp] theorem updCmd_sward (s : State) (id : Nat) (f : Cmd → Cmd) : (updCmd s id f).sward = s.sward := by simp only [updCmd]; split <;> rfl
@[simp] theorem updCmd_sheaf (s : State) (id : Nat) (f : Cmd → Cmd) : (updCmd s id f).sheaf = s.sheaf := by simp only [updCmd]; split <;> rfl
@[simp] theorem updCmd_rick (s : State) (id : Nat) (f : Cmd → Cmd) : (updCmd s id f).rick = s.rick := by simp only [updCmd]; split <;> rfl
@[simp] theorem updCmd_acct (s : State) (id : Nat) (f : Cmd → Cmd) : (updCmd s id f).acct = s.acct := by simp only [updCmd]; split <;> rfl
@[simp] theorem updCmd_sec (s : State) (id : Nat) (f : Cmd → Cmd) : (updCmd s id f).sec = s.sec := by simp only [updCmd]; split <;> rfl
@[simp] theorem updCmd_ev (s : State) (id : Nat) (f : Cmd → Cmd) : (updCmd s id f).ev = s.ev := by simp only [updCmd]; split <;> rfl
@[simp] theorem updCmd_flt (s : State) (id : Nat) (f : Cmd → Cmd) : (updCmd s id f).flt = s.flt := by simp only [updCmd]; split <;> rfl
@[simp] theorem updCmd_pair (s : State) (id : Nat) (f : Cmd → Cmd) : (updCmd s id f).pair = s.pair := by simp only [updCmd]; split <;> rfl
@[simp] theorem updCmd_pow (s : State) (id : Nat) (f : Cmd → Cmd) : (updCmd s id f).pow = s.pow := by simp only [updCmd]; split <;> rfl
@[simp] theorem updCmd_pads (s : State) (id : Nat) (f : Cmd → Cmd) : (updCmd s id f).pads = s.pads := by simp only [updCmd]; split <;> rfl
@[simp] theorem updCmd_ftm (s : State) (id : Nat) (f : Cmd → Cmd) : (updCmd s id f).ftm = s.ftm := by simp only [updCmd]; split <;> rfl
@[simp] theorem updCmd_store (s : State) (id : Nat) (f : Cmd → Cmd) : (updCmd s id f).store = s.store := by simp only [updCmd]; split <;> rfl

/-- The changed command. -/
theorem cmdOf_updCmd {s : State} {id : Nat} {c : Cmd} (f : Cmd → Cmd) (h : cmdOf s id = some c) : cmdOf (updCmd s id f) id = some (f c) := by
  unfold cmdOf at *
  simp [updCmd, h]

/-- Every other command. -/
theorem cmdOf_updCmd_ne (s : State) {id k : Nat} (f : Cmd → Cmd) (h : k ≠ id) : cmdOf (updCmd s id f) k = cmdOf s k := by
  unfold cmdOf
  simp only [updCmd]
  split
  · exact Tbl.find_set_ne (Ne.symm h) _ _
  · rfl

/-- A row of an opcode reaches its command, which starts. -/
theorem withCmd_eq {s : State} {id op : Nat} {c : Cmd} (f : State → Cmd → State) (hc : cmdOf s id = some c) (ho : dOpcode c.desc = op)
    (hw : mayWork s id c = true) :
    withCmd s id op f = f (updCmd s id (fun c => { c with phase := .started })) { c with phase := .started } := by
  simp [withCmd, hc, ho, hw]

end Sys2Proof.Machine
end

