-- ==== Sys2Proof/Laws/Configuration.lean ====
section
/-! SUPPORT. What putting a configuration version into force does to the object values: the committed and the draft values become the
version's, the draft has no owner, and nothing else of them changes. -/

namespace Sys2Proof.Machine
open Sys2Proof

theorem resend_fold_conf (q x : Nat) (l : List (Nat × Nat × Bytes)) (s : State) : conf (l.foldl (fun s u => resend s q x u.2) s) = conf s :=
  foldl_keeps conf _ (fun s u => resend_conf s _ _ _) l s
theorem rebindPath_conf (q l : Nat) (s : State) (i : Nat) : conf (rebindPath q l s i) = conf s := by
  simp only [rebindPath]; repeat' split
  all_goals first | rfl | simp only [resend_fold_conf, logPad_conf, updQp_conf]
theorem rebind_conf (s : State) (l : Nat) : conf (rebind s l) = conf s := by
  simp only [rebind]
  exact foldl_keeps conf _ (fun s e => foldl_keeps conf _ (fun s i => rebindPath_conf _ _ s i) _ s) _ s
theorem setLState_conf (s : State) (l : Nat) (st) (h : l < 64) : conf (setLState s l st) = conf s := by
  simp only [setLState, h, if_true, fire_conf, updLink_conf]
theorem applyLinks_conf (s : State) : conf (applyLinks s) = conf s := by
  simp only [applyLinks]
  have : ∀ (l : List Nat) (s : State), (∀ k ∈ l, k < 64) → conf (l.foldl (fun s l => if bit (cfg s 0x1700 2) l then enableLink s l else disableLink s l) s) = conf s := by
    intro l; induction l with
    | nil => intro s _; rfl
    | cons a t ih =>
      intro s h
      rw [List.foldl_cons, ih _ (fun k hk => h k (by simp [hk]))]
      have ha := h a (by simp)
      split
      · simp only [enableLink]; split <;> simp [setLState_conf, ha]
      · simp only [disableLink]; split <;> simp [setLState_conf, ha, rebind_conf]
  exact this _ _ (fun k hk => by simpa using hk)
theorem clearBases_conf (s : State) : conf (clearBases s) = conf s := rfl
theorem setTime_conf (s : State) (n) : conf (setTime s n) = conf s := by
  simp only [setTime]; split <;> first | rfl
theorem unscheduleLink_conf (f) (s : State) (l) : conf (unscheduleLink f s l) = conf s := by
  simp only [unscheduleLink]; repeat' split
  all_goals simp
theorem stopInjection_conf (s : State) : conf (stopInjection s) = conf s := by
  simp only [stopInjection, unscheduleAll]
  refine (foldl_keeps conf _ (fun s l => ?_) _ _).trans rfl
  split
  · rfl
  · exact unscheduleLink_conf _ _ _
theorem applyTimeRole_conf (s : State) (r) : conf (applyTimeRole s r) = conf s := by
  simp only [applyTimeRole]; repeat' split
  · rfl
  · exact (show conf (startInjection _) = conf (setTime s 4) from rfl).trans (setTime_conf s 4)
  · rw [stopInjection_conf, setTime_conf]
  · rfl
theorem applyPairRole_conf (s : State) (r) : conf (applyPairRole s r) = conf s := by
  simp only [applyPairRole]; repeat' split
  all_goals rfl
theorem askRecord_conf (s : State) (p n) : conf (askRecord s p n) = conf s := rfl
theorem applyValues_conf (s : State) (t) : conf (applyValues s t) = { conf s with committed := t, draft := t, draftOwner := none } := by
  simp only [applyValues]
  refine (foldl_keeps conf _ (fun s e => ?_) _ _).trans ?_
  · split <;> rfl
  · split <;> split <;> simp only [applyPairRole_conf, applyTimeRole_conf, applyLinks_conf] <;> rfl

end Sys2Proof.Machine
end

