-- ==== Sys2Proof/Laws/Events.lean ====
section
/-! SUPPORT. What raising and delivering an event does to the target registers, and what delivery leaves as it was. -/

namespace Sys2Proof.Machine
open Sys2Proof

theorem larkSee_targets (s : State) (k n : Nat) : (larkSee s k n).ev.targets = s.ev.targets := by
  simp only [larkSee]; split <;> rfl
theorem larkSee_occurs (s : State) (k n : Nat) : (larkSee s k n).ev.occurs = s.ev.occurs := by
  simp only [larkSee]; split <;> rfl
theorem larkSee_holdoffs (s : State) (k n : Nat) : (larkSee s k n).ev.holdoffs = s.ev.holdoffs := by
  simp only [larkSee]; split <;> rfl

/-- A target register with PENDING set; the overrun count where it was already. -/
def pended (t : Nat) : Nat := if bit t 29 then (if bits t 7 0 = 255 then t else t + 1) else putBit t 29 true

theorem raise_targets (s : State) (n : Nat) :
    (raise s n).ev.targets = Tbl.set s.ev.targets n (pended (Tbl.get s.ev.targets n)) := by
  simp only [raise, larkSee_targets, pended]
theorem raise_occurs (s : State) (n : Nat) : (raise s n).ev.occurs = s.ev.occurs := by simp only [raise, larkSee_occurs]

theorem fire_targets (s : State) (n : Nat) :
    (fire s n).ev.targets = Tbl.set s.ev.targets n (pended (Tbl.get s.ev.targets n)) := by simp [fire, raise_targets]
theorem fire_occurs (s : State) (n : Nat) :
    (fire s n).ev.occurs = Tbl.set s.ev.occurs n ((Tbl.get s.ev.occurs n + 1) % 65536) := by simp [fire, raise_occurs]

/-! ### Delivery -/

/-- The parts of the state that sending an MSI-X message or an interrupt may change. -/
theorem msix_frame (s : State) (fn : Fn) (v : Nat) : { msix s fn v with host := s.host, out := s.out } = s := by
  simp only [msix]; split
  · rfl
  · cases fn <;> rfl

theorem deliverOne_ev (a : State × List (Target × Nat)) (n : Nat) : (deliverOne a n).1.ev = a.1.ev := by
  obtain ⟨s, seen⟩ := a
  simp only [deliverOne]
  repeat' split
  all_goals simp

theorem deliverOne_frame (a : State × List (Target × Nat)) (n : Nat) :
    { (deliverOne a n).1 with host := a.1.host, out := a.1.out, obj.live := a.1.obj.live } = a.1 := by
  obtain ⟨s, seen⟩ := a
  simp only [deliverOne]
  cases targetOf (Tbl.get s.ev.targets n) with
  | none => rfl
  | some f =>
    cases f with
    | core => simp only [targetFn]; split <;> rfl
    | pf =>
      simp only [targetFn]; split
      · rfl
      · exact congrArg (fun x : State => { x with obj.live := s.obj.live }) (msix_frame (addO s 0x1E00 1 1 64) none _)
    | vf m =>
      simp only [targetFn]; split
      · rfl
      · exact congrArg (fun x : State => { x with obj.live := s.obj.live }) (msix_frame (addO s 0x1E00 1 1 64) (some m) _)

theorem startHoldoff_targets (s : State) (n : Nat) : (startHoldoff s n).ev.targets = s.ev.targets := by
  simp only [startHoldoff]; repeat' split
  all_goals rfl

theorem startHoldoff_frame (s : State) (n : Nat) : { startHoldoff s n with ev.holdoffs := s.ev.holdoffs } = s := by
  simp only [startHoldoff]; repeat' split
  all_goals rfl

/-- A timer that runs goes on. -/
theorem startHoldoff_mono (s : State) (n : Nat) (x : Nat × Target) (h : x ∈ s.ev.holdoffs) : x ∈ (startHoldoff s n).ev.holdoffs := by
  simp only [startHoldoff]; repeat' split
  all_goals simp [h]

theorem foldl_startHoldoff_mono (x : Nat × Target) : ∀ (l : List Nat) (s : State), x ∈ s.ev.holdoffs →
    x ∈ (l.foldl startHoldoff s).ev.holdoffs
  | [], _, h => h
  | n :: t, s, h => foldl_startHoldoff_mono x t _ (startHoldoff_mono s n x h)

/-- The state but for what delivery may change. -/
def undelivered (s : State) : State := { s with ev.targets := [], ev.holdoffs := [], host := default, out := [], obj.live := [] }

theorem deliverOne_undelivered (a : State × List (Target × Nat)) (n : Nat) : undelivered (deliverOne a n).1 = undelivered a.1 := by
  rw [← deliverOne_frame a n]; rfl

theorem startHoldoff_undelivered (s : State) (n : Nat) : undelivered (startHoldoff s n) = undelivered s := by
  have h := congrArg undelivered (startHoldoff_frame s n)
  rw [← h]; rfl

theorem deliver_undelivered (s : State) : undelivered (deliver s) = undelivered s := by
  have h1 := foldl_keeps (fun a : State × List (Target × Nat) => undelivered a.1) deliverOne deliverOne_undelivered (deliverNow s) (s, [])
  have h2 := foldl_keeps undelivered startHoldoff startHoldoff_undelivered (deliverNow s)
    ((deliverNow s).foldl deliverOne (s, [])).1
  exact (show undelivered (deliver s) = undelivered ((deliverNow s).foldl startHoldoff ((deliverNow s).foldl deliverOne (s, [])).1) from rfl)
    |>.trans (h2.trans h1)

/-- The target registers that delivery walks over are the ones it found. -/
theorem delivered_targets (s : State) : (deliver s).ev.targets =
    s.ev.targets.map (fun e => if (deliverNow s).contains e.1 then (e.1, putBit e.2 29 false) else e) := by
  have h1 := foldl_keeps (fun a : State × List (Target × Nat) => a.1.ev.targets) deliverOne (fun a n => by rw [deliverOne_ev])
    (deliverNow s) (s, [])
  have h2 := foldl_keeps (fun s : State => s.ev.targets) startHoldoff startHoldoff_targets (deliverNow s)
    ((deliverNow s).foldl deliverOne (s, [])).1
  simp only [deliver]
  rw [h2, h1]

theorem deliver_holdoffs_mono (s : State) (x : Nat × Target) (h : x ∈ s.ev.holdoffs) : x ∈ (deliver s).ev.holdoffs := by
  have h1 := foldl_keeps (fun a : State × List (Target × Nat) => a.1.ev.holdoffs) deliverOne (fun a n => by rw [deliverOne_ev])
    (deliverNow s) (s, [])
  exact foldl_startHoldoff_mono x (deliverNow s) _ (by simp only at h1 ⊢; rw [h1]; exact h)

/-- A register reads as delivery leaves it. -/
theorem delivered_get (s : State) (n : Nat) : Tbl.get (deliver s).ev.targets n =
    if deliverable s n then putBit (Tbl.get s.ev.targets n) 29 false else Tbl.get s.ev.targets n := by
  rw [delivered_targets]
  simp only [Tbl.get]
  rw [Tbl.find_map _ (fun e => by split <;> rfl)]
  cases hf : Tbl.find s.ev.targets n with
  | none =>
    have : deliverable s n = false := by simp [deliverable, Tbl.get, hf, targetOf, bits]
    simp [this]
  | some v =>
    have hm : (deliverNow s).contains n = deliverable s n := by
      rw [Bool.eq_iff_iff]
      simp only [List.contains_iff_mem, deliverNow, List.mem_filter]
      exact ⟨fun h => h.2, fun h => ⟨Tbl.mem_of_find hf, h⟩⟩
    simp only [Option.map_some, Option.getD_some, hm]
    split <;> rfl

end Sys2Proof.Machine
end

