-- ==== Sys2Proof/Laws/Memory.lean ====
section
/-! SUPPORT. The stored bytes of the rick: a read after a write, and every memory operation keeps the canonical form. -/

namespace Sys2Proof.Machine
open Sys2Proof

/-- A longer bound from below is weaker. -/
theorem wfFrom_mono {m : List Host.Cell} {a b : Nat} (h : b ≤ a) (hm : Mem.wfFrom a m = true) : Mem.wfFrom b m = true := by
  cases m with
  | nil => rfl
  | cons e t => simp only [Mem.wfFrom, Bool.and_eq_true, decide_eq_true_eq] at hm ⊢; exact ⟨⟨by omega, hm.1.2⟩, hm.2⟩

/-- Storing a byte at or above the bound keeps the canonical form. -/
theorem put_wfFrom (b : Byte) : ∀ (m : List Host.Cell) (lo a : Nat), lo ≤ a → Mem.wfFrom lo m = true → Mem.wfFrom lo (Mem.put m a b) = true
  | [], lo, a, ha, _ => by
    simp only [Mem.put]; split
    · rfl
    · rename_i hb; simp_all [Mem.wfFrom]
  | (k, v) :: t, lo, a, ha, hm => by
    simp only [Mem.wfFrom, Bool.and_eq_true, decide_eq_true_eq] at hm
    obtain ⟨⟨hk, hv⟩, ht⟩ := hm
    simp only [Mem.put]
    split
    · split
      · simp_all [Mem.wfFrom]
      · simp_all [Mem.wfFrom]
    · split
      · split
        · exact wfFrom_mono (by omega) ht
        · rename_i _ he hb; subst he; simp_all [Mem.wfFrom]
      · rename_i hlt hne
        simp only [Mem.wfFrom, Bool.and_eq_true, decide_eq_true_eq]
        exact ⟨⟨hk, hv⟩, put_wfFrom b t (k + 1) a (by omega) ht⟩

/-- Storing a byte keeps the canonical form. -/
theorem put_wf (m : List Host.Cell) (a : Nat) (b : Byte) (h : Memory.wf m = true) : Memory.wf (Mem.put m a b) = true :=
  put_wfFrom b m 0 a (Nat.zero_le a) h

/-- Storing a run of bytes keeps the canonical form. -/
theorem puts_wf (bs : Bytes) : ∀ (m : List Host.Cell) (a : Nat), Memory.wf m = true → Memory.wf (Mem.puts m a bs) = true := by
  induction bs with
  | nil => exact fun _ _ h => h
  | cons b t ih => exact fun m a h => ih _ _ (put_wf m a b h)

/-- Dropping entries keeps the canonical form. -/
theorem filter_wfFrom (f : Host.Cell → Bool) : ∀ (m : List Host.Cell) (lo : Nat), Mem.wfFrom lo m = true → Mem.wfFrom lo (m.filter f) = true
  | [], _, _ => rfl
  | (k, v) :: t, lo, hm => by
    simp only [Mem.wfFrom, Bool.and_eq_true, decide_eq_true_eq] at hm
    obtain ⟨⟨hk, hv⟩, ht⟩ := hm
    have ih := filter_wfFrom f t (k + 1) ht
    rw [List.filter_cons]
    split
    · simp_all [Mem.wfFrom]
    · exact wfFrom_mono (by omega) ih

/-- Forgetting a range keeps the canonical form. -/
theorem zero_wf (m : List Host.Cell) (a n : Nat) (h : Memory.wf m = true) : Memory.wf (Mem.zero m a n) = true :=
  filter_wfFrom _ m 0 h

/-- Below the bound nothing is listed. -/
theorem get_below : ∀ (m : List Host.Cell) (lo a : Nat), Mem.wfFrom lo m = true → a < lo → Mem.get m a = 0
  | [], _, _, _, _ => rfl
  | (k, v) :: t, lo, a, hm, ha => by
    simp only [Mem.wfFrom, Bool.and_eq_true, decide_eq_true_eq] at hm
    have hk : k ≠ a := by omega
    simp only [Mem.get, hk, if_false]
    exact get_below t (k + 1) a hm.2 (by omega)

/-- A read of the byte just stored gives it; every other byte reads as before. -/
theorem get_put_from (b : Byte) (c : Nat) : ∀ (m : List Host.Cell) (lo a : Nat), Mem.wfFrom lo m = true →
    Mem.get (Mem.put m a b) c = if a = c then b else Mem.get m c
  | [], _, a, _ => by
    by_cases hb : b = 0 <;> by_cases hc : a = c <;> simp_all [Mem.put, Mem.get]
  | (k, v) :: t, lo, a, hm => by
    simp only [Mem.wfFrom, Bool.and_eq_true, decide_eq_true_eq] at hm
    have low := get_below t (k + 1) c hm.2
    have ih := get_put_from b c t (k + 1) a hm.2
    simp only [Mem.put]
    split
    · by_cases hb : b = 0
      · by_cases hc : a = c
        · have : k ≠ c := by omega
          simp [hb, hc, Mem.get, this, low (by omega)]
        · simp [hb, hc]
      · rw [if_neg hb]; simp [Mem.get]
    · split
      · rename_i _ he; subst he
        by_cases hb : b = 0
        · by_cases hc : a = c
          · simp [hb, hc, low (by omega)]
          · simp [hb, hc, Mem.get]
        · rw [if_neg hb]; by_cases hc : a = c <;> simp [hc, Mem.get]
      · rename_i _ hne
        by_cases hk : k = c
        · have : a ≠ c := by omega
          simp [Mem.get, hk, this]
        · simp [Mem.get, hk, ih]

theorem get_put (m : List Host.Cell) (a : Nat) (b : Byte) (c : Nat) (h : Memory.wf m = true) :
    Mem.get (Mem.put m a b) c = if a = c then b else Mem.get m c := get_put_from b c m 0 a h

/-- A run of bytes is read back from where it was stored, and nothing else changes. -/
theorem get_puts (bs : Bytes) : ∀ (m : List Host.Cell) (a c : Nat), Memory.wf m = true →
    Mem.get (Mem.puts m a bs) c = if a ≤ c ∧ c < a + bs.length then bs.getD (c - a) 0 else Mem.get m c := by
  induction bs with
  | nil => intro m a c _; have : ¬ (a ≤ c ∧ c < a + ([] : Bytes).length) := by simp
           simp [Mem.puts]
  | cons b t ih =>
    intro m a c h
    rw [Mem.puts, ih _ _ _ (put_wf m a b h), get_put m a b c h]
    by_cases h1 : a = c
    · subst h1
      have h2 : ¬ (a + 1 ≤ a ∧ a < a + 1 + t.length) := by omega
      have h3 : a ≤ a ∧ a < a + (b :: t).length := by simp
      rw [if_neg h2, if_pos rfl, if_pos h3]; simp
    · by_cases h2 : a + 1 ≤ c ∧ c < a + 1 + t.length
      · have e : c - a = (c - (a + 1)) + 1 := by omega
        have h3 : a ≤ c ∧ c < a + (b :: t).length := by simp; omega
        rw [if_pos h2, if_pos h3, e]; rfl
      · have h3 : ¬ (a ≤ c ∧ c < a + (b :: t).length) := by simp; omega
        rw [if_neg h2, if_neg h1, if_neg h3]

/-- After reset the rick's cells have the canonical form. -/
theorem reset_wf : Memory.wf State.reset.rick.cells = true := rfl

end Sys2Proof.Machine
end

