-- ==== Sys2Proof/Laws/Requests.lean ====
section
/-! SUPPORT. How a request that passes its checks is served: the row of the dictionary that describes it, and what its WRITE comes
to. -/

namespace Sys2Proof.Machine
open Sys2Proof

/-- Once Mbomon has been entered a command has its effect, and what follows every command. -/
theorem ran_next {s t : State} (h : 2 ≤ s.sys.boot) : ran s t = .next (settle t) := by
  have : ¬ s.sys.boot < 2 := by omega
  simp [ran, this]

/-- The row that describes a sub-index of a paddock block, by offset. -/
def descPad (off sub : Nat) : Option Desc := (objsPaddock.filter (fun d => d.idx = off)).find? (fun d => d.tab || d.sub = sub)

theorem descsAt_pad {p off : Nat} (hp : p < 64) (ho : off < 256) :
    descsAt (pidx p off) = objsPaddock.filter (fun d => d.idx = off) := by
  have h1 : 0x4000 ≤ pidx p off := by simp only [pidx]; omega
  have h3 : pidx p off < 0x8000 := by simp only [pidx]; omega
  have h2 : pidx p off % 0x100 = off := by simp only [pidx]; omega
  simp [descsAt, h1, h2, h3]

theorem descOf_pad {p off : Nat} (sub : Nat) (hp : p < 64) (ho : off < 256) : descOf (pidx p off) sub = descPad off sub := by
  simp only [descOf, descsAt_pad hp ho, descPad]

/-- A description that answers for a sub-index stands in the dictionary. -/
theorem descsAt_ne {i sub : Nat} {d : Desc} (h : descOf i sub = some d) : (descsAt i).isEmpty = false := by
  cases hd : descsAt i with
  | nil => simp [descOf, hd] at h
  | cons _ _ => rfl

/-- A paddock's own offset and number, from an index of its block. -/
theorem pidx_split {p off : Nat} (hp : p < 64) (ho : off < 256) :
    0x4000 ≤ pidx p off ∧ (pidx p off - 0x4000) / 0x100 = p ∧ pidx p off % 0x100 = off := by
  simp only [pidx]; omega

/-- The path lets the request pass: the manager anywhere outside 0x8000 to 0x8FFF, a tenant in its own block (R72, R184). -/
theorem reachCode_manager {s : State} {via : Path} {r : Req} (h : roleOf s via = 1) (hi : r.index < 0x8000) :
    reachCode s via r = 0 := by
  cases via with
  | stile n => simp [roleOf] at h
  | udp k => have : ¬ 0x8000 ≤ r.index := by omega
             simp [reachCode, this]
  | _ => rfl

theorem reachCode_tenant {s : State} {p : PNum} {r : Req} (h : (pad s p.val).state ≠ .empty) (h' : (pad s p.val).state ≠ .faulted)
    (hlo : pidx p.val 0 ≤ r.index) (hhi : r.index < pidx p.val 0x100) : reachCode s (.stile p) r = 0 := by
  have : outsideBlock p.val r = false := by simp [outsideBlock]; omega
  simp [reachCode, this, h, h']

/-- The checks of a WRITE to a CMD object all pass. -/
theorem writeReq_passes {s : State} {via : Path} {tag : Tag} {i sub n : Nat} {d : Desc} {data : Bytes}
    (hb : s.sys.boot = 3) (hr : reachCode s via (writeReq tag i sub n) = 0) (hn : data.length = n)
    (hd : descOf i sub = some d) (ht : d.tab = false) (ha : d.acc ≠ .ro)
    (hw : meet d.writers (roleOf s via) ≠ 0) (hv : valueCode (writeReq tag i sub n) data = 0) (hl : n ≤ 1024) :
    requestCode s via (writeReq tag i sub n) data = 0 := by
  have h1 : headerCode (writeReq tag i sub n) data.length = 0 := by simp [headerCode, writeReq, hn, Nat.not_lt.mpr hl]
  have h2 : startCode s (writeReq tag i sub n) = 0 := by simp [startCode, hb]
  have h4 : placeCode s (writeReq tag i sub n) = 0 := by simp [placeCode, writeReq, descsAt_ne hd, hd, ht]
  have h5 : accessCode (writeReq tag i sub n) = 0 := by simp [accessCode, writeReq, hd, ha]
  have h6 : roleCode s via (writeReq tag i sub n) = 0 := by simp [roleCode, writeReq, hd, hw]
  have h7 : typeCode (writeReq tag i sub n) = 0 := by simp [typeCode, writeReq]
  simp [requestCode, firstCode, h1, h2, hr, h4, h5, h6, h7, hv]

/-- What the checks look at. -/
theorem requestCode_congr {s t : State} (h1 : s.obj = t.obj) (h2 : s.sys = t.sys) (h3 : s.tp = t.tp) (h4 : s.sec = t.sec)
    (h5 : s.pads = t.pads) (via : Path) (r : Req) (data : Bytes) : requestCode s via r data = requestCode t via r data := by
  cases s; cases t; simp only at h1 h2 h3 h4 h5; subst h1 h2 h3 h4 h5; cases via <;> rfl

/-- The value check of a WRITE to a number within its Range. -/
theorem valueCode_number {tag : Tag} {i sub n : Nat} {d : Desc} {data : Bytes} (hd : descOf i sub = some d) (ht : d.tab = false)
    (hy : d.ty ≠ 10 ∧ d.ty ≠ 12 ∧ d.ty ≠ 1 ∧ d.ty ≠ 9) (hs : d.size = n) (hn : data.length = n)
    (hr : d.lo ≤ beNat data ∧ beNat data ≤ d.hi ∧ d.mult ≤ 1) : valueCode (writeReq tag i sub n) data = 0 := by
  simp [valueCode, sizeAt, writeReq, hd, ht, hs, hn, hy, inRange, hr]

/-- The value check of a WRITE of a whole run of octets. -/
theorem valueCode_octets {tag : Tag} {i sub n : Nat} {d : Desc} {data : Bytes} (hd : descOf i sub = some d) (ht : d.tab = false)
    (hy : d.ty = 10 ∨ d.ty = 12) (hs : d.least ≤ n ∧ n ≤ d.size) (hn : data.length = n) :
    valueCode (writeReq tag i sub n) data = 0 := by
  have h1 : ¬ d.size < n := by omega
  have h2 : ¬ n < d.least := by omega
  rcases hy with h | h <;> simp [valueCode, sizeAt, writeReq, hd, ht, h, hn, h1, h2]

/-- A request that passes its checks is served now. -/
theorem serve_now {s : State} {via : Path} {r : Req} {data : Bytes} {f : Facts} {b : Boot} (hr : reaches s via = true)
    (hs : s.obj.serving = none) (hc : requestCode s via r data = 0) (ho : r.op = 2) :
    serve s via r data f b = serveWrite s via r data f b := by
  simp [serve, hr, hs, serveNow, hc, ho]

/-- What the WRITE of a CMD object of a paddock's block comes to. -/
theorem applyWrite_pad {s : State} {via : Path} {tag : Tag} {p off sub n : Nat} {d : Desc} {data : Bytes} {f : Facts} {b : Boot}
    (hp : p < 64) (ho : off < 256) (hd : descPad off sub = some d) (ha : d.acc = .cmd) (h2 : (paired s && secondHalf s) = false) :
    applyWrite s via (writeReq tag (pidx p off) sub n) data f b = padWrite s via tag p off sub data f := by
  have := pidx_split hp ho
  simp [applyWrite, writeReq, descOf_pad sub hp ho, hd, secondaryRefuses, h2, ha, this]

/-- What the WRITE of a CMD object outside the paddock blocks comes to. -/
theorem applyWrite_device {s : State} {via : Path} {tag : Tag} {i sub n : Nat} {d : Desc} {data : Bytes} {f : Facts} {b : Boot}
    (hi : i < 0x4000) (hd : descOf i sub = some d) (ha : d.acc = .cmd) (h2 : (paired s && secondHalf s) = false) :
    applyWrite s via (writeReq tag i sub n) data f b = deviceWrite s via tag i sub data f b := by
  have : ¬ 0x4000 ≤ i := by omega
  simp [applyWrite, writeReq, hd, secondaryRefuses, h2, ha, this]

/-- MGT has accepted a request. -/
def accepted (s : State) (via : Path) (tag : Tag) : State := { s with obj.serving := some (via, tag) }

/-- Answering what MGT accepted leaves the state it was accepted in. -/
theorem accepted_done (s : State) (via : Path) (tag : Tag) (h : s.obj.serving = none) :
    { accepted s via tag with obj.serving := none } = s := by
  cases s with
  | mk pe ou fr obj => cases obj; simp_all [accepted]

/-- The answer to what MGT accepted: none where it comes later. -/
def settled (via : Path) (r : Req) (n : Nat) : State × Option Nat → State
  | (t, none) => t
  | (t, some c) => answer { t with obj.serving := none } via r n c []

@[simp] theorem settled_none (via : Path) (r : Req) (n : Nat) (t : State) : settled via r n (t, none) = t := rfl
@[simp] theorem settled_some (via : Path) (r : Req) (n c : Nat) (t : State) :
    settled via r n (t, some c) = answer { t with obj.serving := none } via r n c [] := rfl

/-- A WRITE that passes its checks comes to its effect and its answer. -/
theorem serve_write {s : State} {via : Path} {r : Req} {data : Bytes} {f : Facts} {b : Boot} (hr : reaches s via = true)
    (hs : s.obj.serving = none) (hc : requestCode s via r data = 0) (ho : r.op = 2) :
    serve s via r data f b =
      settled via r data.length (applyWrite (if runsOn r then s else accepted s via r.tag) via r data f b) := by
  rw [serve_now hr hs hc ho]
  simp only [serveWrite, accepted]
  rcases applyWrite _ via r data f b with ⟨t, _ | c⟩ <;> rfl

/-- A WRITE of a CMD object of a paddock's block, by its manager or its tenant, comes to its command. -/
theorem serve_pad {s : State} {via : Path} {tag : Tag} {p : PNum} {off sub n : Nat} {d : Desc} {data : Bytes} {f : Facts} {b : Boot}
    (hq : ManagerAsks s via ∧ meet d.writers 1 ≠ 0 ∨ TenantAsks s p via ∧ meet d.writers 2 ≠ 0) (ho : off < 256)
    (hd : descPad off sub = some d) (ht : d.tab = false) (ha : d.acc = .cmd) (hn : data.length = n) (hl : n ≤ 1024)
    (hv : valueCode (writeReq tag (pidx p.val off) sub n) data = 0) :
    serve s via (writeReq tag (pidx p.val off) sub n) data f b =
      settled via (writeReq tag (pidx p.val off) sub n) n (padWrite (accepted s via tag) via tag p.val off sub data f) := by
  have hp := p.isLt
  have hx := pidx_split hp ho
  have hd' : descOf (pidx p.val off) sub = some d := (descOf_pad sub hp ho).trans hd
  have hs : Serves s via := by rcases hq with h | h <;> exact h.1.1
  obtain ⟨hb, hr, hse, h2⟩ := hs
  have hreach : reachCode s via (writeReq tag (pidx p.val off) sub n) = 0 := by
    rcases hq with h | h
    · exact reachCode_manager h.1.2 (by simp only [writeReq, pidx]; omega)
    · obtain ⟨⟨_, rfl, h1, h3⟩, _⟩ := h
      exact reachCode_tenant h1 h3 (by simp only [writeReq, pidx]; omega) (by simp only [writeReq, pidx]; omega)
  have hw : meet d.writers (roleOf s via) ≠ 0 := by
    rcases hq with h | h
    · rw [h.1.2]; exact h.2
    · obtain ⟨⟨_, rfl, _⟩, h⟩ := h; exact h
  have hrun : runsOn (writeReq tag (pidx p.val off) sub n) = false := by
    have h1 : pidx p.val off ≠ 0x1100 := by omega
    have h2 : pidx p.val off ≠ 0x1102 := by omega
    have h3 : pidx p.val off ≠ 0x1F00 := by omega
    simp [runsOn, writeReq, h1, h2, h3]
  rw [serve_now hr hse (writeReq_passes hb hreach hn hd' ht (by simp [ha]) hw hv hl) rfl]
  have h2' : (paired (accepted s via tag) && secondHalf (accepted s via tag)) = false := h2
  have hap := applyWrite_pad (s := accepted s via tag) (via := via) (tag := tag) (n := n) (data := data) (f := f) (b := b) hp ho hd ha h2'
  simp only [serveWrite, hrun, hn]
  simp only [accepted] at hap ⊢
  simp only [Bool.false_eq_true, if_false, writeReq] at hap ⊢
  rw [hap]
  rcases padWrite _ via tag p.val off sub data f with ⟨t, _ | c⟩ <;> rfl

/-- A WRITE of a CMD object outside the paddock blocks, by the manager, comes to its command; the command's start is the state as it
was where MGT serves on meanwhile. -/
theorem serve_device {s : State} {via : Path} {tag : Tag} {i sub n : Nat} {d : Desc} {data : Bytes} {f : Facts} {b : Boot}
    (hq : ManagerAsks s via) (hw : meet d.writers 1 ≠ 0) (hi : i < 0x4000)
    (hd : descOf i sub = some d) (ht : d.tab = false) (ha : d.acc = .cmd) (hn : data.length = n) (hl : n ≤ 1024)
    (hv : valueCode (writeReq tag i sub n) data = 0) :
    serve s via (writeReq tag i sub n) data f b =
      settled via (writeReq tag i sub n) n
        (deviceWrite (if runsOn (writeReq tag i sub n) then s else accepted s via tag) via tag i sub data f b) := by
  obtain ⟨⟨hb, hr, hse, h2⟩, hrole⟩ := hq
  have hreach : reachCode s via (writeReq tag i sub n) = 0 := reachCode_manager hrole (by simp only [writeReq]; omega)
  rw [serve_now hr hse (writeReq_passes hb hreach hn hd ht (by simp [ha]) (by rw [hrole]; exact hw) hv hl) rfl]
  have h2' : (paired (if runsOn (writeReq tag i sub n) then s else accepted s via tag) &&
      secondHalf (if runsOn (writeReq tag i sub n) then s else accepted s via tag)) = false := by split <;> exact h2
  have hap := applyWrite_device (via := via) (tag := tag) (n := n) (data := data) (f := f) (b := b) hi hd ha h2'
  simp only [serveWrite, hn]
  simp only [accepted, writeReq] at hap ⊢
  rw [hap]
  rcases deviceWrite _ via tag i sub data f b with ⟨t, _ | c⟩ <;> rfl

/-- A CMD object of n bytes that a role may write, holding a number. -/
def numCmd (d : Desc) (n role : Nat) : Bool :=
  !d.tab && d.acc = .cmd && d.ty ≠ 10 && d.ty ≠ 12 && d.ty ≠ 1 && d.ty ≠ 9 && d.size = n && n ≤ 1024 && d.mult ≤ 1 && meet d.writers role ≠ 0

/-- A CMD object that a role may write with n octets, or with a BOOL. -/
def octCmd (d : Desc) (n role : Nat) : Bool :=
  !d.tab && d.acc = .cmd && (d.ty = 10 || d.ty = 12) && d.least ≤ n && n ≤ d.size && n ≤ 1024 && meet d.writers role ≠ 0
def boolCmd (d : Desc) (role : Nat) : Bool :=
  !d.tab && d.acc = .cmd && d.ty = 1 && d.size = 1 && d.lo ≤ 1 && 1 ≤ d.hi && d.mult ≤ 1 && meet d.writers role ≠ 0

theorem valueCode_bool {tag : Tag} {i sub : Nat} {d : Desc} (hd : descOf i sub = some d) {role : Nat} (hk : boolCmd d role = true) :
    valueCode (writeReq tag i sub 1) [1] = 0 := by
  simp only [boolCmd, Bool.and_eq_true, decide_eq_true_eq, Bool.not_eq_true'] at hk
  obtain ⟨⟨⟨⟨⟨⟨⟨ht, ha⟩, hy⟩, hs⟩, hl⟩, hh⟩, hm⟩, hw⟩ := hk
  have h1 : beNat [1#8] = 1 := rfl
  simp [valueCode, sizeAt, writeReq, hd, ht, hs, hy, inRange, h1, hl, hh, hm]

theorem serve_device_num {s : State} {via : Path} {tag : Tag} {i sub n v : Nat} {d : Desc} {f : Facts} {b : Boot}
    (hq : ManagerAsks s via) (hi : i < 0x4000) (hd : descOf i sub = some d) (hk : numCmd d n 1 = true) (hv : v < 256 ^ n)
    (hr : d.lo ≤ v ∧ v ≤ d.hi) :
    serve s via (writeReq tag i sub n) (beBytes n v) f b = settled via (writeReq tag i sub n) n
      (deviceWrite (if runsOn (writeReq tag i sub n) then s else accepted s via tag) via tag i sub (beBytes n v) f b) := by
  simp only [numCmd, Bool.and_eq_true, decide_eq_true_eq, Bool.not_eq_true'] at hk
  obtain ⟨⟨⟨⟨⟨⟨⟨⟨⟨ht, ha⟩, h1⟩, h2⟩, h3⟩, h4⟩, hs⟩, hl⟩, hm⟩, hw⟩ := hk
  exact serve_device hq hw hi hd ht ha (beBytes_length n v) hl
    (valueCode_number hd ht ⟨h1, h2, h3, h4⟩ hs (beBytes_length n v) (by rw [beNat_beBytes hv]; exact ⟨hr.1, hr.2, hm⟩))

theorem serve_device_oct {s : State} {via : Path} {tag : Tag} {i sub : Nat} {d : Desc} {data : Bytes} {f : Facts} {b : Boot}
    (hq : ManagerAsks s via) (hi : i < 0x4000) (hd : descOf i sub = some d) (hk : octCmd d data.length 1 = true) :
    serve s via (writeReq tag i sub data.length) data f b = settled via (writeReq tag i sub data.length) data.length
      (deviceWrite (if runsOn (writeReq tag i sub data.length) then s else accepted s via tag) via tag i sub data f b) := by
  simp only [octCmd, Bool.and_eq_true, Bool.or_eq_true, decide_eq_true_eq, Bool.not_eq_true'] at hk
  obtain ⟨⟨⟨⟨⟨⟨ht, ha⟩, hy⟩, h1⟩, h2⟩, hl⟩, hw⟩ := hk
  exact serve_device hq hw hi hd ht ha rfl hl (valueCode_octets hd ht hy ⟨h1, h2⟩ rfl)

theorem serve_device_bool {s : State} {via : Path} {tag : Tag} {i sub : Nat} {d : Desc} {f : Facts} {b : Boot}
    (hq : ManagerAsks s via) (hi : i < 0x4000) (hd : descOf i sub = some d) (hk : boolCmd d 1 = true) :
    serve s via (writeReq tag i sub 1) [1] f b = settled via (writeReq tag i sub 1) 1
      (deviceWrite (if runsOn (writeReq tag i sub 1) then s else accepted s via tag) via tag i sub [1] f b) := by
  have hk' := hk
  simp only [boolCmd, Bool.and_eq_true, decide_eq_true_eq, Bool.not_eq_true'] at hk'
  obtain ⟨⟨⟨⟨⟨⟨⟨ht, ha⟩, _⟩, _⟩, _⟩, _⟩, _⟩, hw⟩ := hk'
  exact serve_device hq hw hi hd ht ha rfl (by decide) (valueCode_bool hd hk)

/-- Of a paddock's block, by the manager (role 1) or by its tenant (role 2). -/
theorem serve_pad_num {s : State} {via : Path} {tag : Tag} {p : PNum} {off sub n v : Nat} {d : Desc} {f : Facts} {b : Boot}
    (hq : ManagerAsks s via ∧ numCmd d n 1 = true ∨ TenantAsks s p via ∧ numCmd d n 2 = true) (ho : off < 256)
    (hd : descPad off sub = some d) (hv : v < 256 ^ n) (hr : d.lo ≤ v ∧ v ≤ d.hi) :
    serve s via (writeReq tag (pidx p.val off) sub n) (beBytes n v) f b = settled via (writeReq tag (pidx p.val off) sub n) n
      (padWrite (accepted s via tag) via tag p.val off sub (beBytes n v) f) := by
  have hq' : ManagerAsks s via ∧ meet d.writers 1 ≠ 0 ∨ TenantAsks s p via ∧ meet d.writers 2 ≠ 0 := by
    rcases hq with ⟨h, hk⟩ | ⟨h, hk⟩ <;> simp only [numCmd, Bool.and_eq_true, decide_eq_true_eq] at hk
    · exact .inl ⟨h, hk.2⟩
    · exact .inr ⟨h, hk.2⟩
  have hk : ∃ role, numCmd d n role = true := by rcases hq with h | h <;> exact ⟨_, h.2⟩
  obtain ⟨role, hk⟩ := hk
  simp only [numCmd, Bool.and_eq_true, decide_eq_true_eq, Bool.not_eq_true'] at hk
  obtain ⟨⟨⟨⟨⟨⟨⟨⟨⟨ht, ha⟩, h1⟩, h2⟩, h3⟩, h4⟩, hs⟩, hl⟩, hm⟩, hw⟩ := hk
  exact serve_pad hq' ho hd ht ha (beBytes_length n v) hl
    (valueCode_number ((descOf_pad sub p.isLt ho).trans hd) ht ⟨h1, h2, h3, h4⟩ hs (beBytes_length n v)
      (by rw [beNat_beBytes hv]; exact ⟨hr.1, hr.2, hm⟩))

theorem serve_pad_oct {s : State} {via : Path} {tag : Tag} {p : PNum} {off sub : Nat} {d : Desc} {data : Bytes} {f : Facts} {b : Boot}
    (hq : ManagerAsks s via ∧ octCmd d data.length 1 = true ∨ TenantAsks s p via ∧ octCmd d data.length 2 = true) (ho : off < 256)
    (hd : descPad off sub = some d) :
    serve s via (writeReq tag (pidx p.val off) sub data.length) data f b = settled via (writeReq tag (pidx p.val off) sub data.length)
      data.length (padWrite (accepted s via tag) via tag p.val off sub data f) := by
  have hq' : ManagerAsks s via ∧ meet d.writers 1 ≠ 0 ∨ TenantAsks s p via ∧ meet d.writers 2 ≠ 0 := by
    rcases hq with ⟨h, hk⟩ | ⟨h, hk⟩ <;> simp only [octCmd, Bool.and_eq_true, decide_eq_true_eq] at hk
    · exact .inl ⟨h, hk.2⟩
    · exact .inr ⟨h, hk.2⟩
  have hk : ∃ role, octCmd d data.length role = true := by rcases hq with h | h <;> exact ⟨_, h.2⟩
  obtain ⟨role, hk⟩ := hk
  simp only [octCmd, Bool.and_eq_true, Bool.or_eq_true, decide_eq_true_eq, Bool.not_eq_true'] at hk
  obtain ⟨⟨⟨⟨⟨⟨ht, ha⟩, hy⟩, h1⟩, h2⟩, hl⟩, hw⟩ := hk
  exact serve_pad hq' ho hd ht ha rfl hl (valueCode_octets ((descOf_pad sub p.isLt ho).trans hd) ht hy ⟨h1, h2⟩ rfl)

theorem serve_pad_bool {s : State} {via : Path} {tag : Tag} {p : PNum} {off sub : Nat} {d : Desc} {f : Facts} {b : Boot}
    (hq : ManagerAsks s via ∧ boolCmd d 1 = true ∨ TenantAsks s p via ∧ boolCmd d 2 = true) (ho : off < 256)
    (hd : descPad off sub = some d) :
    serve s via (writeReq tag (pidx p.val off) sub 1) [1] f b = settled via (writeReq tag (pidx p.val off) sub 1) 1
      (padWrite (accepted s via tag) via tag p.val off sub [1] f) := by
  have hq' : ManagerAsks s via ∧ meet d.writers 1 ≠ 0 ∨ TenantAsks s p via ∧ meet d.writers 2 ≠ 0 := by
    rcases hq with ⟨h, hk⟩ | ⟨h, hk⟩ <;> simp only [boolCmd, Bool.and_eq_true, decide_eq_true_eq] at hk
    · exact .inl ⟨h, hk.2⟩
    · exact .inr ⟨h, hk.2⟩
  have hk : ∃ role, boolCmd d role = true := by rcases hq with h | h <;> exact ⟨_, h.2⟩
  obtain ⟨role, hk⟩ := hk
  have hk' := hk
  simp only [boolCmd, Bool.and_eq_true, decide_eq_true_eq, Bool.not_eq_true'] at hk'
  obtain ⟨⟨⟨⟨⟨⟨⟨ht, ha⟩, _⟩, _⟩, _⟩, _⟩, _⟩, hw⟩ := hk'
  exact serve_pad hq' ho hd ht ha rfl (by decide) (valueCode_bool ((descOf_pad sub p.isLt ho).trans hd) hk)

/-- The answer to a request that only a look at its state decides. -/
theorem settled_accepted {s : State} {via : Path} {r : Req} {n c : Nat} {tag : Tag} (hs : s.obj.serving = none) (run : Bool) :
    settled via r n (if run then s else accepted s via tag, some c) = answer s via r n c [] := by
  cases run
  · simp only [Bool.false_eq_true, if_false, settled_some, accepted_done s via tag hs]
  · have : ({ s with obj.serving := none } : State) = s := accepted_done s via tag hs
    simp only [if_true, settled_some, this]

/-! ### Responses -/

/-- The fields of a response header. -/
theorem responseHeader_fields (op tag idx sub ty cvn st len : Nat) (ht : tag < 65536) (hs : st < 65536) (hl : len < 65536) :
   let h := (responseHeader op tag idx sub ty cvn st len).toNat
   hTag h = tag ∧ hProto h = 1 ∧ bits h 31 16 = st ∧ bits h 63 32 = cvn % 2^32 ∧ hLength h = len := by
  have e : (responseHeader op tag idx sub ty cvn st len).toNat =
     (((((((((1 * 2^4 + op % 2^4) * 2^8 + 0) * 2^16 + tag) * 2^16 + idx % 2^16) * 2^8 + sub % 2^8) * 2^8 + ty%2^8) * 2^32 + cvn % 2^32) * 2^16 + st) * 2^16 + len) := by
    simp only [responseHeader, pack, List.foldl, BitVec.toNat_ofNat]
    omega
  simp only [e, hTag, hProto, hLength, bits, Nat.shiftRight_eq_div_pow]
  refine ⟨?_, ?_, ?_, ?_, ?_⟩ <;> omega


theorem mem_msix_out (s : State) (fn v) (x) (h : x ∈ s.out) : x ∈ (msix s fn v).out := by
  simp only [msix]; split
  · exact List.mem_cons_of_mem _ h
  · cases fn <;> exact h
theorem mem_stileDone_out (s : State) (fn v) (x) (h : x ∈ s.out) : x ∈ (stileDone s fn v).out := by
  simp only [stileDone]; split
  · exact h
  · split
    · exact mem_msix_out _ _ _ _ (by cases fn <;> exact h)
    · cases fn <;> exact h
/-- A response goes out on its path. -/
theorem mem_sendResponse_out (s : State) (via : Path) (h b) : .response via h b ∈ (sendResponse s via h b).out := by
  have h0 : Out.response via h b ∈ (emit s (.response via h b)).out := by simp [emit]
  simp only [sendResponse]
  cases via
  case udp k =>
    simp only []
    split
    · exact h0
    · split <;> exact List.mem_cons_of_mem _ h0
  case mctp => exact h0
  case internal => exact h0
  all_goals
    simp only []
    split
    · exact mem_stileDone_out _ _ _ _ h0
    · exact h0


/-! ### Mailboxes -/

theorem func_updFunc (s : State) (fn : Fn) (f : Func → Func) : func (updFunc s fn f) fn = f (func s fn) := by
  cases fn <;> simp [func, updFunc]

/-- An MSI-X message changes of a function its pending bits alone. -/
theorem func_msix (s : State) (fn : Fn) (v : Nat) : { func (msix s fn v) fn with pba := (func s fn).pba } = func s fn := by
  simp only [msix]; split
  · cases fn <;> rfl
  · rw [func_updFunc]

/-- A response in a BUSY mailbox: DONE, one more served. -/
theorem func_stileDone {s : State} {fn : Fn} {resp : Bytes} (hr : (func s fn).inReset = false) (hs : (func s fn).stile = 1) :
    { func (stileDone s fn resp) fn with pba := (func s fn).pba } =
      { func s fn with stile := 2, served := ((func s fn).served + 1) % 256, response := resp } := by
  unfold stileDone
  rw [if_neg (by simp [hr, hs])]
  dsimp only
  split
  · have h := func_msix (updFunc s fn fun f => { f with stile := 2, served := (f.served + 1) % 256, response := resp }) fn 0
    rw [func_updFunc] at h
    exact h
  · rw [func_updFunc]

/-- The header of an answer to the request a header spells carries that header's TAG. -/
theorem answer_tag (hdr : BitVec 128) (op idx sub ty cvn st len : Nat) :
    hTag (responseHeader op (reqOf hdr).tag.toNat idx sub ty cvn st len).toNat = hTag hdr.toNat := by
  have ht := (reqOf hdr).tag.isLt
  have e : (responseHeader op (reqOf hdr).tag.toNat idx sub ty cvn st len).toNat =
      ((((((((1 * 2 ^ 4 + op % 2 ^ 4) * 2 ^ 8 + 0) * 2 ^ 16 + (reqOf hdr).tag.toNat) * 2 ^ 16 + idx % 2 ^ 16) * 2 ^ 8 + sub % 2 ^ 8) * 2 ^ 8 +
        ty % 2 ^ 8) * 2 ^ 32 + cvn % 2 ^ 32) * 2 ^ 16 + st % 2 ^ 16) * 2 ^ 16 + len % 2 ^ 16 := by
    simp only [responseHeader, pack, List.foldl, BitVec.toNat_ofNat]; omega
  have e2 : (reqOf hdr).tag.toNat = hTag hdr.toNat := by
    simp only [reqOf, hTag, bits, BitVec.toNat_ofNat]
    omega
  rw [← e2]
  simp only [hTag, bits, Nat.shiftRight_eq_div_pow, e]
  omega

/-- The answer to the request that a BUSY Stile holds. -/
theorem func_answer_stile {s : State} {n : PNum} {hdr : BitVec 128} {m c : Nat} {data : Bytes} (hr : (func s (some n)).inReset = false)
    (hs : (func s (some n)).stile = 1) (hq : (func s (some n)).request.take 16 = beBytes 16 hdr.toNat) :
    ∃ resp, { func (answer s (.stile n) (reqOf hdr) m c data) (some n) with pba := (func s (some n)).pba } =
      { func s (some n) with stile := 2, served := ((func s (some n)).served + 1) % 256, response := resp } := by
  have hh : hdr.toNat < 256 ^ 16 := by have := hdr.isLt; omega
  let h := responseHeader (reqOf hdr).op (reqOf hdr).tag.toNat (reqOf hdr).index (reqOf hdr).sub (answerType s (.stile n) (reqOf hdr) m)
    s.obj.cvn c data.length
  refine ⟨beBytes 16 h.toNat ++ data, ?_⟩
  have e : answer s (.stile n) (reqOf hdr) m c data =
      stileDone (emit s (.response (.stile n) h data)) (some n) (beBytes 16 h.toNat ++ data) := by
    show (if _ then _ else _) = _
    rw [if_pos]
    have : beNat ((func (emit s (.response (.stile n) h data)) (some n)).request.take 16) = hdr.toNat :=
      (congrArg beNat hq).trans (beNat_beBytes hh)
    exact (congrArg hTag this).trans (answer_tag hdr _ _ _ _ _ _ _).symm
  rw [e]
  exact func_stileDone (s := emit s _) hr hs

end Sys2Proof.Machine
end

