-- ==== Sys2Proof/WellFormed.lean ====
section
/-! DEFINITION. What a command's operands must satisfy beyond their types: the sizes the manual gives messages, packets,
flits and manifests. -/

namespace Sys2Proof

/-- At most 1,024 bytes follow a request header (R73, *Object access limits*). -/
def Instr.payloadOk (b : Bytes) : Bool := b.length ≤ 1024

/-- A Beluth packet carries at most 4,096 bytes of payload (R218). -/
def Packet.wf (p : Packet) : Bool := p.payload.length ≤ 4096

/-- A command's operands have the sizes the manual gives them. -/
def Instr.wf : Instr → Bool
  | .objectWrite _ _ b _ | .udpDatagram _ _ _ b _ _ _ | .mctpMessage _ _ _ b _ | .stileGo _ _ _ b _ => payloadOk b
  | .ptWrite _ _ _ b | .keyInstall _ _ b _ | .paddockKeyInstall _ _ _ b _ | .anchorSet _ _ b _
  | .secureErase _ _ b _ | .udpSessionOpen _ _ b _ | .sealGrant _ _ _ b _ | .fwData _ _ b => payloadOk b
  | .dataPacket _ k | .commitPacket _ k | .ackPacket _ k | .nakPacket _ k | .readReq _ k | .readResp _ k
  | .atomicReq _ k | .atomicResp _ k | .abort _ k | .abortAck _ k | .commitAck _ k | .abandon _ k | .grant _ k
  | .timeReq _ k | .timeResp _ k => k.wf
  | .dataFrame _ _ b _ => b.length ≤ 4144
  | .headerFlit _ b => b.length % 256 == 0 && 256 ≤ b.length && b.length ≤ 256 * 113
  | .tpWrite _ _ b | .readData _ _ b => b.length ≤ 4096
  | .manifest _ _ w => w.length ≤ 129
  | .breach _ _ w => w.length ≤ 129
  | .hostCompletion _ _ _ b _ _ => b.length ≤ 4128
  | .meterTick e => e.length == 4
  | .paddockFault ps _ => !ps.isEmpty
  | _ => true

end Sys2Proof
end

