-- ==== Sys2Proof/Tests/Slice0.lean ====
section
/-! SUPPORT. Tests: operands of a wrong size, the manual's worked examples, and for every statement of the obligations concrete states and
operands that meet its hypotheses (witness_<statement>, each conjunct one clause of it). -/

namespace Sys2Proof.Tests
open Sys2Proof.Machine
set_option Elab.async false

/-! ### States the tests use -/

/-- A device that is up. -/
def dev : Machine.State := { State.reset with sys.boot := 3, sec.st := 1, com.zeroising := [] }

/-- Page-table entries of paddock 2: addresses below 2^30 map to granules 4 to 7, readable and writable. -/
def tables (s : Machine.State) : Machine.State :=
  rickWrite (rickWrite (rickWrite s 0 0x80000000 (beBytes 8 (2 ^ 63 + 0x80001000))) 0 0x80001000 (beBytes 8 (2 ^ 63 + 0x80002000)))
    0 0x80002000 (beBytes 8 (2 ^ 63 + 2 ^ 62 + 2 ^ 53 + 2 ^ 52 + 0x40000000))

def queue3 : Queue := { any := false, ctx := 1, sqLog := 4, cqLog := 4, vector := 0, sqBase := 0x100000, cqBase := 0x200000 }
def ctx1 : Ctx := { area := 0x4000, st := .running, slot := some 0 }

/-- Paddock 2 is OPEN with granules 4 to 8, context 1 in slot 0 and queue 3. -/
def pad2 : Paddock := { (default : Paddock) with
  state := .opened, granules := 0x1F0, tussocks := 0xFF00, links := 3, bundles := 0xFF, tag := 7, slots := 4, queuesHeld := 4, qp := 16,
  ctxs := [(1, ctx1)], queues := [(3, queue3)] }

/-- The device with paddock 2. -/
def run : Machine.State := tables { dev with pads := [(2, pad2)], obj.committed := [(okey (pidx 2 0x40) 1, 0x80000000)] }

/-- Change paddock 2. -/
def in2 (s : Machine.State) (f : Paddock → Paddock) : Machine.State := updPad s 2 f

/-- A request header. -/
def rq (op idx sub len : Nat) : BitVec 128 :=
  BitVec.ofNat 128 (pack [(4, 1), (4, op), (8, 0), (16, 0x55), (16, idx), (8, sub), (8, 0), (32, 0), (16, 0), (16, len)])

/-- The same device inside a unit, as its secondary half. -/
def second : Machine.State := { dev with pair.st := 2, obj.committed := [(okey 0x2000 1, 2)] }

/-- An unsigned image of no record, with its CRC. -/
def image : Bytes :=
  let h := beBytes 64 (0x44434647 * 2 ^ 480 + 1 * 2 ^ 464 + 68 * 2 ^ 416 + blockVersion * 2 ^ 384)
  h ++ beBytes 4 (crc32c h).toNat

def staged : Machine.State := { dev with obj.live := [(okey 0x1102 1, 68), (okey 0x1103 0, 1), (okey 0x1103 1, beNat (image ++ List.replicate 956 0))] }

def version5 : Version := { cvn := 5, source := 1, status := 1, from_ := 0, check := 0, time := 0, path := 0, values := [] }

def op9 : ConfOp := { values := [], source := 1, from_ := 0, cvn := 9, path := .pf, tag := 1, obj := 0x110008, changed := [], made := 0, check := 0 }

/-- The committed values of a paddock 2 that claims little. -/
def cfg2 : Tbl Nat := [(okey (pidx 2 0) 6, 9)] ++
  [(1, 0xFF), (2, 3), (4, 1), (5, 1), (9, 1), (10, 1), (11, 1), (12, 1)].map (fun e => (okey (pidx 2 0x10) e.1, e.2))

/-- A command of paddock 2, queue 3, context 1. -/
def cmd (op args : Nat) : Cmd := { p := 2, q := 3, entry := 0, desc := op * 2 ^ 504 + 1 * 2 ^ 484 + args, ctx := 1, epoch := 0, order := 0 }

/-- The arguments of a descriptor. -/
def args (l : List Nat) : Nat := pack [(64, l.getD 0 0), (64, l.getD 1 0), (64, l.getD 2 0), (64, l.getD 3 0), (64, l.getD 4 0), (64, l.getD 5 0)]

/-- Command 7 is live. -/
def live (op a : Nat) : Machine.State := { run with cmd.live := [(7, cmd op a)], cmd.nextCmd := 8 }

/-- The argument of a QUEUE_CREATE of queue 5 and of a CONTEXT_DEFINE of context 9. -/
def qarg : BitVec 256 := BitVec.ofNat 256 (5 * 2 ^ 250 + 1 * 2 ^ 236 + 4 * 2 ^ 231 + 16 * 2 ^ 226 + 0x300000 * 2 ^ 128 + 0x400000 * 2 ^ 64)
def carg : BitVec 128 := BitVec.ofNat 128 (9 * 2 ^ 116 + 0x8000)

/-- The device with paddock 2 in a state. -/
def at2 (st : PState) : Machine.State := in2 run (fun d => { d with state := st })

/-- Some page of 1 GiB is free wherever the firmware's choice begins. -/
theorem pick_one (s : Machine.State) (p q : Nat) (hq : q < 32) (hf : pageFree s p (q * 2 ^ 30) (2 ^ 30) = true) :
    ∃ pages, pickPages s p (2 ^ 30) (2 ^ 30) = some pages := by
  have hc : rickSize / 2 ^ 30 = 32 := by decide
  have h1 : 2 ^ 30 / 2 ^ 30 = 1 := by decide
  unfold pickPages
  simp only [hc, h1]
  generalize Config.freeChoice s.fresh = k
  have hm : q * 2 ^ 30 ∈ ((List.range 32).map (fun i => (k + i) % 32 * 2 ^ 30)).filter (fun a => pageFree s p a (2 ^ 30)) := by
    rw [List.mem_filter]
    refine ⟨List.mem_map.mpr ⟨(q + 32 - k % 32) % 32, by simp; omega, ?_⟩, hf⟩
    have : (k + (q + 32 - k % 32) % 32) % 32 = q := by omega
    rw [this]
  cases h : ((List.range 32).map (fun i => (k + i) % 32 * 2 ^ 30)).filter (fun a => pageFree s p a (2 ^ 30)) with
  | nil => rw [h] at hm; cases hm
  | cons x l => exact ⟨[x], by simp⟩

/-- Command 7 has started. -/
def liveIn (op a : Nat) : Machine.State := { run with cmd.live := [(7, { cmd op a with phase := .started })], cmd.nextCmd := 8 }

def alloc1 : Machine.State := in2 (liveIn 0xA0 (args [2 ^ 30, 3])) (fun d => { d with granules := 0xFF0, window := (2 ^ 40, 2 ^ 30) })

/-- A transaction of command 7 is out under tag 5. -/
def tpo (kind : Nat) : TpOut := { p := 2, ctx := 1, epoch := 0, kind := kind, cmd := 7, lot := 0x10, off := 0, len := 4, req := 0, module_ := 3 }
def outTp (kind : Nat) : Machine.State := { liveIn 0x2C 0 with tp.outst := [(5, tpo kind)] }
def tph (kind status : Nat) : BitVec 256 := BitVec.ofNat 256 (kind * 2 ^ 252 + 2 * 2 ^ 246 + 5 * 2 ^ 224 + 1 * 2 ^ 204 + status * 2 ^ 64)

/-- A manifest entry of lot 0x10 of die 4; paddock 2 holds the lot, and module 3 reaches the die. -/
def lot16 : Nat := 0x10 * 2 ^ 224 + 4 * 2 ^ 220 + 1 * 2 ^ 216 + 8 * 2 ^ 192 + 2 ^ 20 * 2 ^ 32
def lots : Machine.State := { in2 run (fun d => { d with lots := [0x10] }) with
  tp.manifests := [(4, { header := 0, entries := [lot16] })], tp.modules := [(3, { up := true, die := some 4 })] }

/-- FENCE waits for die 4 with table generation 1. -/
def fencing (cmd stage : Nat) (tables fences : List Nat) : Machine.State := in2 lots (fun d => { d with
  state := .empty, pend := some { cmd := cmd, stage := stage, tables := tables, fences := fences, gen := 1, accepted := 0 } })

/-- A sideband header: type, action, words, argument. -/
def sb (type action words arg : Nat) : BitVec 128 :=
  BitVec.ofNat 128 (type * 2 ^ 120 + 2 * 2 ^ 114 + action * 2 ^ 112 + 1 * 2 ^ 96 + 4 * 2 ^ 92 + words * 2 ^ 80 + arg)

def zeros (n : Nat) : Bytes := List.replicate n 0
def flit0 : Bytes := beBytes 32 (1 * 2 ^ 252 + 0x4e5b016d) ++ zeros 224

theorem crc_zeros (x y : BitVec 32) (bs : Bytes) (h : (zeros 64).foldl crcByte x = y) :
    (zeros 64 ++ bs).foldl crcByte x = bs.foldl crcByte y := by rw [List.foldl_append, h]

theorem test_crc_flit : crc32c (beBytes 32 (1 * 2 ^ 252) ++ zeros 224) = 0x4e5b016d#32 := by
  have e : beBytes 32 (1 * 2 ^ 252) ++ zeros 224 = (beBytes 32 (1 * 2 ^ 252) ++ zeros 32) ++ (zeros 64 ++ (zeros 64 ++ (zeros 64 ++ []))) := by
    decide +kernel
  have h : (beBytes 32 (1 * 2 ^ 252) ++ zeros 32).foldl crcByte 0xFFFFFFFF#32 = 0xa55ca46f#32 := by decide +kernel
  rw [crc32c, e, List.foldl_append, h, crc_zeros _ 0x729d4722#32 _ (by decide +kernel), crc_zeros _ 0x28da5725#32 _ (by decide +kernel),
    crc_zeros _ 0xb1a4fe92#32 _ (by decide +kernel)]
  decide

theorem test_crc_zeros : crc32c (zeros 256) = 0xb872b190#32 := by
  have e : zeros 256 = zeros 64 ++ (zeros 64 ++ (zeros 64 ++ (zeros 64 ++ []))) := by decide +kernel
  rw [crc32c, e, crc_zeros _ 0xfc371498#32 _ (by decide +kernel), crc_zeros _ 0xf7d89b24#32 _ (by decide +kernel),
    crc_zeros _ 0x8bca87cf#32 _ (by decide +kernel), crc_zeros _ 0x478d4e6f#32 _ (by decide +kernel)]
  decide

def mani : List (BitVec 128) := [BitVec.ofNat 128 (4 * 2 ^ 84 + 1 * 2 ^ 80 + 1 * 2 ^ 72), BitVec.ofNat 128 (lot16 / 2 ^ 128), BitVec.ofNat 128 lot16]

/-- A host read of command 7 is out under tag 5, and VF 2 may read. -/
def hostRead : HostOut := { p := 2, ctx := 1, epoch := 0, cmd := 7, req := 0, addr := 0x1000, len := 4 }
def hosted : Machine.State := { liveIn 0x20 0 with
  host.outst := [(5, hostRead)], host.vfs := [(2, { (default : Func) with enabled := true, master := true, pba := [3], unmasked := [] })] }

def qpn1 : Nat := 2 * 2 ^ 18 + 1
def path0 : QPath := { link := 0, tx := 4, rate := 1, rxBase := 0 }
def q1 : Qp := { type := 1, st := 2, node := 5, peer := 0x123, resident := true, paths := [path0] }

/-- Paddock 2 with a READY QP and its link key. -/
def net (s : Machine.State) (q : Qp) : Machine.State := { s with net.qps := [(qpn1, q)], net.linkKeys := [(7, { cur := some 4 })] }

/-- A packet to that QP. -/
def pk (type msg psn addr : Nat) (commit : Bool) (payload : Bytes) : Packet :=
  { hdr := BitVec.ofNat 256 (pack [(4, 1), (4, type), (1, 0), (1, b2n commit), (2, 0), (13, 0), (13, 5), (16, 7), (24, qpn1), (24, 0x123), (4, 0), (8, 0),
      (12, msg), (32, psn), (57, addr), (13, payload.length), (24, 0), (4, 0)]), payload := payload, key := 4, intact := true }

/-- What the receive check leaves. -/
def rcv (s : Machine.State) (type : Nat) (k : Packet) : Machine.State := (receive s (some 0) k type).1
def got (s : Machine.State) (type : Nat) (k : Packet) : Bool := decide (2 ≤ s.sys.boot) && decide ((receive s (some 0) k type).2 = some (2, qpn1))

def qcarg (n : Nat) : BitVec 128 := BitVec.ofNat 128 (n * 2 ^ 104 + 1 * 2 ^ 100 + 1 * 2 ^ 88 + 3 * 2 ^ 82)
def qmarg (mtu paths : Nat) : BitVec 256 :=
  BitVec.ofNat 256 (qpn1 * 2 ^ 232 + mtu * 2 ^ 224 + 5 * 2 ^ 211 + 0x123 * 2 ^ 187 + paths * 2 ^ 183)
def backed (s : Machine.State) : Machine.State := { s with
  obj.committed := Tbl.set (Tbl.set s.obj.committed (okey (pidx 2 0x52) 6) 0x10000) (okey (pidx 2 0x52) 7) 2 }

def txm (kind : Nat) : TxMsg := { msg := 9, epoch := 0, cmd := some 7, kind := kind, entries := [], last := (0, []), sealed_ := true, bytes := 32 }
def rxm : RxMsg := { msg := 9, epoch := 0, placed := [(.rick 0x40000500 0, [1, 2, 3, 4])], psns := [(0, 0)], bytes := 4 }

/-- A link in a state. -/
def lnk (st : LState) (f : Link → Link) : Machine.State := { run with net.links := [(1, f { st := st })] }
def frame (kind vc seq len : Nat) (ack : Bool) : BitVec 64 :=
  BitVec.ofNat 64 (kind * 2 ^ 60 + vc * 2 ^ 57 + 5 * 2 ^ 50 + seq * 2 ^ 34 + b2n ack * 2 ^ 17 + len * 2 ^ 4)
def ctl (kind arg : Nat) : BitVec 128 := BitVec.ofNat 128 (kind * 2 ^ 120 + arg)

/-- Time on link 1: the key is there, and node 3 is a peer. -/
def timed (st : Nat) (p : TimePeer) : Machine.State := { lnk .up id with
  ftm.key := { cur := some 4 }, ftm.st := st, ftm.peers := [(3, p)], obj.committed := [(okey 0x1701 0, 1), (okey 0x1701 1, 3)] }
def tpk (kind : Nat) : Packet := { hdr := BitVec.ofNat 256 (3 * 2 ^ 218), payload := beBytes 48 (kind * 2 ^ 380 + 2 * 2 ^ 376 + 6 * 2 ^ 352), key := 4, intact := true }
def peer6 : TimePeer := { seq := 6, st := 2 }

/-- A staged swathe table without entries. -/
def swImage : Bytes :=
  let h := beBytes 32 (0x53575448 * 2 ^ 224 + 1 * 2 ^ 208 + 10000 * 2 ^ 160 + 20 * 2 ^ 144 + 1000000)
  h ++ beBytes 4 (crc32c h).toNat
def swStaged : Machine.State := { dev with ftm.st := 2, obj.live := [(okey 0x1700 0x13, 36), (okey 0x1702 0, 1), (okey 0x1702 1, beNat (swImage ++ List.replicate 988 0))] }
def table1 : Swathes := { cycle := 10000, guard_ := 20, epoch := 0, switch := 1000000, entries := [2 ^ 126 + 5 * 2 ^ 120], digest := 0 }


/-! Where ranges resolve, a command goes on with what they give. -/

theorem withBytes_ok {s v : Machine.State} {id va n : Nat} {c : Cmd} {b : Bytes} (h : gather s id c.p va n = (v, .bytes b))
    (f : Machine.State → Bytes → Machine.State) : withBytes s id c va n f = f v b := by
  unfold withBytes; rw [h]

theorem withDest_ok {s : Machine.State} {id va n : Nat} {c : Cmd} {pls : List (Place × Nat)}
    (h : accessAll s c.p va n true = .ok pls)
    (hh : (pls.filterMap (fun e => match e.1 with | .host a => some (a, e.2) | _ => none)).isEmpty = true)
    (f : Machine.State → List (Place × Nat) → Machine.State) : withDest s id c va n f = f s pls := by
  unfold withDest; rw [h]; exact if_pos hh

theorem withDests_one {s : Machine.State} {id va n p : Nat} {c : Cmd} {pls : List (Place × Nat)} (hp : c.p = p)
    (h : accessAll s p va n true = .ok pls)
    (hh : (pls.filterMap (fun e => match e.1 with | .host a => some (a, e.2) | _ => none)).isEmpty = true)
    (f : Machine.State → Machine.State) : withDests s id c [(va, n)] f = f (holdDest s id pls) := by
  subst hp; rw [withDests, withDest_ok h hh]; rfl

theorem withRanges_one {s v : Machine.State} {id va n p : Nat} {c : Cmd} {b : Bytes} (hp : c.p = p)
    (h : gather s id p va n = (v, .bytes b)) (f : Machine.State → Machine.State) : withRanges s id c [(va, n)] f = f v := by
  subst hp; unfold withRanges; simp only [List.foldl, h]

theorem gather_split {s : Machine.State} {id p va n : Nat} {b : Bytes} (h : (gather s id p va n).2 = .bytes b) :
    gather s id p va n = ((gather s id p va n).1, .bytes b) := by rw [← h]

/-- A program of one CONVERT over one element at 0x2000, at 0x1000. -/
def progHead : Nat := 0x53575250 * 2 ^ 480 + 1 * 2 ^ 464 + 1 * 2 ^ 460 + 1 * 2 ^ 449
def progBody : Bytes := beBytes 32 (0x2000 * 2 ^ 192 + 1 * 2 ^ 160 + 1 * 2 ^ 128 + 6 * 2 ^ 27) ++ beBytes 16 (2 * 2 ^ 122 + 15 * 2 ^ 110 + 15 * 2 ^ 106)
def prog1 : Program := programOf progHead progBody
def sward (f : Cmd → Cmd) : Machine.State :=
  rickWrite (updCmd (liveIn 0x50 (args [0x1000])) 7 f) 0 0x40001000 (beBytes 64 progHead ++ progBody)
def swcmd : Cmd := { cmd 0x50 (args [0x1000]) with phase := .started }
def sw1 : Machine.State := (gather (sward id) 7 2 0x1000 64).1
def sw2 : Machine.State := (gather sw1 7 2 0x1040 48).1
def run1 : Run := { opened := [(0, 0, 0, 8)], tile := 1 }
def pls2000 : List (Place × Nat) := [(.rick 0x40002000 0, 1)]

theorem wit_places (s : Machine.State) (h : (accessAll s 2 0x2000 1 true).toOption = some pls2000) :
    accessAll s 2 0x2000 1 true = .ok pls2000 := by
  cases e : accessAll s 2 0x2000 1 true with
  | ok x => rw [e] at h; exact congrArg _ (Option.some.inj h)
  | error x => rw [e] at h; cases h

theorem places_ok {s : Machine.State} {p va n : Nat} {w : Bool} {pls : List (Place × Nat)}
    (h : (accessAll s p va n w).toOption = some pls) : accessAll s p va n w = .ok pls := by
  cases e : accessAll s p va n w with
  | ok x => rw [e] at h; exact congrArg _ (Option.some.inj h)
  | error x => rw [e] at h; cases h

def noHost (pls : List (Place × Nat)) : Bool :=
  (pls.filterMap (fun e => match e.1 with | .host a => some (a, e.2) | _ => none)).isEmpty

theorem dest_ok {s : Machine.State} {id p va n : Nat} {c : Cmd} {pls : List (Place × Nat)} (hp : c.p = p)
    (h : (accessAll s p va n true).toOption = some pls) (hh : noHost pls = true)
    (f : Machine.State → List (Place × Nat) → Machine.State) : withDest s id c va n f = f s pls := by
  subst hp; exact withDest_ok (places_ok h) hh f

theorem withMoe_ok {s v1 v : Machine.State} {id : Nat} {c : Cmd} {db rb : Bytes} (hb : s.pow.brake = none)
    (h1 : (List.range 5).any (fun k => dArg c.desc (k + 1) ≠ 0) = false) (h2 : noTussock s c.p = 0) (h3 : dArg c.desc 0 % 64 = 0)
    (g1 : gather s id c.p (dArg c.desc 0) 64 = (v1, .bytes db)) (hm : moeBad (beNat db) = false)
    (g2 : gather v1 id c.p (moRoute (beNat db)) (16 * moExperts (beNat db)) = (v, .bytes rb))
    (hr : (numsOf 16 rb).any routeBad = false) (f : Machine.State → Nat → List Nat → Machine.State) :
    withMoe s id c f = f v (beNat db) (numsOf 16 rb) := by
  unfold withMoe
  rw [if_neg (by rw [hb]; decide), if_neg (by rw [h1]; decide), if_neg (by omega), if_neg (by omega), withBytes_ok g1]
  simp only []
  rw [if_neg (by rw [hm]; decide), withBytes_ok g2, if_neg (by rw [hr]; decide)]

/-- A CONVERT slot of rows of four elements. -/
def slot4 : Nat := 2 ^ 511 + 2 * 2 ^ 508 + 6 * 2 ^ 503 + 6 * 2 ^ 493 + 4 * 2 ^ 464 + 4 * 2 ^ 448
/-- A MoE descriptor of one token, one expert and 32 columns, with its route at 0x2200. -/
def moe1 : Nat := 0x2000 * 2 ^ 448 + 0x2100 * 2 ^ 384 + 0x2200 * 2 ^ 320 + 0x2300 * 2 ^ 256 + 0x2400 * 2 ^ 192 + 0x2500 * 2 ^ 128 + 1 * 2 ^ 112 +
  32 * 2 ^ 96 + 0xE * 2 ^ 80 + 0xE * 2 ^ 75 + 0xE * 2 ^ 70 + 0x1F * 2 ^ 61
/-- One row of a roster, without pages. -/
def row1 : Nat := 2 ^ 479 + 1 * 2 ^ 464 + 1 * 2 ^ 456 + 0xE * 2 ^ 449 + 0xE * 2 ^ 444 + 0xE * 2 ^ 439 + 0x2700 * 2 ^ 256 + 0x2800 * 2 ^ 192
def group0 : Group := { num := 1, self := 0, members := [0, 0], qpBase := 0, links := [0], slots := 1, box := 0, nextInst := 1, insts := [{ num := 0 }] }
/-- Command 7 has started, with what it works on. -/
def xf (c : Cmd) : Machine.State :=
  let s := rickWrite { net run q1 with cmd.live := [(7, c)], cmd.nextCmd := 8, sheaf.groups := [(groupKey 2 1, group0)] } 0 0x40001000 (beBytes 64 moe1)
  let s := rickWrite s 0 0x40002200 (beBytes 16 (2 ^ 103 + 4 * 2 ^ 80 + 0x2600))
  let s := rickWrite s 0 0x40002300 (beBytes 8 (2 ^ 55 + 0x3F800000))
  setP (setP (rickWrite s 0 0x40003000 (beBytes 64 row1)) 2 0x60 6 1) 2 0x60 4 0x3000
def xcmd (op : Nat) (a : List Nat) : Cmd := { cmd op (args a) with phase := .started, slot := some slot4 }
def started (c : Cmd) : Cmd := { c with phase := .started }
def got7 (s : Machine.State) (va n : Nat) : Machine.State := (gather s 7 2 va n).1
def xw : Cmd := xcmd 0x51 [0x2000, 4, 0x3000, qpn1]
def xc : Cmd := xcmd 0x52 [0x2000, 4, 0x3000]
def md : Cmd := xcmd 0x58 [0x1000]
def mc : Cmd := xcmd 0x59 [0x1000]
def rs : Cmd := { xcmd 0x60 [0, 1] with inst := some (1, 0) }
def mv (c : Cmd) : Machine.State := got7 (got7 (xf c) 0x1000 64) 0x2200 16
def route1 : Nat := 2 ^ 103 + 4 * 2 ^ 80 + 0x2600
def pl (a n : Nat) : List (Place × Nat) := [(.rick (0x40000000 + a) 0, n)]

/-- A collective of group 1 of paddock 2, of eight bytes at 0x2000 to 0x3000. -/
def coll (op root : Nat) : Cmd := { started (cmd op (args [0x2000, 8, 0x3000, 1, 198 + root * 2 ^ 20])) with inst := some (1, 0) }
def collS (c : Cmd) (i : Inst) : Machine.State :=
  { liveIn 0x80 0 with cmd.live := [(7, c)], sheaf.groups := [(groupKey 2 1, { group0 with insts := [i] })] }
def inst0 : Inst := { num := 0 }
/-- The bytes that a collective writes at this member. -/
def destOf (op : Nat) : Option (Nat × Nat) :=
  (collDest group0 (workOf group0 (coll op 0).desc 0) (coll op 0).desc).map (fun e =>
    (e.1, (e.2.map (workOf group0 (coll op 0).desc 0).pieceLen).foldl (· + ·) 0 * (workOf group0 (coll op 0).desc 0).outBytes))
/-- A group that GROUP_CREATE asks for: this paddock, and paddock 3 of node 5. -/
def gcHead : Nat := 2 * 2 ^ 240 + 2 * 2 ^ 227 + 1 * 2 ^ 188
def gcMembers : Bytes := beBytes 8 (2 * 2 ^ 45) ++ beBytes 8 (5 * 2 ^ 51 + 3 * 2 ^ 45)
def gcCmd : Cmd := started (cmd 0x90 (args [0x1000]))
def gcS : Machine.State :=
  rickWrite (in2 (backed { liveIn 0x90 0 with cmd.live := [(7, gcCmd)] }) (fun d => { d with sheaf := 4 })) 0 0x40001000 (beBytes 32 gcHead ++ gcMembers)
def gdCmd : Cmd := started (cmd 0x91 (args [1]))
def gdS (l : List Inst) : Machine.State :=
  { liveIn 0x91 0 with cmd.live := [(7, gdCmd)], sheaf.groups := [(groupKey 2 1, { group0 with insts := l })] }

/-- A PT_WRITE entry for level 2, and its payload. -/
def pte2 (va : Nat) : Nat := va * 2 ^ 71 + 2 * 2 ^ 68 + (2 ^ 63 + 2 ^ 62 + 2 ^ 53 + 2 ^ 52 + 0x40000000)
def walking (stale : Bool) (va : Nat) : Machine.State :=
  { in2 (liveIn 0xA2 (args [0, 4096])) (fun d => { d with tlb := 1 }) with rick.walks := [{ id := 1, p := 2, va := va, cmd := 7, running := true, stale := stale }] }
def walked (va : Nat) : Machine.State :=
  bump (startWalks 32 { walking false va with rick.walks := [] }) 2 0x41 3 1

/-- The tracing of paddock 2 mirrors to 0x8000, and it holds one record. -/
def tracing (s : Machine.State) : Machine.State :=
  setP (in2 s (fun d => { d with trace := [zeros 64], mirrorNext := 0, traceFirst := 0, mirrorRing := 0 })) 2 0x82 6 0x8000

/-! Envelopes whose nonce is the one asked for, whatever it is. -/

def top (a : Nat) : Nat := a * 2 ^ 1664
def env (a n : Nat) : Nat := top a + n * 2 ^ 1408

theorem env_shift (a n lo : Nat) (hn : n < 2 ^ 256) (h : 1664 ≤ lo) : env a n >>> lo = top a >>> lo := by
  have e : lo = 1664 + (lo - 1664) := by omega
  rw [e, Nat.shiftRight_add, Nat.shiftRight_add]
  have h1 : env a n >>> 1664 = a := by
    rw [Nat.shiftRight_eq_div_pow, env, top, Nat.add_comm, Nat.add_mul_div_right _ _ (Nat.two_pow_pos _), Nat.div_eq_of_lt, Nat.zero_add]
    calc n * 2 ^ 1408 < 2 ^ 256 * 2 ^ 1408 := Nat.mul_lt_mul_of_pos_right hn (Nat.two_pow_pos _)
      _ = 2 ^ 1664 := by rw [← Nat.pow_add]
  have h2 : top a >>> 1664 = a := by
    rw [top, Nat.shiftRight_eq_div_pow, Nat.mul_div_cancel _ (Nat.two_pow_pos _)]
  rw [h1, h2]

theorem env_bits (a n hi lo : Nat) (hn : n < 2 ^ 256) (h : 1664 ≤ lo) : bits (env a n) hi lo = bits (top a) hi lo := by
  rw [bits, bits, env_shift a n lo hn h]

theorem env_nonce (a n : Nat) (hn : n < 2 ^ 256) : eNonce (env a n) = n := by
  have h1 : env a n >>> 1408 = n + 2 ^ 256 * a := by
    have e : env a n = (n + 2 ^ 256 * a) * 2 ^ 1408 := by
      rw [env, top, Nat.add_mul, Nat.mul_comm (2 ^ 256) a, Nat.mul_assoc, ← Nat.pow_add, Nat.add_comm]
    rw [Nat.shiftRight_eq_div_pow, e, Nat.mul_div_cancel _ (Nat.two_pow_pos _)]
  rw [eNonce, bits, h1]
  show (n + 2 ^ 256 * a) % 2 ^ 256 = n
  rw [Nat.add_mul_mod_self_left, Nat.mod_eq_of_lt hn]

/-- The head of an envelope: destination, slot, paddock, tag, NEXT and its time. -/
def head (d slot p tag nx sw : Nat) : Nat :=
  0x4B455931 * 2 ^ 224 + d * 2 ^ 216 + slot * 2 ^ 208 + p * 2 ^ 202 + tag * 2 ^ 184 + nx * 2 ^ 183 + sw * 2 ^ 112

theorem env_reads (a n : Nat) (ha : a < 2 ^ 256) (hn : n < 2 ^ 256) : beNat (beBytes 240 (env a n)) = env a n ∧ eNonce (env a n) = n ∧
    eDest (env a n) = eDest (top a) ∧ eSlot (env a n) = eSlot (top a) ∧ ePad (env a n) = ePad (top a) ∧
    eTag (env a n) = eTag (top a) ∧ eNext (env a n) = eNext (top a) ∧ eSwitch (env a n) = eSwitch (top a) ∧
    (∀ b, envBroken (env a n) b = envBroken (top a) b) := by
  have hb : ∀ hi lo, 1664 ≤ lo → bits (env a n) hi lo = bits (top a) hi lo := fun hi lo h => env_bits a n hi lo hn h
  have hx : bit (env a n) 1847 = bit (top a) 1847 := by rw [bit, bit, env_shift a n 1847 hn (by decide)]
  refine ⟨beNat_beBytes ?_, env_nonce a n hn, hb _ _ (by decide), hb _ _ (by decide), hb _ _ (by decide), hb _ _ (by decide), hx,
    hb _ _ (by decide), fun b => ?_⟩
  · have h1 : env a n < 2 ^ 256 * 2 ^ 1664 := by
      have : n * 2 ^ 1408 < 2 ^ 1664 := by
        calc n * 2 ^ 1408 < 2 ^ 256 * 2 ^ 1408 := Nat.mul_lt_mul_of_pos_right hn (Nat.two_pow_pos _)
          _ = 2 ^ 1664 := by rw [← Nat.pow_add]
      calc env a n < a * 2 ^ 1664 + 2 ^ 1664 := Nat.add_lt_add_left this _
        _ = (a + 1) * 2 ^ 1664 := (Nat.succ_mul _ _).symm
        _ ≤ 2 ^ 256 * 2 ^ 1664 := Nat.mul_le_mul_right _ ha
    have h2 : 2 ^ 256 * 2 ^ 1664 = 256 ^ 240 := by decide +kernel
    exact Nat.lt_of_lt_of_eq h1 h2
  · unfold envBroken eDest eSlot ePad eTag eNext eSwitch
    rw [hx]; simp only [hb _ _ (show 1664 ≤ 1664 by decide), hb 1919 1888 (by decide), hb 1865 1864 (by decide), hb 1846 1840 (by decide),
      hb 1887 1880 (by decide), hb 1879 1872 (by decide), hb 1871 1866 (by decide), hb 1863 1848 (by decide), hb 1839 1776 (by decide)]

/-- An envelope with the nonce asked for and a key passes every check. -/
theorem env_passes (s : Machine.State) (a n : Nat) (f : Facts) (pp : Bool) (ha : a < 2 ^ 256) (hn : n < 2 ^ 256) (hs : s.sec.st ≠ 2)
    (hb : envBroken (top a) pp = false) (hf : f.key.isNone = false) : envCheck s (env a n) pp true n f = 0 := by
  obtain ⟨-, h2, -, -, -, -, -, -, h3⟩ := env_reads a n ha hn
  unfold envCheck
  rw [if_neg hs, h3, hb, h2, hf]; simp

def key1 : Facts := { key := some 77, sigOk := true }
def timeKey : Machine.State := { run with ftm.key := { cur := some 4 } }
def sealHead : Nat := 0x5345414C * 2 ^ 736 + 5 * 2 ^ 672 + 2 * 2 ^ 640 + 1 * 2 ^ 627 + 0x10 * 2 ^ 384 + 9
def granted : Machine.State := { run with sec.grants := [(5, sealHead, 3)] }
def selected (x : Selector) (s : Machine.State) : Machine.State := in2 s (fun d => { d with sels := [(1, x)] })
def locking1 : Selector := { st := 2, key := 3, set := 5, locking := true, lockTag := some (.pf, 1) }
def talking (x : Spdm) : Machine.State := { dev with sec.spdm := [(true, 5, x)] }

/-- A WAIT of context 1 and a SIGNAL of context 2 behind it in one queue: each waits for the other. -/
def hung : Machine.State := { in2 run (fun d => { d with queues := [(3, { queue3 with any := true })], ctxs := [(1, ctx1), (2, { ctx1 with slot := some 1 })] }) with
  cmd.live := [(7, { started (cmd 0xB1 (args [0x5000])) with waitOn := some 0x5000 }), (8, { cmd 0xB0 (args [0x5000]) with ctx := 2, order := 1 })], cmd.nextCmd := 9 }

/-- A half with a role, in a state of pairing, its pair ports UP. -/
def half (st role : Nat) : Machine.State :=
  { dev with pair.st := st, obj.committed := [(okey 0x2000 1, role)], net.links := (List.range 4).map (fun k => (64 + k, { (default : Link) with st := .up })) }
def peer1 : Peer := { uid := 5, role := 2, blockVersion := blockVersion, firmware := dev.sys.firmware, securityVersion := 0, nodeId := 0, chainOk := true,
                      paddocks := [], lots := [], cvnLast := 77, key := 4 }
/-- The primary, whose paddock 2 spans the halves. -/
def spanning : Machine.State :=
  { half 2 1 with pads := [(2, pad2)], obj.committed := [(okey 0x2000 1, 1), (okey (pidx 2 0x10) 1, 1), (okey 0x2001 3, 1)] }

/-- An echo request for the core's address, and the core that has one. -/
def macs : Machine.State := { dev with obj.committed := [(okey 0x2111 1, 0x0A000001), (okey 0x2110 1, 0x021122334455)] }
def arp : Bytes := beBytes 6 0x021122334466 ++ beBytes 2 0x0806 ++ beBytes 8 0x0001080006040001 ++ beBytes 6 0x021122334466 ++ beBytes 4 0x0A000002 ++
  zeros 6 ++ beBytes 4 0x0A000001
/-- The store has operations to do. -/
def storing (l : List FlashOp) : Machine.State := { dev with store.work := l }
/-- Firmware slot 1 in a state. -/
def fw (st : Nat) : Machine.State := { dev with store.slots := [4, st] }

/-! ### Operands that break a size -/

theorem test_wf_payload : Instr.wf (.objectWrite .pf 0 (zeros 1025) {}) = false ∧ Instr.wf (.udpDatagram 0 0 0 (zeros 1025) 0 true {}) = false ∧
    Instr.wf (.mctpMessage true 0 0 (zeros 1025) {}) = false ∧ Instr.wf (.stileGo none false 0 (zeros 1025) {}) = false ∧
    Instr.wf (.objectWrite .pf 0 (zeros 1024) {}) = true := by decide +kernel

theorem test_wf_argument : Instr.wf (.ptWrite .pf 0 2 (zeros 1025)) = false ∧ Instr.wf (.keyInstall .pf 0 (zeros 1025) {}) = false ∧
    Instr.wf (.fwData .pf 0 (zeros 1025)) = false ∧ Instr.wf (.fwData .pf 0 (zeros 1024)) = true := by decide +kernel

theorem test_wf_packet : Instr.wf (.dataPacket none { hdr := 0, payload := zeros 4097, key := 0, intact := true }) = false ∧
    Instr.wf (.timeReq 0 { hdr := 0, payload := zeros 4097, key := 0, intact := true }) = false := by decide +kernel

theorem test_wf_frames : Instr.wf (.dataFrame 0 0 (zeros 4145) true) = false ∧ Instr.wf (.headerFlit 0 (zeros 255)) = false ∧
    Instr.wf (.headerFlit 0 (zeros 257)) = false ∧ Instr.wf (.headerFlit 0 []) = false ∧ Instr.wf (.headerFlit 0 (zeros 256)) = true := by decide +kernel

theorem test_wf_port : Instr.wf (.tpWrite 0 0 (zeros 4097)) = false ∧ Instr.wf (.readData 0 0 (zeros 4097)) = false ∧
    Instr.wf (.manifest 0 0 (List.replicate 130 0)) = false ∧ Instr.wf (.breach 0 0 (List.replicate 130 0)) = false := by decide +kernel

theorem test_wf_rest : Instr.wf (.hostCompletion 0 0 false (zeros 4129) 0 true) = false ∧ Instr.wf (.meterTick [1, 2, 3]) = false ∧
    Instr.wf (.paddockFault [] 0) = false ∧ Instr.wf (.paddockFault [2] 0) = true := by decide +kernel

/-! ### No word of the table spells a command -/

theorem test_no_words (n w : Nat) : decodeTableWord n w = none ∧ State.reset.withFetchWord n w = State.reset := ⟨rfl, rfl⟩

/-! ### The manual's worked examples -/

/-- Chapter 3: the read of 0x1000.03 in a device at CVN 42, and its response. -/
theorem test_read_block_version : (match exec (.objectRead .pf 0x11000007100003040000000000000000) { dev with obj.cvn := 42 } with
    | .next t => t.out | _ => []) = [.response .pf 0x11000007100003040000002A00000004#128 [0x00, 0x03, 0x01, 0x00]] := by decide +kernel

/-- Chapter 9: an FP8 product of four terms is 2^-17, as FP32, BF16 and E4M3. -/
theorem test_fp8_product : let d := dot (fmtClass 6) ([0x7E, 0x01, 0xFE, 0x01].map (decodeNum 6)) ([0x7E, 0x01, 0x7E, 0x01].map (decodeNum 6)) none false
    roundOut 0x10 {} 0 0 d.1 = (0x37000000, 0) ∧ roundOut 0x0E {} 0 0 d.1 = (0x3700, 0) ∧ roundOut 6 {} 0 0 d.1 = (0, stUnderflow + stInexact) := by
  decide +kernel

/-- Chapter 8: a scheduled frame of 256 bytes takes 316 bytes of a link. -/
theorem test_frame_bytes : frameBytes 5 (pk 0 0 0 0 false (zeros 256)) = 316 := by decide +kernel

/-- Chapter 7: QP 0x14_0010 is one of paddock 5. -/
theorem test_qp_paddock : qpPad 0x140010 = 5 := by decide

/-- Chapter 11: the chunk of an FP64 reduction is 64 elements. -/
theorem test_fp64_chunk : (accClass 0x11).2.2.2 * (fmtBits 0x11 / 8) = 512 := by decide

/-- Chapter 12: the entry 0xC030_0002_6000_0000 maps 2 MiB at level 1, and keeps its format. -/
theorem test_pte : leafSize 0xC030000260000000 1 = 2 ^ 21 ∧ pteBadFormat 0xC030000260000000 1 = false ∧
    bits 0xC030000260000000 51 12 * 4096 = 0x260000000 := by decide +kernel

/-- Chapter 15: source 519 with PENDING set reads 0xA801_8000; a write of 0x8802_8000 clears PENDING and takes effect. -/
theorem test_event_target : Tbl.get (raise { dev with ev.targets := [(519, 0x88018000)] } 519).ev.targets 519 = 0xA8018000 ∧
    (match exec (.eventTargetWrite .pf 1 519 false 0x88028000) { dev with ev.targets := [(519, 0xA8018000)] } with
      | .next t => Tbl.get t.ev.targets 519 | _ => 0) = 0x88028000 := by decide +kernel

/-- Chapter 17: the loss of a unit leaves SPLIT, and a spanning paddock FAULTED with 0x0E03. -/
theorem test_pair_lost : (match exec (.pairLost 3) spanning with
    | .next t => (t.pair.st, (pad t 2).state, (pad t 2).cause) | _ => (0, .empty, 0)) = (4, .faulted, 0x0E03) := by decide +kernel

/-- The check values that the algorithms' own specifications give for "123456789" and "abc". -/
theorem test_crc32c_check : crc32c [0x31, 0x32, 0x33, 0x34, 0x35, 0x36, 0x37, 0x38, 0x39] = 0xE3069283#32 := by decide +kernel

theorem test_sha384_abc : sha384 [0x61, 0x62, 0x63] =
    0xcb00753f45a35e8bb5a03d699ac65007272c32ab0eded1631a8b605a43ff5bed8086072ba1e7cc2358baeca134c825a7 := by decide +kernel

/-! ### Hypotheses of the statements are met -/

theorem witness_StepsLeaveNoDeliverableEvent :
    Quiescent { dev with pending := [.mgtKick] } ∧ ∃ t, step { dev with pending := [.mgtKick] } = .next t :=
  ⟨by intro src; have h : Tbl.get ({ dev with pending := [.mgtKick] } : Machine.State).ev.targets src = 0 := rfl; unfold deliverable; rw [h]; rfl, _, rfl⟩

theorem witness_EmptyQueueCountsTime :
    dev.pending = [] :=
  by decide +kernel

theorem witness_OnlyResetsActBeforeBoot :
    State.reset.sys.boot < 2 ∧ (∀ b, Instr.mgtKick ≠ .porN b) ∧ (∀ b, Instr.mgtKick ≠ .warmRstN b) ∧
      (∀ r m b, Instr.mgtKick ≠ .brownoutReset r m b) :=
  ⟨by decide, (fun _ h => nomatch h), (fun _ h => nomatch h), (fun _ _ _ h => nomatch h)⟩

theorem witness_FiringSetsPendingAndCounts :
    (bit (Tbl.get { dev with ev.targets := [(736, 2 ^ 29 + 255)] }.ev.targets 736) 29 = true) ∧
    (bit (Tbl.get dev.ev.targets 1023) 29 = false) :=
  ⟨by decide +kernel,
   by decide +kernel⟩

theorem witness_DeliveryClearsPending :
    (deliverable { dev with ev.targets := [(736, 2 ^ 31 + 2 ^ 29 + 2 ^ 27)] } 736 = true) ∧
    (deliverable dev 736 = false) :=
  ⟨by decide +kernel,
   by decide +kernel⟩

theorem witness_ReadAnswersObjectValue :
    2 ≤ dev.sys.boot ∧ reaches dev .pf = true ∧ dev.obj.serving = none ∧ (reqOf (rq 1 0x1000 1 0)).op = 1 ∧
      requestCode dev .pf (reqOf (rq 1 0x1000 1 0)) [] = 0 ∧ (reqOf (rq 1 0x1000 1 0)).index ≠ 0x1C00 :=
  by decide +kernel

theorem witness_AnswerNamesRequestAndStatus :
    ([] : Bytes).length < 65536 ∧ 65535 < 65536 :=
  by decide +kernel

theorem witness_RefusedRequestOnlyAnswers :
    (2 ≤ dev.sys.boot ∧ reaches dev .pf = true ∧ dev.obj.serving = none ∧
      (requestCode dev .pf (reqOf (rq 2 0x9999 1 1)) [0] = 0x0104 ∨ requestCode dev .pf (reqOf (rq 2 0x9999 1 1)) [0] = 0x0101)) ∧
    (reaches run (.stile 2) = true ∧ requestCode run (.stile 2) (reqOf (rq 2 (pidx 2 0xFE) 1 1)) [0] ≠ 0 ∧
      outsideBlock 2 (reqOf (rq 2 (pidx 2 0xFE) 1 1)) = false) ∧
    (reaches run (.stile 2) = true ∧ requestCode run (.stile 2) (reqOf (rq 2 (pidx 3 0) 1 1)) [0] ≠ 0 ∧
      outsideBlock 2 (reqOf (rq 2 (pidx 3 0) 1 1)) = true ∧ headerCode (reqOf (rq 2 (pidx 3 0) 1 1)) 1 = 0 ∧
      startCode run (reqOf (rq 2 (pidx 3 0) 1 1)) = 0) :=
  ⟨by decide +kernel,
   by decide +kernel,
   by decide +kernel⟩

theorem witness_RequestsWaitTheirTurn :
    (reaches { dev with obj.serving := some (.pf, 1) } .pf = true ∧ { dev with obj.serving := some (.pf, (1 : Tag)) }.obj.serving ≠ none) ∧
    (islandOut { dev with flt.state := [(1, 2)] } 1 = true) :=
  ⟨by decide +kernel,
   by decide +kernel⟩

theorem witness_DraftWriteMakesOwner :
    (Serves dev .pf ∧ (reqOf (rq 2 0x2000 1 1)).op = 2 ∧ requestCode dev .pf (reqOf (rq 2 0x2000 1 1)) [2] = 0 ∧
      (descOf 0x2000 1).map (fun d => (d.acc, d.tab)) = some (.draft, false) ∧ dev.obj.draftOwner = none ∧ dev.obj.confOp = none) ∧
    (Serves { dev with obj.draftOwner := some .pf } .pf ∧
      requestCode { dev with obj.draftOwner := some .pf } .pf (reqOf (rq 2 0x2000 1 1)) [2] = 0) :=
  ⟨by unfold Serves; decide +kernel,
   by unfold Serves; decide +kernel⟩

theorem witness_LiveWriteTakesEffectAtOnce :
    Serves dev .pf ∧ requestCode dev .pf (reqOf (rq 2 0x2100 0x0C 4)) [0, 0, 0, 10] = 0 ∧
      (descOf 0x1F00 6).map (fun d => (d.acc, d.tab)) = some (.live, false) ∧ requestCode dev .pf (reqOf (rq 2 0x1F00 6 1)) [1] = 0 :=
  by unfold Serves; decide +kernel

theorem witness_DraftOwnerExcludesOtherPaths :
    (Serves { dev with obj.draftOwner := some (.mctp false 5) } .pf ∧
      { dev with obj.draftOwner := some (.mctp false 5) }.obj.draftOwner = some (.mctp false 5) ∧ (.mctp false 5 : Path) ≠ .pf ∧
      requestCode { dev with obj.draftOwner := some (.mctp false 5) } .pf (reqOf (rq 2 0x2000 1 1)) [2] = 0 ∧
      (descOf 0x2000 1).map (·.acc) = some .draft) ∧
    (roleOf { dev with obj.draftOwner := some (.mctp false 5) } .pf = 1) :=
  ⟨by unfold Serves; decide +kernel,
   by decide +kernel⟩

theorem witness_SecondaryRefusesWrites :
    (second.sys.boot = 3 ∧ reaches second .pf = true ∧ second.obj.serving = none ∧ paired second = true ∧ secondHalf second = true ∧
      requestCode second .pf (reqOf (rq 2 0x2100 2 1)) [0] = 0 ∧ (descOf 0x2100 2).map (·.acc) = some .cmd ∧
      ¬ (0x1F00 ≤ (reqOf (rq 2 0x2100 2 1)).index ∧ (reqOf (rq 2 0x2100 2 1)).index ≤ 0x1F04) ∧ ¬ (0x2000 ≤ (reqOf (rq 2 0x2100 2 1)).index ∧
      (reqOf (rq 2 0x2100 2 1)).index ≤ 0x20FF)) ∧
    (requestCode second .pf (reqOf (rq 1 0x1000 1 0)) [] = 0 ∧ (reqOf (rq 1 0x1000 1 0)).op = 1) :=
  ⟨by decide +kernel,
   by decide +kernel⟩

theorem witness_CarriedRequestsAreServed :
    (2 ≤ dev.sys.boot ∧ islandOut dev 1 = false) ∧
    (Tbl.find { dev with sec.sessions := [(8, { key := 5, seq := 9 })] }.sec.sessions 8 = some { key := 5, seq := 9 } ∧
      (8 : BitVec 32).toNat ≠ 0 ∧ (8 : BitVec 32).toNat ≤ 8 ∧ (∀ e ∈ ({ key := 5, seq := 9 : Session}).kept, e.1 ≠ 10) ∧
      ({ key := 5, seq := 9 : Session}).seq < (10 : BitVec 32).toNat) ∧
    ((9 : BitVec 32).toNat ≤ ({ key := 5, seq := 9 : Session}).seq) :=
  ⟨by decide +kernel,
   by decide +kernel,
   by decide +kernel⟩

theorem witness_MailboxGoesIdleBusyDone :
    ({ dev with host.vfs := [(2, { (default : Func) with stile := 0 })], pads := [(2, pad2)] }.sys.boot = 3 ∧
      { dev with host.vfs := [(2, { (default : Func) with stile := 0 })], pads := [(2, pad2)] }.pow.st = 0 ∧
      islandOut { dev with host.vfs := [(2, { (default : Func) with stile := 0 })], pads := [(2, pad2)] } 3 = false ∧
      (func { dev with host.vfs := [(2, { (default : Func) with stile := 0 })], pads := [(2, pad2)] } (some 2)).inReset = false ∧
      (func { dev with host.vfs := [(2, { (default : Func) with stile := 0 })], pads := [(2, pad2)] } (some 2)).stile = 0 ∧
      islandOut { dev with host.vfs := [(2, { (default : Func) with stile := 0 })], pads := [(2, pad2)] } 1 = false ∧
      { dev with host.vfs := [(2, { (default : Func) with stile := 0 })], pads := [(2, pad2)] }.obj.serving = none ∧
      (reqOf (rq 1 (pidx 2 0) 1 0)).op = 1 ∧
      requestCode { dev with host.vfs := [(2, { (default : Func) with stile := 0 })], pads := [(2, pad2)] } (.stile 2) (reqOf (rq 1 (pidx 2 0) 1 0)) [] = 0) ∧
    ((func { dev with host.vfs := [(2, { (default : Func) with stile := 2 })], pads := [(2, pad2)] } (some 2)).stile = 2) ∧
    ((func { dev with host.vfs := [(2, { (default : Func) with stile := 1 })], pads := [(2, pad2)] } (some 2)).stile ≠ 0) :=
  ⟨by decide +kernel,
   by decide +kernel,
   by decide +kernel⟩

theorem witness_ConfigOperationsReserveTheNextVersion :
    (ManagerAsks dev .pf ∧ dev.obj.draftOwner = none ∧ dev.obj.lapsed ≠ some .pf ∧ (0 : BitVec 32).toNat = dev.obj.cvn ∧
      ConfigOperationPasses dev dev.obj.draft) ∧
    (ManagerAsks { dev with obj.versions := [version5] } .pf ∧ rollTarget { dev with obj.versions := [version5] } 5 = some [] ∧
      ConfigOperationPasses { dev with obj.versions := [version5] } []) ∧
    (ManagerAsks dev .pf ∧ ConfigOperationPasses dev []) ∧
    (ManagerAsks staged .pf ∧ stagedImage staged = image ∧ bit (beNat (image.take 64)) 448 = false ∧ 64 + 4 ≤ image.length ∧
      image.length = getO staged 0x1102 1 ∧ bits (beNat (image.take 64)) 511 480 = 0x44434647 ∧ bits (beNat (image.take 64)) 479 464 = 1 ∧
      bits (beNat (image.take 64)) 447 416 = image.length ∧
      readRecords (bits (beNat (image.take 64)) 351 320) ((image.take (image.length - 4)).drop 64) = some [] ∧
      (crc32c (image.take (image.length - 4))).toNat = beNat ((image.drop (image.length - 4)).take 4) ∧ staged.obj.requireSigned = false ∧
      bits (beNat (image.take 64)) 415 384 / 256 = blockVersion / 256 ∧ bits (beNat (image.take 64)) 383 352 = 0 ∧
      bit (beNat (image.take 64)) 449 = false ∧ ConfigOperationPasses staged []) :=
  ⟨by unfold ManagerAsks Serves ConfigOperationPasses; decide +kernel,
   by unfold ManagerAsks Serves ConfigOperationPasses; decide +kernel,
   by unfold ManagerAsks Serves ConfigOperationPasses; decide +kernel,
   by unfold ManagerAsks Serves ConfigOperationPasses; decide +kernel⟩

theorem witness_RollbackToUnkeptVersionIsRefused :
    (ManagerAsks dev .pf ∧ dev.obj.draftOwner = none ∧ (7 : BitVec 32).toNat ≠ 0 ∧ (∀ x ∈ dev.obj.versions, x.cvn = 7 → x.status = 3)) ∧
    ((∀ x ∈ ({ dev with obj.versions := [{ version5 with status := 3 }] } : Machine.State).obj.versions, x.cvn = 5 → x.status = 3) ∧
      ManagerAsks { dev with obj.versions := [{ version5 with status := 3 }] } .pf) :=
  ⟨by unfold ManagerAsks Serves; decide +kernel,
   by unfold ManagerAsks Serves; decide +kernel⟩

theorem witness_FailedVersionWriteKeepsCurrentVersion :
    2 ≤ dev.sys.boot ∧ { dev with obj.confOp := some op9 }.obj.confOp = some op9 ∧ dev.pow.brake = none :=
  by decide +kernel

theorem witness_CompletedOperationMakesVersionCurrent :
    2 ≤ dev.sys.boot ∧ { dev with obj.confOp := some op9 }.obj.confOp = some op9 ∧ dev.pow.brake = none :=
  by decide +kernel

theorem witness_DiscardDraftDropsDraft :
    (ManagerAsks dev .pf ∧ dev.obj.confOp = none ∧ { dev with obj.draftOwner := some (.mctp false 5) }.obj.draftOwner = some (.mctp false 5)) ∧
    (ManagerAsks { dev with obj.draftOwner := some .pf, sec.sessions := [(1, { key := 1 })] } (.udp 1) ∧ (.pf : Path) ≠ .udp 1 ∧
      (.udp 1 : Path) ≠ .pf) ∧
    (ManagerAsks { dev with sec.sessions := [(1, { key := 1 })] } (.udp 1) ∧ dev.obj.draftOwner = none) :=
  ⟨by unfold ManagerAsks Serves; decide +kernel,
   by unfold ManagerAsks Serves; decide +kernel,
   by unfold ManagerAsks Serves; decide +kernel⟩

theorem witness_LapsedOwnerMustStartAgain :
    ({ dev with obj.draftOwner := some .pf }.obj.draftOwner ≠ none ∧ dev.obj.confOp = none) ∧
    (ManagerAsks { dev with obj.lapsed := some .pf } .pf ∧ { dev with obj.lapsed := some .pf }.obj.draftOwner = none) :=
  ⟨by decide +kernel,
   by unfold ManagerAsks Serves; decide +kernel⟩

theorem witness_PowerOnAndBrownoutStartUp :
    ImageBoots dev {} :=
  ⟨rfl, ⟨0, rfl, by decide, by decide⟩, rfl, by decide⟩

theorem witness_WarmResetStartsUp :
    (ManagerAsks dev .pf ∧ dev.pow.st ≠ 4) ∧
    ({ dev with sys.uptime := 10 ^ 9 }.flt.kickAt + 10 ^ 9 ≤ { dev with sys.uptime := 10 ^ 9 }.sys.uptime ∧
      3 ≤ (recentMgtResets { dev with sys.uptime := 10 ^ 9, flt.mgtResets := [10 ^ 9, 10 ^ 8, 10 ^ 7] }).length ∧ islandOut dev 1 = false) :=
  ⟨by unfold ManagerAsks Serves; decide +kernel,
   by decide +kernel⟩

theorem witness_RomWithoutBootRecordStaysInRom :
    ({ flashOk := false } : Boot).flashOk = false ∧
      { State.reset with sys.boot := 1, sys.bootFacts := { flashOk := false } }.sys.bootFacts.flashOk = false :=
  by decide +kernel

/-- R503: link keys of tags 7 and 9, and LNK0's table fails the read-back as the key of tag 9 is cleared; paddock 2 has tag 7. -/
theorem test_key_clear_read_back_fails :
    (pad (readBack { run with net.linkKeys := [(7, {}), (9, {})] } { stuck := 23 }
      (doKeyClear { run with net.linkKeys := [(7, {}), (9, {})] } 0x02000009)).1 2).cause = 0x0B13 ∧
    (pad (readBack { run with net.linkKeys := [(7, {}), (9, {})] } { stuck := 3 }
      (doKeyClear { run with net.linkKeys := [(7, {}), (9, {})] } 0x02000009)).1 2).state = .opened := by decide +kernel

/-- R647: an island that does not return at start-up reads 3, and the loss of HST leaves the device failed. -/
theorem test_island_fails_at_start :
    Tbl.get (failedAtStart [3] dev).flt.state 3 = 3 ∧ deviceHealth (failedAtStart [3] dev) = 2 ∧
      (failedAtStart [0, 2, 39] dev).flt.state = [] := by decide +kernel

theorem witness_RootReconstructionEndsStartUp :
    { dev with sys.boot := 2, sec.st := 0 }.sys.boot = 2 ∧ { dev with sys.boot := 2, sec.st := 0 }.sec.st = 0 ∧ { dev with sys.boot := 2, sec.st := 0 }.pow.st = 0 ∧
      { dev with obj.versions := [{ version5 with status := 2 }] }.obj.versions.find? (fun v => v.status = 2) = some { version5 with status := 2 } :=
  by decide +kernel

theorem witness_ControlCommandsRefusedAtOnce :
    (ManagerAsks run .pf ∧ splitForeign run 2 = false ∧ controlBusy run 2 = false ∧
      (pad (in2 run (fun d => { d with pend := some default })) 2).pend ≠ none) ∧
    ((pad run 2).pend = none ∧ (pad run 2).state = .opened ∧ (pad run 2).state ≠ .empty ∧ (pad run 2).state ≠ .fenced ∧
      (pad run 2).state ≠ .fallow ∧ (pad run 2).state ≠ .faulted ∧ (pad run 3).state ≠ .opened) :=
  ⟨by unfold ManagerAsks Serves; decide +kernel,
   by decide +kernel⟩

theorem witness_PaddockControlRuns :
    (ManagerAsks { dev with pads := [(2, { (default : Paddock) with state := .empty })], com.free := 2 ^ 124 - 1, obj.committed := cfg2, net.linkKeys := [(9, { cur := some 5 })] } .pf ∧
      paired { dev with pads := [(2, { (default : Paddock) with state := .empty })], com.free := 2 ^ 124 - 1, obj.committed := cfg2, net.linkKeys := [(9, { cur := some 5 })] } = false ∧
      (pad { dev with pads := [(2, { (default : Paddock) with state := .empty })], com.free := 2 ^ 124 - 1, obj.committed := cfg2, net.linkKeys := [(9, { cur := some 5 })] } 2).state = .empty ∧
      claimCheck { dev with pads := [(2, { (default : Paddock) with state := .empty })], com.free := 2 ^ 124 - 1, obj.committed := cfg2, net.linkKeys := [(9, { cur := some 5 })] } 2 false = 0 ∧
      mirrorWaits { dev with pads := [(2, { (default : Paddock) with state := .empty })], com.free := 2 ^ 124 - 1, obj.committed := cfg2, net.linkKeys := [(9, { cur := some 5 })] } 2 = false) ∧
    ((pad (in2 { dev with pads := [(2, { (default : Paddock) with state := .empty })], com.free := 2 ^ 124 - 1, obj.committed := cfg2, net.linkKeys := [(9, { cur := some 5 })] } (fun d => { d with state := .fallow })) 2).state = .fallow ∧
      claimCheck (in2 { dev with pads := [(2, { (default : Paddock) with state := .empty })], com.free := 2 ^ 124 - 1, obj.committed := cfg2, net.linkKeys := [(9, { cur := some 5 })] } (fun d => { d with state := .fallow })) 2 true = 0) ∧
    (ManagerAsks (at2 .opened) .pf ∧ (pad (at2 .opened) 2).state = .opened ∧ mirrorWaits (at2 .opened) 2 = false) ∧
    ((pad (at2 .fallow) 2).state = .fallow ∧ padCmds (at2 .fallow) 2 = [] ∧ diesOf (at2 .fallow) (pad (at2 .fallow) 2).lots = [] ∧
      releaseZeroes (at2 .fallow) 2 11 = true) ∧
    ((pad (at2 .faulted) 2).state = .faulted ∧ mirrorWaits (at2 .faulted) 2 = false) :=
  ⟨by unfold ManagerAsks Serves; decide +kernel,
   by decide +kernel,
   by unfold ManagerAsks Serves; decide +kernel,
   by decide +kernel,
   by decide +kernel⟩

theorem witness_DrainsFaultsAndRecords :
    ((pad (at2 .draining) 2).state = .draining ∧ padCmds (at2 .draining) 2 = []) ∧
    ((pad dev 2).state = .empty ∧ (pad dev 2).pend = none ∧ (pad (at2 .faulted) 2).state = .faulted ∧ (pad (at2 .faulted) 2).pend = none ∧
      (pad run 2).state ≠ .empty ∧ (pad run 2).state ≠ .faulted ∧ (pad (in2 run (fun d => { d with pend := some default })) 2).pend ≠ none) ∧
    (OwnerAsks dev 2 .pf ∧ (pad dev 2).state = .empty ∧ OwnerAsks run 2 (.stile 2) ∧ (pad run 2).state ≠ .empty ∧ run.sec.st ≠ 2) ∧
    ((pad (in2 (at2 .fenced) (fun d => { d with signing := [0], pend := some { cmd := 2, stage := 2, tables := [], fences := [], gen := 1, accepted := 0 } })) 2).signing = [0] ∧
      (pad (in2 run (fun d => { d with signing := [5] })) 2).signing = 5 :: []) :=
  ⟨by decide +kernel,
   by decide +kernel,
   by unfold OwnerAsks TenantAsks ManagerAsks Serves; decide +kernel,
   by decide +kernel⟩

theorem witness_GranuleZeroisedReadsZero :
    (123 : Fin 128).val ∈ { dev with com.zeroising := [123] }.com.zeroising ∧ islandOut dev (11 + 123 % 4) = false :=
  by decide +kernel

theorem witness_DoorbellsMoveRings :
    (doorbellDead (touched run) 2 = false ∧ queueOf (touched run) 2 3 = some queue3 ∧ queue3.st = 1 ∧ (15 : BitVec 32).toNat < 2 ^ queue3.sqLog ∧
      (queue3.tail + 2 ^ queue3.sqLog - queue3.head) % 2 ^ queue3.sqLog ≤ ((15 : BitVec 32).toNat + 2 ^ queue3.sqLog - queue3.head) % 2 ^ queue3.sqLog) ∧
    (2 ^ queue3.sqLog ≤ (16 : BitVec 32).toNat) ∧
    (queueOf (touched (in2 run (fun d => { d with queues := [(3, { queue3 with cqUsed := 5, cqTail := 5 })] }))) 2 3 = some { queue3 with cqUsed := 5, cqTail := 5 } ∧
      ((5 : BitVec 32).toNat + 2 ^ queue3.cqLog - queue3.cqHead) % 2 ^ queue3.cqLog ≤ 5 ∧ queue3.waiting = []) ∧
    ((func run (some 2)).inReset = false ∧ queueOf run 2 3 = some queue3 ∧ 60 + ([0, 0, 0, 0] : Bytes).length ≤ 64 * 2 ^ queue3.sqLog ∧
      (accessAll run 2 (queue3.sqBase + 60) 4 true).toOption.isSome = true) :=
  ⟨by decide +kernel,
   by decide +kernel,
   by decide +kernel,
   by decide +kernel⟩

theorem witness_DoorbellsOutsideOpen :
    ((pad dev 2).state = .empty ∧ (pad (at2 .faulted) 2).state = .faulted) ∧
    ((pad (at2 .fenced) 2).state = .fenced ∧ doorbellDead (touched (at2 .fenced)) 2 = false ∧ queueOf (touched (at2 .fenced)) 2 3 = some queue3) ∧
    ((pad (at2 .draining) 2).state = .draining ∧ (∀ k ∈ (at2 .draining).cmd.killed, k.p ≠ 2)) :=
  ⟨by decide +kernel,
   by decide +kernel,
   by decide +kernel⟩

theorem witness_QueuesAreMadeAndFreed :
    (OwnerAsks run 2 (.stile 2) ∧ (pad run 2).state = .opened ∧ bit qarg.toNat 248 = false ∧ bits qarg.toNat 219 192 = 0 ∧
      bits qarg.toNat 63 0 = 0 ∧ queueOf run 2 (bits qarg.toNat 255 250) = none ∧ 4 ≤ bits qarg.toNat 235 231 ∧ bits qarg.toNat 235 231 ≤ 16 ∧
      4 ≤ bits qarg.toNat 230 226 ∧ bits qarg.toNat 230 226 ≤ 16 ∧ bits qarg.toNat 191 128 % (64 * 2 ^ bits qarg.toNat 235 231) = 0 ∧
      mapsToGranule run 2 (bits qarg.toNat 191 128) (64 * 2 ^ bits qarg.toNat 235 231) = true ∧
      (accessAll run 2 (bits qarg.toNat 127 64) (32 * 2 ^ bits qarg.toNat 230 226) true).toOption.isSome = true ∧
      (pad run 2).queues.length < (pad run 2).queuesHeld) ∧
    (queueOf run 2 3 = some queue3 ∧ queue3.st ≠ 3 ∧ run.cmd.live = [] ∧ run.cmd.killed = []) ∧
    ((∃ e ∈ (live 0 0).cmd.live, e.2.p = 2 ∧ e.2.q = 3 ∧ e.2.inner = false) ∧ queueOf (live 0 0) 2 3 = some queue3) ∧
    (queueOf run 2 63 = none) ∧
    (queueOf (in2 run (fun d => { d with queues := [(3, { queue3 with st := 3, closeTag := some (.pf, 9) })] })) 2 3 = some { queue3 with st := 3, closeTag := some (.pf, 9) } ∧
      OwnerAsks (in2 run (fun d => { d with queues := [(3, { queue3 with st := 3, closeTag := some (.pf, 9) })] })) 2 .pf ∧
      trnOut run = false) :=
  ⟨by unfold OwnerAsks TenantAsks ManagerAsks Serves; decide +kernel,
   by decide +kernel,
   by decide +kernel,
   by decide +kernel,
   by unfold OwnerAsks TenantAsks ManagerAsks Serves; decide +kernel⟩

theorem witness_ContextControlsActOnTheirContext :
    (bits carg.toNat 115 64 = 0 ∧ bits carg.toNat 63 0 % 16384 = 0 ∧ mapsToGranule run 2 (bits carg.toNat 63 0) 16384 = true ∧
      ctxOf run 2 (bits carg.toNat 127 116) = none ∧ (accessAll run 2 (bits carg.toNat 63 0) 16384 true).toOption.isSome = true) ∧
    (ctxOf run 2 (4095 : BitVec 12).toNat = none) ∧
    (ctxOf run 2 1 = some ctx1 ∧ ctx1.closing = false ∧
      (∀ e ∈ (pad (in2 run (fun d => { d with queues := [] })) 2).queues, e.2.any = true ∨ e.2.ctx ≠ 1) ∧ ctx1.st ≠ .idle ∧ ctx1.st ≠ .killed) ∧
    ((ctxOf (in2 run (fun d => { d with ctxs := [(1, { ctx1 with closing := true })] })) 2 1).map (·.closing) = some true) ∧
    (ctxOf (in2 run (fun d => { d with ctxs := [(1, { ctx1 with slot := none })] })) 2 1 = some { ctx1 with slot := none } ∧ ctx1.forced = false ∧
      ctx1.closeTag = none ∧ ctxCmds (in2 run (fun d => { d with ctxs := [(1, { ctx1 with slot := none })] })) 2 1 = [] ∧
      ctx1.quarantine.contains ((ctx1.epoch + 1) % 256) = false) ∧
    ((ctxOf (in2 run (fun d => { d with ctxs := [(1, { ctx1 with st := .parked })] })) 2 1).map (·.st) = some .parked) ∧
    (ctx1.st ≠ .parked) ∧
    (ctxOf (in2 run (fun d => { d with ctxs := [(1, { ctx1 with st := .killed })] })) 2 1 = some { ctx1 with st := .killed } ∧
      ctx1.reviveTag = none) ∧
    (bits (0x7001 : BitVec 16).toNat 11 0 = 1 ∧ bits (0x7001 : BitVec 16).toNat 15 12 ≤ 7) ∧
    (ctx1.advanceWaits = false) ∧
    ((ctxOf (in2 run (fun d => { d with ctxs := [(1, { ctx1 with closing := true, closeTag := some (.pf, 9) })] })) 2 1).map (·.closeTag) = some (some (.pf, 9))) :=
  ⟨by decide +kernel,
   by decide +kernel,
   by decide +kernel,
   by decide +kernel,
   by decide +kernel,
   by decide +kernel,
   by decide +kernel,
   by decide +kernel,
   by decide +kernel,
   by decide +kernel,
   by decide +kernel⟩

theorem witness_CommitInstant :
    (cmdOf (live 0 0) 7 = some (cmd 0 0) ∧ (cmd 0 0).inner = false ∧ queueOf (live 0 0) 2 3 = some queue3) ∧
    (cqRoom (live 0 0) 2 queue3 = .ok [(.rick 0x40200000 0, 32)]) ∧
    (cqRoom (in2 (live 0 0) (fun d => { d with queues := [(3, { queue3 with cqUsed := 16 })] })) 2 { queue3 with cqUsed := 16 } = .full ∧
      queueOf (in2 (live 0 0) (fun d => { d with queues := [(3, { queue3 with cqUsed := 16 })] })) 2 3 = some { queue3 with cqUsed := 16 }) ∧
    (cmdOf { live 0 0 with cmd.live := [(7, { cmd 0 0 with phase := .ready })] } 7 = some { cmd 0 0 with phase := .ready }) :=
  ⟨by decide +kernel,
   by decide +kernel,
   by decide +kernel,
   by decide +kernel⟩

theorem witness_KillsKeepCommandsForTheirRerun :
    cmdOf (live 0 0) 7 = some (cmd 0 0) :=
  by decide +kernel

theorem witness_FetchTakesNextDescriptor :
    fetchOpen (in2 run (fun d => { d with queues := [(3, { queue3 with tail := 1 })] })) 2 = true ∧
      freeThreads (in2 run (fun d => { d with queues := [(3, { queue3 with tail := 1 })] })) 2 ≠ [] ∧
      pickQueue (in2 run (fun d => { d with queues := [(3, { queue3 with tail := 1 })] })) 2 = some (3, .fresh 0) ∧
      queueOf (in2 run (fun d => { d with queues := [(3, { queue3 with tail := 1 })] })) 2 3 = some { queue3 with tail := 1 } ∧
      dExcl 0 = false :=
  by decide +kernel

theorem witness_LocalCommandsComplete :
    (Works (liveIn 0 0) 7 { cmd 0 0 with phase := .started } 0x00) ∧
    (Works (liveIn 1 (args [0x500])) 7 { cmd 1 (args [0x500]) with phase := .started } 0x01 ∧
      (accessAll (liveIn 1 (args [0x500])) 2 (dArg (cmd 1 (args [0x500])).desc 0) 8 true).toOption = some [(.rick 0x40000500 0, 8)]) ∧
    (Works alloc1 7 { cmd 0xA0 (args [2 ^ 30, 3]) with phase := .started } 0xA0 ∧ dArg (cmd 0xA0 (args [2 ^ 30, 3])).desc 2 = 0 ∧
      dArg (cmd 0xA0 (args [2 ^ 30, 3])).desc 0 = 2 ^ 30 ∧ allocPage (bits (dArg (cmd 0xA0 (args [2 ^ 30, 3])).desc 1) 1 0) = 2 ^ 30 ∧
      pickVa alloc1 2 0 (2 ^ 30) (2 ^ 30) = some (2 ^ 40) ∧ (∃ pages, pickPages alloc1 2 (2 ^ 30) (2 ^ 30) = some pages) ∧
      (winUsed alloc1).length + l0Needed alloc1 2 (2 ^ 40) (2 ^ 30) (2 ^ 30) ≤ winCount) ∧
    (Works (in2 (liveIn 0xA1 (args [2 ^ 40, 4096])) (fun d => { d with allocs := [⟨2 ^ 40, 4096, 4096, [0x40010000], true⟩] })) 7 { cmd 0xA1 (args [2 ^ 40, 4096]) with phase := .started } 0xA1 ∧
      ([⟨2 ^ 40, 4096, 4096, [0x40010000], true⟩] : List Allocation).find? (fun a => a.va = dArg (cmd 0xA1 (args [2 ^ 40, 4096])).desc 0 && a.size = dArg (cmd 0xA1 (args [2 ^ 40, 4096])).desc 1 && a.mapped) = some ⟨2 ^ 40, 4096, 4096, [0x40010000], true⟩) ∧
    (Works (liveIn 0xA1 0) 7 { cmd 0xA1 0 with phase := .started } 0xA1 ∧ (pad (liveIn 0xA1 0) 2).allocs = []) ∧
    (Works (liveIn 0xB0 (args [0x500, 1])) 7 { cmd 0xB0 (args [0x500, 1]) with phase := .started } 0xB0 ∧
      dArg (cmd 0xB0 (args [0x500, 1])).desc 0 % 8 = 0 ∧
      (accessAll (liveIn 0xB0 (args [0x500, 1])) 2 (dArg (cmd 0xB0 (args [0x500, 1])).desc 0) 8 true).toOption = some [(.rick 0x40000500 0, 8)] ∧
      heldFor (liveIn 0xB0 (args [0x500, 1])) 7 0x40000500 8 = none) ∧
    (Works (liveIn 0xB1 (args [0x500, 1])) 7 { cmd 0xB1 (args [0x500, 1]) with phase := .started } 0xB1 ∧
      (gather (updCmd (liveIn 0xB1 (args [0x500, 1])) 7 (fun c => { c with phase := .started })) 7 2 (dArg (cmd 0xB1 (args [0x500, 1])).desc 0) 8).2 = .bytes [0, 0, 0, 0, 0, 0, 0, 0] ∧
      waitHolds (cmd 0xB1 (args [0x500, 1])).desc 0 = false ∧ waitHolds (cmd 0xB1 (args [0x500, 0])).desc 0 = true ∧
      ctxOf (gather (updCmd (liveIn 0xB1 (args [0x500, 1])) 7 (fun c => { c with phase := .started })) 7 2 (dArg (cmd 0xB1 (args [0x500, 1])).desc 0) 8).1 2 1 = some ctx1) ∧
    (cmdOf (liveIn 0xB1 (args [0x500, 1, 0, 9])) 7 = some { cmd 0xB1 (args [0x500, 1, 0, 9]) with phase := .started } ∧
      dOpcode (cmd 0xB1 (args [0x500, 1, 0, 9])).desc = 0xB1 ∧ dArg (cmd 0xB1 (args [0x500, 1, 0, 9])).desc 3 ≠ 0) :=
  ⟨by unfold Works; decide +kernel,
   by unfold Works; decide +kernel,
   ⟨by unfold Works; decide +kernel, by decide +kernel, by decide +kernel, by decide +kernel, by
    have hw : (pad alloc1 2).window = (2 ^ 40, 2 ^ 30) := by decide +kernel
    have hf : vaFree alloc1 2 (2 ^ 40) (2 ^ 30) = true := by decide +kernel
    simp only [pickVa, hw, ne_eq, not_true_eq_false, if_false, Nat.div_self (by decide : 0 < 2 ^ 30), List.range_one, List.map_cons, Nat.mod_one,
      List.map_nil, Nat.zero_mul, Nat.add_zero, List.find?_cons, hf]
    decide +kernel,
   pick_one alloc1 2 1 (by decide) (by decide +kernel), by decide +kernel⟩,
   by unfold Works; decide +kernel,
   by unfold Works; decide +kernel,
   by unfold Works; decide +kernel,
   by unfold Works; decide +kernel,
   by decide +kernel⟩

theorem witness_ContextsShareSlots :
    (firstReady (in2 run (fun d => { d with ctxs := [(1, ctx1), (2, { ctx1 with st := .ready, slot := none })] })) 2 = some (2, { ctx1 with st := .ready, slot := none }) ∧
      freeSlotOf (in2 run (fun d => { d with ctxs := [(1, ctx1), (2, { ctx1 with st := .ready, slot := none })] })) 2 = some 1 ∧
      (accessAll run 2 ctx1.area 16384 false).toOption.isSome = true) ∧
    ((firstReady (in2 run (fun d => { d with slots := 1, ctxs := [(1, ctx1), (2, { ctx1 with st := .ready, slot := none, prio := 5 })] })) 2).map (·.1) = some 2 ∧
      freeSlotOf (in2 run (fun d => { d with slots := 1, ctxs := [(1, ctx1), (2, { ctx1 with st := .ready, slot := none, prio := 5 })] })) 2 = none ∧
      looseSlot (in2 run (fun d => { d with slots := 1, ctxs := [(1, ctx1), (2, { ctx1 with st := .ready, slot := none, prio := 5 })] })) 2 = none ∧
      victim (in2 run (fun d => { d with slots := 1, ctxs := [(1, ctx1), (2, { ctx1 with st := .ready, slot := none, prio := 5 })] })) 2 5 = some (1, ctx1)) ∧
    ((ctxOf (in2 run (fun d => { d with ctxs := [(1, { ctx1 with preempting := true })] })) 2 1).map (·.preempting) = some true ∧
      ctxCmds run 2 1 = []) ∧
    (ctxOf run 2 1 = some ctx1 ∧ ctx1.st = .running ∧ ctx1.preempting = false ∧ firstReady run 2 = none) ∧
    (ctx1.prio ≤ 5 ∧
      (pad (in2 run (fun d => { d with slots := 1, ctxs := [(1, ctx1), (2, { ctx1 with st := .ready, slot := none, prio := 5 })] })) 2).excl = none) ∧
    ((pad (in2 (live 0 0) (fun d => { d with excl := some (1, 7) })) 2).excl = some (1, 7) ∧
      cmdOf (in2 (live 0 0) (fun d => { d with excl := some (1, 7) })) 7 = some (cmd 0 0)) ∧
    (dNopre ({ cmd 0 0 with desc := 2 ^ 502 + 2 ^ 484, killWaits := true } : Cmd).desc = true ∧
      killMustWait (geqCmd { run with cmd.live := [(7, { cmd 0 0 with desc := 2 ^ 502 + 2 ^ 484, killWaits := true })] } { cmd 0 0 with desc := 2 ^ 502 + 2 ^ 484, killWaits := true } 0x0321 2 []) { cmd 0 0 with desc := 2 ^ 502 + 2 ^ 484, killWaits := true } .control = false) :=
  ⟨by decide +kernel,
   by decide +kernel,
   by decide +kernel,
   by decide +kernel,
   by decide +kernel,
   by decide +kernel,
   by decide +kernel⟩

theorem witness_TenancyPortTransactions :
    (Reply (outTp 1) 3 (tph 1 0) 1 (tpo 1) ∧ bits (tph 1 0).toNat 79 64 = 0) ∧
    (Reply (outTp 2) 3 (tph 2 0) 2 (tpo 2) ∧ bits (tph 2 0).toNat 79 64 = 0 ∧ (cmdOf (outTp 2) 7).isSome = true) ∧
    (Reply (outTp 5) 3 (tph 5 0) 5 (tpo 5) ∧ bits (tph 5 0).toNat 79 64 = 0 ∧ bits (tph 5 0x0508).toNat 79 64 = 0x0508) ∧
    (gated { run with tp.quar := [5] } (bits (tph 2 0).toNat 251 246) = false ∧ islandOut { run with tp.quar := [5] } (sideOf 3) = false ∧
      bits (tph 2 0).toNat 239 224 ∈ { run with tp.quar := [5] }.tp.quar) ∧
    (Tbl.find (outTp 1).tp.outst (5 : Tag).toNat = some (tpo 1) ∧ (tpo 1).kind ≠ 2 ∧ (tpo 1).attached = true) ∧
    (tpCheck lots (BitVec.ofNat 256 (1 * 2 ^ 252 + 2 * 2 ^ 246 + 4096 * 2 ^ 176 + 0x10 * 2 ^ 144)).toNat 1 (bits (BitVec.ofNat 256 (1 * 2 ^ 252 + 2 * 2 ^ 246 + 4096 * 2 ^ 176 + 0x10 * 2 ^ 144)).toNat 191 176) = 0 ∧
      tpCheck lots (BitVec.ofNat 256 (2 * 2 ^ 252 + 2 * 2 ^ 246 + 1 * 2 ^ 192 + 4 * 2 ^ 176 + 0x10 * 2 ^ 144)).toNat 2 ([0, 0, 0, 0] : Bytes).length = 0 ∧
      tpCheck lots (BitVec.ofNat 256 (1 * 2 ^ 252 + 2 * 2 ^ 246 + 4 * 2 ^ 176 + 0x11 * 2 ^ 144)).toNat 1 (bits (BitVec.ofNat 256 (1 * 2 ^ 252 + 2 * 2 ^ 246 + 4 * 2 ^ 176 + 0x11 * 2 ^ 144)).toNat 191 176) = 0x020B) ∧
    ((gather (liveIn 0 0) 7 2 0x500 4).2 = .bytes [0, 0, 0, 0] ∧ (cmdOf (liveIn 0 0) 7).map (·.status) = some 0) ∧
    ((tpm lots 3).up = true ∧ (tpm lots 3).gated = false ∧ (tpm lots 3).nakked = false ∧
      flit0.length = 256 * (1 + bits (beNat (flit0.take 32)) 239 232) ∧ bits (beNat (flit0.take 32)) 255 252 = 1 ∧
      bit (beNat (flit0.take 32)) 231 = false ∧ bits (beNat (flit0.take 32)) 210 32 = 0 ∧ bit (beNat (flit0.take 32)) 211 = false ∧
      bits (beNat (flit0.take 32)) 251 240 = 0 ∧ (tpm lots 3).rx = none) ∧
    (bits (beNat (flit0.take 32)) 31 0 = (crc32c (beBytes 32 (beNat (flit0.take 32) - bits (beNat (flit0.take 32)) 31 0) ++ flit0.drop 32)).toNat) ∧
    ((zeros 256).length = 256 * (1 + bits (beNat ((zeros 256).take 32)) 239 232) ∧
      bits (beNat ((zeros 256).take 32)) 31 0 ≠ (crc32c (beBytes 32 (beNat ((zeros 256).take 32) - bits (beNat ((zeros 256).take 32)) 31 0) ++ (zeros 256).drop 32)).toNat) :=
  ⟨⟨⟨by decide, by decide +kernel, by decide +kernel, by decide +kernel, by decide +kernel, rfl, rfl, by decide +kernel, by decide +kernel, rfl, ctx1, by decide +kernel, rfl⟩, by decide +kernel⟩,
   ⟨⟨by decide, by decide +kernel, by decide +kernel, by decide +kernel, by decide +kernel, rfl, rfl, by decide +kernel, by decide +kernel, rfl, ctx1, by decide +kernel, rfl⟩, by decide +kernel, by decide +kernel⟩,
   ⟨⟨by decide, by decide +kernel, by decide +kernel, by decide +kernel, by decide +kernel, rfl, rfl, by decide +kernel, by decide +kernel, rfl, ctx1, by decide +kernel, rfl⟩, by decide +kernel, by decide +kernel⟩,
   by decide +kernel,
   by decide +kernel,
   by decide +kernel,
   by decide +kernel,
   by decide +kernel,
   by
    have e : beBytes 32 (beNat (flit0.take 32) - bits (beNat (flit0.take 32)) 31 0) ++ flit0.drop 32 = beBytes 32 (1 * 2 ^ 252) ++ zeros 224 := by decide +kernel
    rw [e, test_crc_flit]; decide +kernel,
   by
    have e : beBytes 32 (beNat ((zeros 256).take 32) - bits (beNat ((zeros 256).take 32)) 31 0) ++ (zeros 256).drop 32 = zeros 256 := by decide +kernel
    rw [e, test_crc_zeros]; decide +kernel⟩

theorem witness_FenceTablesArePushedAndActivated :
    (sideOk (sb 2 0 0 0).toNat 2 0 0 false = true ∧
      ((pad (fencing 1 0 [4] []) (bits (sb 2 0 0 0).toNat 119 114)).pend).map (fun x => (x.gen, x.tables, x.fences, x.stage)) = some (bits (sb 2 0 0 0).toNat 111 96, [bits (sb 2 0 0 0).toNat 95 92], [], 0)) ∧
    (sideOk (sb 3 0 0 (5 * 2 ^ 64)).toNat 3 0 (0xFFFF * 2 ^ 64) false = true ∧
      ((pad (fencing 1 0 [4] []) 2).pend).map (fun x => (x.gen, x.tables, x.cmd)) = some (bits (sb 3 0 0 0).toNat 111 96, [4], 1)) ∧
    (sideOk (sb 5 1 0 0).toNat 5 0 0 true = true ∧ bits (sb 5 1 0 0).toNat 113 112 = 1 ∧
      ((pad (fencing 1 1 [] [8]) 2).pend).map (fun x => (x.cmd, x.stage, x.tables, x.fences, x.gen)) = some (1, 1, [], [2 * bits (sb 5 1 0 0).toNat 95 92], bits (sb 5 1 0 0).toNat 111 96) ∧
      mirrorWaits (fencing 1 1 [] [8]) 2 = false) ∧
    (((pad (fencing 2 1 [] [8]) 2).pend).map (fun x => (x.cmd, x.fences)) = some (2, [8]) ∧ 8 / 2 = (4 : Fin 16).val ∧
      (∃ l ∈ (pad (fencing 2 1 [] [8]) 2).lots, dieOf (fencing 2 1 [] [8]) l = some (4 : Fin 16).val)) ∧
    (sideOk (sb 7 0 1 (1 * 2 ^ 30)).toNat 7 1 (2 ^ 80 - 2 ^ 26) false = true) ∧
    (sideOk (sb 8 0 0 (0x10 * 2 ^ 48)).toNat 8 0 (0xFFFFFFFF * 2 ^ 48) false = true) ∧
    (sideOk (sb 11 0 0 (1 * 2 ^ 79)).toNat 11 0 (3 * 2 ^ 78) false = true ∧
      fenceOf (in2 lots (fun d => { d with tables := [⟨4, 1, [0x10], true⟩] })) (bits (sb 11 0 0 (1 * 2 ^ 79)).toNat 119 114) (bits (sb 11 0 0 (1 * 2 ^ 79)).toNat 95 92) = some ⟨4, 1, [0x10], true⟩ ∧
      bit (sb 11 0 0 (1 * 2 ^ 79)).toNat 79 = true ∧ bits (sb 11 0 0 (1 * 2 ^ 79)).toNat 111 96 = 1 ∧
      (fenceOf (in2 lots (fun d => { d with tables := [⟨4, 3, [0x10], true⟩] })) 2 4).map (·.gen) = some 3) ∧
    (sideOk (sb 2 0 1 0).toNat 2 0 0 false = false) :=
  ⟨by decide +kernel,
   by decide +kernel,
   by decide +kernel,
   by decide +kernel,
   by decide +kernel,
   by decide +kernel,
   by decide +kernel,
   by decide +kernel⟩

theorem witness_ModulesTrainAndFail :
    (sideOk (sb 12 0 0 (3 * 2 ^ 68)).toNat 12 0 (0xFFF * 2 ^ 68) false = true ∧ (∀ e ∈ (tpm lots 3).replay, e.2.2 < 8)) ∧
    ((∃ e ∈ (tpm { lots with tp.modules := [(3, { up := true, die := some 4, replay := [(4, [], 8)] })] } 3).replay, 256 ≤ (bits (sb 12 0 0 (3 * 2 ^ 68)).toNat 79 68 + 4096 - e.1) % 4096 ∧
      8 ≤ e.2.2)) ∧
    (sideOk (sb 13 0 3 0).toNat 13 (mani.length) 0 false = true ∧
      manifestBad lots (mani.getD 0 0).toNat (manifestEntries mani) mani.length = false ∧
      manifestBad lots (sb 0 0 0 0).toNat (manifestEntries mani) mani.length = true) ∧
    ((tpm lots 3).die = some 4 ∧ (∀ n, n < 24 → n ≠ 3 → (tpm lots n).die = some 4 → (tpm lots n).up = false) ∧
      (∃ l ∈ (pad lots 2).lots, dieOf lots l = some 4) ∧ (pad lots 2).state ≠ .empty) ∧
    (ManagerAsks lots .pf ∧ (2 : BitVec 8).toNat = 2) :=
  ⟨by decide +kernel,
   by decide +kernel,
   by decide +kernel,
   by decide +kernel,
   by unfold ManagerAsks Serves; decide +kernel⟩

theorem witness_HostReadsAndTranslations :
    (2 ≤ hosted.sys.boot ∧ (5 : BitVec 14).toNat ∉ hosted.host.quar ∧ Tbl.find hosted.host.outst (5 : BitVec 14).toNat = some hostRead ∧
      gated hosted hostRead.p = false ∧ islandOut hosted 3 = false ∧ hostRead.attached = true ∧ readCurrent hosted hostRead = true ∧
      hostOpen hosted hostRead.p = true ∧ hostRead.chunk = none ∧ (hostRead.got ++ [1, 2, 3, 4]).length = hostRead.len ∧
      (7 : BitVec 3).toNat ≠ 0) ∧
    ((5 : BitVec 14).toNat ∈ { hosted with host.quar := [5] }.host.quar) ∧
    (getPair { run with host.ats := [(0, { p := 2, base := 0x1000, size := 4096 })] }.host.ats 0 = some { p := 2, base := 0x1000, size := 4096 } ∧
      ({ p := 2, base := 0x1000, size := 4096 } : Ats).done = false ∧ ({ p := 2, base := 0x1000, size := 4096 } : Ats).stale = false ∧
      ({ p := 2, base := 0x1000, size := 4096, stale := true } : Ats).stale = true) ∧
    (({ hosted with host.atsInv := [(2, 9, 0, 4096, [5])] }.host.atsInv.find? (fun e => e.1 = 2 && e.2.1 = (9 : BitVec 5).toNat)) = some (2, 9, 0, 4096, [5]) ∧
      [5].any (fun t => Tbl.has hosted.host.outst t) = true ∧ ([] : List Nat).any (fun t => Tbl.has hosted.host.outst t) = false) :=
  ⟨by decide +kernel,
   by decide +kernel,
   by decide +kernel,
   by decide +kernel⟩

theorem witness_HostFunctionsResetAndResume :
    (readers run 2 = []) ∧
    (readers hosted 2 = [7]) ∧
    ((func hosted (some 2)).inReset = false ∧ (∀ e ∈ (pad hosted 2).queues, e.2.waiting = [])) ∧
    ((3 : BitVec 8).toNat ∈ (func hosted (some 2)).pba ∧ (func hosted (some 2)).master = true) ∧
    (padCmds run 2 = [] ∧ (∀ e ∈ (pad (in2 run (fun d => { d with ctxs := [(1, { ctx1 with slot := none })] })) 2).ctxs, e.2.slot = none)) ∧
    ((func { run with host.vfs := [(2, { (default : Func) with inReset := true })] } (some 2)).inReset = true ∧
      (∀ e ∈ { run with host.vfs := [(2, { (default : Func) with inReset := true })] }.host.outst, e.2.p ≠ 2)) ∧
    ({ dev with obj.draftOwner := some .pf }.obj.draftOwner = some .pf) :=
  ⟨by decide +kernel,
   by decide +kernel,
   by decide +kernel,
   by decide +kernel,
   by decide +kernel,
   by decide +kernel,
   by decide +kernel⟩

theorem witness_QueuePairsMoveThroughTheirStates :
    (OwnerAsks (backed run) 2 .pf ∧ bits (qcarg (2 * 2 ^ 18 + 1)).toNat 81 0 = 0 ∧ bits (qcarg (2 * 2 ^ 18 + 1)).toNat 103 100 = 1 ∧
      qpPad (bits (qcarg (2 * 2 ^ 18 + 1)).toNat 127 104) = 2 ∧
      Tbl.has (backed run).net.qps (bits (qcarg (2 * 2 ^ 18 + 1)).toNat 127 104) = false ∧ paired (backed run) = false ∧
      bits (qcarg (2 * 2 ^ 18 + 1)).toNat 127 104 % 2 ^ 18 < cfgP (backed run) 2 0x52 7 ∧
      (accessAll (backed run) 2 (cfgP (backed run) 2 0x52 6 + 1024 * (bits (qcarg (2 * 2 ^ 18 + 1)).toNat 127 104 % 2 ^ 18)) 1024 true).toOption = some [(.rick 0x40010400 0, 1024)]) ∧
    (bits (qmarg 8 0).toNat 54 0 = 0 ∧
      Tbl.find (net run { q1 with st := 0 }).net.qps (bits (qmarg 8 0).toNat 255 232) = some { q1 with st := 0 } ∧
      qpPad (bits (qmarg 8 0).toNat 255 232) = 2 ∧ q1.type ≠ 3 ∧ 8 ≤ bits (qmarg 8 0).toNat 227 224 ∧ bits (qmarg 12 0).toNat 227 224 ≤ 12) ∧
    ((∀ k, k ≤ bits (qmarg 0 0).toNat 186 183 → bit (pad run 2).links (bits (qmarg 0 0).toNat (182 - 6 * k) (177 - 6 * k)) = true) ∧
      (q1.type = 2 → qpPad (bits (qmarg 0 0).toNat 210 187) = 2) ∧
      Tbl.find (net run { q1 with st := 1 }).net.qps qpn1 = some { q1 with st := 1 }) ∧
    (Tbl.find (net run { q1 with st := 4 }).net.qps qpn1 = some { q1 with st := 4 } ∧
      Tbl.find (net run { q1 with st := 2 }).net.qps qpn1 = some { q1 with st := 2 } ∧ q1.tx = [] ∧ q1.rx = [] ∧
      { q1 with tx := [txm 0] }.tx ≠ []) ∧
    ((BitVec.ofNat 32 qpn1).toNat < 2 ^ 24 ∧ Tbl.find run.net.qps (BitVec.ofNat 32 qpn1).toNat = none ∧ qpPad (BitVec.ofNat 32 qpn1).toNat = 2) :=
  ⟨by unfold OwnerAsks TenantAsks ManagerAsks Serves; decide +kernel,
   by decide +kernel,
   by decide +kernel,
   by decide +kernel,
   by decide +kernel⟩

theorem witness_TransportCommandsOpenOneMessage :
    (Works (net (liveIn 0x20 (args [0x500, 4, 0x2000, qpn1])) { q1 with st := 3 }) 7 { cmd 0x20 (args [0x500, 4, 0x2000, qpn1]) with phase := .started } 0x20 ∧
      dArg (cmd 0x20 (args [0x500, 4, 0x2000, qpn1])).desc 3 < 2 ^ 24 ∧ dArg (cmd 0x20 (args [0x500, 4, 0x2000, qpn1])).desc 4 = 0 ∧
      dArg (cmd 0x20 (args [0x500, 4, 0x2000, qpn1])).desc 5 = 0 ∧ 0 < dArg (cmd 0x20 (args [0x500, 4, 0x2000, qpn1])).desc 1 ∧
      dArg (cmd 0x20 (args [0x500, 4, 0x2000, qpn1])).desc 1 < 64 ∧ dArg (cmd 0x20 (args [0x500, 4, 0x2000, qpn1])).desc 0 % 32 = 0 ∧
      dArg (cmd 0x20 (args [0x500, 4, 0x2000, qpn1])).desc 2 % 8 = 0 ∧
      Tbl.find (net (liveIn 0x20 0) { q1 with st := 3 }).net.qps qpn1 = some { q1 with st := 3 } ∧ qpPad qpn1 = 2) ∧
    (Works (net (liveIn 0x20 (args [0x500, 512, 0x2000, qpn1])) q1) 7 { cmd 0x20 (args [0x500, 512, 0x2000, qpn1]) with phase := .started } 0x20 ∧
      qpCmdStatus (net (liveIn 0x20 (args [0x500, 512, 0x2000, qpn1])) q1) 2 qpn1 = 0 ∧
      msgRoom (qp (net (liveIn 0x20 (args [0x500, 512, 0x2000, qpn1])) q1) qpn1) = true ∧
      (admitQp (net (liveIn 0x20 (args [0x500, 512, 0x2000, qpn1])) q1) qpn1).isSome = true ∧
      (gather ((admitQp (net (liveIn 0x20 (args [0x500, 512, 0x2000, qpn1])) q1) qpn1).getD dev) 7 2 0x500 512).2 = .bytes (List.replicate 512 0) ∧
      256 < (List.replicate 512 (0 : Byte)).length) ∧
    (Works (net (liveIn 0x21 (args [0x500, 512, 0x2000, qpn1])) q1) 7 { cmd 0x21 (args [0x500, 512, 0x2000, qpn1]) with phase := .started } 0x21 ∧
      (accessAll ((admitQp (net (liveIn 0x21 (args [0x500, 512, 0x2000, qpn1])) q1) qpn1).getD dev) 2 0x500 512 true).toOption = some [(.rick 0x40000500 0, 512)]) ∧
    (Works (net (liveIn 0x24 (args [0x500, 63, 0x2000, qpn1])) q1) 7 { cmd 0x24 (args [0x500, 63, 0x2000, qpn1]) with phase := .started } 0x24 ∧
      (accessAll ((admitQp (net (liveIn 0x24 (args [0x500, 63, 0x2000, qpn1])) q1) qpn1).getD dev) 2 0x2000 512 true).toOption = some [(.rick 0x40002000 0, 512)] ∧
      (gather (holdDest ((admitQp (net (liveIn 0x24 (args [0x500, 63, 0x2000, qpn1])) q1) qpn1).getD dev) 7 [(.rick 0x40002000 0, 512)]) 7 2 0x500 2048).2 = .bytes (List.replicate 2048 0)) ∧
    (Works { lots with cmd.live := [(7, { cmd 0x2C (args [0, 0x100]) with phase := .started })], obj.committed := Tbl.set (Tbl.set lots.obj.committed (okey (pidx 2 0x11) 0) 1) (okey (pidx 2 0x11) 1) 0x10 } 7 { cmd 0x2C (args [0, 0x100]) with phase := .started } 0x2C ∧
      dispatchLot { lots with obj.committed := Tbl.set (Tbl.set lots.obj.committed (okey (pidx 2 0x11) 0) 1) (okey (pidx 2 0x11) 1) 0x10 } 2 0 0x100 = some 0x10 ∧
      (moduleFor lots 0x10).isSome = true) ∧
    (Works (liveIn 0x2D (args [0x500, 512, 0x2000])) 7 { cmd 0x2D (args [0x500, 512, 0x2000]) with phase := .started } 0x2D ∧
      (accessAll (liveIn 0x2D (args [0x500, 512, 0x2000])) 2 0x2000 512 true).toOption = some [(.rick 0x40002000 0, 512)] ∧
      (gather (holdDest (liveIn 0x2D (args [0x500, 512, 0x2000])) 7 [(.rick 0x40002000 0, 512)]) 7 2 0x500 512).2 = .bytes (List.replicate 512 0) ∧
      cmdOf (gather (holdDest (liveIn 0x2D (args [0x500, 512, 0x2000])) 7 [(.rick 0x40002000 0, 512)]) 7 2 0x500 512).1 7 = cmdOf (holdDest (liveIn 0x2D (args [0x500, 512, 0x2000])) 7 [(.rick 0x40002000 0, 512)]) 7) :=
  ⟨by unfold Works; decide +kernel,
   by unfold Works; decide +kernel,
   by unfold Works; decide +kernel,
   by unfold Works; decide +kernel,
   by unfold Works; decide +kernel,
   by unfold Works; decide +kernel⟩

theorem witness_RepliesEndMessages :
    (got (net run q1) 2 (pk 2 0 9 0 false (beBytes 40 0)) = true ∧
      (qp (rcv (net run q1) 2 (pk 2 0 9 0 false (beBytes 40 0))) qpn1).paths[bPath (pk 2 0 9 0 false (beBytes 40 0)).hdr.toNat]? = some path0 ∧
      bMsg (pk 2 0 9 0 false (beBytes 40 0)).hdr.toNat = 0 ∧ psnAhead path0.tx (bPsn (pk 2 0 3 0 false []).hdr.toNat) < 2 ^ 31) ∧
    (got (net (liveIn 0x20 0) { q1 with tx := [txm 0] }) 3 (pk 3 9 0 0 false (beBytes 8 (0 * 2 ^ 48))) = true ∧
      repliedMsg (rcv (net (liveIn 0x20 0) { q1 with tx := [txm 0] }) 3 (pk 3 9 0 0 false (beBytes 8 (0 * 2 ^ 48)))) qpn1 (pk 3 9 0 0 false (beBytes 8 (0 * 2 ^ 48))).hdr.toNat false = some (txm 0) ∧
      repliedMsg (rcv (net (liveIn 0x20 0) { q1 with tx := [txm 0] }) 3 (pk 3 9 0 0 false (beBytes 8 (1550 * 2 ^ 48)))) qpn1 (pk 3 9 0 0 false (beBytes 8 (1550 * 2 ^ 48))).hdr.toNat true = some (txm 0) ∧
      got (net (liveIn 0x20 0) { q1 with tx := [txm 0] }) 3 (pk 3 9 0 0 false (beBytes 8 (2562 * 2 ^ 48))) = true) ∧
    (got (net (liveIn 0x20 0) { q1 with tx := [txm 0] }) 10 (pk 10 9 0 0 false []) = true ∧
      repliedMsg (rcv (net (liveIn 0x20 0) { q1 with tx := [txm 0] }) 10 (pk 10 9 0 0 false [])) qpn1 (pk 10 9 0 0 false []).hdr.toNat false = some (txm 0) ∧
      (txm 0).sealed_ = true) ∧
    (cmdOf { liveIn 0x20 0 with cmd.live := [(7, { cmd 0x20 0 with due := 1 })] } 7 = some { cmd 0x20 0 with due := 1 }) ∧
    ((qp (net (liveIn 0x20 0) { q1 with tx := [txm 0] }) qpn1).tx = [txm 0] ∧ (txm 0).kind ≠ 5 ∧
      Tbl.has (net (liveIn 0x20 0) { q1 with tx := [txm 0] }).net.qps qpn1 = true ∧
      (qp (net (liveIn 0x20 0) { q1 with tx := [txm 0] }) qpn1).draining = false) ∧
    (got (net (liveIn 0x20 0) { q1 with tx := [{ txm 0 with aborting := true }] }) 9 (pk 9 9 0 0 false []) = true ∧
      { txm 0 with aborting := true } ∈ (qp (rcv (net (liveIn 0x20 0) { q1 with tx := [{ txm 0 with aborting := true }] }) 9 (pk 9 9 0 0 false [])) qpn1).tx) ∧
    (got (net (liveIn 0x20 0) { q1 with tx := [txm 6] }) 7 (pk 7 9 0 0 false (beBytes 8 1)) = true ∧
      (requestOf (rcv (net (liveIn 0x20 0) { q1 with tx := [txm 6] }) 7 (pk 7 9 0 0 false (beBytes 8 1))) qpn1 (pk 7 9 0 0 false (beBytes 8 1)).hdr.toNat 6).map (fun e => (e.1, e.2.1)) = some (txm 6, 7) ∧
      (beBytes 8 1).length = (txm 6).bytes / 4 ∧
      (accessAll (liveIn 0x24 (args [0x500, 0, 0x2000, qpn1])) 2 0x2000 8 true).toOption = some [(.rick 0x40002000 0, 8)]) ∧
    (got (net (liveIn 0x21 0) { q1 with tx := [{ txm 4 with bytes := 512 }] }) 5 (pk 5 9 0 0 false [1, 2, 3, 4]) = true ∧
      (requestOf (rcv (net (liveIn 0x21 0) { q1 with tx := [{ txm 4 with bytes := 512 }] }) 5 (pk 5 9 0 0 false [1, 2, 3, 4])) qpn1 (pk 5 9 0 0 false [1, 2, 3, 4]).hdr.toNat 4).map (fun e => e.2.1) = some 7 ∧
      psnSeen path0 0 = false ∧ bAddr (pk 5 9 0 0 false [1, 2, 3, 4]).hdr.toNat = bAddr ({ txm 4 with bytes := 512 }).last.1 + 0 ∧
      (accessAll (liveIn 0x21 (args [0x500])) 2 (0x500 + 0) 4 true).toOption = some [(.rick 0x40000500 0, 4)] ∧
      bCommit (pk 5 9 0 0 false [1, 2, 3, 4]).hdr.toNat = false) ∧
    (got (net run q1) 5 (pk 5 9 0 0 false []) = true ∧
      (requestOf (rcv (net run q1) 5 (pk 5 9 0 0 false [])) qpn1 (pk 5 9 0 0 false []).hdr.toNat 4).isNone = true ∧
      got (net run q1) 7 (pk 7 9 0 0 false []) = true ∧
      (requestOf (rcv (net run q1) 7 (pk 7 9 0 0 false [])) qpn1 (pk 7 9 0 0 false []).hdr.toNat 6).isNone = true ∧ q1.readDone = []) :=
  ⟨by decide +kernel,
   by decide +kernel,
   by decide +kernel,
   by decide +kernel,
   by decide +kernel,
   by decide +kernel,
   by decide +kernel,
   by decide +kernel,
   by decide +kernel⟩

theorem witness_ReceiversPlaceAndCommit :
    (got (net run q1) 0 (pk 0 9 0 0x500 false [1, 2, 3, 4]) = true ∧
      judge (qp (rcv (net run q1) 0 (pk 0 9 0 0x500 false [1, 2, 3, 4])) qpn1) (pk 0 9 0 0x500 false [1, 2, 3, 4]).hdr.toNat = .accept ∧
      bCommit (pk 0 9 0 0x500 false [1, 2, 3, 4]).hdr.toNat = false ∧
      bindingFor (rcv (net run q1) 0 (pk 0 9 0 0x500 false [1, 2, 3, 4])) 2 qpn1 (bAddr (pk 0 9 0 0x500 false [1, 2, 3, 4]).hdr.toNat) = none ∧
      (accessAll (rcv (net run q1) 0 (pk 0 9 0 0x500 false [1, 2, 3, 4])) 2 (bAddr (pk 0 9 0 0x500 false [1, 2, 3, 4]).hdr.toNat) 4 true).toOption = some [(.rick 0x40000500 0, 4)] ∧
      (qp (rcv (net run q1) 0 (pk 0 9 0 0x500 false [1, 2, 3, 4])) qpn1).rx = []) ∧
    (got (net run { q1 with rx := [rxm] }) 1 (pk 1 9 1 0 true (beBytes 24 (4 * 2 ^ 128 + 1 * 2 ^ 48) ++ beBytes 8 1)) = true ∧
      (pk 1 9 1 0 true (beBytes 24 (4 * 2 ^ 128 + 1 * 2 ^ 48) ++ beBytes 8 1)).payload.length = 24 + 8 * popCount 16 (bits (beNat ((pk 1 9 1 0 true (beBytes 24 (4 * 2 ^ 128 + 1 * 2 ^ 48) ++ beBytes 8 1)).payload.take 24)) 63 48) ∧
      bits (beNat ((pk 1 9 1 0 true (beBytes 24 (4 * 2 ^ 128 + 1 * 2 ^ 48) ++ beBytes 8 1)).payload.take 24)) 33 0 = 0 ∧
      judge (qp (rcv (net run { q1 with rx := [rxm] }) 1 (pk 1 9 1 0 true (beBytes 24 (4 * 2 ^ 128 + 1 * 2 ^ 48) ++ beBytes 8 1))) qpn1) (pk 1 9 1 0 true (beBytes 24 (4 * 2 ^ 128 + 1 * 2 ^ 48) ++ beBytes 8 1)).hdr.toNat = .accept ∧
      (qp (rcv (net run { q1 with rx := [rxm] }) 1 (pk 1 9 1 0 true (beBytes 24 (4 * 2 ^ 128 + 1 * 2 ^ 48) ++ beBytes 8 1))) qpn1).rx = [rxm] ∧
      rxm.msg = bMsg (pk 1 9 1 0 true (beBytes 24 (4 * 2 ^ 128 + 1 * 2 ^ 48) ++ beBytes 8 1)).hdr.toNat ∧
      missing rxm (tailEntries (pk 1 9 1 0 true (beBytes 24 (4 * 2 ^ 128 + 1 * 2 ^ 48) ++ beBytes 8 1)).payload) = [] ∧
      rxm.bytes = bits (beNat ((pk 1 9 1 0 true (beBytes 24 (4 * 2 ^ 128 + 1 * 2 ^ 48) ++ beBytes 8 1)).payload.take 24)) 191 128 ∧
      missing rxm (tailEntries (pk 1 9 1 0 true (beBytes 24 (4 * 2 ^ 128 + 1 * 2 ^ 48) ++ beBytes 8 2)).payload) ≠ []) ∧
    (rxm.placed = [(.rick 0x40000500 0, [1, 2, 3, 4])] ∧ placesOpen (net run { q1 with rx := [rxm] }) 2 [(.rick 0x40000500 0, 4)] = true) ∧
    (got (net run { q1 with committed := [9] }) 0 (pk 0 9 0 0x500 false [1, 2, 3, 4]) = true ∧
      bMsg (pk 0 9 0 0x500 false [1, 2, 3, 4]).hdr.toNat ∈ (qp (rcv (net run { q1 with committed := [9] }) 0 (pk 0 9 0 0x500 false [1, 2, 3, 4])) qpn1).committed) ∧
    (got (net run q1) 4 (pk 4 9 0 0x500 false (beBytes 16 (4 * 2 ^ 64))) = true ∧
      (pk 4 9 0 0x500 false (beBytes 16 (4 * 2 ^ 64))).payload.length = 16 ∧
      bits (beNat (pk 4 9 0 0x500 false (beBytes 16 (4 * 2 ^ 64))).payload) 47 0 = 0 ∧
      txMsg (rcv (net run q1) 4 (pk 4 9 0 0x500 false (beBytes 16 (4 * 2 ^ 64)))) qpn1 (bMsg (pk 4 9 0 0x500 false (beBytes 16 (4 * 2 ^ 64))).hdr.toNat) true = none ∧
      (rcv (net run q1) 4 (pk 4 9 0 0x500 false (beBytes 16 (4 * 2 ^ 64)))).cmd.heldReads = [] ∧
      0 < bits (beNat (pk 4 9 0 0x500 false (beBytes 16 (4 * 2 ^ 64))).payload) 127 64) ∧
    (got (net run { q1 with kept := [(9, [1])] }) 6 (pk 6 9 0 0 false (beBytes 32 0)) = true ∧
      (qp (rcv (net run { q1 with kept := [(9, [1])] }) 6 (pk 6 9 0 0 false (beBytes 32 0))) qpn1).kept.find? (fun e => e.1 = bMsg (pk 6 9 0 0 false (beBytes 32 0)).hdr.toNat) = some (9, [1]) ∧
      got (net run q1) 6 (pk 6 9 0 0 false (beBytes 32 0)) = true ∧ (pk 6 9 0 0 false (beBytes 32 0)).payload ≠ [] ∧
      (pk 6 9 0 0 false (beBytes 32 0)).payload.length % 32 = 0) ∧
    (got (net run q1) 8 (pk 8 9 0 0 false []) = true ∧ got (net run { q1 with rx := [rxm] }) 8 (pk 8 9 0 0 false []) = true ∧
      rxMsg q1 9 false = none ∧ rxm.cmd = none) ∧
    (got (net run q1) 11 (pk 11 9 0 0 false []) = true) ∧
    (got ({ net run { q1 with group := some 130, type := 3 } with sheaf.groups := [(130, { num := 2, self := 0, members := [], qpBase := 1, links := [], slots := 1, box := 0, insts := [{ num := 0 }], nextInst := 1 })] }) 12 (pk 12 9 0 0 false (beBytes 8 4)) = true ∧
      recoverInst { num := 2, self := 0, members := [], qpBase := 1, links := [], slots := 1, box := 0, insts := [{ num := 0 }], nextInst := 1 } (bAddr (pk 12 9 0 0 false (beBytes 8 4)).hdr.toNat) = some 0 ∧
      bits (beNat (beBytes 8 4)) 59 32 = 0 ∧
      limitOf (rcv ({ net run { q1 with group := some 130, type := 3 } with sheaf.groups := [(130, { num := 2, self := 0, members := [], qpBase := 1, links := [], slots := 1, box := 0, insts := [{ num := 0 }], nextInst := 1 })] }) 12 (pk 12 9 0 0 false (beBytes 8 4))) qpn1 (130, 0) 0 < bits (beNat (beBytes 8 4)) 31 0) :=
  ⟨by decide +kernel,
   by decide +kernel,
   by decide +kernel,
   by decide +kernel,
   by decide +kernel,
   by decide +kernel,
   by decide +kernel,
   by decide +kernel,
   by decide +kernel⟩

theorem witness_TransportTimersExpire :
    ((net (liveIn 0x20 0) { q1 with tx := [txm 6] }).net.qps = [((BitVec.ofNat 24 qpn1).toNat, { q1 with tx := [txm 6] })] ∧ (txm 6).kind = 6 ∧
      (txm 6).aborting = false ∧ (txm 6).cmd = some 7 ∧ (txm 4).kind = 4) ∧
    (Tbl.find (net run { q1 with paths := [{ path0 with sinceAck := 1 }] }).net.qps (BitVec.ofNat 24 qpn1).toNat = some { q1 with paths := [{ path0 with sinceAck := 1 }] } ∧
      ({ q1 with paths := [{ path0 with sinceAck := 1 }] } : Qp).paths[(0 : Fin 16).val]? = some { path0 with sinceAck := 1 }) ∧
    (rxMsg { q1 with rx := [rxm] } (9 : BitVec 12).toNat false = some rxm) ∧
    (retxRuns { q1 with tx := [txm 0] } = true ∧ getO run 0x1600 4 ≤ 255 + 1 ∧ q1.expiries + 1 < getO run 0x1600 4) :=
  ⟨by decide +kernel,
   by decide +kernel,
   by decide +kernel,
   by decide +kernel⟩

theorem witness_UnmatchedTagIsDroppedAndCounted :
    2 ≤ run.sys.boot ∧ islandOut run (portIsland (some 67)) = false ∧ trnOut run = false ∧
      forOther run { pk 0 0 0 0 false [] with hdr := 0 } = false ∧
      padByTag run (bTag ({ pk 0 0 0 0 false [] with hdr := 0 } : Packet).hdr.toNat) = none :=
  by decide +kernel

theorem witness_LinksFollowTheirTransitions :
    ((link dev 67).st = .down ∧ dev.pow.st < 2 ∧ islandOut dev (lnkIsland 67) = false) ∧
    ((link (lnk .training id) 1).st = .training) ∧
    ((link (lnk .init id) 1).st = .init ∧ bits (ctl 1 (5 * 2 ^ 107)).toNat 127 120 = 1 ∧ bits (ctl 1 (5 * 2 ^ 107)).toNat 106 0 = 0) ∧
    ((link (lnk .up (fun k => { k with replay := [(0, 3, 5, pk 0 0 0 0 false [], 0)] })) 1).st = .up ∧
      (link (lnk .up (fun k => { k with replay := [(0, 3, 5, pk 0 0 0 0 false [], 0)] })) 1).replay ≠ [] ∧ (link dev 1).replay = []) ∧
    (bits (ctl 5 (0x10 * 2 ^ 112)).toNat 127 120 = 5 ∧ bits (ctl 5 (0x10 * 2 ^ 112)).toNat 111 0 = 0) ∧
    (ManagerAsks dev .pf ∧ (63 : BitVec 8).toNat < 64) ∧
    ((link (lnk .retrain id) 1).st = .retrain ∧ (lnk .retrain id).pow.st ≠ 2 ∧ (link (lnk .retrain id) 1).st ≠ .up ∧ dev.net.qps = []) :=
  ⟨by decide +kernel,
   by decide +kernel,
   by decide +kernel,
   by decide +kernel,
   by decide +kernel,
   by unfold ManagerAsks Serves; decide +kernel,
   by decide +kernel⟩

theorem witness_LinkFramesAreTakenInOrder :
    ((link (lnk .up id) 1).st = .up ∧ frameOk (frame 1 0 0 4 false).toNat 1 4 = true ∧ bit (frame 1 0 0 4 false).toNat 17 = false ∧
      bits (frame 1 0 0 4 false).toNat 49 34 = 0 ∧ (link (lnk .up id) 1).rx = none ∧
      ceilDiv (12 + 4) 256 ≤ ownCredits (link (lnk .up (fun k => { k with pools := [(5, 2)] })) 1) (bits (frame 1 0 0 4 false).toNat 56 50) (bits (frame 1 0 0 4 false).toNat 59 57) ∧
      ownCredits (link (lnk .up id) 1) (bits (frame 1 0 0 4 false).toNat 56 50) (bits (frame 1 0 0 4 false).toNat 59 57) < ceilDiv (12 + 4) 256) ∧
    (bits (frame 1 0 7 4 false).toNat 49 34 ≠ 0 ∧ (link (lnk .up (fun k => { k with nakked := true })) 1).nakked = true ∧
      (link (lnk .up id) 1).nakked = false) ∧
    (frameOk (frame 2 7 0 16 false).toNat 2 16 = true ∧ bits (ctl 2 (93 * 2 ^ 94)).toNat 127 120 = 2 ∧ bits (ctl 2 (93 * 2 ^ 94)).toNat 92 0 = 0 ∧
      (link (lnk .up id) 1).waiting = [] ∧ bits (ctl 4 (2 ^ 113)).toNat 127 120 = 4 ∧ bits (ctl 4 (2 ^ 113)).toNat 95 0 = 0) ∧
    (frameOk (frame 2 7 0 16 true).toNat 2 16 = true ∧ bit (frame 2 7 0 16 true).toNat 17 = true) ∧
    (bits (ctl 3 (9 * 2 ^ 104)).toNat 127 120 = 3 ∧ bits (ctl 3 (9 * 2 ^ 104)).toNat 103 0 = 0 ∧
      (∀ e ∈ (link (lnk .up (fun k => { k with replay := [(10, 3, 5, pk 0 0 0 0 false [], 6)] })) 1).replay, e.2.2.2.2 < 7) ∧
      (∃ e ∈ (link (lnk .up (fun k => { k with replay := [(10, 3, 5, pk 0 0 0 0 false [], 7)] })) 1).replay, 32768 ≤ (bits (ctl 3 (9 * 2 ^ 104)).toNat 119 104 + 65536 - e.1) % 65536 ∧
      7 ≤ e.2.2.2.2)) ∧
    (bits (ctl 7 (2 ^ 119 + 2 ^ 113)).toNat 127 120 = 7 ∧ bits (ctl 7 (2 ^ 119 + 2 ^ 113)).toNat 112 0 = 0 ∧
      (link (lnk .up id) 1).partner = 0x1FFF ∧ bit (ctl 7 (2 ^ 119 + 2 ^ 113)).toNat 119 = true ∧ bit (ctl 7 (2 ^ 113)).toNat 119 = false) ∧
    ((Tbl.get { run with net.linkKeys := [(7, { cur := some 4, next := some (6, 99) })] }.net.linkKeys (7 : BitVec 16).toNat).next = some (6, 99) ∧
      Tbl.has { run with net.linkKeys := [(7, { cur := some 4, next := some (6, 99) })] }.net.linkKeys (7 : BitVec 16).toNat = true) :=
  ⟨by decide +kernel,
   by decide +kernel,
   by decide +kernel,
   by decide +kernel,
   by decide +kernel,
   by decide +kernel,
   by decide +kernel⟩

theorem witness_TimeAndSwathes :
    (timeOk (timed 2 peer6) 1 1 (tpk 1) = (timed 2 peer6, true)) ∧
    (keyOpens (timed 2 peer6) (timed 2 peer6).ftm.key { tpk 1 with key := 5 } = false ∧ (link (timed 2 peer6) 1).st = .up) ∧
    (timeOk (timed 0 peer6) 1 2 (tpk 2) = (timed 0 peer6, true) ∧ Tbl.get (timed 0 peer6).ftm.peers (bSrc (tpk 2).hdr.toNat) = peer6 ∧
      bSrc (tpk 2).hdr.toNat ∈ timePeers (timed 0 peer6) ∧ (timeBody (tpk 2).payload).seq = peer6.seq ∧
      (timeBody (tpk 2).payload).tEcho = peer6.t1 ∧ candidate { peer6 with stratum := 19 } = true) ∧
    ((timed 2 {}).ftm.st = 2 ∧ bestParent (timed 2 {}) = none ∧ { timed 2 {} with ftm.misses := 3 }.ftm.misses = 3 ∧ (timed 2 {}).ftm.misses < 3) ∧
    (bestParent (timed 1 { peer6 with fresh := true, samples := [(0, 10 * 2 ^ 17)] }) = some 3 ∧ (10 * 2 ^ 17 : Int).natAbs ≤ 10 * 2 ^ 17 ∧
      peer6.u + getO (timed 1 peer6) 0x1700 0x0E ≤ guardNs (timed 1 peer6) * 8 ∧
      (Tbl.get (timed 1 { peer6 with fresh := true, samples := [(0, 10 * 2 ^ 17)] }).ftm.peers 3).fresh = true) ∧
    (ManagerAsks swStaged .pf ∧ swStaged.ftm.st ≠ 4 ∧ (swatheCheck swStaged (stagedSwathe swStaged) {}).toOption.isSome = true ∧
      (match swatheCheck dev (stagedSwathe dev) {} with | .error e => e | .ok _ => 0) = 0x0707) ∧
    (bits (table1.entries.getD 0 0) 127 126 = 1 ∧ { run with sw.active := some table1, sw.injecting := true }.sw.injecting = true ∧
      0 ∉ { run with sw.active := some table1 }.sw.openSwathes) :=
  ⟨by decide +kernel,
   by decide +kernel,
   by decide +kernel,
   by decide +kernel,
   by decide +kernel,
   by unfold ManagerAsks Serves; decide +kernel,
   by decide +kernel⟩

theorem witness_SwardRunsPrograms :
    (Works (sward id) 7 swcmd 0x50 ∧ sward id = updCmd (sward id) 7 (fun c => { c with phase := .started }) ∧
      swcmd = { swcmd with phase := .started } ∧ swcmd.run = none ∧ (sward id).pow.brake = none ∧ dArg swcmd.desc 4 = 0 ∧ dArg swcmd.desc 5 = 0 ∧
      noTussock (sward id) 2 = 0 ∧ dArg swcmd.desc 0 % 64 = 0 ∧ dArg swcmd.desc 1 % 4096 = 0 ∧
      gather (sward id) 7 2 (dArg swcmd.desc 0) 64 = (sw1, .bytes (beBytes 64 progHead)) ∧ beNat (beBytes 64 progHead) = progHead ∧
      programBody progHead = some 48 ∧ gather sw1 7 2 (dArg swcmd.desc 0 + 64) 48 = (sw2, .bytes progBody) ∧ programStatus prog1 = 0 ∧
      dArg swcmd.desc 1 = 0 ∧ swcmd.reruns = 0) ∧
    (∃ v3 v4, (∀ f, withDests sw2 7 swcmd ((prog1.ins.map (instrWrites prog1)).flatten) f = f v3) ∧
      (∀ f, withRanges v3 7 swcmd ((prog1.ins.map (instrReads prog1)).flatten) f = f v4)) ∧
    (cmdOf (sward (fun c => { c with run := some run1 })) 7 = some { swcmd with run := some run1 } ∧
      run1.opened.find? (fun o => o.2.2.2 = (8 : Fin 64).val) = some (0, 0, 0, 8) ∧ 8 ∉ run1.boundary ∧
      islandOut (sward id) (15 + 8 / 8) = false ∧ swcmd.killWaits = false ∧
      runProgram (sward (fun c => { c with run := some run1 })) { swcmd with run := some run1 } = prog1 ∧
      iOp (prog1.ins.getD run1.instr 0) = 2 ∧ getO (sward id) 0x1800 6 + ([5, 5] : List (BitVec 32)).length < 2 ^ 64) ∧
    (iOp (1 * 2 ^ 122) ≠ 2 ∧
      0 + (spanOf { ops := [1000 * 2 ^ 128 + 6 * 2 ^ 27], ins := [1 * 2 ^ 122] } (1 * 2 ^ 122)).1 < oCols (1000 * 2 ^ 128 + 6 * 2 ^ 27)) ∧
    ({ run1 with opened := [] }.opened = [] ∧
      (tileGrid prog1 (prog1.ins.getD run1.instr 0)).1 * (tileGrid prog1 (prog1.ins.getD run1.instr 0)).2 ≤ run1.tile ∧
      prog1.ins.length ≤ run1.instr + 1) ∧
    ((cmdOf (sward (fun c => { c with run := some { run1 with stop := true, boundary := [8] }, killWaits := true })) 7).isSome = true ∧
      (∀ o ∈ run1.opened, o.2.2.2 ∈ [8]) ∧ ctxOf (sward id) 2 1 = some ctx1 ∧
      (List.range 64).find? (fun n => !ctx1.ckpts.any (fun k => k.slot = n)) = some 0 ∧
      (accessAll (sward id) 2 (dArg (cmd 0x50 (args [0x1000, 0x10000])).desc 1) (ckptArea (sward id) { cmd 0x50 (args [0x1000, 0x10000]) with run := some run1 } prog1 run1).length true).toOption.isSome = true) ∧
    ((∀ e ∈ (sward id).cmd.live, e.2.run = none) ∧ ((sward id).sward.scratchErrs.filter (fun (e : Nat × Nat) => e.1 = 8 ∧
      (sward id).sys.uptime < e.2 + 86400 * 10 ^ 9)).length < 2 ∧
      2 ≤ ({ dev with sward.scratchErrs := [(8, 0), (8, 0)] }.sward.scratchErrs.filter (fun (e : Nat × Nat) => e.1 = 8 ∧
      dev.sys.uptime < e.2 + 86400 * 10 ^ 9)).length) ∧
    (ManagerAsks dev .pf ∧ (63 : BitVec 8).toNat < 64 ∧ bit (freeTussocks dev) 63 = true ∧ bit (freeTussocks run) 8 = false ∧
      bit run.sward.tussockRetired 8 = false ∧ 8 ∈ { dev with sward.selftest := [8] }.sward.selftest) :=
  ⟨by unfold Works; decide +kernel,
   by
    have e1 : (prog1.ins.map (instrWrites prog1)).flatten = [(0x2000, 1)] := by decide +kernel
    have e2 : (prog1.ins.map (instrReads prog1)).flatten = [(0x2000, 1)] := by decide +kernel
    rw [e1, e2]
    have h : accessAll sw2 2 0x2000 1 true = .ok pls2000 := wit_places _ (by decide +kernel)
    have g : (gather (holdDest sw2 7 pls2000) 7 2 0x2000 1).2 = .bytes [0] := by decide +kernel
    have hp : swcmd.p = 2 := by decide +kernel
    have hh : (pls2000.filterMap (fun e => match e.1 with | .host a => some (a, e.2) | _ => none)).isEmpty = true := by decide +kernel
    exact ⟨_, _, withDests_one hp h hh, withRanges_one hp (gather_split g)⟩,
   by decide +kernel,
   by decide +kernel,
   by decide +kernel,
   by decide +kernel,
   by decide +kernel,
   by unfold ManagerAsks Serves; decide +kernel⟩

theorem witness_TransformCommandsSendOrCommit :
    (xf xw = updCmd (xf xw) 7 started ∧ xw = started xw ∧ (xf xw).pow.brake = none ∧ Works (xf xw) 7 xw 0x51 ∧ xw.msgs = [] ∧
      slot4 = xw.slot.getD 0 ∧ dArg xw.desc 3 = qpn1 ∧ qpn1 < 2 ^ 28 ∧ dArg xw.desc 4 < 2 ^ 33 ∧ dArg xw.desc 5 = 0 ∧ noTussock (xf xw) 2 = 0 ∧
      slValid slot4 = true ∧ slotBad slot4 = false ∧ dArg xw.desc 1 = 4 ∧ xLength slot4 4 = 0 ∧ qpCmdStatus (xf xw) 2 (bits qpn1 23 0) = 0 ∧
      0x3000 + 4 / slInBytes slot4 * slOutBytes slot4 ≤ vaEnd ∧ msgRoom (qp (xf xw) qpn1) = true ∧ (admitQp (xf xw) qpn1).isSome = true ∧
      ((admitQp (xf xw) qpn1).map (fun v => (gather v 7 2 0x2000 4).2)) = some (.bytes [0, 0, 0, 0])) ∧
    (∀ v2 f, withW v2 7 xw slot4 f = f v2 []) ∧
    (Works (xf xc) 7 xc 0x52 ∧ xf xc = updCmd (xf xc) 7 started ∧ xc = started xc ∧ xc.acksDue = 0 ∧ slot4 = xc.slot.getD 0 ∧ dArg xc.desc 3 = 0 ∧
      dArg xc.desc 4 = 0 ∧ dArg xc.desc 5 = 0 ∧ dArg xc.desc 1 = 4 ∧
      (gather (holdDest (xf xc) 7 (pl 0x3000 4)) 7 2 0x2000 4).2 = .bytes [0, 0, 0, 0]) ∧
    (∀ f, withDest (xf xc) 7 xc 0x3000 4 f = f (xf xc) (pl 0x3000 4)) ∧
    (∀ f, withMoe (xf md) 7 md f = f (mv md) moe1 [route1]) ∧
    (Works (xf md) 7 md 0x58 ∧ md.acksDue = 0 ∧ md.effects = [] ∧ moeSlot (mv md) 7 md moe1 = (mv md, none, 0) ∧
      gather (mv md) 7 2 (moX moe1) (2 * moDim moe1 * moTokens moe1) = (got7 (mv md) 0x2000 64, .bytes (zeros 64)) ∧
      gather (got7 (mv md) 0x2000 64) 7 2 (moWg moe1) (2 * moDim moe1 * moExperts moe1) = (got7 (got7 (mv md) 0x2000 64) 0x2100 64, .bytes (zeros 64))) ∧
    (∀ v4 f, withW v4 7 md 0 f = f v4 []) ∧
    (routeStatus (mv md) 2 [route1] (gating moe1 [4] (zeros 64) (zeros 64) 0) (moeRow moe1 none) = 0 ∧
      (gating moe1 [4] (zeros 64) (zeros 64) 0).choices.length = 1 ∧
      (∀ r ∈ [route1].zipIdx, tokensOf (gating moe1 [4] (zeros 64) (zeros 64) 0) r.2 ≠ [] → bit r.1 103 = true) ∧
      (∃ r ∈ [route1 - 2 ^ 103].zipIdx, tokensOf (gating moe1 [4] (zeros 64) (zeros 64) 0) r.2 ≠ [] ∧ bit r.1 103 = false) ∧ md.order = 0) ∧
    (∃ v6 v7, (∀ f, withDest (got7 (got7 (mv md) 0x2000 64) 0x2100 64) 7 md (moGate moe1) (8 * moTokens moe1 * moTop moe1) f = f v6 (pl 0x2300 8)) ∧
      (∀ f, withDests (holdDest v6 7 (pl 0x2300 8)) 7 md [(0x2600, 64)] f = f v7)) ∧
    ((([route1].zipIdx.filter (fun r => !(tokensOf (gating moe1 [4] (zeros 64) (zeros 64) 0) r.2).isEmpty)).filter (fun r => bit r.1 103)).map (fun r => (roDest r.1, (tokensOf (gating moe1 [4] (zeros 64) (zeros 64) 0) r.2).length * moeRow moe1 none)) = [(0x2600, 64)]) ∧
    (Works (xf mc) 7 mc 0x59 ∧ mc.acksDue = 0 ∧
      gather (xf mc) 7 2 (moGate moe1) (8 * moTokens moe1 * moTop moe1) = (got7 (xf mc) 0x2300 8, .bytes (beBytes 8 (2 ^ 55 + 0x3F800000))) ∧
      (combineTerms [4] (numsOf 8 (beBytes 8 (2 ^ 55 + 0x3F800000)))).map (fun t => t.map (·.2)) = some [0] ∧ (cmdOf (xf mc) 7).isSome = true) ∧
    (∃ v3 v4, (∀ f, withDest (xf mc) 7 mc (moOut moe1) (packedBytes (moOf moe1) (moDim moe1) * moTokens moe1) f = f v3 (pl 0x2500 64)) ∧
      (∀ f, withRanges (holdDest v3 7 (pl 0x2500 64)) 7 mc [(moY moe1 + 2 * moDim moe1 * 0, 2 * moDim moe1)] f = f v4)) ∧
    (Works (xf rs) 7 rs 0x60 ∧ rs.inst = some (1, 0) ∧ getPair (xf rs).sheaf.groups (groupKey 2 1) = some group0 ∧
      group0.insts.find? (fun i => i.num = 0) = some { num := 0 } ∧ bankBusy (xf rs) 7 rs = false ∧ 0 < oldestInst group0 + 2 ^ 24 ∧
      noTussock (xf rs) 2 = 0 ∧ getP (xf rs) 2 0x60 6 = 1 ∧
      gather (xf rs) 7 2 (getP (xf rs) 2 0x60 (4 + dArg rs.desc 0)) (64 * 1) = (got7 (xf rs) 0x3000 64, .bytes (beBytes 64 row1)) ∧
      (numsOf 64 (beBytes 64 row1)).filter roActive = [row1] ∧ rowBad row1 = false ∧ (cmdOf (xf rs) 7).isSome = true) ∧
    (∀ t f, withLists t 7 rs [row1] [] f = f t [(row1, [])]) ∧
    (∃ v3 v4, (∀ f, withDests (xf rs) 7 rs [(roOut row1, roQ row1 * packedBytes (roOf row1) (roDim row1))] f = f v3) ∧
      (∀ f, withRanges v3 7 rs [(roQBase row1, roQ row1 * roDim row1 * 2)] f = f v4)) :=
  ⟨by unfold Works; decide +kernel,
   fun v2 f => by unfold withW; rw [if_neg (by decide +kernel)],
   by unfold Works; decide +kernel,
   dest_ok (p := 2) (by decide +kernel) (by decide +kernel) (by decide +kernel),
   by
    have e : beNat (beBytes 64 moe1) = moe1 := by decide +kernel
    have r : numsOf 16 (beBytes 16 route1) = [route1] := by decide +kernel
    have hp : md.p = 2 := by decide +kernel
    have ha : dArg md.desc 0 = 0x1000 := by decide +kernel
    have g1 : gather (xf md) 7 md.p (dArg md.desc 0) 64 = (got7 (xf md) 0x1000 64, .bytes (beBytes 64 moe1)) := by
      rw [hp, ha]; exact gather_split (by decide +kernel)
    have g2 : gather (got7 (xf md) 0x1000 64) 7 md.p (moRoute (beNat (beBytes 64 moe1))) (16 * moExperts (beNat (beBytes 64 moe1))) =
        (mv md, .bytes (beBytes 16 route1)) := by
      rw [hp, e, show moRoute moe1 = 0x2200 by decide +kernel, show 16 * moExperts moe1 = 16 by decide +kernel]
      exact gather_split (by decide +kernel)
    intro f
    rw [withMoe_ok (by decide +kernel) (by decide +kernel) (by decide +kernel) (by decide +kernel) g1 (by decide +kernel) g2 (by decide +kernel), e, r],
   by unfold Works; decide +kernel,
   fun v4 f => by unfold withW; rw [if_neg (by decide +kernel)],
   by decide +kernel,
   by
    have hp : md.p = 2 := by decide +kernel
    have h1 : (accessAll (got7 (got7 (mv md) 0x2000 64) 0x2100 64) 2 (moGate moe1) (8 * moTokens moe1 * moTop moe1) true).toOption = some (pl 0x2300 8) := by decide +kernel
    have h2 : accessAll (holdDest (got7 (got7 (mv md) 0x2000 64) 0x2100 64) 7 (pl 0x2300 8)) 2 0x2600 64 true = .ok (pl 0x2600 64) :=
      places_ok (by decide +kernel)
    exact ⟨_, _, dest_ok hp h1 (by decide +kernel), withDests_one hp h2 (by decide +kernel)⟩,
   by decide +kernel,
   by unfold Works; decide +kernel,
   by
    have hp : mc.p = 2 := by decide +kernel
    have h1 : (accessAll (xf mc) 2 (moOut moe1) (packedBytes (moOf moe1) (moDim moe1) * moTokens moe1) true).toOption = some (pl 0x2500 64) := by decide +kernel
    have h2 : (gather (holdDest (xf mc) 7 (pl 0x2500 64)) 7 2 (moY moe1 + 2 * moDim moe1 * 0) (2 * moDim moe1)).2 = .bytes (zeros 64) := by decide +kernel
    exact ⟨_, _, dest_ok hp h1 (by decide +kernel), withRanges_one hp (gather_split h2)⟩,
   by unfold Works; decide +kernel,
   fun t f => by rw [withLists, if_pos (by decide +kernel)]; rfl,
   by
    have hp : rs.p = 2 := by decide +kernel
    have h1 : accessAll (xf rs) 2 (roOut row1) (roQ row1 * packedBytes (roOf row1) (roDim row1)) true = .ok (pl 0x2800 128) := places_ok (by decide +kernel)
    have h2 : (gather (holdDest (xf rs) 7 (pl 0x2800 128)) 7 2 (roQBase row1) (roQ row1 * roDim row1 * 2)).2 = .bytes (zeros 128) := by decide +kernel
    exact ⟨_, _, withDests_one hp h1 (by decide +kernel), withRanges_one hp (gather_split h2)⟩⟩

theorem witness_CollectivesContributeAndComplete :
    (coll 0x80 0 = started (coll 0x80 0) ∧ collS (coll 0x80 0) inst0 = updCmd (collS (coll 0x80 0) inst0) 7 started ∧
      (coll 0x80 0).inst = some (1, 0) ∧ getPair (collS (coll 0x80 0) inst0).sheaf.groups (groupKey 2 1) = some group0 ∧
      group0.insts.find? (fun i => i.num = 0) = some inst0 ∧ inst0.src = none ∧ 0 < oldestInst group0 + 2 ^ 24 ∧
      Works (collS (coll 0x80 0) inst0) 7 (coll 0x80 0) 0x80 ∧ Works (collS (coll 0x81 0) inst0) 7 (coll 0x81 0) 0x81 ∧
      Works (collS (coll 0x82 0) inst0) 7 (coll 0x82 0) 0x82 ∧ Works (collS (coll 0x83 0) inst0) 7 (coll 0x83 0) 0x83 ∧
      Works (collS (coll 0x84 0) inst0) 7 (coll 0x84 0) 0x84 ∧ Works (collS (coll 0x85 0) inst0) 7 (coll 0x85 0) 0x85 ∧
      destOf 0x80 = some (0x3000, 8) ∧ destOf 0x81 = some (0x3000, 8) ∧ destOf 0x82 = some (0x3000, 4) ∧ destOf 0x83 = some (0x3000, 8) ∧
      destOf 0x84 = some (0x3000, 8) ∧ wholeSource group0 (coll 0x80 0) = some (0x2000, 8) ∧ (pieceRange 8 2 0).2 - (pieceRange 8 2 0).1 = 4 ∧
      group0.self = cRoot (coll 0x84 0).desc ∧ collDest group0 (workOf group0 (coll 0x81 1).desc 0) (coll 0x81 1).desc = none) ∧
    (∃ t, (∀ f, withDest (collS (coll 0x80 0) inst0) 7 (coll 0x80 0) 0x3000 8 f = f t (pl 0x3000 8)) ∧
      (gather (holdDest t 7 (pl 0x3000 8)) 7 2 0x2000 8).2 = .bytes (zeros 8)) ∧
    (collDest group0 (workOf group0 (coll 0x84 0).desc 0) (coll 0x84 0).desc = some (0x3000, (workOf group0 (coll 0x84 0).desc 0).h.all) ∧
      (matched [] inst0 ((workOf group0 (coll 0x84 0).desc 0).h.upStages + 2 * (workOf group0 (coll 0x84 0).desc 0).h.n + 8)).length = 0 ∧
      (accessAll run 2 0x3000 (((workOf group0 (coll 0x84 0).desc 0).h.all.map (resultOf (workOf group0 (coll 0x84 0).desc 0) { inst0 with src := some (zeros 8) } 0 [] ((workOf group0 (coll 0x84 0).desc 0).h.upStages + 2 * (workOf group0 (coll 0x84 0).desc 0).h.n + 8))).flatten).length true).toOption.isSome = true) ∧
    (Works gcS 7 gcCmd 0x90 ∧ (∀ j, j < 5 → dArg gcCmd.desc (j + 1) = 0) ∧ dArg gcCmd.desc 0 = 0x1000 ∧ 0x1000 % 32 = 0 ∧
      gather gcS 7 2 0x1000 32 = (got7 gcS 0x1000 32, .bytes (beBytes 32 gcHead)) ∧ bits (beNat (beBytes 32 gcHead)) 239 227 = 2 ∧
      gather (got7 gcS 0x1000 32) 7 2 0x1020 16 = (got7 (got7 gcS 0x1000 32) 0x1020 16, .bytes gcMembers) ∧
      (groupAsked (got7 (got7 gcS 0x1000 32) 0x1020 16) 2 (beNat (beBytes 32 gcHead)) (numsOf 8 gcMembers)).2 = 0) ∧
    (Works (gdS []) 7 gdCmd 0x91 ∧ dArg gdCmd.desc 0 = 1 ∧ (∀ j, j < 5 → dArg gdCmd.desc (j + 1) = 0) ∧
      (getPair (gdS []).sheaf.groups (groupKey 2 1)).map (·.insts) = some [] ∧ Works (gdS [inst0]) 7 gdCmd 0x91 ∧
      (getPair (gdS [inst0]).sheaf.groups (groupKey 2 1)).map (·.insts) = some [inst0]) ∧
    (cmdOf (collS (coll 0x80 0) inst0) 7 = some (coll 0x80 0) ∧ (coll 0x80 0).status = 0 ∧ (coll 0x80 0).phase ≠ .ready ∧
      cmdOf (collS { coll 0x80 0 with killWaits := true } { inst0 with sentAny := true }) 7 = some { coll 0x80 0 with killWaits := true } ∧
      contributed (collS { coll 0x80 0 with killWaits := true } { inst0 with sentAny := true }) { coll 0x80 0 with killWaits := true } = true) :=
  ⟨by unfold Works; decide +kernel,
   ⟨_, dest_ok (p := 2) (by decide +kernel) (by decide +kernel) (by decide +kernel), by decide +kernel⟩,
   by decide +kernel,
   by unfold Works; decide +kernel,
   by unfold Works; decide +kernel,
   by decide +kernel⟩

theorem witness_RickReadsBackWhatWasWritten :
    (Memory.wf State.reset.rick.cells = true ∧ LinesKeyed State.reset ∧ 64 % 64 = 0) ∧
    (Memory.wf run.rick.cells = true ∧ run.rick.cells ≠ [] ∧ LinesKeyed run) :=
  ⟨⟨rfl, fun _ _ => rfl, rfl⟩,
   ⟨by decide +kernel, by decide +kernel, fun a h => by
    have hk : ∀ a, Mem.get run.rick.cells a ≠ 0 → ∃ e ∈ run.rick.cells, e.1 = a := fun a => by
      generalize run.rick.cells = m
      induction m with
      | nil => intro h; exact absurd rfl h
      | cons x t ih =>
        intro h; rw [Mem.get] at h; split at h
        · exact ⟨x, List.mem_cons_self, by assumption⟩
        · obtain ⟨e, he, hh⟩ := ih h; exact ⟨e, List.mem_cons_of_mem _ he, hh⟩
    have hall : ∀ e ∈ run.rick.cells, (Tbl.find run.rick.lineKey (e.1 / 64)).isSome = true := by decide +kernel
    refine Classical.byContradiction fun hn => ?_
    obtain ⟨e, he, rfl⟩ := hk a hn
    have := hall e he; rw [h] at this; cases this⟩⟩

theorem witness_PageTablesAndTranslations :
    (ManagerAsks run .pf ∧ (beBytes 16 (pte2 (2 ^ 30))).length = 16 ∧ ptWriteCheck run 2 (beBytes 16 0) ≠ 0 ∧
      (pad (at2 .empty) 2).state = .empty ∧ ptWriteCheck run 2 (beBytes 16 (pte2 (2 ^ 30))) = 0 ∧
      ptEntries (beBytes 16 (pte2 (2 ^ 30))) = [pte2 (2 ^ 30)] ∧
      (slotOf run 2 (ptVa (pte2 (2 ^ 30))) (ptLevel (pte2 (2 ^ 30)))).toOption = some 0x80002008 ∧ Memory.wf run.rick.cells = true ∧
      bit (tableNat run 0x80002008 8) 63 = false) ∧
    (ptWriteCheck run 2 (beBytes 16 (pte2 0)) = 0 ∧ ptEntries (beBytes 16 (pte2 0)) = [pte2 0] ∧
      (slotOf run 2 (ptVa (pte2 0)) (ptLevel (pte2 0))).toOption = some 0x80002000 ∧ bit (tableNat run 0x80002000 8) 63 = true) ∧
    ({ run with rick.invals := [(5, 2, 0, 0)], obj.deferred := [(.pf, 1, 2, 5)] }.rick.invals = [(5, (2 : PNum).val, 0, 0)] ∧
      cmdOf { run with rick.invals := [(5, 2, 0, 0)], obj.deferred := [(.pf, 1, 2, 5)] } 0 = none ∧
      cmdOf { liveIn 0xA4 0 with rick.invals := [(5, 2, 0, 7)], cmd.live := [(7, { started (cmd 0xA4 0) with inval := some 5 })] } 7 = some { started (cmd 0xA4 0) with inval := some 5 }) ∧
    (((walking true 0).rick.walks.find? (fun w => w.id = 1 && w.running)).map (·.stale) = some true ∧
      ((walking false 0).rick.walks.find? (fun w => w.id = 1 && w.running)).map (·.stale) = some false ∧ (cmdOf (walked 0) 7).isSome = true ∧
      walk (walked 0) 2 0 = .leaf (ptPte (pte2 0)) 2 ∧ bits (ptPte (pte2 0)) 61 60 = 0 ∧ (walked 0).rick.streams = [] ∧
      ((walked 0).rick.tlb.filter (fun e => e.1 = 2)).length < tlbRoom (walked 0) 2 ∧ walk (walked (2 ^ 40)) 2 (2 ^ 40) = .fault 0x0A01 3 0) ∧
    (cmdOf (liveIn 0xA2 (args [0, 4096])) 7 = some (started (cmd 0xA2 (args [0, 4096]))) ∧
      dArg (cmd 0xA2 (args [0, 4096])).desc 0 + dArg (cmd 0xA2 (args [0, 4096])).desc 1 ≤ 4096 ∧
      Works (liveIn 0xA2 (args [0, 4096])) 7 (started (cmd 0xA2 (args [0, 4096]))) 0xA2 ∧
      rangeCheck (started (cmd 0xA2 (args [0, 4096]))) [2, 3, 4, 5] = 0 ∧ dArg (cmd 0xA2 (args [0])).desc 1 = 0 ∧
      Works (liveIn 0xA2 (args [0])) 7 (started (cmd 0xA2 (args [0]))) 0xA2 ∧
      Works (liveIn 0xA3 (args [0, 4096, 3])) 7 (started (cmd 0xA3 (args [0, 4096, 3]))) 0xA3 ∧
      (∀ k, k < 4 → rangeCheck (started (cmd 0xA3 (args [0, 4096, k]))) [3, 4, 5] = 0 ∧ dArg (cmd 0xA3 (args [0, 4096, k])).desc 2 = k) ∧
      Works (liveIn 0xA4 (args [0, 4096])) 7 (started (cmd 0xA4 (args [0, 4096]))) 0xA4 ∧
      rangeCheck (started (cmd 0xA4 (args [0, 4096]))) [2, 3, 4, 5] = 0) ∧
    ((pad run 2).faultBatch = [] ∧ (pad (in2 run (fun d => { d with faultBatch := [[5]] })) 2).faultBatch ≠ []) :=
  ⟨by unfold ManagerAsks Serves; decide +kernel,
   by decide +kernel,
   by decide +kernel,
   by decide +kernel,
   by unfold Works; decide +kernel,
   by decide +kernel⟩

theorem witness_MowingFindsAndRepairMends :
    (5 + 1 < rickLines ∧ dev.pow.st < 2 ∧ dev.rick.mowAt ≤ 5 ∧ 5 ∉ dev.rick.poisoned ∧ 5 / 2 ^ 22 ≠ 124) ∧
    (ManagerAsks run .pf ∧ (100 : BitVec 8).toNat < 124 ∧ (∀ e ∈ run.pads, bit e.2.granules 100 = false) ∧ 100 ∉ run.com.zeroising ∧
      100 ∉ run.com.repairing ∧ (∃ e ∈ run.pads, bit e.2.granules 5 = true) ∧ 100 ∈ { run with com.repairing := [100] }.com.repairing ∧
      100 ∈ { run with com.zeroising := [100] }.com.zeroising) ∧
    ({ run with com.repairing := [100] }.com.repairing = 100 :: [] ∧ bit run.com.retired 100 = false) :=
  ⟨by decide +kernel,
   by unfold ManagerAsks Serves; decide +kernel,
   by decide +kernel⟩

theorem witness_AccountingTicksAndPeriods :
    (2 ≤ dev.sys.boot ∧ notEmpty dev = [] ∧ dev.pow.sensorBus ≠ 2 ∧ { dev with pow.sensorBus := 2 }.pow.sensorBus = 2) ∧
    (notEmpty { run with pads := [(2, { pad2 with ctxs := [] })] } = [2] ∧ run.sec.st ≠ 2 ∧ run.store.work = [] ∧ dev.acct.snapWork = [] ∧
      { run with acct.snapWork := [(2, zeros 8)] }.acct.snapWork = (2, zeros 8) :: []) :=
  ⟨by decide +kernel,
   by decide +kernel⟩

theorem witness_EventTargetsAndRaises :
    (ManagerAsks dev .pf ∧ ((false = false ∨ 512 ≤ (17 : Fin 1024).val)) ∧ 512 ≤ (1023 : Fin 1024).val ∧
      targetBad dev 17 false 0x12345678 = true ∧ targetBad dev 1023 false 0 = false) ∧
    ((19 : Fin 1024).val = 8 * (2 : PNum).val + (3 : Fin 8).val ∧ OwnerAsks run 2 .pf ∧ OwnerAsks run 2 (.stile 2) ∧
      targetBad run 19 (roleOf run (.stile 2) = 2) 0x12345678 = true ∧ targetBad run 19 (roleOf run .pf = 2) 0 = false) ∧
    ((1023 : BitVec 16).toNat ≤ 1023 ∧ (7 : BitVec 8).toNat ≤ 7) :=
  ⟨by unfold ManagerAsks Serves; decide +kernel,
   by unfold OwnerAsks TenantAsks ManagerAsks Serves; decide +kernel,
   by decide +kernel⟩

theorem witness_LarkSlotsFireAndWake :
    (bit (Tbl.get dev.ev.lark (31 : Fin 32).val) 31 = false) ∧
    (Tbl.get { dev with ev.lark := [(3, 2 ^ 31 + 1 * 2 ^ 28 + 5 * 2 ^ 18)] }.ev.lark 3 = 2 ^ 31 + 1 * 2 ^ 28 + 5 * 2 ^ 18 ∧
      bit (2 ^ 31 + 1 * 2 ^ 28 + 5 * 2 ^ 18) 31 = true ∧ bits (2 ^ 31 + 1 * 2 ^ 28 + 5 * 2 ^ 18) 29 28 = 1 ∧ dev.pow.st ≠ 2 ∧ dev.pow.st ≠ 3 ∧
      { dev with pow.st := 2 }.pow.st = 2 ∧ { dev with pow.st := 3 }.pow.st = 3) ∧
    ((9, 2 ^ 31 + 2 * 2 ^ 28) ∈ { dev with ev.lark := [(9, 2 ^ 31 + 2 * 2 ^ 28)] }.ev.lark ∧ larkMatch dev 2 0 (2 ^ 31 + 2 * 2 ^ 28) = true ∧
      larkMatch dev 1 5 (2 ^ 31 + 1 * 2 ^ 28 + 5 * 2 ^ 18) = true) :=
  ⟨by decide +kernel,
   by decide +kernel,
   by decide +kernel⟩

theorem witness_ObservationRecordsAndLatches :
    (OwnerAsks run 2 .pf ∧ (128 : BitVec 64).toNat % 64 = 0 ∧ (pad run 2).traceLost = 0 ∧
      (pad { run with obj.committed := [(okey (pidx 2 0x82) 2, 4)] } 2).trace.length < traceRoom { run with obj.committed := [(okey (pidx 2 0x82) 2, 4)] } 2) ∧
    ((∀ q ∈ notEmpty run, bit (getP run q 0x82 1) 0 = false) ∧ (∀ e ∈ run.pads, bit (getP run e.1 0x82 1) 1 = false ∧
      bit (getP run e.1 0x82 1) 2 = false) ∧ getP run 2 0x82 6 = 0 ∧
      (pad (in2 run (fun d => { d with traceFaulted := true })) 2).traceFaulted = true) ∧
    (getP (tracing run) 2 0x82 6 ≠ 0 ∧ (pad (tracing run) 2).traceFaulted = false ∧ (pad (tracing run) 2).trace = [zeros 64] ∧ zeros 64 ≠ [] ∧
      (pad (tracing run) 2).mirrorNext = (pad (tracing run) 2).traceFirst ∧
      ¬ 2 ^ getP (tracing run) 2 0x82 7 ≤ ((pad (tracing run) 2).mirrorRing + 2 ^ 32 - getP (tracing run) 2 0x82 8) % 2 ^ 32 ∧
      (accessAll (tracing run) 2 (getP (tracing run) 2 0x82 6 + 64 * ((pad (tracing run) 2).mirrorRing % 2 ^ getP (tracing run) 2 0x82 7)) 64 true).toOption = some (pl 0x8000 64) ∧
      placesOpen (tracing run) 2 (pl 0x8000 64) = true) :=
  ⟨by unfold OwnerAsks TenantAsks ManagerAsks Serves; decide +kernel,
   by decide +kernel,
   by decide +kernel⟩

theorem witness_EnvelopesDeliverKeys :
    ((beBytes 240 (env (head 5 0 0 0 0 0) (deviceNonce run))).length = 240) ∧
    (ManagerAsks run .pf ∧ OwnerAsks run 2 .pf ∧ run.pair.st = 0 ∧ run.sec.st ≠ 2 ∧ envBroken 0 false = true ∧ { run with sec.st := 2 }.sec.st = 2) ∧
    (∃ e, beNat (beBytes 240 e) = e ∧ envCheck timeKey e false (eDest e = 2 || eDest e = 5) (deviceNonce timeKey) key1 = 0 ∧ eDest e = 5 ∧
      eNext e = false ∧ eSwitch e = 0) ∧
    (∃ e, beNat (beBytes 240 e) = e ∧ envCheck timeKey e false (eDest e = 2 || eDest e = 5) (deviceNonce timeKey) key1 = 0 ∧ eDest e = 5 ∧
      eNext e = true ∧ timeKey.ftm.key.cur = some 4 ∧ ns timeKey + 1000000 ≤ eSwitch e) ∧
    (∃ e, beNat (beBytes 240 e) = e ∧ envCheck timeKey e false (eDest e = 2 || eDest e = 5) (deviceNonce timeKey) key1 = 0 ∧ eDest e = 5 ∧
      eNext e = true ∧ eSwitch e < ns timeKey + 1000000) ∧
    (∃ e, beNat (beBytes 240 e) = e ∧ envCheck timeKey e false (eDest e = 2 || eDest e = 5) (deviceNonce timeKey) key1 = 0 ∧ eDest e = 2 ∧
      eNext e = false ∧ Tbl.has timeKey.net.linkKeys (eTag e) = false ∧ timeKey.net.linkKeys.length < 64) ∧
    (∃ l : Tbl LinkKey, Tbl.has l 7 = false ∧ 64 ≤ l.length) ∧
    (∃ e, beNat (beBytes 240 e) = e ∧ envCheck run e true (padDest run 2 e) (padNonce run 2) key1 = 0 ∧ eDest e = 1 ∧
      (Tbl.get (pad run 2).sels (eSlot e)).st = 0 ∧
      (Tbl.get (pad (in2 run (fun d => { d with sels := [(3, { st := 1 })] })) 2).sels (eSlot e)).st ≠ 0) ∧
    (∃ e, beNat (beBytes 240 e) = e ∧ envCheck run e true (padDest run 2 e) (padNonce run 2) key1 = 0 ∧ eDest e = 3 ∧ (pad run 2).bounceH2d = none) ∧
    (∃ e, beNat (beBytes 240 e) = e ∧ envCheck run e true (padDest run 2 e) (padNonce run 2) key1 = 0 ∧ eDest e = 4 ∧ (pad run 2).bounceD2h = none) ∧
    ((pad (at2 .empty) 2).state = .empty ∧ (pad (at2 .faulted) 2).state = .faulted) :=
  ⟨beBytes_length _ _,
   by unfold OwnerAsks TenantAsks ManagerAsks Serves; decide +kernel,
   by
    obtain ⟨h1, -, h3, h4, h5, h6, h7, h8, -⟩ := env_reads (head 5 0 0 0 0 0) (deviceNonce timeKey) (by decide +kernel) (BitVec.isLt _)
    have hd : eDest (top (head 5 0 0 0 0 0)) = 5 := by decide +kernel
    refine ⟨env (head 5 0 0 0 0 0) (deviceNonce timeKey), h1, ?_, ?_⟩
    · rw [h3, hd]; exact env_passes timeKey (head 5 0 0 0 0 0) (deviceNonce timeKey) key1 false (by decide +kernel) (BitVec.isLt _) (by decide) (by decide +kernel) rfl
    · rw [h3, h7, h8]; decide +kernel,
   by
    obtain ⟨h1, -, h3, h4, h5, h6, h7, h8, -⟩ := env_reads (head 5 0 0 0 1 2000000) (deviceNonce timeKey) (by decide +kernel) (BitVec.isLt _)
    have hd : eDest (top (head 5 0 0 0 1 2000000)) = 5 := by decide +kernel
    refine ⟨env (head 5 0 0 0 1 2000000) (deviceNonce timeKey), h1, ?_, ?_⟩
    · rw [h3, hd]; exact env_passes timeKey (head 5 0 0 0 1 2000000) (deviceNonce timeKey) key1 false (by decide +kernel) (BitVec.isLt _) (by decide) (by decide +kernel) rfl
    · rw [h3, h7, h8]; decide +kernel,
   by
    obtain ⟨h1, -, h3, h4, h5, h6, h7, h8, -⟩ := env_reads (head 5 0 0 0 1 9) (deviceNonce timeKey) (by decide +kernel) (BitVec.isLt _)
    have hd : eDest (top (head 5 0 0 0 1 9)) = 5 := by decide +kernel
    refine ⟨env (head 5 0 0 0 1 9) (deviceNonce timeKey), h1, ?_, ?_⟩
    · rw [h3, hd]; exact env_passes timeKey (head 5 0 0 0 1 9) (deviceNonce timeKey) key1 false (by decide +kernel) (BitVec.isLt _) (by decide) (by decide +kernel) rfl
    · rw [h3, h7, h8]; decide +kernel,
   by
    obtain ⟨h1, -, h3, h4, h5, h6, h7, h8, -⟩ := env_reads (head 2 0 0 7 0 0) (deviceNonce timeKey) (by decide +kernel) (BitVec.isLt _)
    have hd : eDest (top (head 2 0 0 7 0 0)) = 2 := by decide +kernel
    refine ⟨env (head 2 0 0 7 0 0) (deviceNonce timeKey), h1, ?_, ?_⟩
    · rw [h3, hd]; exact env_passes timeKey (head 2 0 0 7 0 0) (deviceNonce timeKey) key1 false (by decide +kernel) (BitVec.isLt _) (by decide) (by decide +kernel) rfl
    · rw [h3, h7, h6]; decide +kernel,
   ⟨(List.range 64).map (fun k => (k + 100, {})), by decide +kernel⟩,
   by
    obtain ⟨h1, -, h3, h4, h5, h6, h7, h8, -⟩ := env_reads (head 1 3 2 0 0 0) (padNonce run 2) (by decide +kernel) (BitVec.isLt _)
    have hd : padDest run 2 (env (head 1 3 2 0 0 0) (padNonce run 2)) = true := by
      unfold padDest; rw [h3, h4, h5, h6]; decide +kernel
    refine ⟨env (head 1 3 2 0 0 0) (padNonce run 2), h1, ?_, ?_⟩
    · rw [hd]; exact env_passes run (head 1 3 2 0 0 0) (padNonce run 2) key1 true (by decide +kernel) (BitVec.isLt _) (by decide) (by decide +kernel) rfl
    · rw [h3, h4]; decide +kernel,
   by
    obtain ⟨h1, -, h3, h4, h5, h6, h7, h8, -⟩ := env_reads (head 3 0 2 0 0 0) (padNonce run 2) (by decide +kernel) (BitVec.isLt _)
    have hd : padDest run 2 (env (head 3 0 2 0 0 0) (padNonce run 2)) = true := by
      unfold padDest; rw [h3, h4, h5, h6]; decide +kernel
    refine ⟨env (head 3 0 2 0 0 0) (padNonce run 2), h1, ?_, ?_⟩
    · rw [hd]; exact env_passes run (head 3 0 2 0 0 0) (padNonce run 2) key1 true (by decide +kernel) (BitVec.isLt _) (by decide) (by decide +kernel) rfl
    · rw [h3]; decide +kernel,
   by
    obtain ⟨h1, -, h3, h4, h5, h6, h7, h8, -⟩ := env_reads (head 4 0 2 0 0 0) (padNonce run 2) (by decide +kernel) (BitVec.isLt _)
    have hd : padDest run 2 (env (head 4 0 2 0 0 0) (padNonce run 2)) = true := by
      unfold padDest; rw [h3, h4, h5, h6]; decide +kernel
    refine ⟨env (head 4 0 2 0 0 0) (padNonce run 2), h1, ?_, ?_⟩
    · rw [hd]; exact env_passes run (head 4 0 2 0 0 0) (padNonce run 2) key1 true (by decide +kernel) (BitVec.isLt _) (by decide) (by decide +kernel) rfl
    · rw [h3]; decide +kernel,
   by decide +kernel⟩

theorem witness_KeysAreClearedAndLocksOnlyRise :
    (ManagerAsks run .pf ∧ OwnerAsks run 2 .pf ∧ bits (0x03000000 : BitVec 32).toNat 23 16 = 0 ∧ bits (0x03000000 : BitVec 32).toNat 31 24 = 3 ∧
      bits (0x05000000 : BitVec 32).toNat 31 24 = 5 ∧ bits (0x05000000 : BitVec 32).toNat 15 0 = 0 ∧
      bits (0x05000000 : BitVec 32).toNat 23 16 = 0 ∧ bits (0x02000009 : BitVec 32).toNat 31 24 = 2 ∧
      bits (0x02000009 : BitVec 32).toNat 23 16 = 0 ∧
      (∀ e ∈ run.pads, e.2.state = .opened ∨ e.2.state = .draining → e.2.tag ≠ bits (0x02000009 : BitVec 32).toNat 15 0) ∧ (2, pad2) ∈ run.pads ∧
      pad2.state = .opened ∧ pad2.tag = bits (0x02000007 : BitVec 32).toNat 15 0 ∧
      Tbl.has (net run q1).net.linkKeys (bits (0x02000007 : BitVec 32).toNat 15 0) = true ∧ run.sys.securityVersion < (5 : BitVec 32).toNat ∧
      Tbl.has { run with net.linkKeys := [(7, {}), (9, {})] }.net.linkKeys (bits (0x02000009 : BitVec 32).toNat 15 0) = true ∧
      (∀ e ∈ { run with net.linkKeys := [(7, {}), (9, {})] }.pads, e.2.state = .opened ∨ e.2.state = .draining →
        e.2.tag ≠ bits (0x02000009 : BitVec 32).toNat 15 0) ∧
      (pad { run with net.linkKeys := [(7, {}), (9, {})] } 2).state ≠ .empty ∧
      Tbl.has { run with net.linkKeys := [(7, {}), (9, {})] }.net.linkKeys (pad { run with net.linkKeys := [(7, {}), (9, {})] } 2).tag = true ∧
      { run with sys.securityVersion := 9 }.sec.minSv < (5 : BitVec 32).toNat ∧ (5 : BitVec 32).toNat ≤ 9 ∧ run.sec.svRaises < 64 ∧
      (zeros 4).length = 4 ∧ (∃ e ∈ run.pads, e.2.state ≠ .empty) ∧ (∀ e ∈ dev.pads, e.2.state = .empty) ∧ key1.sigOk = true) ∧
    (bits (0x0300 : BitVec 16).toNat 15 8 = 3 ∧ bits (0x0300 : BitVec 16).toNat 7 0 = 0 ∧ bits (0x0400 : BitVec 16).toNat 15 8 = 4 ∧
      bits (0x0101 : BitVec 16).toNat 15 8 = 1 ∧ bits (0x013F : BitVec 16).toNat 7 0 = 63 ∧ (Tbl.get (pad run 2).sels 63).lockTag = none ∧
      bits (0x0200 : BitVec 16).toNat 15 8 ∉ [1, 3, 4] ∧ 63 < bits (0x0140 : BitVec 16).toNat 7 0 ∧ bits (0x0301 : BitVec 16).toNat 7 0 ≠ 0 ∧
      run.sec.debugLock = false ∧ { run with sec.debugLock := true }.sec.debugLock = true ∧ (38 : Fin 64).val ≠ 2 ∧ (38 : Fin 64).val ≤ 38 ∧
      (pad run 2).state ≠ .empty ∧ (pad run 3).state = .empty ∧ (pad run 3).pend = none) :=
  ⟨by unfold OwnerAsks TenantAsks ManagerAsks Serves; decide +kernel,
   by decide +kernel⟩

theorem witness_SealsAreGrantedBoundAndLocked :
    (∃ n, n = sha384 (beBytes 96 sealHead) / 2 ^ 128 ∧
      envCheck run (env (head 6 0 0 0 0 0) n) false (eDest (env (head 6 0 0 0 0 0) n) = 6) n key1 = 0 ∧
      beNat (beBytes 240 (env (head 6 0 0 0 0 0) n)) = env (head 6 0 0 0 0 0) n) ∧
    (∀ e, (beBytes 96 sealHead ++ beBytes 240 e).length = 336 ∧ (beBytes 96 sealHead ++ beBytes 240 e).take 96 = beBytes 96 sealHead ∧
      (beBytes 96 sealHead ++ beBytes 240 e).drop 96 = beBytes 240 e) ∧
    (beNat (beBytes 96 sealHead) = sealHead ∧ grantBroken sealHead = false ∧ OwnerAsks granted 2 .pf ∧
      grantOf granted (gSet sealHead) = some (sealHead, 3) ∧ gVersion sealHead ≤ gVersion sealHead ∧ grantOf run (gSet sealHead) = none ∧
      16 ≤ (List.replicate 16 (6, sealHead, 3)).length ∧ run.sec.grants.length < 16 ∧
      grantOf { run with sec.grants := List.replicate 16 (6, sealHead, 3) } 5 = none) ∧
    (bits (BitVec.ofNat 128 (5 * 2 ^ 64 + 1 * 2 ^ 58)).toNat 127 64 = 5 ∧ bits (BitVec.ofNat 128 (5 * 2 ^ 64 + 1 * 2 ^ 58)).toNat 63 58 = 1 ∧
      bits (BitVec.ofNat 128 (5 * 2 ^ 64 + 1 * 2 ^ 58)).toNat 57 0 = 0 ∧ grantOf run 5 = none ∧
      less (gMask sealHead) (pad granted 2).granules = 0 ∧ bit sealHead 614 = false ∧ (Tbl.get (pad granted 2).sels 1).st = 0 ∧
      (Tbl.get (pad (selected locking1 granted) 2).sels 1).st ≠ 0) ∧
    ((63 : BitVec 8).toNat ≤ 63 ∧ (Tbl.get (pad granted 2).sels 63).st ≠ 2 ∧
      Tbl.get (pad (selected { st := 2, set := 5 } granted) 2).sels 1 = { st := 2, set := 5 } ∧
      Tbl.get (pad (selected locking1 granted) 2).sels (1 : Fin 64).val = locking1 ∧ locking1.locking = true ∧ locking1.lockTag = some (.pf, 1) ∧
      writersThrough (selected locking1 granted) 2 1 = false ∧ grantOf (selected locking1 granted) locking1.set = some (sealHead, 3) ∧
      gDigest sealHead = (9 : BitVec 384).toNat ∧ gDigest sealHead ≠ (8 : BitVec 384).toNat ∧
      writersThrough { selected locking1 granted with cmd.live := [(7, { cmd 0x20 0 with usesSelW := [1] })] } 2 1 = true) ∧
    (ManagerAsks granted .pf ∧ grantOf granted (8 : BitVec 64).toNat = none ∧ (∀ e ∈ granted.pads, e.2.sels = [])) :=
  ⟨by
    have hn : sha384 (beBytes 96 sealHead) / 2 ^ 128 < 2 ^ 256 := by decide +kernel
    obtain ⟨h1, -, h3, -⟩ := env_reads (head 6 0 0 0 0 0) _ (by decide +kernel) hn
    refine ⟨_, rfl, ?_, h1⟩
    have hd : eDest (top (head 6 0 0 0 0 0)) = 6 := by decide +kernel
    rw [h3, hd]; exact env_passes run _ _ key1 false (by decide +kernel) hn (by decide) (by decide +kernel) rfl,
   fun e => by
    have h : (beBytes 96 sealHead).length = 96 := beBytes_length _ _
    exact ⟨by simp [h, beBytes_length], by rw [List.take_append_of_le_length (by omega), List.take_of_length_le (by omega)], by
      rw [List.drop_append_of_le_length (by omega), List.drop_of_length_le (by omega)]; rfl⟩,
   by unfold OwnerAsks TenantAsks ManagerAsks Serves; decide +kernel,
   by decide +kernel,
   by decide +kernel,
   by unfold ManagerAsks Serves; decide +kernel⟩

theorem witness_SessionsAndAnchors :
    (∃ e, beNat ((beBytes 240 e ++ zeros 96).take 240) = e ∧ (beBytes 240 e ++ zeros 96).length = 336 ∧ eSlot e = 7 ∧
      envCheck dev e false (eDest e = 7 && decide (eSlot e < 8)) (deviceNonce dev) key1 = 0) ∧
    (ManagerAsks dev .pf ∧ { dev with sec.anchors := [1, 0] }.sec.anchors.getD 0 0 ≠ 0 ∧ key1.sigOk = true ∧ dev.sec.anchors.getD 0 0 = 0 ∧
      ({} : Facts).sigOk = false) ∧
    (beNat ((beBytes 4 2 ++ zeros 96).take 4) = 2 ∧ (beBytes 4 2 ++ zeros 96).length = 100 ∧ dev.sec.anchors.getD (2 - 1) 0 = 0 ∧
      dev.sec.anchors.length = 2 ∧ { dev with sec.anchors := [1, 0] }.sec.anchors.getD (1 - 1) 0 ≠ 0 ∧
      (beBytes 4 1 ++ zeros 192).length = 196) :=
  ⟨by
    obtain ⟨h1, -, h3, h4, -⟩ := env_reads (head 7 7 0 0 0 0) (deviceNonce dev) (by decide +kernel) (BitVec.isLt _)
    have h : (beBytes 240 (env (head 7 7 0 0 0 0) (deviceNonce dev))).length = 240 := beBytes_length _ _
    have hd : eDest (top (head 7 7 0 0 0 0)) = 7 := by decide +kernel
    have hl : eSlot (top (head 7 7 0 0 0 0)) = 7 := by decide +kernel
    refine ⟨env (head 7 7 0 0 0 0) (deviceNonce dev), by rw [List.take_append_of_le_length (by omega), List.take_of_length_le (by omega)]; exact h1, by simp [h, zeros], by rw [h4]; exact hl, ?_⟩
    rw [h3, h4, hd, hl]; exact env_passes dev _ _ key1 false (by decide +kernel) (BitVec.isLt _) (by decide) (by decide +kernel) rfl,
   by unfold ManagerAsks Serves; decide +kernel,
   by decide +kernel⟩

theorem witness_SpdmAnswersInSequence :
    dev.sys.boot = 3 ∧ islandOut dev 1 = false ∧ islandOut dev 2 = false ∧ dev.sec.st = 1 ∧ (spdmOf dev true 5).stage < 3 ∧
      2 ≤ (spdmOf (talking { stage := 2 }) true 5).stage ∧
      (spdmOf (talking { stage := 3, pending := true, session := true, chunks := [0] }) true 5).stage = 3 ∧
      (spdmOf (talking { stage := 3, pending := true, session := true, chunks := [0] }) true 5).pending = true ∧
      (spdmOf (talking { stage := 3, pending := true, session := true, chunks := [0] }) true 5).session = true ∧
      (spdmOf (talking { stage := 3, pending := true, session := true, chunks := [0] }) true 5).chunks ≠ [] ∧
      (spdmOf (talking { stage := 3 }) true 5).session = false ∧ (zeros 4).getD 0 0 = 0 ∧ leNat (((zeros 4).drop 1).take 2) = 0 ∧
      ([4] : Bytes).getD 0 0 = 4 :=
  by decide +kernel

theorem witness_IslandsResetReturnAndFail :
    (ManagerAsks run .pf ∧ (38 : BitVec 8).toNat ≤ 38 ∧ Tbl.get { run with flt.state := [(16, 2)] }.flt.state (16 : BitVec 8).toNat = 2 ∧
      Tbl.get run.flt.state (16 : BitVec 8).toNat = 0 ∧ run.pow.st ≠ 4 ∧ islandUsers run 16 = [] ∧ islandUsers run 12 = [] ∧
      Tbl.get run.flt.state 12 = 0) ∧
    (run.sys.boot = 3 ∧ Tbl.get run.flt.state 16 = 0 ∧ keysReady { run with flt.state := [(2, 2), (12, 2)] } 12 = false ∧
      Tbl.get { run with flt.state := [(2, 2), (12, 2)] }.flt.state 12 = 2 ∧ keysReady { run with flt.state := [(12, 2)] } 12 = true ∧
      12 ∉ [1, 4, 5, 9] ∧ Tbl.get { run with flt.state := [(7, 2)] }.flt.state 7 = 2 ∧ failHits { run with flt.state := [(7, 2)] } 7 = [] ∧
      vital 7 = true ∧ islandOut run 9 = false ∧ 9 ∉ run.flt.wedged ∧ getO (setO run 0x1F00 6 0) 0x1F00 6 = 0 ∧
      9 ∈ { run with flt.wedged := [9] }.flt.wedged) :=
  ⟨by unfold ManagerAsks Serves; decide +kernel,
   by decide +kernel⟩

theorem witness_HangsAreBroken :
    (ctxOf run 2 (5 : BitVec 12).toNat = none ∧ ctxOf run 2 (1 : BitVec 12).toNat = some ctx1 ∧ (∀ id ∈ ctxCmds run 2 1, watched run id = false) ∧
      ctx1.st = .running ∧ ctxCmds (liveIn 0x50 0) 2 1 = [7] ∧ watched (liveIn 0x50 0) 7 = true ∧
      cmdOf (liveIn 0x50 0) 7 = some (started (cmd 0x50 0)) ∧ waitEdges run = []) ∧
    (waitEdges hung = [(7, 8), (8, 7)] ∧
      (((waitEdges hung).map (fun e => (ctxKey hung e.1, ctxKey hung e.2))).eraseDups.map (fun e => e.1)).find? (fun a => !(cycleOf ((waitEdges hung).map (fun e => (ctxKey hung e.1, ctxKey hung e.2))).eraseDups a).isEmpty) = some (4096 * 2 + 1) ∧
      hung.cmd.live.length = 1 + 1 ∧
      waitEdges (breakCycle hung (cycleCmds hung (waitEdges hung) (cycleOf ((waitEdges hung).map (fun e => (ctxKey hung e.1, ctxKey hung e.2))).eraseDups (4096 * 2 + 1))) (cycleOf ((waitEdges hung).map (fun e => (ctxKey hung e.1, ctxKey hung e.2))).eraseDups (4096 * 2 + 1))) = [] ∧
      youngest hung [7, 8] = some 8 ∧ cmdOf hung 8 ≠ none) :=
  ⟨by decide +kernel,
   by decide +kernel⟩

theorem witness_DumpsWatchdogsAndHardFence :
    (islandOut run 3 = false ∧ 3 ∉ run.flt.wedged ∧ (3 : Fin 64).val ≤ 38 ∧ ManagerAsks run .pf ∧ dumpSlot run = some 0 ∧ run.log.frozen = none ∧
      { run with log.frozen := some 0 }.log.frozen ≠ none ∧ (4 : BitVec 8).toNat ≤ 4) ∧
    ((pad run (9 : BitVec 8).toNat).state = .empty ∧ (pad (at2 .faulted) (2 : BitVec 8).toNat).state = .faulted ∧
      (pad (at2 .faulted) 2).pend = none ∧ (pad (at2 .faulted) 2).lots = [] ∧ (pad run 2).state ≠ .empty ∧ (pad run 2).state ≠ .faulted) ∧
    (run.sys.uptime < run.flt.kickAt + 10 ^ 9 ∧ Tbl.get { run with sys.uptime := 2 * 10 ^ 9 }.flt.state 1 = 0 ∧
      { run with sys.uptime := 2 * 10 ^ 9 }.flt.kickAt + 10 ^ 9 ≤ { run with sys.uptime := 2 * 10 ^ 9 }.sys.uptime ∧
      (recentMgtResets { run with sys.uptime := 2 * 10 ^ 9 }).length < 3) :=
  ⟨by unfold ManagerAsks Serves; decide +kernel,
   by decide +kernel,
   by decide +kernel⟩

theorem witness_HalvesJoinAndSplit :
    ((half 1 1).pair.st = 1 ∧ joinCondition (half 1 1) peer1 = 0 ∧ (half 1 1).pair.mirrorEntries = [] ∧ joinCondition (half 1 2) peer1 = 1 ∧
      (half 0 1).pair.st ≠ 1 ∧ (half 0 1).pair.st ≠ 4) ∧
    (paired (half 0 1) = false ∧ paired spanning = true ∧ (pad spanning 2).state ≠ .empty ∧ spans spanning 2 = true ∧
      (pad spanning 2).state ≠ .faulted ∧ elsewhere { spanning with obj.committed := [(okey 0x2000 1, 1), (okey 0x2001 3, 1)] } 2 = true ∧
      spans spanning 3 = false ∧ elsewhere spanning 3 = false) :=
  ⟨by decide +kernel,
   by decide +kernel⟩

theorem witness_MirrorRequestsAreCarriedOut :
    ((half 2 1).pair.st ≠ 0 ∧ portsUp (half 2 1) ≠ 0 ∧ (half 0 1).pair.st = 0 ∧ paired (half 2 2) = true ∧ secondHalf (half 2 2) = true ∧
      (3 : BitVec 32).toNat < { half 2 2 with pair.mirrorNext := 5 }.pair.mirrorNext ∧ (half 2 2).pair.mirrorNext ≤ (3 : BitVec 32).toNat) ∧
    ((doPaddockControl { half 2 2 with pads := [(2, pad2)] } 2 3).2 = some 0 ∧
      ((pad (doPaddockControl { half 2 2 with pads := [(2, pad2)] } 2 3).1 2).pend ≠ none ∨ (pad (doPaddockControl { half 2 2 with pads := [(2, pad2)] } 2 3).1 2).result = 0) ∧
      (doPaddockControl (half 2 2) 2 3).2 = some 0x0201) ∧
    ((half 2 1).pair.mirrorOut.find? (fun m => m.1 = (3 : BitVec 32).toNat) = none ∧
      { half 2 1 with pair.mirrorOut := [(3, 2, 3)] }.pair.mirrorOut.find? (fun m => m.1 = (3 : BitVec 32).toNat) = some ((3 : BitVec 32).toNat, 2, 3) ∧
      (pad spanning 2).state = .opened ∧
      { half 2 1 with pair.mirrorOut := [(3, 2, 1)] }.pair.mirrorOut.find? (fun m => m.1 = (3 : BitVec 32).toNat) = some ((3 : BitVec 32).toNat, 2, 1) ∧
      1 ≠ 3) :=
  ⟨by decide +kernel,
   by decide +kernel,
   by decide +kernel⟩

theorem witness_SensorBusAndPowerCap :
    ({ dev with pow.sensorBus := 1 }.pow.sensorBus ≠ 0 ∧ dev.pow.sensorBus = 0 ∧ setBits 16 (2 ^ 15) = [15] ∧
      { dev with pow.sensorBus := 1 }.pow.sensorBus = 1 ∧ { dev with pow.sensorBus := 1 }.pow.sensorTries < 2 ∧
      2 ≤ { dev with pow.sensorTries := 2 }.pow.sensorTries ∧ { dev with pow.sensorBus := 2 }.pow.sensorBus = 2) ∧
    ({ dev with pow.brake := some (3, 700) }.pow.brake ≠ none ∧ dev.pow.brake = none ∧ dev.pow.st ≠ 4 ∧ 1000 * capInForce dev < 900000 ∧
      1200 < dev.pow.freqMhz ∧ { dev with pow.freqMhz := 1200 }.pow.freqMhz ≤ 1200 ∧ 100000 + 10000 < 1000 * capInForce dev ∧
      dev.pow.throttle = false ∧ { dev with pow.duty := 15 }.pow.duty < 16 ∧ 16 ≤ dev.pow.duty ∧
      1000 * capInForce dev ≤ 1000 * capInForce dev - 10000 + 10000 ∧ 1000 * capInForce dev - 10000 ≤ 1000 * capInForce dev) :=
  ⟨by decide +kernel,
   by decide +kernel⟩

theorem witness_PowerStatesAreEntered :
    (ManagerAsks dev .pf ∧ dev.pow.st ≤ 1 ∧ 2 ≤ { dev with pow.st := 2 }.pow.st ∧ 2 < { dev with pow.st := 3 }.pow.st ∧
      (∃ e ∈ (liveIn 0x50 0).cmd.live, e.2.inner = false) ∧ (∃ e ∈ (at2 .draining).pads, e.2.state = .draining) ∧
      (∀ e ∈ dev.cmd.live, e.2.inner = true) ∧ (∀ e ∈ dev.pads, e.2.state ≠ .draining) ∧ (∀ l, l < 68 → (link dev l).st ≠ .up) ∧ dev.ftm.st ≠ 2 ∧
      (lnk .up id).net.qps = [] ∧ (∀ e ∈ (lnk .up id).cmd.live, e.2.inner = true) ∧ notEmpty run ≠ [] ∧ notEmpty dev = [] ∧ dev.pow.st ≤ 2) ∧
    (dev.pow.st = 0 ∧ arrayBusy dev = false ∧ { dev with pow.st := 1 }.pow.st ≠ 0) :=
  ⟨by unfold ManagerAsks Serves; decide +kernel,
   by decide +kernel⟩

theorem witness_HeatAndBrownout :
    ((100000 : Int) ≤ toSigned 32 (100000 : BitVec 32).toNat ∧ dev.pow.throttle = false ∧
      (∀ j, j < 64 → toSigned 32 (Tbl.get (Tbl.set dev.pow.temps 5 (96999 : BitVec 32).toNat) j) < 97000) ∧
      toSigned 32 (98000 : BitVec 32).toNat < 100000 ∧
      (97000 : Int) ≤ toSigned 32 (Tbl.get (Tbl.set dev.pow.temps 5 (98000 : BitVec 32).toNat) 5) ∧ { dev with pow.st := 4 }.pow.st = 4 ∧
      dev.pow.st ≠ 4) ∧
    (dev.pow.brake = none ∧ { dev with pow.brake := some (3, 700) }.pow.brake = some (3, 700)) :=
  ⟨by decide +kernel,
   by decide +kernel⟩

theorem witness_ManagementEthernet :
    (1 : BitVec 8).toNat ≠ 0 ∧ (0 : BitVec 8).toNat = 0 ∧ (5 : BitVec 48).toNat ≠ 2 ^ 48 - 1 ∧ (5 : BitVec 48).toNat ∉ unicast macs ∧
      (0x021122334455 : BitVec 48).toNat ∈ unicast macs ∧ (ethAnswer macs arp).isSome = true ∧ ethAnswer dev arp = none ∧ ManagerAsks macs .pf ∧
      4 < (5 : BitVec 8).toNat ∧ (4 : BitVec 8).toNat ≤ 4 :=
  by unfold ManagerAsks Serves; decide +kernel

theorem witness_FlashOperationsTakeEffect :
    (2 ≤ dev.sys.boot ∧ dev.pow.brake = none ∧ dev.store.readOnly = false ∧ dev.store.work = [] ∧
      (storing [.cairn default]).store.work = [.cairn default] ∧ dev.log.cairn.length < cairnRoom ∧
      (storing [.snapshot 2 (zeros 8)]).store.work = [.snapshot 2 (zeros 8)] ∧ dev.acct.meterJournal.length < meterRoom ∧
      (storing [.fw 1 0 (zeros 8)]).store.work = [.fw 1 0 (zeros 8)] ∧
      badBlock (storing [.cairn default]) (opBlock (storing [.cairn default]) (.cairn default)) = false) ∧
    ((storing [.erase 300]).store.work = [.erase 300] ∧ badBlock dev 300 = false ∧ 300 ∉ dev.store.eraseOpen ∧ islandOut dev 1 = false) ∧
    (300 < flashBlocks ∧ flashBlocks ≤ 8192) :=
  ⟨by decide +kernel,
   by decide +kernel,
   by
    unfold flashBlocks
    have : Config.flashSize % 4 < 4 := Nat.mod_lt _ (by decide)
    generalize Config.flashSize % 4 = k at this
    match k, this with
    | 0, _ => decide
    | 1, _ => decide
    | 2, _ => decide
    | 3, _ => decide⟩

theorem witness_FirmwareUpdateFollowsItsTransitions :
    (ManagerAsks dev .pf ∧ 1 = otherSlot dev ∧ slotState (fw 1) 1 = 1 ∧ slotState (fw 0) 1 = 0 ∧ slotState (fw 3) 1 ≠ 1 ∧
      slotBytes < getO (setO (fw 1) 0x2202 2 slotBytes) 0x2202 2 + 1024 ∧ getO (fw 1) 0x2202 2 + 1024 ≤ slotBytes ∧
      (zeros 1024).length = 1024) ∧
    (1 ≤ (1024 : BitVec 32).toNat ∧ (1024 : BitVec 32).toNat ≤ slotBytes ∧ (fw 1).store.work = [] ∧ (fw 1).pow.brake = none ∧
      (fw 1).store.readOnly = false ∧ 1 < (fw 1).store.slots.length ∧ slotState (fw 2) 1 = 2 ∧ (∀ c, c < 4 → badBlock (fw 2) c = false) ∧
      slotState (fw 2) (fw 2).sys.bootSlot ≠ 3 ∧ slotState { dev with store.slots := [3, 4] } dev.sys.bootSlot = 3 ∧
      (∀ c, c < 4 → badBlock { dev with store.slots := [3, 4] } c = false) ∧
      (storing [.boot 0 1 4 2 .pf 1 5]).store.work = [.boot 0 1 4 2 .pf 1 5] ∧
      (storing [.boot 3 1 4 2 .pf 1 5]).store.work = [.boot 3 1 4 2 .pf 1 5]) :=
  ⟨by unfold ManagerAsks Serves; decide +kernel,
   by decide +kernel⟩

end Sys2Proof.Tests
end

/-! # Paddocks: control commands refused at once, and packets for no paddock -/

section
namespace Sys2Proof.Machine
open Sys2Proof

/-! ### Control commands that PADDOCK_CONTROL refuses (R48, R50) -/

/-- A command is the control command `v`, 1 to 5, of a paddock: it comes to the WRITE of `v` to PADDOCK_CONTROL. -/
def WritesControl (c : Instr) (via : Path) (tag : Tag) (p : PNum) (v : Nat) : Prop :=
  1 ≤ v ∧ v ≤ 5 ∧ ∃ f, ∀ s, exec c s = ran s (serve s via (writeReq tag (pidx p.val 0) 2 1) (beBytes 1 v) f s.sys.bootFacts)

section
variable (via : Path) (tag : Tag) (p : PNum) (f : Facts)

theorem fence_writesControl : WritesControl (.fence via tag p) via tag p 1 := ⟨by decide, by decide, {}, fun _ => rfl⟩
theorem openPaddock_writesControl : WritesControl (.openPaddock via tag p) via tag p 2 := ⟨by decide, by decide, {}, fun _ => rfl⟩
theorem drain_writesControl : WritesControl (.drain via tag p) via tag p 3 := ⟨by decide, by decide, {}, fun _ => rfl⟩
theorem release_writesControl : WritesControl (.release via tag p f) via tag p 4 := ⟨by decide, by decide, f, fun _ => rfl⟩
theorem recover_writesControl : WritesControl (.recover via tag p) via tag p 5 := ⟨by decide, by decide, {}, fun _ => rfl⟩

theorem controls_writeControl {c : Instr} (hc : c ∈ controls via tag p f) : ∃ v, WritesControl c via tag p v := by
  simp only [controls, List.mem_cons, List.not_mem_nil, or_false] at hc
  rcases hc with rfl | rfl | rfl | rfl | rfl
  · exact ⟨1, fence_writesControl via tag p⟩
  · exact ⟨2, openPaddock_writesControl via tag p⟩
  · exact ⟨3, drain_writesControl via tag p⟩
  · exact ⟨4, release_writesControl via tag p f⟩
  · exact ⟨5, recover_writesControl via tag p⟩

end

/-- PADDOCK_CONTROL in the dictionary: the manager writes it with one byte, and 1 to 5 are in its Range. -/
theorem descPad_control : ∃ d, descPad 0 2 = some d ∧ numCmd d 1 1 = true ∧ d.lo ≤ 1 ∧ 5 ≤ d.hi :=
  ⟨_, rfl, by decide⟩

theorem doPaddockControl_pending {s : State} {p : Nat} (v stuck : Nat) (hf : splitForeign s p = false)
    (hp : (pad s p).pend ≠ none) : doPaddockControl s p v stuck = (s, some 0x0203) := by
  simp [doPaddockControl, hf, Option.isSome_iff_ne_none.mpr hp]

theorem doPaddockControl_notAllowed {s : State} {p v : Nat} (stuck : Nat) (hf : splitForeign s p = false)
    (hp : (pad s p).pend = none) (ha : controlAllowed (pad s p).state v = false) :
    doPaddockControl s p v stuck = (s, some 0x0201) := by
  simp [doPaddockControl, hf, hp, ha]

/-- The WRITE of a control command comes to PADDOCK_CONTROL's own checks where no configuration operation holds the paddock. -/
theorem serve_control {s : State} {via : Path} {tag : Tag} {p : PNum} {v : Nat} {f : Facts} {b : Boot}
    (hm : ManagerAsks s via) (hb : controlBusy s p.val = false) (h1 : 1 ≤ v) (h5 : v ≤ 5) :
    serve s via (writeReq tag (pidx p.val 0) 2 1) (beBytes 1 v) f b =
      settled via (writeReq tag (pidx p.val 0) 2 1) 1 (doPaddockControl (accepted s via tag) p.val v f.stuck) := by
  obtain ⟨d, hd, hk, hlo, hhi⟩ := descPad_control
  have hv : v < 256 ^ 1 := by omega
  have hb' : controlBusy (accepted s via tag) p.val = false := hb
  rw [serve_pad_num (.inl ⟨hm, hk⟩) (by decide) hd hv (by omega)]
  simp [padWrite, hb', beNat_beBytes hv]

section
variable {s : State} {via : Path} {tag : Tag} {p : PNum} {c : Instr} {v : Nat} (hc : WritesControl c via tag p v)
  (hm : ManagerAsks s via) (hb : controlBusy s p.val = false)
include hc hm hb

/-- A control command that PADDOCK_CONTROL's checks refuse is answered with their code and changes nothing. -/
theorem answers_of_controlRefused {code : Nat}
    (hr : ∀ stuck, doPaddockControl (accepted s via tag) p.val v stuck = (accepted s via tag, some code)) :
    Answers c s s via (writeReq tag (pidx p.val 0) 2 1) 1 code := by
  obtain ⟨h1, h5, f, hexec⟩ := hc
  obtain ⟨hboot, _, hserving, _⟩ := hm.1
  rw [Answers, hexec, ran_next (by omega), serve_control hm hb h1 h5, hr]
  exact congrArg (fun t => Host.Outcome.next (settle t)) (settled_accepted hserving false)

/-- A control command is answered 0x0203 and changes nothing while another is pending (R50). -/
theorem answers_of_pending (hf : splitForeign s p.val = false) (hp : (pad s p.val).pend ≠ none) :
    Answers c s s via (writeReq tag (pidx p.val 0) 2 1) 1 0x0203 :=
  answers_of_controlRefused hc hm hb fun stuck => doPaddockControl_pending (s := accepted s via tag) v stuck hf hp

/-- A control command that the paddock's state does not allow is answered 0x0201 and changes nothing (R48). -/
theorem answers_of_notAllowed (hf : splitForeign s p.val = false) (hp : (pad s p.val).pend = none)
    (ha : controlAllowed (pad s p.val).state v = false) : Answers c s s via (writeReq tag (pidx p.val 0) 2 1) 1 0x0201 :=
  answers_of_controlRefused hc hm hb fun stuck => doPaddockControl_notAllowed (s := accepted s via tag) stuck hf hp ha

end

/-- Settles O17: PADDOCK_CONTROL looks at the pending command first and at the paddock's state second, and a refusal leaves the
state in which MGT accepted the request. -/
theorem controlCommandsRefusedAtOnce : Obligations.ControlCommandsRefusedAtOnce := by
  intro s via tag p f hm hf hb
  constructor
  · intro hp c hc
    obtain ⟨v, hw⟩ := controls_writeControl via tag p f hc
    exact answers_of_pending hw hm hb hf hp
  · intro hp
    refine ⟨fun hs => ?fence, fun hs hs' => ?openPaddock, fun hs => ?drain, fun hs => ?release, fun hs => ?recover⟩
    case fence => exact answers_of_notAllowed (fence_writesControl via tag p) hm hb hf hp (by simp [controlAllowed, hs])
    case openPaddock =>
      exact answers_of_notAllowed (openPaddock_writesControl via tag p) hm hb hf hp (by simp [controlAllowed, hs, hs'])
    case drain => exact answers_of_notAllowed (drain_writesControl via tag p) hm hb hf hp (by simp [controlAllowed, hs])
    case release =>
      exact answers_of_notAllowed (release_writesControl via tag p f) hm hb hf hp
        (by rcases hs with h | h | h <;> simp [controlAllowed, h])
    case recover => exact answers_of_notAllowed (recover_writesControl via tag p) hm hb hf hp (by simp [controlAllowed, hs])

/-! ### Packets whose TAG matches no paddock (R58) -/

/-- The receive check drops and counts a packet for this half whose TAG matches no paddock, well formed or not. -/
theorem receive_unmatched {s : State} {l : Fin 68} {pkt : Packet} (type : Nat) (hi : islandOut s (portIsland (some l)) = false)
    (ho : forOther s pkt = false) (ht : trnOut s = false) (hp : padByTag s (bTag pkt.hdr.toNat) = none) :
    receive s (some l) pkt type = (dropUnmatched s, none) := by
  simp [receive, hi, ho, ht, hp]

/-- The commands of inbound Beluth packets. -/
def packetRows (on : Port) (pkt : Packet) : List Instr :=
  [.dataPacket on pkt, .commitPacket on pkt, .ackPacket on pkt, .nakPacket on pkt, .readReq on pkt, .readResp on pkt,
    .atomicReq on pkt, .atomicResp on pkt, .abort on pkt, .abortAck on pkt, .commitAck on pkt, .abandon on pkt, .grant on pkt]

/-- Every packet's command begins with the receive check of its type, and ends with it where the check does not pass. -/
theorem exec_packet_of_receive_none {s t : State} {on : Port} {pkt : Packet} (h : ∀ type, receive s on pkt type = (t, none))
    {i : Instr} (hi : i ∈ packetRows on pkt) : exec i s = ran s t := by
  simp only [packetRows, List.mem_cons, List.not_mem_nil, or_false] at hi
  rcases hi with rfl | rfl | rfl | rfl | rfl | rfl | rfl | rfl | rfl | rfl | rfl | rfl | rfl <;>
    exact congrArg (ran s) (by simp only [doDataPacket, doCommitPacket, doAckPacket, doNakPacket, doReadReq, doReadResp, doAtomicReq,
      doAtomicResp, doAbort, doAbortAck, doCommitAck, doAbandon, doGrant, h])

/-- Settles O35: the receive check, which every packet type makes first, drops the packet and counts it. -/
theorem unmatchedTagIsDroppedAndCounted : Obligations.UnmatchedTagIsDroppedAndCounted := by
  intro s l pkt i hboot hisland htrn hother hpad hi
  rw [exec_packet_of_receive_none (fun type => receive_unmatched type hisland hother htrn hpad) hi, ran_next hboot]
  rfl

end Sys2Proof.Machine
end

/-! # Refused and dropped drafts: ROLLBACK, DISCARD_DRAFT and the lease -/

section
namespace Sys2Proof.Machine
open Sys2Proof

/-! ### What the manager's commands on drafts and versions come to -/

theorem descOf_commit : ∃ d, descOf 0x1100 8 = some d ∧ numCmd d 4 1 = true ∧ d.lo = 0 ∧ d.hi = 2 ^ 32 - 1 :=
  ⟨_, rfl, by decide⟩

theorem descOf_rollback : ∃ d, descOf 0x1100 9 = some d ∧ numCmd d 4 1 = true ∧ d.lo = 0 ∧ d.hi = 2 ^ 32 - 1 :=
  ⟨_, rfl, by decide⟩

theorem descOf_discardDraft : ∃ d, descOf 0x1100 0x0A = some d ∧ boolCmd d 1 = true := ⟨_, rfl, by decide⟩

theorem descOf_requireSignedSet : ∃ d, descOf 0x1102 3 = some d ∧ boolCmd d 1 = true := ⟨_, rfl, by decide⟩

section
variable {t : State} {via : Path} {r : Req} {n c : Nat} (ht : t.obj.serving = none)
include ht

/-- A command that runs on (R75) is answered in the state it leaves, where MGT waits for nothing. -/
theorem next_settled_idle : Host.Outcome.next (settle (settled via r n (t, some c))) =
    (.next (settle (answer t via r n c [])) : Host.Outcome State Fault Refusal) := by
  have hanswer : settled via r n (t, some c) = answer t via r n c [] := settled_accepted (tag := 0) ht true
  rw [hanswer]

/-- A command that MGT waits for is answered in the state it leaves, without the wait. -/
theorem next_settled_accepted (tag : Tag) : Host.Outcome.next (settle (settled via r n (accepted t via tag, some c))) =
    (.next (settle (answer t via r n c [])) : Host.Outcome State Fault Refusal) := by
  have hanswer : settled via r n (accepted t via tag, some c) = answer t via r n c [] := settled_accepted ht false
  rw [hanswer]

end

section
variable {s : State} {via : Path} (tag : Tag) (hm : ManagerAsks s via)
include hm

/-- A 32-bit number lies in the Range of an object that spans all of them. -/
theorem serve_device_word {sub : Nat} (v : BitVec 32)
    (h : ∃ d, descOf 0x1100 sub = some d ∧ numCmd d 4 1 = true ∧ d.lo = 0 ∧ d.hi = 2 ^ 32 - 1) (hsub : sub ≠ 0x0A) (f : Facts)
    (b : Boot) :
    serve s via (writeReq tag 0x1100 sub 4) (beBytes 4 v.toNat) f b =
      settled via (writeReq tag 0x1100 sub 4) 4 (deviceWrite s via tag 0x1100 sub (beBytes 4 v.toNat) f b) := by
  obtain ⟨d, hd, hk, hlo, hhi⟩ := h
  have hv := v.isLt
  rw [serve_device_num hm (by decide) hd hk (by omega) (by omega), if_pos (by simp [runsOn, writeReq, hsub])]

theorem serving_eq_none_of_manager : s.obj.serving = none := by
  obtain ⟨⟨_, _, hserving, _⟩, _⟩ := hm
  exact hserving

theorem ran_next_of_manager (t : State) : ran s t = .next (settle t) := by
  obtain ⟨⟨hboot, _⟩, _⟩ := hm
  exact ran_next (by omega)

theorem exec_commit (v : BitVec 32) :
    exec (.commit via tag v) s = .next (settle (settled via (writeReq tag 0x1100 8 4) 4 (doCommit s v.toNat via tag))) := by
  have hserve := serve_device_word tag hm v descOf_commit (by decide) {} s.sys.bootFacts
  rw [show exec (.commit via tag v) s = ran s _ from rfl, ran_next_of_manager hm, hserve, deviceWrite, beNat_beBytes v.isLt]

theorem exec_rollback (v : BitVec 32) :
    exec (.rollback via tag v) s = .next (settle (settled via (writeReq tag 0x1100 9 4) 4 (doRollback s v.toNat via tag))) := by
  have hserve := serve_device_word tag hm v descOf_rollback (by decide) {} s.sys.bootFacts
  rw [show exec (.rollback via tag v) s = ran s _ from rfl, ran_next_of_manager hm, hserve, deviceWrite, beNat_beBytes v.isLt]

/-- MGT waits for DISCARD_DRAFT, whose answer comes at once (R75). -/
theorem exec_discardDraft :
    exec (.discardDraft via tag) s =
      .next (settle (settled via (writeReq tag 0x1100 0x0A 1) 1 (doDiscardDraft (accepted s via tag) via))) := by
  obtain ⟨d, hd, hk⟩ := descOf_discardDraft
  rw [show exec (.discardDraft via tag) s = ran s _ from rfl, ran_next_of_manager hm, serve_device_bool hm (by decide) hd hk]
  rfl

theorem exec_requireSignedSet :
    exec (.requireSignedSet via tag) s =
      .next (settle (settled via (writeReq tag 0x1102 3 1) 1 (doRequireSignedSet s))) := by
  obtain ⟨d, hd, hk⟩ := descOf_requireSignedSet
  rw [show exec (.requireSignedSet via tag) s = ran s _ from rfl, ran_next_of_manager hm, serve_device_bool hm (by decide) hd hk]
  rfl

end

theorem exec_draftLeaseExpiry {s : State} (hboot : 2 ≤ s.sys.boot) :
    exec .draftLeaseExpiry s = .next (settle (doDraftLeaseExpiry s)) :=
  ran_next hboot

/-! ### The checks of each command -/

/-- A path that may work on the draft passes the check of its owner (R80). -/
theorem not_foreign_owner {o : Option Path} {via : Path} (h : o = none ∨ o = some via) : ¬ (o.isSome && o ≠ some via) = true := by
  rcases h with rfl | rfl <;> simp

/-- A version that is kept has STATUS 1 or 2; the factory image, number 0, always is (R91, R92). -/
theorem rollTarget_unkept {s : State} {v : Nat} (hv : v ≠ 0) (h : ∀ x ∈ s.obj.versions, x.cvn = v → x.status = 3) :
    rollTarget s v = none := by
  simp only [rollTarget, if_neg hv, Option.map_eq_none_iff, List.find?_eq_none]
  intro x hx hkept
  simp only [Bool.and_eq_true, Bool.or_eq_true, decide_eq_true_eq] at hkept
  have := h x hx hkept.1
  omega

theorem doRollback_unkept {s : State} {via : Path} {v : Nat} (tag : Tag) (ho : s.obj.draftOwner = none ∨ s.obj.draftOwner = some via)
    (ht : rollTarget s v = none) : doRollback s v via tag = ({ s with obj.lastResult := 0x010C }, some 0x010C) := by
  simp only [doRollback, rollback, if_neg (not_foreign_owner ho), ht, confResult]

theorem doCommit_lapsed {s : State} {via : Path} (v : Nat) (tag : Tag) (ho : s.obj.draftOwner = none) (hl : s.obj.lapsed = some via) :
    doCommit s v via tag = ({ s with obj.lapsed := none, obj.lastResult := 0x0109 }, some 0x0109) := by
  simp only [doCommit, if_neg (not_foreign_owner (.inl ho)), if_pos hl, confResult]

section
variable {s : State} {via : Path}

theorem doDiscardDraft_drops (h : s.obj.draftOwner = some via ∨ via = .pf) (hc : s.obj.confOp = none) :
    doDiscardDraft s via = (resetDraft s, some 0) := by
  rcases h with h | rfl
  · simp [doDiscardDraft, h, hc]
  · simp [doDiscardDraft, hc]

theorem doDiscardDraft_foreign {o : Path} (ho : s.obj.draftOwner = some o) (hne : o ≠ via) (hpf : via ≠ .pf) :
    doDiscardDraft s via = (s, some 0x0108) := by
  simp [doDiscardDraft, ho, hne, hpf]

theorem doDiscardDraft_unowned (ho : s.obj.draftOwner = none) (hpf : via ≠ .pf) (hc : s.obj.confOp = none) :
    doDiscardDraft s via = (s, some 0) := by
  simp [doDiscardDraft, ho, hpf, hc]

end

/-- The lease's end drops a draft that has an owner while no configuration operation runs (R81). -/
theorem doDraftLeaseExpiry_drops {s : State} (hc : s.obj.confOp = none) (ho : s.obj.draftOwner ≠ none) :
    doDraftLeaseExpiry s = resetDraft { s with obj.lapsed := s.obj.draftOwner } := by
  simp [doDraftLeaseExpiry, hc, ho]

/-! ### The obligation -/

theorem rollbackToUnkeptVersionIsRefused : RollbackToUnkeptVersionIsRefused := by
  intro s via tag v hm ho hv hkept
  have hserving := serving_eq_none_of_manager hm
  rw [exec_rollback tag hm v, doRollback_unkept tag ho (rollTarget_unkept hv hkept)]
  exact next_settled_idle hserving

theorem discardDraftDropsDraft : DiscardDraftDropsDraft := by
  intro s via tag hm hc
  have hserving := serving_eq_none_of_manager hm
  rw [exec_discardDraft tag hm]
  refine ⟨fun h => ?drops, fun o ho hne hpf => ?foreign, fun ho hpf => ?unowned⟩
  case drops =>
    rw [doDiscardDraft_drops (s := accepted s via tag) h hc]
    exact next_settled_accepted (t := resetDraft s) hserving tag
  case foreign =>
    rw [doDiscardDraft_foreign (s := accepted s via tag) ho hne hpf]
    exact next_settled_accepted hserving tag
  case unowned =>
    rw [doDiscardDraft_unowned (s := accepted s via tag) ho hpf hc]
    exact next_settled_accepted hserving tag

theorem lapsedOwnerMustStartAgain : LapsedOwnerMustStartAgain := by
  intro s via tag
  refine ⟨fun hboot hc ho => ?lease, fun v hm ho hl => ?commit, fun hm => ?requireSigned⟩
  case lease =>
    rw [exec_draftLeaseExpiry hboot, doDraftLeaseExpiry_drops hc ho]
    rfl
  case commit =>
    have hserving := serving_eq_none_of_manager hm
    rw [exec_commit tag hm v, doCommit_lapsed _ tag ho hl]
    exact next_settled_idle hserving
  case requireSigned =>
    have hserving := serving_eq_none_of_manager hm
    rw [exec_requireSignedSet tag hm, doRequireSignedSet]
    exact next_settled_idle hserving

/-- Settles O14: each command comes to its own checks, and what they answer leaves the state in which MGT accepted the request. -/
theorem refusedAndDroppedDrafts : Obligations.RefusedAndDroppedDrafts :=
  ⟨rollbackToUnkeptVersionIsRefused, discardDraftDropsDraft, lapsedOwnerMustStartAgain⟩

end Sys2Proof.Machine
end

/-! # The Event Router: firing pends and counts a source, delivery clears PENDING -/

section
namespace Sys2Proof.Machine
open Sys2Proof

/-! ### Setting a bit -/

theorem bit_putBit_true (x i : Nat) : bit (putBit x i true) i = true := by
  unfold putBit
  split
  · assumption
  · next h =>
    have hpow : 0 < 2 ^ i := Nat.two_pow_pos i
    simp only [bit, Nat.shiftRight_eq_div_pow, decide_eq_true_eq] at h ⊢
    simp only [if_true, Nat.add_div_right _ hpow]
    omega

/-- A field below the bit that is set reads as before. -/
theorem bits_putBit_true {i hi lo : Nat} (x : Nat) (hlo : lo ≤ hi) (hhi : hi < i) : bits (putBit x i true) hi lo = bits x hi lo := by
  unfold putBit
  split
  · rfl
  · have hpow : 2 ^ i = 2 ^ lo * (2 ^ (hi + 1 - lo) * 2 ^ (i - (hi + 1))) := by
      rw [← pow_add, ← pow_add]
      congr 1
      omega
    simp only [if_true, bits, Nat.shiftRight_eq_div_pow]
    rw [hpow, Nat.add_mul_div_left _ _ (Nat.two_pow_pos lo), Nat.add_mul_mod_self_left]

/-! ### A pended target register (R522) -/

theorem pended_of_idle {t : Nat} (h : bit t 29 = false) : pended t = putBit t 29 true := by simp [pended, h]

theorem pended_of_pending {t : Nat} (h : bit t 29 = true) : pended t = if bits t 7 0 = 255 then t else t + 1 := by simp [pended, h]

/-- A count below 255 takes one more without a carry into PENDING. -/
theorem bit_succ_of_overrun {t : Nat} (h : bits t 7 0 ≠ 255) : bit (t + 1) 29 = bit t 29 := by
  have hdiv : (t + 1) / 2 ^ 29 = t / 2 ^ 29 := by
    simp only [bits, Nat.shiftRight_eq_div_pow] at h
    omega
  simp only [bit, Nat.shiftRight_eq_div_pow, hdiv]

theorem bit_pended (t : Nat) : bit (pended t) 29 = true := by
  cases h : bit t 29 with
  | false => rw [pended_of_idle h, bit_putBit_true]
  | true =>
    rw [pended_of_pending h]
    split
    · exact h
    · next hfull => rw [bit_succ_of_overrun hfull, h]

/-- The overrun count takes one more, and holds at 255. -/
theorem overrun_pended_of_pending {t : Nat} (h : bit t 29 = true) : bits (pended t) 7 0 = min 255 (bits t 7 0 + 1) := by
  rw [pended_of_pending h]
  split
  · next hfull => simp [hfull]
  · next hfull =>
    simp only [bits, Nat.shiftRight_zero] at hfull ⊢
    omega

theorem overrun_pended_of_idle {t : Nat} (h : bit t 29 = false) : bits (pended t) 7 0 = bits t 7 0 := by
  rw [pended_of_idle h, bits_putBit_true t (by decide) (by decide)]

/-! ### What firing and delivery leave as it was -/

theorem larkSee_frame (s : State) (k n : Nat) : { larkSee s k n with ev := s.ev } = s := by
  simp only [larkSee]; split <;> rfl

theorem fire_frame (s : State) (n : Nat) : { fire s n with ev := s.ev } = s :=
  congrArg (fun t : State => { t with ev := s.ev }) (larkSee_frame { s with ev.occurs := _, ev.targets := _ } 0 n)

theorem deliver_occurs (s : State) : (deliver s).ev.occurs = s.ev.occurs := by
  have h := congrArg (fun t : State => t.ev.occurs) (deliver_undelivered s)
  exact h

theorem deliver_lark (s : State) : (deliver s).ev.lark = s.ev.lark := by
  have h := congrArg (fun t : State => t.ev.lark) (deliver_undelivered s)
  exact h

theorem deliver_frame (s : State) : { deliver s with ev := s.ev, host := s.host, out := s.out, obj.live := s.obj.live } = s :=
  congrArg (fun t : State => { t with ev := s.ev, host := s.host, out := s.out, obj.live := s.obj.live }) (deliver_undelivered s)

/-! ### The obligation -/

theorem firingSetsPendingAndCounts : FiringSetsPendingAndCounts := by
  intro s src
  rw [fire_occurs, fire_targets, Tbl.get_set_self, Tbl.get_set_self]
  exact ⟨rfl, bit_pended _, overrun_pended_of_pending, overrun_pended_of_idle,
    fun k hk => ⟨Tbl.get_set_ne hk.symm _ _, Tbl.get_set_ne hk.symm _ _⟩, fire_frame s src⟩

theorem deliveryClearsPending : DeliveryClearsPending := by
  intro s
  refine ⟨fun src h => ?delivers, fun src h => ?waits, deliver_occurs s, deliver_lark s, deliver_frame s⟩
  case delivers => rw [delivered_get, h, if_pos rfl]
  case waits => simp [delivered_get, h]

/-- Settles O5: firing writes `pended` of the source's own register and its count alone; delivery rewrites exactly the registers that
are deliverable. -/
theorem eventsArePendedAndDelivered : Obligations.EventsArePendedAndDelivered :=
  ⟨firingSetsPendingAndCounts, deliveryClearsPending⟩

end Sys2Proof.Machine
end

/-! # The machine as a whole: every command goes on, and leaves no event that may be delivered -/

section
namespace Sys2Proof.Machine
open Sys2Proof

/-! ### What a command comes to -/

/-- The three commands that act before the boot ROM has entered Mbomon (log 34). -/
def IsReset (c : Instr) : Prop := (∃ b, c = .porN b) ∨ (∃ b, c = .warmRstN b) ∨ (∃ r m b, c = .brownoutReset r m b)

theorem exec_reset {c : Instr} (h : IsReset c) (s : State) : ∃ u, exec c s = .next (settle u) := by
  rcases h with ⟨b, rfl⟩ | ⟨b, rfl⟩ | ⟨r, m, b, rfl⟩ <;> exact ⟨_, rfl⟩

/-- Every command but the resets has its effect once Mbomon has been entered. -/
theorem exec_ran {c : Instr} (h : ¬ IsReset c) (s : State) : ∃ u, exec c s = ran s u := by
  simp only [IsReset, not_or, not_exists] at h
  obtain ⟨hpor, hwarm, hbrown⟩ := h
  cases c with
  | porN b => exact absurd rfl (hpor b)
  | warmRstN b => exact absurd rfl (hwarm b)
  | brownoutReset r m b => exact absurd rfl (hbrown r m b)
  | _ => exact ⟨_, rfl⟩

/-- A command leaves the state as it was, or what follows every command has followed its effect. -/
theorem exec_next (c : Instr) (s : State) : exec c s = .next s ∨ ∃ u, exec c s = .next (settle u) := by
  by_cases hc : IsReset c
  · exact .inr (exec_reset hc s)
  · obtain ⟨u, hu⟩ := exec_ran hc s
    by_cases hb : s.sys.boot < 2
    · exact .inl (by rw [hu, ran, if_pos hb])
    · exact .inr ⟨u, by rw [hu, ran, if_neg hb]⟩

theorem step_idle {s : State} (h : s.pending = []) : step s = .next (tick s) := by simp only [step, h]

theorem step_front {s : State} {c : Instr} {rest : List Instr} (h : s.pending = c :: rest) :
    step s = exec c { s with pending := rest } := by simp only [step, h]

/-! ### The parts of the statement -/

theorem emptyQueueCountsTime : EmptyQueueCountsTime := by
  intro s hpending
  exact ⟨tick s, step_idle hpending, rfl, rfl, rfl⟩

theorem everyCommandGoesOn : EveryCommandGoesOn := by
  intro c s
  rcases exec_next c s with h | ⟨u, h⟩
  · exact ⟨s, h⟩
  · exact ⟨settle u, h⟩

theorem onlyResetsActBeforeBoot : OnlyResetsActBeforeBoot := by
  intro c s hboot hpor hwarm hbrown
  obtain ⟨u, hu⟩ : ∃ u, exec c s = ran s u := exec_ran (by simp [IsReset, hpor, hwarm, hbrown]) s
  rw [hu, ran, if_pos hboot]

/-- Settles O4: a command is a reset, or waits for Mbomon and then has its effect. -/
theorem stepsAlwaysGoOn : Obligations.StepsAlwaysGoOn :=
  ⟨emptyQueueCountsTime, everyCommandGoesOn, onlyResetsActBeforeBoot⟩

/-- Settles O1: a step runs the front command by definition. -/
theorem stepRunsFrontCommand : Obligations.StepRunsFrontCommand := fun _ _ _ => rfl

/-! ### Delivery leaves nothing to deliver -/

theorem bit_putBit_false (x i : Nat) : bit (putBit x i false) i = false := by
  unfold putBit
  split
  · assumption
  · next h =>
    have hpow : 0 < 2 ^ i := Nat.two_pow_pos i
    simp only [bit, Nat.shiftRight_eq_div_pow, decide_eq_false_iff_not, Bool.false_eq_true, if_false] at h ⊢
    have hle : 2 ^ i * 1 ≤ x := by
      by_contra hlt
      rw [Nat.div_eq_of_lt (by omega)] at h
      omega
    have hdiv := Nat.sub_mul_div_of_le x (2 ^ i) 1 hle
    rw [Nat.mul_one] at hdiv
    rw [hdiv]
    omega

/-- A source whose PENDING is clear does not deliver (R523). -/
theorem deliverable_of_not_pending {s : State} {src : Nat} (h : bit (Tbl.get s.ev.targets src) 29 = false) :
    deliverable s src = false := by
  simp only [deliverable, h, Bool.and_false, Bool.false_and]
  split <;> rfl

/-- A register that reads as before delivers no more under more hold-offs. -/
theorem deliverable_mono {s t : State} {src : Nat} (htarget : Tbl.get t.ev.targets src = Tbl.get s.ev.targets src)
    (hhold : ∀ x ∈ s.ev.holdoffs, x ∈ t.ev.holdoffs) (h : deliverable s src = false) : deliverable t src = false := by
  simp only [deliverable, htarget] at h ⊢
  split
  · rfl
  · next f hf =>
    simp only [hf] at h
    cases hc : s.ev.holdoffs.contains (src / 16, f) with
    | false =>
      simp only [hc] at h
      revert h
      cases bit (Tbl.get s.ev.targets src) 31 <;> cases bit (Tbl.get s.ev.targets src) 29 <;> simp
    | true =>
      have hc' : t.ev.holdoffs.contains (src / 16, f) = true := by
        simp only [List.contains_iff_mem] at hc ⊢
        exact hhold _ hc
      rw [hc'] ; rw [hc] at h; exact h

/-- Delivery clears PENDING of what delivers, and a hold-off that runs goes on. -/
theorem deliver_quiescent (s : State) : Quiescent (deliver s) := by
  intro src
  have hget := delivered_get s src
  cases hd : deliverable s src with
  | true =>
    rw [hd, if_pos rfl] at hget
    exact deliverable_of_not_pending (by rw [hget, bit_putBit_false])
  | false =>
    rw [hd] at hget
    exact deliverable_mono hget (deliver_holdoffs_mono s) hd

theorem settle_quiescent (s : State) : Quiescent (settle s) := deliver_quiescent (carryOn s)

/-- What may be delivered depends on the event registers alone. -/
theorem quiescent_congr {s t : State} (h : s.ev = t.ev) (hq : Quiescent s) : Quiescent t := by
  intro src
  have := hq src
  simpa only [deliverable, h] using this

/-- Settles O3: every effect is followed by a delivery, which leaves nothing to deliver; a cycle of time and a command that has no
effect leave the event registers as they were. -/
theorem stepsLeaveNoDeliverableEvent : Obligations.StepsLeaveNoDeliverableEvent := by
  intro s t hq hstep
  cases hp : s.pending with
  | nil =>
    cases (step_idle hp).symm.trans hstep
    exact quiescent_congr (s := s) rfl hq
  | cons c rest =>
    have h := (step_front hp).symm.trans hstep
    rcases exec_next c { s with pending := rest } with hn | ⟨u, hn⟩
    · cases hn.symm.trans h
      exact quiescent_congr (s := s) rfl hq
    · cases hn.symm.trans h
      exact settle_quiescent u

/-! ### The state after reset -/

/-- Nothing is PENDING at reset: no target register is listed, and an unlisted one reads 0. -/
theorem reset_target_not_pending (src : Nat) : bit (Tbl.get State.reset.ev.targets src) 29 = false := by
  have h : Tbl.get State.reset.ev.targets src = 0 := rfl
  rw [h]
  decide

/-- Settles O2: every table of the state after reset is empty, so that each of its entries reads as the default. -/
theorem resetHoldsNothing : Obligations.ResetHoldsNothing := by
  refine ⟨fun p => ⟨rfl, rfl, rfl, rfl, rfl⟩, fun l => ⟨rfl, rfl⟩, rfl, rfl, rfl, rfl, rfl, fun src => ⟨rfl, ?pending⟩, rfl,
    fun src => ?quiescent, rfl⟩
  case pending => exact reset_target_not_pending src
  case quiescent => exact deliverable_of_not_pending (reset_target_not_pending src)

end Sys2Proof.Machine
end

/-! # The rick: stored bytes read back, and nothing else changes -/

section
namespace Sys2Proof.Machine
open Sys2Proof

/-! ### Lookups after entries are dropped -/

/-- Dropping entries by their key drops whole keys. -/
theorem Tbl_find_filter {α : Type} (q : Nat → Bool) (j : Nat) :
    ∀ t : Tbl α, Tbl.find (t.filter (fun e => q e.1)) j = if q j then Tbl.find t j else none
  | [] => by simp [Tbl.find]
  | (k, v) :: t => by
    have ih := Tbl_find_filter q j t
    by_cases hkj : k = j
    · subst hkj
      cases hq : q k with
      | true => simp [hq, Tbl.find]
      | false => simpa [List.filter_cons, hq] using ih
    · cases hq : q k with
      | true => simp only [List.filter_cons, hq, if_true, Tbl.find, if_neg hkj, ih]
      | false => simp [hq, Tbl.find, hkj, ih]

/-- A range that is forgotten reads as zero, and every other byte as before. -/
theorem get_zero (a n c : Nat) : ∀ m : List Host.Cell,
    Mem.get (Mem.zero m a n) c = if a ≤ c ∧ c < a + n then 0 else Mem.get m c
  | [] => by simp [Mem.zero, Mem.get]
  | (k, v) :: t => by
    have ih := get_zero a n c t
    simp only [Mem.zero] at ih ⊢
    by_cases hk : a ≤ k ∧ k < a + n
    · have hdrop : (!(decide (a ≤ k) && decide (k < a + n))) = false := by simp [hk]
      rw [List.filter_cons, hdrop, if_neg (by simp), ih]
      by_cases hkc : k = c
      · subst hkc; simp [hk]
      · simp [Mem.get, hkc]
    · have hkeep : (!(decide (a ≤ k) && decide (k < a + n))) = true := by simp; omega
      rw [List.filter_cons, hkeep, if_pos rfl]
      simp only [Mem.get, ih]
      by_cases hkc : k = c
      · subst hkc; simp [hk]
      · simp [hkc]

/-! ### What a byte reads -/

theorem seen_unwritten {s : State} {c : Nat} (key : Nat) (h : Tbl.find s.rick.lineKey (c / 64) = none) : seen s key c = 0 := by
  simp only [seen, h]

theorem seen_own_key {s : State} {key c : Nat} (h : Tbl.find s.rick.lineKey (c / 64) = some key) :
    seen s key c = Mem.get s.rick.cells c := by simp [seen, h]

/-- A byte reads by its line's key and its own stored value. -/
theorem seen_congr {s t : State} {c : Nat} (key : Nat) (hkey : Tbl.find t.rick.lineKey (c / 64) = Tbl.find s.rick.lineKey (c / 64))
    (hget : Mem.get t.rick.cells c = Mem.get s.rick.cells c) : seen t key c = seen s key c := by
  simp only [seen, hkey, hget]

theorem getD_rickRead {s : State} {key a n i : Nat} (h : i < n) : (rickRead s key a n).getD i 0 = seen s key (a + i) := by
  simp [rickRead, List.getD_eq_getElem?_getD, h]

@[simp] theorem rickRead_length (s : State) (key a n : Nat) : (rickRead s key a n).length = n := by simp [rickRead]

theorem mem_linesOf {a n l : Nat} : l ∈ linesOf a n ↔ 0 < n ∧ a / 64 ≤ l ∧ l ≤ (a + n - 1) / 64 := by
  unfold linesOf
  split
  · simp; omega
  · simp only [List.mem_map, List.mem_range]
    constructor
    · rintro ⟨k, hk, rfl⟩
      omega
    · intro ⟨_, hlo, hhi⟩
      exact ⟨l - a / 64, by omega, by omega⟩

/-- The line of each byte of a range is one that the range touches. -/
theorem line_mem_linesOf {a n c : Nat} (hlo : a ≤ c) (hhi : c < a + n) : c / 64 ∈ linesOf a n :=
  mem_linesOf.mpr ⟨by omega, Nat.div_le_div_right hlo, Nat.div_le_div_right (by omega)⟩

/-! ### Re-encryption of lines -/

/-- The store is canonical, and a byte is listed only in a line that was written under some key. -/
def RickSound (s : State) : Prop := Memory.wf s.rick.cells = true ∧ LinesKeyed s

/-- The lines ls of s are kept under a key in t: what they hold reads under it as before, and no other line changes. -/
structure Rekeyed (key : Nat) (s : State) (ls : List Nat) (t : State) : Prop where
  sound : RickSound t
  keyed : ∀ l ∈ ls, Tbl.find t.rick.lineKey l = some key
  otherKeys : ∀ l, l ∉ ls → Tbl.find t.rick.lineKey l = Tbl.find s.rick.lineKey l
  otherCells : ∀ c, c / 64 ∉ ls → Mem.get t.rick.cells c = Mem.get s.rick.cells c
  reads : ∀ c, seen t key c = seen s key c
  poisoned : t.rick.poisoned = s.rick.poisoned

section
variable {s t u : State} {key : Nat}

theorem Rekeyed.nil (hs : RickSound s) : Rekeyed key s [] s :=
  ⟨hs, by simp, fun _ _ => rfl, fun _ _ => rfl, fun _ => rfl, rfl⟩

theorem Rekeyed.cons {l : Nat} {ls : List Nat} (h1 : Rekeyed key s [l] t) (h2 : Rekeyed key t ls u) : Rekeyed key s (l :: ls) u where
  sound := h2.sound
  keyed k hk := by
    by_cases hmem : k ∈ ls
    · exact h2.keyed k hmem
    · rw [h2.otherKeys k hmem]
      exact h1.keyed k (by simpa [hmem] using hk)
  otherKeys k hk := by
    rw [List.mem_cons, not_or] at hk
    rw [h2.otherKeys k hk.2, h1.otherKeys k (by simpa using hk.1)]
  otherCells c hc := by
    rw [List.mem_cons, not_or] at hc
    rw [h2.otherCells c hc.2, h1.otherCells c (by simpa using hc.1)]
  reads c := by rw [h2.reads, h1.reads]
  poisoned := by rw [h2.poisoned, h1.poisoned]

/-- A line that is written for the first time carried the zero-line code: it held nothing (R666). -/
theorem rekeyed_unwritten {l : Nat} (hs : RickSound s) (hl : Tbl.find s.rick.lineKey l = none) :
    Rekeyed key s [l] { s with rick.lineKey := Tbl.set s.rick.lineKey l key } := by
  obtain ⟨hwf, hkeyed⟩ := hs
  refine ⟨⟨hwf, fun c hc => ?keyed⟩, by simp, fun k hk => Tbl.find_set_ne (by simpa [eq_comm] using hk) _ _, fun _ _ => rfl, fun c => ?reads, rfl⟩
  case keyed =>
    rw [Tbl.find_set] at hc
    split at hc
    · cases hc
    · exact hkeyed c hc
  case reads =>
    by_cases hc : l = c / 64
    · subst hc
      rw [seen_own_key (Tbl.find_set_self _ _ _), seen_unwritten key hl]
      exact hkeyed c hl
    · exact seen_congr key (Tbl.find_set_ne hc _ _) rfl

/-- A line of another key is stored again as it read under the new one (R421). -/
theorem rekeyed_written {l : Nat} {bs : Bytes} (hs : RickSound s) (hlen : bs.length = 64)
    (hbs : ∀ i, i < 64 → bs.getD i 0 = seen s key (64 * l + i)) :
    Rekeyed key s [l] { s with rick.cells := Mem.puts s.rick.cells (64 * l) bs,
                               rick.lineKey := Tbl.set s.rick.lineKey l key } := by
  obtain ⟨hwf, hkeyed⟩ := hs
  have hget := fun c => get_puts bs s.rick.cells (64 * l) c hwf
  rw [hlen] at hget
  have hother : ∀ c, c / 64 ≠ l → Mem.get (Mem.puts s.rick.cells (64 * l) bs) c = Mem.get s.rick.cells c := by
    intro c hc
    rw [hget, if_neg (by omega)]
  refine ⟨⟨puts_wf _ _ _ hwf, fun c hc => ?keyed⟩, by simp, fun k hk => Tbl.find_set_ne (by simpa [eq_comm] using hk) _ _,
    fun c hc => hother c (by simpa using hc), fun c => ?reads, rfl⟩
  case keyed =>
    rw [Tbl.find_set] at hc
    split at hc
    · cases hc
    · next hl => exact (hother c (Ne.symm hl)).trans (hkeyed c hc)
  case reads =>
    by_cases hc : l = c / 64
    · subst hc
      rw [seen_own_key (Tbl.find_set_self _ _ _), hget, if_pos (by omega), hbs _ (by omega)]
      congr 1
      omega
    · exact seen_congr key (Tbl.find_set_ne hc _ _) (hother c (Ne.symm hc))

theorem rekeyLine_rekeyed (hs : RickSound s) (l : Nat) : Rekeyed key s [l] (rekeyLine s key l) := by
  unfold rekeyLine
  split
  · next h => exact rekeyed_unwritten hs h
  · next k h =>
    split
    · next hk =>
      subst hk
      exact ⟨hs, by simpa using h, fun _ _ => rfl, fun _ _ => rfl, fun _ => rfl, rfl⟩
    · exact rekeyed_written hs (rickRead_length ..) fun i hi => getD_rickRead hi

theorem rekeyLines_rekeyed : ∀ (ls : List Nat) (s : State), RickSound s →
    Rekeyed key s ls (ls.foldl (fun s l => rekeyLine s key l) s)
  | [], _, hs => .nil hs
  | l :: ls, _, hs => (rekeyLine_rekeyed hs l).cons (rekeyLines_rekeyed ls _ (rekeyLine_rekeyed hs l).sound)

end

/-! ### A write -/

/-- Once the lines that it touches are kept under its key, a write stores its bytes. -/
theorem rickWrite_eq {s t : State} {key a : Nat} {bs : Bytes} (h : bs ≠ [])
    (ht : (linesOf a bs.length).foldl (fun s l => rekeyLine s key l) s = t) :
    (rickWrite s key a bs).rick = { t.rick with
      cells := Mem.puts t.rick.cells a bs,
      poisoned := t.rick.poisoned.filter (fun l => !(a ≤ 64 * l && 64 * l + 64 ≤ a + bs.length)) } := by
  subst ht
  simp [rickWrite, h, chargeRick]

/-- What a write leaves: its bytes under its key, and every other byte as it read before. -/
structure Wrote (s : State) (key a : Nat) (bs : Bytes) (u : State) : Prop where
  sound : RickSound u
  inside : ∀ c, a ≤ c → c < a + bs.length → seen u key c = bs.getD (c - a) 0
  outside : ∀ c, c < a ∨ a + bs.length ≤ c → seen u key c = seen s key c
  otherLines : ∀ c k, c / 64 ∉ linesOf a bs.length → seen u k c = seen s k c
  poisoned : ∀ l, l ∈ u.rick.poisoned ↔ (l ∈ s.rick.poisoned ∧ ¬ (a ≤ 64 * l ∧ 64 * l + 64 ≤ a + bs.length ∧ bs ≠ []))

theorem wrote_nil {s : State} (key a : Nat) (hs : RickSound s) : Wrote s key a [] s :=
  ⟨hs, fun c h1 h2 => by simp at h2; omega, fun _ _ => rfl, fun _ _ _ => rfl, by simp⟩

theorem rickWrite_wrote {s : State} (key a : Nat) (bs : Bytes) (hs : RickSound s) : Wrote s key a bs (rickWrite s key a bs) := by
  by_cases hbs : bs = []
  · subst hbs
    exact wrote_nil key a hs
  obtain ⟨⟨hwf, hkeyed⟩, hline, hkeys, hcells, hreads, hpois⟩ := rekeyLines_rekeyed (key := key) (linesOf a bs.length) s hs
  generalize ht : (linesOf a bs.length).foldl (fun s l => rekeyLine s key l) s = t at hwf hkeyed hline hkeys hcells hreads hpois
  have hrick := rickWrite_eq hbs ht
  have hget := fun c => get_puts bs t.rick.cells a c hwf
  have hlk : (rickWrite s key a bs).rick.lineKey = t.rick.lineKey := by rw [hrick]
  have hcl : (rickWrite s key a bs).rick.cells = Mem.puts t.rick.cells a bs := by rw [hrick]
  have hsame : ∀ c k, c < a ∨ a + bs.length ≤ c → seen (rickWrite s key a bs) k c = seen t k c := by
    intro c k hc
    exact seen_congr k (by rw [hlk]) (by rw [hcl, hget, if_neg (by omega)])
  refine ⟨⟨by rw [hcl]; exact puts_wf _ _ _ hwf, fun c hc => ?keyed⟩, fun c hlo hhi => ?inside, fun c hc => ?outside,
    fun c k hc => ?otherLines, fun l => ?poisoned⟩
  case keyed =>
    rw [hlk] at hc
    have hout : ¬ (a ≤ c ∧ c < a + bs.length) := by
      intro ⟨hlo, hhi⟩
      rw [hline _ (line_mem_linesOf hlo hhi)] at hc
      cases hc
    rw [hcl, hget, if_neg hout, hkeyed c hc]
  case inside =>
    have hkey := hline _ (line_mem_linesOf hlo hhi)
    rw [seen_own_key (by rw [hlk, hkey]), hcl, hget, if_pos ⟨hlo, hhi⟩]
  case outside => rw [hsame c key hc, hreads]
  case otherLines =>
    have hout : c < a ∨ a + bs.length ≤ c := by
      by_contra hin
      exact hc (line_mem_linesOf (by omega) (by omega))
    rw [hsame c k hout]
    exact seen_congr k (hkeys _ hc) (hcells _ hc)
  case poisoned =>
    rw [hrick, ← hpois]
    simp only [List.mem_filter, Bool.not_eq_true', Bool.and_eq_false_iff, decide_eq_false_iff_not, hbs, ne_eq, not_false_eq_true,
      and_true]
    constructor <;> rintro ⟨h1, h2⟩ <;> exact ⟨h1, by omega⟩

/-- A range whose every byte reads as listed reads back as the list. -/
theorem rickRead_eq {u : State} {key a : Nat} {bs : Bytes} (h : ∀ c, a ≤ c → c < a + bs.length → seen u key c = bs.getD (c - a) 0) :
    rickRead u key a bs.length = bs := by
  refine List.ext_getElem (by simp) fun i h1 h2 => ?_
  simp only [rickRead, List.getElem_map, List.getElem_range]
  rw [h (a + i) (by omega) (by omega), Nat.add_sub_cancel_left]
  simp [List.getD_eq_getElem?_getD, h2]

/-! ### A zeroise -/

section
variable {s : State} {a n : Nat} (ha : a % 64 = 0) (hn : n % 64 = 0)
include ha hn

theorem find_rickZero (c : Nat) : Tbl.find (rickZero s a n).rick.lineKey (c / 64) =
    if a ≤ c ∧ c < a + n then none else Tbl.find s.rick.lineKey (c / 64) := by
  have h := Tbl_find_filter (fun l => !(decide (a ≤ 64 * l) && decide (64 * l < a + n))) (c / 64) s.rick.lineKey
  refine h.trans ?_
  by_cases hc : a ≤ c ∧ c < a + n
  · have h1 : a ≤ 64 * (c / 64) := by omega
    have h2 : 64 * (c / 64) < a + n := by omega
    simp [hc, h1, h2]
  · have h1 : ¬ (a ≤ 64 * (c / 64) ∧ 64 * (c / 64) < a + n) := by omega
    rw [if_neg hc, if_pos (by simp; omega)]

theorem seen_rickZero_inside {c : Nat} (k : Nat) (hlo : a ≤ c) (hhi : c < a + n) : seen (rickZero s a n) k c = 0 :=
  seen_unwritten k (by rw [find_rickZero ha hn, if_pos ⟨hlo, hhi⟩])

theorem seen_rickZero_outside {c : Nat} (k : Nat) (h : c < a ∨ a + n ≤ c) : seen (rickZero s a n) k c = seen s k c :=
  seen_congr k (by rw [find_rickZero ha hn, if_neg (by omega)]) ((get_zero a n c _).trans (if_neg (by omega)))

theorem rickZero_sound (hs : RickSound s) : RickSound (rickZero s a n) := by
  obtain ⟨hwf, hkeyed⟩ := hs
  refine ⟨zero_wf _ a n hwf, fun c hc => ?_⟩
  rw [find_rickZero ha hn] at hc
  refine (get_zero a n c _).trans ?_
  split
  · rfl
  · next hout =>
    rw [if_neg hout] at hc
    exact hkeyed c hc

end

theorem mem_poisoned_rickZero (s : State) (a n l : Nat) :
    l ∈ (rickZero s a n).rick.poisoned ↔ (l ∈ s.rick.poisoned ∧ ¬ (a ≤ 64 * l ∧ 64 * l < a + n)) := by
  simp only [rickZero, List.mem_filter, Bool.not_eq_true', Bool.and_eq_false_iff, decide_eq_false_iff_not, not_and_or]

/-- Settles O43: a write first keeps the lines that it touches under its key, which changes nothing that they read under it, and then
stores its bytes; a zeroise forgets the bytes and the keys of whole lines. -/
theorem rickReadsBackWhatWasWritten : Obligations.RickReadsBackWhatWasWritten := by
  refine ⟨reset_wf, fun _ _ => rfl, fun s hwf hkeyed => ⟨fun key a bs => ?write, fun a n ha hn => ?zero⟩⟩
  case write =>
    obtain ⟨⟨hwf', hkeyed'⟩, hinside, houtside, hlines, hpois⟩ := rickWrite_wrote key a bs ⟨hwf, hkeyed⟩
    exact ⟨hwf', hkeyed', rickRead_eq hinside, houtside, hlines, hpois⟩
  case zero =>
    obtain ⟨hwf', hkeyed'⟩ := rickZero_sound ha hn ⟨hwf, hkeyed⟩
    exact ⟨hwf', hkeyed', fun c k => seen_rickZero_inside ha hn k, fun c k => seen_rickZero_outside ha hn k,
      mem_poisoned_rickZero s a n⟩

end Sys2Proof.Machine
end

/-! # Requests: their checks in turn, reads, writes of values, and what the draft's owner and the secondary half refuse -/

section
namespace Sys2Proof.Machine
open Sys2Proof

/-! ### A request that reaches MGT (R75) -/

theorem exec_objectWrite {s : State} (hboot : 2 ≤ s.sys.boot) (via : Path) (hdr : BitVec 128) (data : Bytes) (f : Facts) :
    exec (.objectWrite via hdr data f) s = .next (settle (serve s via (reqOf hdr) data f s.sys.bootFacts)) := ran_next hboot

theorem exec_objectRead {s : State} (hboot : 2 ≤ s.sys.boot) (via : Path) (hdr : BitVec 128) :
    exec (.objectRead via hdr) s = .next (settle (serve s via (reqOf hdr) [] {} s.sys.bootFacts)) := ran_next hboot

section
variable {s : State} {via : Path} {r : Req} {data : Bytes} {f : Facts} {b : Boot}

/-- A request whose path does not reach MGT is lost (R652). -/
theorem serve_lost (hr : reaches s via = false) : serve s via r data f b = s := by simp [serve, hr]

theorem serve_waits (hr : reaches s via = true) (hs : s.obj.serving ≠ none) :
    serve s via r data f b = { s with obj.behind := s.obj.behind ++ [(via, r, data, f)] } := by
  simp [serve, hr, Option.isSome_iff_ne_none.mpr hs]

/-- While MGT is in reset no path reaches it. -/
theorem reaches_of_islandOut (h : islandOut s 1 = true) : reaches s via = false := by simp [reaches, h]

theorem serve_eq_serveNow (hr : reaches s via = true) (hs : s.obj.serving = none) : serve s via r data f b = serveNow s via r data f b := by
  simp [serve, hr, hs]

theorem serveNow_refused (hc : requestCode s via r data ≠ 0) :
    serveNow s via r data f b = serveRefused s via r data.length (requestCode s via r data) := by
  unfold serveNow
  split
  · next h => exact absurd h hc
  · rfl

/-- A READ that passes its checks is answered with the object's value (R75). -/
theorem serve_read (hr : reaches s via = true) (hs : s.obj.serving = none) (ho : r.op = 1) (hc : requestCode s via r [] = 0)
    (hj : ¬ (r.index = 0x1C00 ∧ r.sub = 0x0C ∧ journalRecord s = none)) :
    serve s via r [] f b = answer (fresh1 s) via r 0 0 (readValue s r) := by
  have hj' : ¬ (r.index = 0x1C00 && r.sub = 0x0C && (journalRecord s).isNone) = true := by simpa [and_assoc] using hj
  rw [serve_eq_serveNow hr hs]
  simp only [serveNow, hc, ho, if_true, serveRead, if_neg hj']

end

/-! ### Answers -/

/-- Outside the path's own mailbox or session a response changes nothing. -/
theorem sendResponse_frame (s : State) (via : Path) (h : BitVec 128) (data : Bytes) :
    { sendResponse s via h data with out := s.out, host := s.host, sec := s.sec } = s := by
  apply State.ext_fields <;> simp

theorem answer_frame (s : State) (via : Path) (r : Req) (n code : Nat) (data : Bytes) :
    { answer s via r n code data with out := s.out, host := s.host, sec := s.sec } = s := sendResponse_frame ..

theorem answerNamesRequestAndStatus : AnswerNamesRequestAndStatus := by
  intro s via r n code data hlen hcode
  obtain ⟨htag, hproto, hstatus, hcvn, hlength⟩ :=
    responseHeader_fields r.op r.tag.toNat r.index r.sub (answerType s via r n) s.obj.cvn code data.length r.tag.isLt hcode hlen
  exact ⟨_, mem_sendResponse_out s via _ data, htag, hproto, hstatus, hcvn, hlength, answer_frame s via r n code data⟩

theorem readAnswersObjectValue : ReadAnswersObjectValue := by
  intro s via hdr hboot hr hs ho hc hj
  rw [exec_objectRead hboot, serve_read hr hs ho hc hj]

/-- Settles O7: MGT reads the value and answers it, and an answer's header packs the fields of its request. -/
theorem readsAreAnswered : Obligations.ReadsAreAnswered := ⟨readAnswersObjectValue, answerNamesRequestAndStatus⟩

/-! ### Refused requests, and requests that wait (R73 to R75) -/

theorem serveRefused_of_not_stile {s : State} {via : Path} (r : Req) (n code : Nat) (h : ∀ p, via ≠ .stile p) :
    serveRefused s via r n code = answer s via r n code [] := by
  cases via with
  | stile p => exact absurd rfl (h p)
  | _ => rfl

/-- The Hedgerow counts a Stile that asks outside its paddock's block (R653). -/
theorem serveRefused_stile (s : State) (p : PNum) (r : Req) (n code : Nat) : serveRefused s (.stile p) r n code =
    answer (if headerCode r n = 0 && startCode s r = 0 && outsideBlock p.val r then refuse s p.val 0x0111 [r.index] else s)
      (.stile p) r n code [] := rfl

theorem serveRefused_inside {s : State} {p : PNum} {r : Req} (n code : Nat) (h : outsideBlock p.val r = false) :
    serveRefused s (.stile p) r n code = answer s (.stile p) r n code [] := by
  rw [serveRefused_stile, if_neg (by simp [h])]

theorem serveRefused_outside {s : State} {p : PNum} {r : Req} {n : Nat} (code : Nat) (hh : headerCode r n = 0)
    (hs : startCode s r = 0) (h : outsideBlock p.val r = true) :
    serveRefused s (.stile p) r n code = answer (refuse s p.val 0x0111 [r.index]) (.stile p) r n code [] := by
  rw [serveRefused_stile, if_pos (by simp [hh, hs, h])]

/-- Reach is the first check that a request outside the Stile's block fails. -/
theorem requestCode_outside {s : State} {p : PNum} {r : Req} {data : Bytes} (hh : headerCode r data.length = 0)
    (hs : startCode s r = 0) (h : outsideBlock p.val r = true) : requestCode s (.stile p) r data = 0x0111 := by
  simp [requestCode, firstCode, hh, hs, reachCode, h]

theorem refusedRequestOnlyAnswers : RefusedRequestOnlyAnswers := by
  intro s via hdr data f c hboot hr hs hcode hc
  subst hcode
  have hexec : exec (.objectWrite via hdr data f) s =
      .next (settle (serveRefused s via (reqOf hdr) data.length (requestCode s via (reqOf hdr) data))) := by
    rw [exec_objectWrite hboot, serve_eq_serveNow hr hs, serveNow_refused hc]
  refine ⟨rfl, fun hpath => ?notStile, fun p hp hin => ?inside, fun p hp hout hh hstart => ?outside⟩
  case notStile => rw [hexec, serveRefused_of_not_stile _ _ _ hpath]
  case inside =>
    subst hp
    rw [hexec, serveRefused_inside _ _ hin]
  case outside =>
    subst hp
    have hcode := requestCode_outside hh hstart hout
    exact ⟨hcode, by rw [hexec, serveRefused_outside _ hh hstart hout, hcode]⟩

theorem requestsWaitTheirTurn : RequestsWaitTheirTurn := by
  intro s via hdr data f hboot
  refine ⟨fun hr hs => ?waits, fun hout => ?lost⟩
  case waits => rw [exec_objectWrite hboot, serve_waits hr hs]
  case lost => rw [exec_objectWrite hboot, serve_lost (reaches_of_islandOut hout)]

/-- Settles O8: the code of a refused request is that of its first failed check, and a request that finds MGT waiting is put behind. -/
theorem requestsAreCheckedInTurn : Obligations.RequestsAreCheckedInTurn := ⟨refusedRequestOnlyAnswers, requestsWaitTheirTurn⟩

/-! ### Writes (R67, R79, R80) -/

/-- A WRITE that passes its checks is answered with what it comes to, where that is the same whether MGT waits for it or runs on. -/
theorem exec_objectWrite_settled {s t : State} {via : Path} {hdr : BitVec 128} {data : Bytes} {f : Facts} {code : Nat}
    (hb : 2 ≤ s.sys.boot) (hr : reaches s via = true) (hs : s.obj.serving = none) (ho : (reqOf hdr).op = 2)
    (hc : requestCode s via (reqOf hdr) data = 0) (ht : t.obj.serving = none)
    (hidle : applyWrite s via (reqOf hdr) data f s.sys.bootFacts = (t, some code))
    (hwait : applyWrite (accepted s via (reqOf hdr).tag) via (reqOf hdr) data f s.sys.bootFacts =
      (accepted t via (reqOf hdr).tag, some code)) :
    exec (.objectWrite via hdr data f) s = .next (settle (answer t via (reqOf hdr) data.length code [])) := by
  have happly : applyWrite (if runsOn (reqOf hdr) then s else accepted s via (reqOf hdr).tag) via (reqOf hdr) data f s.sys.bootFacts =
      (if runsOn (reqOf hdr) then t else accepted t via (reqOf hdr).tag, some code) := by
    cases runsOn (reqOf hdr)
    · exact hwait
    · exact hidle
  rw [exec_objectWrite hb, serve_write hr hs hc ho, happly, settled_accepted ht]

section
variable {s : State} {via : Path} {r : Req} {data : Bytes} {f : Facts} {b : Boot} {d : Desc} (hd : descOf r.index r.sub = some d)
include hd

theorem applyWrite_draft (h2 : (paired s && secondHalf s) = false) (ha : d.acc = .draft) (hrows : ¬ (d.tab = true ∧ r.sub = 0 ∧ d.rowsLo = d.rowsHi)) :
    applyWrite s via r data f b = draftWrite s via r.index r.sub (newValue s d r data) := by
  have hrows' : ¬ (d.tab && r.sub = 0 && d.rowsLo = d.rowsHi) = true := by simpa [and_assoc] using hrows
  simp only [Bool.not_eq_true] at hrows'
  simp [applyWrite, hd, secondaryRefuses, h2, ha, hrows']

theorem applyWrite_draft_foreign {o : Path} (h2 : (paired s && secondHalf s) = false) (ha : d.acc = .draft)
    (ho : s.obj.draftOwner = some o) (hne : o ≠ via) : applyWrite s via r data f b = (s, some 0x0108) := by
  simp [applyWrite, hd, secondaryRefuses, h2, ha, draftWrite, ho, hne]

theorem applyWrite_live (h2 : (paired s && secondHalf s) = false) (ha : d.acc = .live) (ht : d.tab = false) :
    applyWrite s via r data f b = liveWrite s via r.index r.sub (newValue s d r data) := by
  simp [applyWrite, hd, secondaryRefuses, h2, ha, ht]

theorem applyWrite_secondary (h : paired s = true) (h2 : secondHalf s = true) (ha : d.acc = .draft ∨ d.acc = .cmd)
    (hF : ¬ (0x1F00 ≤ r.index ∧ r.index ≤ 0x1F04)) (h20 : ¬ (0x2000 ≤ r.index ∧ r.index ≤ 0x20FF)) :
    applyWrite s via r data f b = (s, some 0x0E04) := by
  have hF' : (decide (0x1F00 ≤ r.index) && decide (r.index ≤ 0x1F04)) = false := by simpa using hF
  have h20' : (decide (0x2000 ≤ r.index) && decide (r.index ≤ 0x20FF)) = false := by simpa using h20
  have hacc : (decide (d.acc = .draft) || decide (d.acc = .cmd)) = true := by simpa using ha
  simp [applyWrite, hd, secondaryRefuses, h, h2, hacc, hF', h20']

end

theorem draftWrite_owner {s : State} {via : Path} (i sub v : Nat) (ho : s.obj.draftOwner = none ∨ s.obj.draftOwner = some via)
    (hc : s.obj.confOp = none) :
    draftWrite s via i sub v = ({ s with obj.draft := putVal s.obj.draft i sub v, obj.draftOwner := some via }, some 0) := by
  simp only [draftWrite, if_neg (not_foreign_owner ho), hc, Option.isSome_none, Bool.false_eq_true, if_false]

/-- A value without rules of its own is put in its place (R67). -/
theorem liveWrite_plain {s : State} {via : Path} {i sub : Nat} (v : Nat) (hi : i < 0x4000)
    (hrules : i ∉ [0x1600, 0x1800, 0x1C01, 0x1E04, 0x2100]) (htargets : ¬ (0x1E10 ≤ i ∧ i ≤ 0x1E17)) :
    liveWrite s via i sub v = ({ s with obj.live := putVal s.obj.live i sub v }, some 0) := by
  simp only [List.mem_cons, List.not_mem_nil, or_false, not_or] at hrules
  obtain ⟨h1600, h1800, h1C01, h1E04, h2100⟩ := hrules
  have hpad : ¬ 0x4000 ≤ i := by omega
  have htargets' : ¬ (sub ≠ 0 && 0x1E10 ≤ i && i ≤ 0x1E17) = true := by simp; omega
  simp only [liveWrite, if_neg hpad, if_neg htargets', h1600, h1800, h1C01, h1E04, h2100, decide_false, Bool.false_and, Bool.and_false,
    Bool.false_eq_true, if_false]

theorem putVal_of_not_tab {i sub : Nat} {d : Desc} (hd : descOf i sub = some d) (ht : d.tab = false) (t : Tbl Nat) (v : Nat) :
    putVal t i sub v = Tbl.set t (okey i sub) v := by simp [putVal, hd, ht]

theorem draftWriteMakesOwner : DraftWriteMakesOwner := by
  intro s via hdr data f d ⟨hb, hr, hs, h2⟩ ho hc hd ha hrows howner hop
  refine exec_objectWrite_settled (t := { s with
      obj.draft := putVal s.obj.draft (reqOf hdr).index (reqOf hdr).sub (newValue s d (reqOf hdr) data), obj.draftOwner := some via })
    (by omega) hr hs ho hc hs ?idle ?wait
  case idle => rw [applyWrite_draft hd h2 ha hrows, draftWrite_owner _ _ _ howner hop]
  case wait =>
    refine (applyWrite_draft (s := accepted s via _) hd h2 ha hrows).trans ?_
    rw [draftWrite_owner _ _ _ (by exact howner) (by exact hop)]
    rfl

theorem liveWriteTakesEffectAtOnce : LiveWriteTakesEffectAtOnce := by
  intro s via hdr data f d ⟨hb, hr, hs, h2⟩ ho hc hi hd ha ht hrules htargets
  have hput := putVal_of_not_tab hd ht s.obj.live (newValue s d (reqOf hdr) data)
  refine exec_objectWrite_settled (t := setO s (reqOf hdr).index (reqOf hdr).sub (newValue s d (reqOf hdr) data))
    (by omega) hr hs ho hc hs ?idle ?wait
  case idle => rw [applyWrite_live hd h2 ha ht, liveWrite_plain _ hi hrules htargets, hput]; rfl
  case wait =>
    refine (applyWrite_live (s := accepted s via _) hd h2 ha ht).trans ?_
    rw [liveWrite_plain _ hi hrules htargets]
    exact congrArg (fun t => (({ accepted s via (reqOf hdr).tag with obj.live := t } : State), some 0)) hput

theorem doCommit_foreign {s : State} {via o : Path} (v : Nat) (tag : Tag) (ho : s.obj.draftOwner = some o) (hne : o ≠ via) :
    doCommit s v via tag = ({ s with obj.lastResult := 0x0108 }, some 0x0108) := by
  simp [doCommit, ho, hne, confResult]

theorem doRollback_foreign {s : State} {via o : Path} (v : Nat) (tag : Tag) (ho : s.obj.draftOwner = some o) (hne : o ≠ via) :
    doRollback s v via tag = ({ s with obj.lastResult := 0x0108 }, some 0x0108) := by
  simp [doRollback, rollback, ho, hne, confResult]

theorem draftOwnerExcludesOtherPaths : DraftOwnerExcludesOtherPaths := by
  intro s via o hserves howner hne
  have ⟨hb, hr, hs, h2⟩ := hserves
  refine ⟨fun hdr data f d hop hc hd ha => ?write, fun tag v hrole => ?manager⟩
  case write =>
    exact exec_objectWrite_settled (by omega) hr hs hop hc hs (applyWrite_draft_foreign hd h2 ha howner hne)
      (applyWrite_draft_foreign hd h2 ha howner hne)
  case manager =>
    have hm : ManagerAsks s via := ⟨hserves, hrole⟩
    constructor
    · rw [exec_commit tag hm v, doCommit_foreign _ tag howner hne]
      exact next_settled_idle hs
    · rw [exec_rollback tag hm v, doRollback_foreign _ tag howner hne]
      exact next_settled_idle hs

/-- Settles O9: a WRITE that passes its checks goes by the access kind of its object to the draft or to the value in force, and the
draft's owner is checked first. -/
theorem writesGoToTheirPlace : Obligations.WritesGoToTheirPlace :=
  ⟨draftWriteMakesOwner, liveWriteTakesEffectAtOnce, draftOwnerExcludesOtherPaths⟩

/-- Settles O6: the secondary half refuses by access kind and index after the checks, and reads as every half (R574). -/
theorem secondaryRefusesWrites : Obligations.SecondaryRefusesWrites := by
  intro s via hdr hb hr hs hp h2
  refine ⟨fun data f d hop hc hd ha hF h20 => ?write, fun hop hc hj => ?read⟩
  case write =>
    exact exec_objectWrite_settled (by omega) hr hs hop hc hs (applyWrite_secondary hd hp h2 ha hF h20)
      (applyWrite_secondary hd hp h2 ha hF h20)
  case read => rw [exec_objectRead (by omega), serve_read hr hs hop hc hj]

end Sys2Proof.Machine
end

/-! # Configuration operations: the reserved version, a failed write of it, and its completion -/

section
namespace Sys2Proof.Machine
open Sys2Proof

/-! ### Responses that come later -/

/-- The response to a request goes out on its path with its TAG and status. -/
theorem respond_sends (s : State) (path : Path) (tag : Tag) (op idx sub : Nat) {code : Nat} (hcode : code < 65536) :
    ∃ hdr, .response path hdr [] ∈ (respond s path tag op idx sub code []).out ∧ hTag hdr.toNat = tag.toNat ∧
      bits hdr.toNat 31 16 = code := by
  have hfields := fun cvn => responseHeader_fields op tag.toNat idx sub (tyOf idx sub) cvn code 0 tag.isLt hcode (by decide)
  obtain ⟨htag, _, hstatus, _⟩ := hfields (if s.obj.serving = some (path, tag) then { s with obj.serving := none } else s).obj.cvn
  exact ⟨_, mem_sendResponse_out _ path _ [], htag, hstatus⟩

/-- A response ends the wait of MGT for it, and outside that and the path's mailbox or session it changes nothing. -/
theorem respond_frame (s : State) (path : Path) (tag : Tag) (op idx sub code : Nat) (data : Bytes) :
    { respond s path tag op idx sub code data with obj := s.obj, out := s.out, host := s.host, sec := s.sec } = s := by
  apply State.ext_fields <;> simp

@[simp] theorem respond_obj_live (s : State) (path : Path) (tag : Tag) (op idx sub code : Nat) (data : Bytes) :
    (respond s path tag op idx sub code data).obj.live = s.obj.live := by
  simp only [respond, sendResponse_obj]
  split <;> rfl

/-! ### An operation starts (steps 2 to 5 of R83) -/

theorem reserveCvn_eq (s : State) : reserveCvn s = { journal s 7 [1, s.obj.cvnLast + 1] with obj.cvnLast := s.obj.cvnLast + 1 } := by
  simp [reserveCvn, journalCounter, ctrCvn]

theorem madeAt_reserveCvn (s : State) : madeAt (reserveCvn s) = madeAt s := by
  simp [reserveCvn_eq, madeAt, synced, ns]

/-- Values that pass every check reserve the next CVN, and the operation runs on. -/
theorem startConf_passes {s : State} {values : Tbl Nat} (h : ConfigOperationPasses s values) (via : Path) (tag : Tag)
    (obj source from_ : Nat) :
    ∃ u, startConf s via tag obj values source from_ = (u, none) ∧ ConfigOperationRuns s u via tag obj source from_ values := by
  obtain ⟨hop, hvalues, hpend, hlast, hro⟩ := h
  have hpend' : (((changedKeys s.obj.committed values).filterMap resourcePad).eraseDups.any fun p => (pad s p).pend.isSome) = false := by
    simpa [List.any_eq_false] using hpend
  refine ⟨_, ?_, rfl⟩
  simp only [startConf, hop, hvalues, hpend', hlast, hro, Option.isSome_none, ne_eq, not_true_eq_false, Bool.false_eq_true, if_false,
    madeAt_reserveCvn]
  rw [reserveCvn_eq]

section
variable {s : State} {via : Path} (tag : Tag)

theorem doCommit_passes (ho : s.obj.draftOwner = none ∨ s.obj.draftOwner = some via) (hl : s.obj.lapsed ≠ some via)
    (h : ConfigOperationPasses s s.obj.draft) :
    ∃ u, doCommit s s.obj.cvn via tag = (u, none) ∧ ConfigOperationRuns s u via tag 0x110008 1 0 s.obj.draft := by
  obtain ⟨u, hu, hruns⟩ := startConf_passes h via tag (okey 0x1100 8) 1 0
  refine ⟨u, ?_, hruns⟩
  simp only [doCommit, if_neg (not_foreign_owner ho), if_neg hl, ne_eq, not_true_eq_false, if_false, hu]

theorem rollback_passes {v source : Nat} {values : Tbl Nat} (sub : Nat) (ho : s.obj.draftOwner = none ∨ s.obj.draftOwner = some via)
    (ht : rollTarget s v = some values) (h : ConfigOperationPasses s values) :
    ∃ u, rollback s v via tag sub source = (u, none) ∧ ConfigOperationRuns s u via tag (okey 0x1100 sub) source v values := by
  obtain ⟨u, hu, hruns⟩ := startConf_passes h via tag (okey 0x1100 sub) source v
  refine ⟨u, ?_, hruns⟩
  simp only [rollback, if_neg (not_foreign_owner ho), ht, hu]

end

theorem descOf_factoryRestore : ∃ d, descOf 0x1100 0x0B = some d ∧ boolCmd d 1 = true := ⟨_, rfl, by decide⟩

theorem descOf_imageApply : ∃ d, descOf 0x1102 2 = some d ∧ boolCmd d 1 = true := ⟨_, rfl, by decide⟩

section
variable {s : State} {via : Path} (tag : Tag) (hm : ManagerAsks s via)
include hm

theorem exec_factoryRestore : exec (.factoryRestore via tag) s =
    .next (settle (settled via (writeReq tag 0x1100 0x0B 1) 1 (doFactoryRestore s via tag))) := by
  obtain ⟨d, hd, hk⟩ := descOf_factoryRestore
  rw [show exec (.factoryRestore via tag) s = ran s _ from rfl, ran_next_of_manager hm, serve_device_bool hm (by decide) hd hk]
  rfl

theorem exec_imageApply (f : Facts) : exec (.imageApply via tag f) s =
    .next (settle (settled via (writeReq tag 0x1102 2 1) 1 (doImageApply s f via tag))) := by
  obtain ⟨d, hd, hk⟩ := descOf_imageApply
  rw [show exec (.imageApply via tag f) s = ran s _ from rfl, ran_next_of_manager hm, serve_device_bool hm (by decide) hd hk]
  rfl

end

/-- A staged image that passes every check of R102 to R104 starts its operation. -/
theorem doImageApply_passes {s : State} {via : Path} (tag : Tag) {f : Facts} {img : Bytes} {h tail : Nat}
    {l : List (Nat × Nat × Nat × Bytes)} {values : Tbl Nat} (himg : img = stagedImage s) (hh : h = beNat (img.take 64))
    (htail : tail = if bit h 448 then 100 else 4) (hlen : 64 + tail ≤ img.length) (hstaged : img.length = getO s 0x1102 1)
    (hmagic : bits h 511 480 = 0x44434647) (hversion : bits h 479 464 = 1) (hfield : bits h 447 416 = img.length)
    (hrecs : readRecords (bits h 351 320) ((img.take (img.length - tail)).drop 64) = some l)
    (hcrc : (crc32c (img.take (img.length - tail))).toNat = beNat ((img.drop (img.length - tail)).take 4))
    (hsig : if bit h 448 then f.sigOk = true else s.obj.requireSigned = false)
    (hblock : bits h 415 384 / 256 = blockVersion / 256) (hbase : bits h 383 352 = 0 ∨ bits h 383 352 = s.obj.cvn)
    (hvalues : l.foldl takeRecord (.ok (if bit h 449 then s.obj.committed else [])) = .ok values)
    (hpasses : ConfigOperationPasses s values) :
    ∃ u, doImageApply s f via tag = (u, none) ∧ ConfigOperationRuns s u via tag 0x110202 3 0 values := by
  obtain ⟨u, hu, hruns⟩ := startConf_passes hpasses via tag (okey 0x1102 2) 3 0
  refine ⟨u, ?_, hruns⟩
  obtain ⟨hop, _⟩ := hpasses
  have htail' : 4 + (if bit h 448 then 96 else 0) = tail := by rw [htail]; split <;> rfl
  have hsig' : ((bit h 448 && !f.sigOk) || (!bit h 448 && s.obj.requireSigned)) = false := by
    cases hb : bit h 448 <;> simp only [hb, if_true, Bool.false_eq_true, if_false] at hsig <;> simp [hsig]
  have hshort : ¬ img.length < 64 + tail := by omega
  have hbase' : (decide (bits h 383 352 ≠ 0) && decide (bits h 383 352 ≠ s.obj.cvn)) = false := by
    rcases hbase with hb | hb <;> simp [hb]
  simp only [doImageApply, ← himg, ← hh, htail', hop, hmagic, hversion, hfield, ← hstaged, hrecs, hcrc, hsig', hblock, hbase',
    hvalues, hu, hshort, Option.isSome_none, ne_eq, not_true_eq_false, decide_false, Bool.or_self, Bool.false_eq_true, if_false]

/-- Settles O11: each operation passes its own checks, and the shared ones then reserve the CVN (R88) and record the operation. -/
theorem configOperationsReserveTheNextVersion : Obligations.ConfigOperationsReserveTheNextVersion := by
  intro s via tag hm
  refine ⟨fun v ho hl hv hp => ?commit, fun v values ho ht hp => ?rollback, fun ho hp => ?factory,
    fun f img tail l values himg htail hlen hstaged hmagic hversion hfield hrecs hcrc hsig hblock hbase hvalues hp => ?image⟩
  case commit =>
    obtain ⟨u, hu, hruns⟩ := doCommit_passes tag ho hl hp
    exact ⟨u, by rw [exec_commit tag hm v, hv, hu, settled_none], hruns⟩
  case rollback =>
    obtain ⟨u, hu, hruns⟩ := rollback_passes tag 9 (source := 2) ho ht hp
    exact ⟨u, by rw [exec_rollback tag hm v, doRollback, hu, settled_none], hruns⟩
  case factory =>
    obtain ⟨u, hu, hruns⟩ := rollback_passes tag 0x0B (source := 5) ho (v := 0) rfl hp
    exact ⟨u, by rw [exec_factoryRestore tag hm, doFactoryRestore, hu, settled_none], hruns⟩
  case image =>
    obtain ⟨u, hu, hruns⟩ := doImageApply_passes tag himg rfl htail hlen hstaged hmagic hversion hfield hrecs hcrc hsig hblock hbase
      hvalues hp
    exact ⟨u, by rw [exec_imageApply tag hm f, hu, settled_none], hruns⟩

/-! ### The write of the version ends (R83, R85) -/

theorem exec_configOperationDone {s : State} (hboot : 2 ≤ s.sys.boot) (ok : Bool) :
    exec (.configOperationDone ok) s = .next (settle (doConfigOperationDone s ok)) := ran_next hboot

/-- The version that an operation writes, and the journal's record of its image. -/
def ConfOp.version (o : ConfOp) (s : State) : Version :=
  { cvn := o.cvn, source := o.source, status := 2, from_ := o.from_, check := o.check, time := ns s, path := pathId o.path,
    values := o.values, made := o.made }
def ConfOp.journaled (o : ConfOp) (s : State) : State :=
  journal { s with obj.confOp := none } 2
    ([o.cvn] ++ (List.range 8).map (fun k => phys { s with obj.confOp := none } (128 + 8 * (o.cvn % 4) + k)) ++ [o.check])

section
variable {s : State} {o : ConfOp} (hop : s.obj.confOp = some o) (hbrake : s.pow.brake = none)
include hop hbrake

theorem doConfigOperationDone_failed : doConfigOperationDone s false =
    respond { s with obj.confOp := none, obj.lastResult := 0x0112 } o.path o.tag 2 (o.obj / 256) (o.obj % 256) 0x0112 [] := by
  simp [doConfigOperationDone, hop, hbrake]

theorem doConfigOperationDone_completed : doConfigOperationDone s true =
    respond (fire { makeCurrent (o.journaled s) (o.version (o.journaled s)) with obj.cfgDefaulted := false, obj.lastResult := 0 } 743)
      o.path o.tag 2 (o.obj / 256) (o.obj % 256) 0 [] := by
  simp only [doConfigOperationDone, hop, hbrake, Option.isSome_none, Bool.false_eq_true, if_false, Bool.not_true]
  rfl

end

theorem conf_journaled (o : ConfOp) (s : State) : conf (o.journaled s) = { conf s with confOp := none } := journal_conf _ _ _

/-- Settles O12: the failed write drops the operation, keeps its code in LAST_RESULT and answers it (R85). -/
theorem failedVersionWriteKeepsCurrentVersion : Obligations.FailedVersionWriteKeepsCurrentVersion := by
  intro s o hboot hop hbrake
  have hu := doConfigOperationDone_failed hop hbrake
  have hconf : conf (doConfigOperationDone s false) = { conf s with confOp := none, lastResult := 0x0112 } := by
    rw [hu, respond_conf]; rfl
  have hfield {α : Type} (g : Objs → α) := congrArg g hconf
  refine ⟨_, exec_configOperationDone hboot false, hfield Objs.cvn, hfield Objs.cvnLast, hfield Objs.versions,
    hfield Objs.committed, ?live, hfield Objs.draft, hfield Objs.draftOwner, hfield Objs.confOp,
    hfield Objs.lastResult, ?answer, ?frame⟩
  case live => rw [hu, respond_obj_live]
  case answer => rw [hu]; exact respond_sends _ _ _ _ _ _ (by decide)
  case frame =>
    rw [hu]
    exact congrArg (fun t : State => { t with obj := s.obj })
      (respond_frame { s with obj.confOp := none, obj.lastResult := 0x0112 } o.path o.tag 2 (o.obj / 256) (o.obj % 256) 0x0112 [])

/-- The values that a completed operation leaves of the configuration (step 7 of R83). -/
theorem conf_makeCurrent (s : State) (v : Version) : conf (makeCurrent s v) =
    { conf s with
      versions := (v :: s.obj.versions.map (fun x => if x.status = 2 then { x with status := 1 } else x)).take 4,
      cvn := v.cvn, cfgSource := v.source, committed := v.values, draft := v.values, draftOwner := none } :=
  applyValues_conf { s with obj.versions := _, obj.cvn := v.cvn, obj.cfgSource := v.source } v.values

/-- A version that was current is kept with STATUS 1 (R89). -/
theorem superseded_status_ne {vs : List Version} {n : Nat} :
    ∀ x ∈ (vs.map (fun x => if x.status = 2 then { x with status := 1 } else x)).take n, x.status ≠ 2 := by
  intro x hx
  obtain ⟨y, _, rfl⟩ := List.mem_map.mp (List.mem_of_mem_take hx)
  split
  · exact fun h => by cases h
  · assumption

/-- Settles O13: the version goes to the front of the four newest, and its values come into force. -/
theorem completedOperationMakesVersionCurrent : Obligations.CompletedOperationMakesVersionCurrent := by
  intro s o hboot hop hbrake
  have hu := doConfigOperationDone_completed hop hbrake
  have hconf : conf (doConfigOperationDone s true) =
      { conf (makeCurrent (o.journaled s) (o.version (o.journaled s))) with cfgDefaulted := false, lastResult := 0 } := by
    rw [hu, respond_conf, fire_conf]; rfl
  rw [conf_makeCurrent, conf_journaled] at hconf
  have hfield {α : Type} (g : Objs → α) := congrArg g hconf
  refine ⟨_, exec_configOperationDone hboot true, hfield Objs.cvn, hfield Objs.cvnLast, hfield Objs.committed,
    hfield Objs.draft, hfield Objs.draftOwner, hfield Objs.cfgDefaulted, hfield Objs.cfgSource,
    hfield Objs.lastResult, hfield Objs.confOp, ?four, ?newest, ?answer⟩
  case four =>
    exact (congrArg List.length (hfield Objs.versions)).trans_le (List.length_take_le ..)
  case newest => exact ⟨o.version (o.journaled s), _, hfield Objs.versions, rfl, rfl, rfl, rfl, rfl, superseded_status_ne⟩
  case answer => rw [hu]; exact respond_sends _ _ _ _ _ _ (by decide)

end Sys2Proof.Machine
end

/-! # Event target rows: a row count of 0 takes the registers away -/

section
namespace Sys2Proof.Machine
open Sys2Proof

/-- The configuration is applied, and the row count of the first table of device targets (0x1E10, sub-index 0) reads 0 and not its
Default of 128: no write makes it so, but nothing in the statement excludes it. -/
def rowless : State := { State.reset with sys.boot := 3, obj.live := [(okey 0x1E10 0, 0)] }

/-- The target register of source 0 that a command leaves. -/
def targetAfter : Host.Outcome State Fault Refusal → Option Nat
  | .next u => Tbl.find u.ev.targets 0
  | _ => none

theorem rowless_managerAsks : ManagerAsks rowless .pf := ⟨⟨rfl, rfl, rfl, rfl⟩, rfl⟩

/-- The write is refused with 0x0102 as one past the last row, and the register stays unlisted. -/
theorem targetAfter_write : targetAfter (exec (.eventTargetWrite .pf 0 0 false 0) rowless) = none := rfl

/-- The statement has the register hold the written value, which delivery keeps. -/
theorem targetAfter_stated : targetAfter (.next (settle (answer { rowless with ev.targets := Tbl.set rowless.ev.targets 0 0 } .pf
    (writeReq 0 0x1E10 1 4) 4 0 []))) = some 0 := rfl

/-- Refutes O48: a device target is written as a row of a TAB, whose row count is an object value like any other (R106); where that
value is 0, EVENT_TARGET_WRITE of source 0 with a value that the register may hold is refused with 0x0102. -/
theorem not_eventRouterAndLark : ¬ Obligations.EventRouterAndLark := by
  rintro ⟨htargets, _⟩
  obtain ⟨hdevice, _⟩ := htargets rowless .pf 0
  have hwrite := (hdevice 0 false 0 (.inl rfl) rowless_managerAsks).2 (by decide)
  have h := targetAfter_write.symm.trans ((congrArg targetAfter hwrite).trans targetAfter_stated)
  cases h

end Sys2Proof.Machine
end

/-! # Drains, faults and allotment records of a paddock -/

section
namespace Sys2Proof.Machine
open Sys2Proof

/-! ### Commands written to objects (R75) -/

section
variable {s t u : State} {via : Path} {tag : Tag} {c : Instr} {i sub n v code : Nat} {f : Facts} {b : Boot} {data : Bytes}

theorem next_settle (h : t = u) : Host.Outcome.next (settle t) = (.next (settle u) : Host.Outcome State Fault Refusal) := by rw [h]

/-- The command is answered with its status in the state it leaves, without MGT's wait. -/
theorem answers_of_settled {r : Req} (hexec : exec c s = .next (settle (settled via r n (t, some code))))
    (ht : { t with obj.serving := none } = u) : Answers c s u via r n code := by
  rw [Answers, hexec, settled_some, ht]

/-- A number written to a CMD object outside the paddock blocks, for which MGT waits. -/
theorem exec_device_num (hm : ManagerAsks s via) (hi : i < 0x4000)
    (hd : ∃ d, descOf i sub = some d ∧ numCmd d n 1 = true ∧ d.lo ≤ v ∧ v ≤ d.hi) (hv : v < 256 ^ n)
    (hrun : runsOn (writeReq tag i sub n) = false)
    (hexec : exec c s = ran s (serve s via (writeReq tag i sub n) (beBytes n v) f b)) :
    exec c s = .next (settle (settled via (writeReq tag i sub n) n (deviceWrite (accepted s via tag) via tag i sub (beBytes n v) f b))) := by
  obtain ⟨d, hdesc, hk, hrange⟩ := hd
  rw [hexec, ran_next_of_manager hm, serve_device_num hm hi hdesc hk hv hrange, hrun]
  rfl

theorem exec_device_bool (hm : ManagerAsks s via) (hi : i < 0x4000) (hd : ∃ d, descOf i sub = some d ∧ boolCmd d 1 = true)
    (hrun : runsOn (writeReq tag i sub 1) = false)
    (hexec : exec c s = ran s (serve s via (writeReq tag i sub 1) [1] f b)) :
    exec c s = .next (settle (settled via (writeReq tag i sub 1) 1 (deviceWrite (accepted s via tag) via tag i sub [1] f b))) := by
  obtain ⟨d, hdesc, hk⟩ := hd
  rw [hexec, ran_next_of_manager hm, serve_device_bool hm hi hdesc hk, hrun]
  rfl

theorem exec_device_oct (hm : ManagerAsks s via) (hi : i < 0x4000) (hd : ∃ d, descOf i sub = some d ∧ octCmd d data.length 1 = true)
    (hrun : runsOn (writeReq tag i sub data.length) = false)
    (hexec : exec c s = ran s (serve s via (writeReq tag i sub data.length) data f b)) :
    exec c s = .next (settle (settled via (writeReq tag i sub data.length) data.length
      (deviceWrite (accepted s via tag) via tag i sub data f b))) := by
  obtain ⟨d, hdesc, hk⟩ := hd
  rw [hexec, ran_next_of_manager hm, serve_device_oct hm hi hdesc hk, hrun]
  rfl

theorem exec_device_packed (hm : ManagerAsks s via) (hi : i < 0x4000) (hd : ∃ d, descOf i sub = some d ∧ octCmd d n 1 = true)
    (hrun : runsOn (writeReq tag i sub n) = false)
    (hexec : exec c s = ran s (serve s via (writeReq tag i sub n) (beBytes n v) f b)) :
    exec c s = .next (settle (settled via (writeReq tag i sub n) n (deviceWrite (accepted s via tag) via tag i sub (beBytes n v) f b))) := by
  have hlen : (beBytes n v).length = n := beBytes_length n v
  have h := exec_device_oct (c := c) (tag := tag) (sub := sub) (f := f) (b := b) (data := beBytes n v) hm hi (by rwa [hlen])
    (by rwa [hlen]) (by rwa [hlen])
  rwa [hlen] at h

variable {p : PNum} {off : Nat}

theorem boot_of_owner (ho : OwnerAsks s p via) : 2 ≤ s.sys.boot := by
  rcases ho with ⟨⟨hb, _⟩, _⟩ | ⟨⟨hb, _⟩, _⟩ <;> omega

theorem serving_eq_none_of_owner (ho : OwnerAsks s p via) : s.obj.serving = none := by
  rcases ho with ⟨⟨_, _, hs, _⟩, _⟩ | ⟨⟨_, _, hs, _⟩, _⟩ <;> exact hs

/-- A number written to a CMD object of a paddock's block that its manager and its tenant may write. -/
theorem exec_pad_num (ho : OwnerAsks s p via) (hoff : off < 256)
    (hd : ∃ d, descPad off sub = some d ∧ numCmd d n 1 = true ∧ numCmd d n 2 = true ∧ d.lo ≤ v ∧ v ≤ d.hi) (hv : v < 256 ^ n)
    (hexec : exec c s = ran s (serve s via (writeReq tag (pidx p.val off) sub n) (beBytes n v) f b)) :
    exec c s = .next (settle (settled via (writeReq tag (pidx p.val off) sub n) n
      (padWrite (accepted s via tag) via tag p.val off sub (beBytes n v) f))) := by
  obtain ⟨d, hdesc, hk1, hk2, hrange⟩ := hd
  have hq : ManagerAsks s via ∧ numCmd d n 1 = true ∨ TenantAsks s p via ∧ numCmd d n 2 = true := ho.imp (⟨·, hk1⟩) (⟨·, hk2⟩)
  rw [hexec, ran_next (boot_of_owner ho), serve_pad_num hq hoff hdesc hv hrange]

theorem exec_pad_bool (ho : OwnerAsks s p via) (hoff : off < 256)
    (hd : ∃ d, descPad off sub = some d ∧ boolCmd d 1 = true ∧ boolCmd d 2 = true)
    (hexec : exec c s = ran s (serve s via (writeReq tag (pidx p.val off) sub 1) [1] f b)) :
    exec c s = .next (settle (settled via (writeReq tag (pidx p.val off) sub 1) 1
      (padWrite (accepted s via tag) via tag p.val off sub [1] f))) := by
  obtain ⟨d, hdesc, hk1, hk2⟩ := hd
  have hq : ManagerAsks s via ∧ boolCmd d 1 = true ∨ TenantAsks s p via ∧ boolCmd d 2 = true := ho.imp (⟨·, hk1⟩) (⟨·, hk2⟩)
  rw [hexec, ran_next (boot_of_owner ho), serve_pad_bool hq hoff hdesc]

theorem exec_pad_oct (ho : OwnerAsks s p via) (hoff : off < 256)
    (hd : ∃ d, descPad off sub = some d ∧ octCmd d data.length 1 = true ∧ octCmd d data.length 2 = true)
    (hexec : exec c s = ran s (serve s via (writeReq tag (pidx p.val off) sub data.length) data f b)) :
    exec c s = .next (settle (settled via (writeReq tag (pidx p.val off) sub data.length) data.length
      (padWrite (accepted s via tag) via tag p.val off sub data f))) := by
  obtain ⟨d, hdesc, hk1, hk2⟩ := hd
  have hq : ManagerAsks s via ∧ octCmd d data.length 1 = true ∨ TenantAsks s p via ∧ octCmd d data.length 2 = true :=
    ho.imp (⟨·, hk1⟩) (⟨·, hk2⟩)
  rw [hexec, ran_next (boot_of_owner ho), serve_pad_oct hq hoff hdesc]

theorem exec_pad_packed (ho : OwnerAsks s p via) (hoff : off < 256)
    (hd : ∃ d, descPad off sub = some d ∧ octCmd d n 1 = true ∧ octCmd d n 2 = true)
    (hexec : exec c s = ran s (serve s via (writeReq tag (pidx p.val off) sub n) (beBytes n v) f b)) :
    exec c s = .next (settle (settled via (writeReq tag (pidx p.val off) sub n) n
      (padWrite (accepted s via tag) via tag p.val off sub (beBytes n v) f))) := by
  have hlen : (beBytes n v).length = n := beBytes_length n v
  have h := exec_pad_oct (c := c) (tag := tag) (sub := sub) (f := f) (b := b) (data := beBytes n v) ho hoff (by rwa [hlen])
    (by rwa [hlen])
  rwa [hlen] at h

end

/-! ### Events and the error queue do not look at what MGT serves -/

/-- The queue of errors makes room: the oldest entry of a view that has not read it is counted as lost. -/
def geqRoom (s : State) : State :=
  if s.log.geq.length < 4096 then s else match s.log.geq with
    | [] => s
    | o :: _ => if o.dev || o.seq < getP s o.p 0x50 7 then s else addO s (pidx o.p 0x50) 9 1 32

/-- An entry with its number and time. -/
def stamped (s : State) (e : Entry) : Entry := { e with seq := s.log.geqNext, time := ns s }

/-- The queue and its number after an entry; the entry's line of memory is whole. -/
def logWith (s : State) (log : Logs) (poisoned : List Nat) : State := { s with log := log, rick.poisoned := poisoned }

/-- The queue with one more entry. -/
def geqLog (log : Logs) (e : Entry) : Logs :=
  { log with geq := (log.geq ++ [e]).drop (log.geq.length + 1 - 4096), geqNext := (log.geqNext + 1) % 2 ^ 32 }

/-- A view whose entries are copied to a mirror ring notes the entry. -/
def geqNote (s : State) (e : Entry) : State :=
  if getP s e.p 0x50 0x0A = 0 then s else updPad s e.p (fun d => { d with geqSeqs := d.geqSeqs ++ [e.seq] })

/-- The counter and the event that tell of an entry. -/
def geqTell (s : State) (e : Entry) : State := if e.dev then fire s 736 else firePad (geqNote (bump s e.p 0x80 6 1) e) e.p 2

theorem geq_eq (s : State) (e : Entry) : geq s e = geqTell (logWith (geqRoom s) (geqLog (geqRoom s).log (stamped s e))
    ((geqRoom s).rick.poisoned.filter (· ≠ geqLine (stamped s e).seq))) (stamped s e) := rfl

section
variable (s : State) (via : Path) (tag : Tag)

theorem larkSee_accepted (k n : Nat) : larkSee (accepted s via tag) k n = accepted (larkSee s k n) via tag := by
  have hfind : (accepted s via tag).ev.lark.find? (fun e => larkMatch (accepted s via tag) k n e.2) =
      s.ev.lark.find? (fun e => larkMatch s k n e.2) := rfl
  simp only [larkSee, hfind]
  cases s.ev.lark.find? (fun e => larkMatch s k n e.2) <;> rfl

theorem raise_accepted (n : Nat) : raise (accepted s via tag) n = accepted (raise s n) via tag := larkSee_accepted { s with ev.targets := _ } via tag 0 n

theorem fire_accepted (n : Nat) : fire (accepted s via tag) n = accepted (fire s n) via tag := raise_accepted { s with ev.occurs := _ } via tag n

theorem geqRoom_accepted : geqRoom (accepted s via tag) = accepted (geqRoom s) via tag := by
  simp only [geqRoom, show (accepted s via tag).log = s.log from rfl, show getP (accepted s via tag) = getP s from rfl]
  repeat' split
  all_goals rfl

theorem logWith_accepted (log : Logs) (poisoned : List Nat) :
    logWith (accepted s via tag) log poisoned = accepted (logWith s log poisoned) via tag := rfl

theorem accepted_log : (accepted s via tag).log = s.log := rfl

theorem accepted_rick : (accepted s via tag).rick = s.rick := rfl

theorem stamped_accepted (e : Entry) : stamped (accepted s via tag) e = stamped s e := rfl

theorem geqNote_accepted (e : Entry) : geqNote (accepted s via tag) e = accepted (geqNote s e) via tag := by
  simp only [geqNote, show getP (accepted s via tag) = getP s from rfl]
  split <;> rfl

theorem bump_accepted (p o r n : Nat) : bump (accepted s via tag) p o r n = accepted (bump s p o r n) via tag := rfl

theorem geqTell_accepted (e : Entry) : geqTell (accepted s via tag) e = accepted (geqTell s e) via tag := by
  simp only [geqTell]
  split
  · exact fire_accepted ..
  · rw [bump_accepted, geqNote_accepted]
    exact fire_accepted ..

theorem geq_accepted (e : Entry) : geq (accepted s via tag) e = accepted (geq s e) via tag := by
  rw [geq_eq, geq_eq, geqRoom_accepted, accepted_log, accepted_rick, stamped_accepted, logWith_accepted, geqTell_accepted]

theorem logWith_obj (log : Logs) (poisoned : List Nat) : (logWith s log poisoned).obj = s.obj := rfl

theorem geqRoom_serving : (geqRoom s).obj.serving = s.obj.serving := by
  simp only [geqRoom]
  repeat' split
  all_goals rfl

theorem geqTell_serving (e : Entry) : (geqTell s e).obj.serving = s.obj.serving := by
  simp only [geqTell, geqNote]
  repeat' split
  all_goals simp [firePad, bump, addO, setO]

theorem geq_serving (e : Entry) : (geq s e).obj.serving = s.obj.serving := by
  rw [geq_eq, geqTell_serving, logWith_obj, geqRoom_serving]

theorem logDev_serving (code sev : Nat) (facts : List Nat) : (logDev s code sev facts).obj.serving = s.obj.serving := geq_serving ..

theorem logDev_accepted (code sev : Nat) (facts : List Nat) : logDev (accepted s via tag) code sev facts = accepted (logDev s code sev facts) via tag :=
  geq_accepted ..

end

/-! ### What the state operations leave of a paddock -/

theorem pad_of_pads {s t : State} (h : s.pads = t.pads) (k : Nat) : pad s k = pad t k := by rw [pad, h, pad]

theorem strip_pad_updPad {f : Paddock → Paddock} (s : State) (p k : Nat) :
    strip (pad (updPad s p f) k) = if k = p then strip (f (pad s p)) else strip (pad s k) := by
  rw [pad_updPad]
  by_cases h : k = p
  · rw [if_pos h, if_pos h.symm]
  · rw [if_neg h, if_neg (Ne.symm h)]

theorem strip_pad_logPad (s : State) (p code sev : Nat) (facts : List Nat) (k : Nat) :
    strip (pad (logPad s p code sev facts) k) = strip (pad s k) := kept_pad (logPad_kept ..) k

theorem strip_pad_setPState (s : State) (p k : Nat) (st : PState) :
    strip (pad (setPState s p st) k) = if k = p then { strip (pad s p) with state := st } else strip (pad s k) := by
  rw [setPState, kept_pad (firePad_kept ..) k, strip_pad_updPad]
  rfl

/-- A pending command ends with its result. -/
theorem strip_pad_endPend (s : State) (p code k : Nat) : strip (pad (endPend s p code) k) =
    if k = p then { strip (pad s p) with pend := none, result := code } else strip (pad s k) := by
  rw [endPend]
  dsimp only
  split
  · rw [strip_pad_updPad]; rfl
  · rw [strip_pad_logPad, strip_pad_updPad]; rfl

@[simp] theorem qpDead_kept (s : State) (q code : Nat) : kept (qpDead s q code) = kept s := by simp only [qpDead, updQp_kept]

@[simp] theorem faultQps_kept (s : State) (p code : Nat) : kept (faultQps s p code) = kept s :=
  foldl_kept (fun s (e : Nat × Qp) => qpDead_kept s e.1 code) _ s

@[simp] theorem wakeFor_kept (s : State) (p q : Nat) : kept (wakeFor s p q) = kept s := by
  simp only [wakeFor]
  repeat' split
  all_goals simp only [updCtx_kept, ready_kept]

/-! ### Faults (R51) -/

/-- Every context of a paddock that enters FAULTED is killed, or marked while TRN is in reset. -/
def killAll (s : State) (p : Nat) : State :=
  if trnOut s then
    (pad s p).ctxs.foldl (fun s e => updCtx ((ctxCmds s p e.1).foldl (fun s id => updCmd s id (fun c => { c with killWaits := true })) s)
      p e.1 (fun x => { x with st := .killed, advanceDue := true, preempting := false })) s
  else (pad s p).ctxs.foldl (fun s e => stopCtx s p e.1 .fault .killed) s

theorem killAll_kept (s : State) (p : Nat) : kept (killAll s p) = kept s := by
  simp only [killAll]
  split
  · exact foldl_kept (fun s e => by rw [updCtx_kept]; exact foldl_kept (fun s id => updCmd_kept ..) _ s) _ s
  · exact foldl_kept (fun s e => stopCtx_kept ..) _ s

/-- The paddock that a fault takes out of service, before its contexts are killed. -/
def enterFaulted (s : State) (p code : Nat) : State :=
  setPState (updPad (if (pad s p).pend.isSome then endPend s p 0x0204 else s) p (fun d => { d with cause := code })) p .faulted

section
variable {s : State} {p code : Nat}

theorem paddockFault_faulted (h : (pad s p).state = .faulted) : paddockFault s p code =
    if (pad s p).pend.isSome then endPend (logPad s p code 3 []) p 0x0204 else logPad s p code 0 [] := by
  simp only [paddockFault, h, if_true]

theorem paddockFault_empty (h : (pad s p).state = .empty) (hp : (pad s p).pend = none) :
    paddockFault s p code = logPad s p code 0 [] := by
  simp [paddockFault, h, hp]

theorem paddockFault_enters (h : (pad s p).state ≠ .faulted) (he : ¬ ((pad s p).state = .empty ∧ (pad s p).pend = none)) :
    paddockFault s p code = logPad (faultQps (killAll (enterFaulted s p code) p) p code) p code 3 [] := by
  have he' : ¬ ((pad s p).state = .empty && (pad s p).pend.isNone) = true := by simpa using he
  simp only [paddockFault, if_neg h, if_neg he']
  rfl

end

/-- What entering FAULTED makes of a paddock that is neither FAULTED nor empty-handed in EMPTY. -/
theorem strip_pad_enterFaulted (s : State) (p code k : Nat) : strip (pad (enterFaulted s p code) k) =
    if k = p then { strip (pad s p) with
      state := .faulted, cause := code, pend := none, result := (if (pad s p).pend.isSome then 0x0204 else (pad s p).result) }
    else strip (pad s k) := by
  rw [enterFaulted, strip_pad_setPState, strip_pad_updPad, strip_pad_updPad, if_pos rfl]
  cases hp : (pad s p).pend with
  | none =>
    simp only [Option.isSome_none, Bool.false_eq_true, if_false]
    by_cases h : k = p
    · simp only [if_pos h, strip, hp]
    · simp only [if_neg h]
  | some x =>
    have hend := strip_pad_endPend s p 0x0204
    simp only [Option.isSome_some, if_true]
    by_cases h : k = p
    · have hp' := hend p
      rw [if_pos rfl] at hp'
      simp only [if_pos h]
      exact congrArg (fun d : Paddock => { d with cause := code, state := .faulted }) hp'
    · simp only [if_neg h, hend k]

theorem strip_pad_enters {s : State} {p : Nat} (code k : Nat) (h : (pad s p).state ≠ .faulted)
    (he : ¬ ((pad s p).state = .empty ∧ (pad s p).pend = none)) : strip (pad (paddockFault s p code) k) =
    if k = p then { strip (pad s p) with
      state := .faulted, cause := code, pend := none, result := (if (pad s p).pend.isSome then 0x0204 else (pad s p).result) }
    else strip (pad s k) := by
  rw [paddockFault_enters h he, strip_pad_logPad, kept_pad (faultQps_kept ..), kept_pad (killAll_kept ..), strip_pad_enterFaulted]

theorem pad_enters {s : State} {p : Nat} (code : Nat) (h : (pad s p).state ≠ .faulted)
    (he : ¬ ((pad s p).state = .empty ∧ (pad s p).pend = none)) :
    (pad (paddockFault s p code) p).state = .faulted ∧ (pad (paddockFault s p code) p).cause = code ∧
    (pad (paddockFault s p code) p).pend = none ∧ ((pad s p).pend ≠ none → (pad (paddockFault s p code) p).result = 0x0204) := by
  have hstrip := strip_pad_enters code p h he
  rw [if_pos rfl] at hstrip
  generalize pad (paddockFault s p code) p = d at hstrip
  refine ⟨congrArg Paddock.state hstrip, congrArg Paddock.cause hstrip, congrArg Paddock.pend hstrip, fun hp => ?_⟩
  exact (congrArg Paddock.result hstrip).trans (if_pos (Option.isSome_iff_ne_none.mpr hp))

/-- A fault of one paddock changes no other (R51). -/
theorem strip_pad_paddockFault_ne (s : State) {p k : Nat} (code : Nat) (hk : k ≠ p) :
    strip (pad (paddockFault s p code) k) = strip (pad s k) := by
  by_cases hf : (pad s p).state = .faulted
  · rw [paddockFault_faulted hf]
    split
    · rw [strip_pad_endPend, if_neg hk, strip_pad_logPad]
    · rw [strip_pad_logPad]
  · by_cases he : (pad s p).state = .empty ∧ (pad s p).pend = none
    · rw [paddockFault_empty he.1 he.2, strip_pad_logPad]
    · rw [strip_pad_enters code k hf he, if_neg hk]

/-! ### Drains -/

section
variable {s : State} {p : PNum}

theorem doDrained_of_draining (hd : (pad s p.val).state = .draining) (hc : padCmds s p.val = []) :
    doDrained s p.val = logPad (setPState s p.val .fallow) p.val 0x020F 0 [ns s - (pad s p.val).drainFrom] := by
  simp [doDrained, hd, hc]

/-- The commands that a drain's timeout kills, to run again once the paddock is OPEN. -/
def stopAll (s : State) (p : Nat) : State :=
  (pad s p).ctxs.foldl (fun s e => if (ctxCmds s p e.1).isEmpty then s else stopCtx s p e.1 .control .ready) s

theorem stopAll_kept (s : State) (p : Nat) : kept (stopAll s p) = kept s :=
  foldl_kept (fun s (e : Nat × Ctx) => by split <;> simp only [stopCtx_kept]) _ s

theorem doDrainTimeout_of_draining (hd : (pad s p.val).state = .draining) : doDrainTimeout s p.val =
    logPad (setPState (stopAll s p.val) p.val .fallow) p.val 0x020C 2 [(padCmds s p.val).length] := by
  simp only [doDrainTimeout, if_pos hd]
  rfl

end

/-! ### Allotment records -/

theorem descPad_allotNonce : ∃ d, descPad 0x00 0x0B = some d ∧ octCmd d 32 1 = true ∧ octCmd d 32 2 = true := ⟨_, rfl, by decide⟩

theorem exec_allotNonce {s : State} {p : PNum} {via : Path} (ho : OwnerAsks s p via) (tag : Tag) (nonce : BitVec 256) :
    exec (.allotNonce via tag p nonce) s = .next (settle (settled via (writeReq tag (pidx p.val 0) 0x0B 32) 32
      (doAllotNonce (accepted s via tag) p.val nonce.toNat))) := by
  have h := exec_pad_packed (n := 32) (v := nonce.toNat) (tag := tag) (sub := 0x0B) (f := {}) (b := s.sys.bootFacts)
    (c := .allotNonce via tag p nonce) ho (off := 0) (by decide) descPad_allotNonce rfl
  exact h.trans (by rw [padWrite, beNat_beBytes (by exact nonce.isLt)])

theorem doAllotNonce_empty {s : State} {p n : Nat} (he : (pad s p).state = .empty) : doAllotNonce s p n = (s, some 0x0201) := by
  simp only [doAllotNonce, if_pos he]

theorem doAllotNonce_asks {s : State} {p n : Nat} (he : (pad s p).state ≠ .empty) (h2 : s.sec.st ≠ 2) :
    doAllotNonce s p n = (askRecord s p n, some 0) := by
  simp only [doAllotNonce, if_neg he, if_neg h2]

/-- Does an OPEN wait for this record (R59)? -/
def openWaits (d : Paddock) (n : Nat) : Bool := n = 0 && (match d.pend with | some x => x.cmd = 2 && x.stage = 2 | none => false)

theorem pend_of_openWaits {d : Paddock} {n : Nat} (h : openWaits d n = true) : ∃ x, d.pend = some x := by
  cases hp : d.pend with
  | none => simp [openWaits, hp] at h
  | some x => exact ⟨x, rfl⟩

theorem doAllotmentRecordSigned_cons {s : State} {p n : Nat} {rest : List Nat} (hs : (pad s p).signing = n :: rest) (h2 : s.sec.st ≠ 2) :
    doAllotmentRecordSigned s p =
      if openWaits (pad s p) n then finishOpen (publishRecord s p 2 n) p else publishRecord s p (pad s p).state.code n := by
  simp only [doAllotmentRecordSigned, hs, if_neg h2]
  change (if openWaits (pad s p) n then finishOpen (publishRecord s p (if openWaits (pad s p) n then 2 else (pad s p).state.code) n) p
    else publishRecord s p (if openWaits (pad s p) n then 2 else (pad s p).state.code) n) = _
  split <;> rfl

section
variable (s : State) (p st n : Nat)

theorem pad_publishRecord :
    (pad (publishRecord s p st n) p).allotSeq = (pad s p).allotSeq + 1 ∧
    (pad (publishRecord s p st n) p).signing = (pad s p).signing.drop 1 ∧
    (pad (publishRecord s p st n) p).state = (pad s p).state := by
  have hpads : pad (fresh1 (journalCounter s (ctrAllot p) ((pad s p).allotSeq + 1))) p = pad s p :=
    pad_of_pads (journal_pads s 7 [ctrAllot p, (pad s p).allotSeq + 1]) p
  rw [publishRecord, pad_of_pads (firePad_pads ..), pad_updPad, if_pos rfl, hpads]
  exact ⟨rfl, rfl, rfl⟩

theorem publishRecord_rick : (publishRecord s p st n).rick = s.rick := by simp [publishRecord, journalCounter]

theorem publishRecord_cmd : (publishRecord s p st n).cmd = s.cmd := by simp [publishRecord, journalCounter]

end

/-- Fetch of a paddock's queues is enabled: each names the context that its next descriptor wakes. -/
def wakeAll (s : State) (p : Nat) : State := (pad s p).queues.foldl (fun s e => wakeFor s p e.1) s

theorem wakeAll_kept (s : State) (p : Nat) : kept (wakeAll s p) = kept s :=
  foldl_kept (fun s (e : Nat × Queue) => wakeFor_kept s p e.1) _ s

theorem wakeFor_pads (s : State) (p q : Nat) : { wakeFor s p q with pads := s.pads } = s := by
  simp only [wakeFor]
  repeat' split
  all_goals rfl

theorem wakeAll_pads (s : State) (p : Nat) : { wakeAll s p with pads := [] } = { s with pads := [] } :=
  foldl_keeps (fun s : State => { s with pads := [] }) (fun s (e : Nat × Queue) => wakeFor s p e.1)
    (fun s e => congrArg (fun s : State => { s with pads := [] }) (wakeFor_pads s p e.1)) (pad s p).queues s

theorem finishOpen_eq (s : State) (p : Nat) : finishOpen s p = endPend (wakeAll (setPState s p .opened) p) p 0 := rfl

theorem endPend_zero (s : State) (p : Nat) : endPend s p 0 = updPad s p (fun d => { d with pend := none, result := 0 }) := rfl

theorem finishOpen_rick (s : State) (p : Nat) : (finishOpen s p).rick = s.rick := by
  rw [finishOpen_eq, endPend_zero]
  exact (congrArg State.rick (wakeAll_pads (setPState s p .opened) p)).trans (by simp [setPState])

theorem finishOpen_cmd (s : State) (p : Nat) : (finishOpen s p).cmd = s.cmd := by
  rw [finishOpen_eq, endPend_zero]
  exact (congrArg State.cmd (wakeAll_pads (setPState s p .opened) p)).trans (by simp [setPState])

theorem pad_finishOpen (s : State) (p : Nat) :
    (pad (finishOpen s p) p).state = .opened ∧ (pad (finishOpen s p) p).pend = none ∧ (pad (finishOpen s p) p).result = 0 ∧
    (pad (finishOpen s p) p).allotSeq = (pad s p).allotSeq ∧ (pad (finishOpen s p) p).signing = (pad s p).signing := by
  have h : strip (pad (finishOpen s p) p) = { strip (pad s p) with state := .opened, pend := none, result := 0 } := by
    rw [finishOpen_eq, strip_pad_endPend, if_pos rfl, kept_pad (wakeAll_kept ..), strip_pad_setPState, if_pos rfl]
  generalize pad (finishOpen s p) p = d at h
  have hfield {α : Type} (g : Paddock → α) := congrArg g h
  exact ⟨hfield Paddock.state, hfield Paddock.pend, hfield Paddock.result, hfield Paddock.allotSeq, hfield Paddock.signing⟩

/-! ### The obligation -/

section
variable {s : State} (hb : 2 ≤ s.sys.boot) (p : PNum)
include hb

theorem exec_drained : exec (.drained p) s = .next (settle (doDrained s p.val)) := ran_next hb

theorem exec_drainTimeout : exec (.drainTimeout p) s = .next (settle (doDrainTimeout s p.val)) := ran_next hb

theorem exec_paddockFault (code : BitVec 16) :
    exec (.paddockFault [p] code) s = .next (settle (paddockFault s p.val code.toNat)) := ran_next hb

theorem exec_allotmentRecordSigned : exec (.allotmentRecordSigned p) s = .next (settle (doAllotmentRecordSigned s p.val)) := ran_next hb

end

/-- Settles O19: drains end by definition; a fault rewrites the paddock that it names and no other; a signed record is published, and
`openWaits` decides whether the OPEN ends with it. -/
theorem drainsFaultsAndRecords : Obligations.DrainsFaultsAndRecords := by
  intro s p
  refine ⟨fun hb hd => ⟨fun hc => ?drained, ?timeout⟩, fun hb code => ⟨fun he hp => ?empty, fun hf hp => ?faulted, fun he hf => ?enters⟩,
    fun via tag nonce ho => ⟨fun he => ?nonceEmpty, fun he h2 => ?nonce⟩, fun hb h2 n rest hs => ?record⟩
  case drained => exact (exec_drained hb p).trans (next_settle (doDrained_of_draining hd hc))
  case timeout =>
    exact ⟨stopAll s p.val, _, (exec_drainTimeout hb p).trans (next_settle (doDrainTimeout_of_draining hd)), rfl,
      fun k => kept_pad (stopAll_kept ..) k⟩
  case empty => exact (exec_paddockFault hb p code).trans (next_settle (paddockFault_empty he hp))
  case faulted =>
    refine (exec_paddockFault hb p code).trans (next_settle ((paddockFault_faulted hf).trans ?_))
    rw [hp, Option.isSome_none, if_neg Bool.false_ne_true]
  case enters =>
    obtain ⟨hstate, hcause, hpend, hresult⟩ := pad_enters (s := s) (p := p.val) code.toNat hf (fun h => he h.1)
    exact ⟨paddockFault s p.val code.toNat, exec_paddockFault hb p code, hstate, hcause, hpend, hresult, fun k hk => strip_pad_paddockFault_ne s _ hk⟩
  case nonceEmpty =>
    have hexec := exec_allotNonce ho tag nonce
    rw [doAllotNonce_empty (s := accepted s via tag) he] at hexec
    exact answers_of_settled hexec (accepted_done s via tag (serving_eq_none_of_owner ho))
  case nonce =>
    have hexec := exec_allotNonce ho tag nonce
    rw [doAllotNonce_asks (s := accepted s via tag) he h2] at hexec
    exact answers_of_settled hexec (congrArg (askRecord · p.val nonce.toNat) (accepted_done s via tag (serving_eq_none_of_owner ho)))
  case record =>
    have hexec := exec_allotmentRecordSigned hb p
    rw [doAllotmentRecordSigned_cons hs h2] at hexec
    have hpub := fun st => pad_publishRecord s p.val st n
    rw [hs] at hpub
    refine ⟨_, hexec, ?_⟩
    cases hopen : openWaits (pad s p.val) n with
    | true =>
      obtain ⟨hseq, hsigning, -⟩ := hpub 2
      obtain ⟨hstate, hpend, hresult, hseq', hsigning'⟩ := pad_finishOpen (publishRecord s p.val 2 n) p.val
      obtain ⟨x, hx⟩ := pend_of_openWaits hopen
      rw [if_pos rfl]
      refine ⟨hseq'.trans hseq, hsigning'.trans hsigning, fun _ _ _ _ _ => ⟨hstate, hpend, hresult⟩, fun hp => ?_, ?_, ?_⟩
      · cases hx.symm.trans hp
      · rw [finishOpen_rick, publishRecord_rick]
      · rw [finishOpen_cmd, publishRecord_cmd]
    | false =>
      obtain ⟨hseq, hsigning, hstate⟩ := hpub (pad s p.val).state.code
      rw [if_neg Bool.false_ne_true]
      refine ⟨hseq, hsigning, fun x hn hx hcmd hstage => ?_, fun _ => hstate, publishRecord_rick .., publishRecord_cmd ..⟩
      simp [openWaits, hn, hx, hcmd, hstage] at hopen

end Sys2Proof.Machine
end

/-! # Doorbells and queue windows -/

section
namespace Sys2Proof.Machine
open Sys2Proof

/-! ### Queues and contexts of a paddock -/

section
variable {s : State} {p q : Nat} {x : Queue}

theorem queueOf_updQueue (f : Queue → Queue) (h : queueOf s p q = some x) : queueOf (updQueue s p q f) p q = some (f x) := by
  have hfind : Tbl.find (pad s p).queues q = some x := h
  rw [queueOf, updQueue, pad_updPad, if_pos rfl, hfind]
  exact Tbl.find_set_self ..

theorem queues_updCtx (s : State) (p c : Nat) (f : Ctx → Ctx) (k : Nat) : (pad (updCtx s p c f) k).queues = (pad s k).queues := by
  rw [updCtx, pad_updPad]
  split
  · next h =>
    subst h
    split <;> rfl
  · rfl

theorem queues_wakeFor (s : State) (p q k : Nat) : (pad (wakeFor s p q) k).queues = (pad s k).queues := by
  simp only [wakeFor, ready]
  repeat' split
  all_goals simp only [queues_updCtx]

theorem queueOf_wakeFor (s : State) (p n q : Nat) : queueOf (wakeFor s p n) p q = queueOf s p q := by
  rw [queueOf, queues_wakeFor]; rfl

end

/-! ### Submission doorbells (R53, R116, R117) -/

/-- Does a doorbell's value lie in the ring, no nearer to the head than the tail it replaces? -/
def tailMoves (x : Queue) (v : Nat) : Prop := v < 65536 ∧ v < 2 ^ x.sqLog ∧
  (x.tail + 2 ^ x.sqLog - x.head) % 2 ^ x.sqLog ≤ (v + 2 ^ x.sqLog - x.head) % 2 ^ x.sqLog

/-- The queue with the doorbell's value and tail. -/
def rung (s : State) (p q v : Nat) : State :=
  updQueue (updQueue s p q (fun x => { x with sqBell := v })) p q (fun x => { x with tail := v })

theorem rung_kept (s : State) (p q v : Nat) : kept (rung s p q v) = kept s := (updQueue_kept ..).trans (updQueue_kept ..)

section
variable {s : State} {p q v : Nat} {x : Queue} (hdead : doorbellDead s p = false) (hq : queueOf s p q = some x)
include hdead hq

theorem doSubmissionDoorbell_moves (hst : x.st = 1) (hv : tailMoves x v) : doSubmissionDoorbell s p q v 4 =
    if (pad s p).state = .opened then wakeFor (rung s p q v) p q else bump (rung s p q v) p 0x80 5 1 := by
  obtain ⟨h16, hsize, horder⟩ := hv
  have hstate : (pad (rung s p q v) p).state = (pad s p).state :=
    (congrArg Paddock.state (kept_pad (rung_kept s p q v) p) :)
  have hok : ¬ (65536 ≤ v || 2 ^ x.sqLog ≤ v ||
      (v + 2 ^ x.sqLog - x.head) % 2 ^ x.sqLog < (x.tail + 2 ^ x.sqLog - x.head) % 2 ^ x.sqLog) = true := by simp; omega
  rw [← hstate]
  simp only [doSubmissionDoorbell, hdead, hq, hst, ne_eq, not_true_eq_false, if_false, Bool.false_eq_true, if_neg hok]
  rfl

theorem doSubmissionDoorbell_bad (hst : x.st = 1) (hv : 2 ^ x.sqLog ≤ v ∨
      (v + 2 ^ x.sqLog - x.head) % 2 ^ x.sqLog < (x.tail + 2 ^ x.sqLog - x.head) % 2 ^ x.sqLog) :
    doSubmissionDoorbell s p q v 4 = doorbellBad (updQueue s p q (fun x => { x with sqBell := v })) p q v := by
  have hbad : (65536 ≤ v || 2 ^ x.sqLog ≤ v ||
      (v + 2 ^ x.sqLog - x.head) % 2 ^ x.sqLog < (x.tail + 2 ^ x.sqLog - x.head) % 2 ^ x.sqLog) = true := by simp; omega
  simp only [doSubmissionDoorbell, hdead, hq, hst, ne_eq, not_true_eq_false, if_false, Bool.false_eq_true, if_pos hbad]

/-- A completion doorbell in the ring frees entries; with no record waiting it writes none (R121). -/
theorem doCompletionDoorbell_frees (h16 : v < 65536) (hsize : v < 2 ^ x.cqLog)
    (hused : (v + 2 ^ x.cqLog - x.cqHead) % 2 ^ x.cqLog ≤ x.cqUsed) (hw : x.waiting = []) : doCompletionDoorbell s p q v 4 =
    updQueue (updQueue s p q (fun x => { x with cqBell := v })) p q
      (fun y => { y with cqHead := v, cqUsed := y.cqUsed - (v + 2 ^ x.cqLog - x.cqHead) % 2 ^ x.cqLog }) := by
  have hok : ¬ (65536 ≤ v || 2 ^ x.cqLog ≤ v || x.cqUsed < (v + 2 ^ x.cqLog - x.cqHead) % 2 ^ x.cqLog) = true := by simp; omega
  simp only [doCompletionDoorbell, hdead, hq, hw, ne_eq, not_true_eq_false, if_false, Bool.false_eq_true, if_neg hok, List.length_nil,
    drainCq]

end

section
variable {s : State} {p : Nat} (q v : Nat)

theorem doSubmissionDoorbell_dead (h : doorbellDead s p = true) :
    doSubmissionDoorbell s p q v 4 = { s with host.badWrites := s.host.badWrites + 1 } := by
  simp only [doSubmissionDoorbell, ne_eq, not_true_eq_false, if_false, h, if_true]

theorem doCompletionDoorbell_dead (h : doorbellDead s p = true) :
    doCompletionDoorbell s p q v 4 = { s with host.badWrites := s.host.badWrites + 1 } := by
  simp only [doCompletionDoorbell, ne_eq, not_true_eq_false, if_false, h, if_true]

theorem doSubmissionDoorbell_short {len : Nat} (h : len ≠ 4) : doSubmissionDoorbell s p q v len = badWrite s p := by
  simp only [doSubmissionDoorbell, if_pos h]

theorem doCompletionDoorbell_short {len : Nat} (h : len ≠ 4) : doCompletionDoorbell s p q v len = badWrite s p := by
  simp only [doCompletionDoorbell, if_pos h]

end

theorem pad_touched (s : State) (k : Nat) : pad (touched s) k = pad s k := by
  simp only [touched, wakeDoze]
  split <;> rfl

/-- In EMPTY and FAULTED a function discards doorbells (R53). -/
theorem doorbellDead_of_state {s : State} {p : Nat} (h : (pad s p).state = .empty ∨ (pad s p).state = .faulted) :
    doorbellDead s p = true := by
  rcases h with h | h <;> simp [doorbellDead, h]

/-! ### The queue window (R115, R180) -/

theorem doQueueWindowWrite_ok {s : State} {p q o : Nat} {x : Queue} {data : Bytes} {pls : List (Place × Nat)} (ho : o < 2 ^ 22)
    (hr : (Tbl.get s.host.vfs p).inReset = false) (hq : queueOf s p q = some x) (h4 : data.length % 4 = 0)
    (hwin : o + data.length ≤ 2 ^ 22) (hring : o + data.length ≤ 64 * 2 ^ x.sqLog)
    (hpls : accessAll s p (x.sqBase + o) data.length true = .ok pls) :
    doQueueWindowWrite s p (q * 2 ^ 22 + o) data = hostBytes (putPlaces s p pls data) p data.length := by
  have hdiv : (q * 2 ^ 22 + o) / 2 ^ 22 = q := by omega
  have hmod : (q * 2 ^ 22 + o) % 2 ^ 22 = o := by omega
  have hfit : ¬ (data.length % 4 ≠ 0 || 2 ^ 22 < o + data.length) = true := by simp; omega
  simp only [doQueueWindowWrite, hdiv, hmod, hr, Bool.false_eq_true, if_false, if_neg hfit, hq, if_neg (Nat.not_lt.mpr hring), hpls]

/-! ### Fetch (R48, R118) -/

theorem doFetch_closed {s : State} {p : Nat} (h : fetchOpen s p = false) : doFetch s p = s := by simp [doFetch, h]

theorem fetchOpen_of_state {s : State} {p : Nat} (h : (pad s p).state ≠ .opened) (h' : (pad s p).state ≠ .draining) :
    fetchOpen s p = false := by simp [fetchOpen, h, h']

/-- Outside OPEN a queue gives nothing but what was fetched before and killed. -/
theorem nextItem_none {s : State} {p : Nat} (qn : Nat) (q : Queue) (hs : (pad s p).state ≠ .opened) (hk : ∀ k ∈ s.cmd.killed, k.p ≠ p) :
    nextItem s p qn q = none := by
  have hmine : s.cmd.killed.filter (fun k => k.p = p && k.q = qn && !k.backoff && fetching s p k.ctx) = [] :=
    List.filter_eq_nil_iff.mpr fun k hk' => by simp [hk k hk']
  simp only [nextItem, hmine, List.foldl_nil, if_pos hs]

theorem pickQueue_none {s : State} {p : Nat} (hs : (pad s p).state ≠ .opened) (hk : ∀ k ∈ s.cmd.killed, k.p ≠ p) :
    pickQueue s p = none := by
  have hitems : (pad s p).queues.filterMap (fun e => (nextItem s p e.1 e.2).map (fun i => (e.1, i))) = [] :=
    List.filterMap_eq_nil_iff.mpr fun e _ => by rw [nextItem_none e.1 e.2 hs hk]; rfl
  simp only [pickQueue, hitems, List.foldl_nil]

theorem doFetch_none {s : State} {p : Nat} (h : pickQueue s p = none) : doFetch s p = s := by
  rw [doFetch, h]
  split
  · rfl
  · cases freeThreads s p <;> rfl

/-! ### The obligation -/

section
variable {s : State} (hb : 2 ≤ s.sys.boot) (p : PNum)
include hb

theorem exec_submissionDoorbell (q : Fin 64) (v : BitVec 32) (len : Nat) :
    exec (.submissionDoorbell p q v len) s = .next (settle (doSubmissionDoorbell (touched s) p.val q.val v.toNat len)) := ran_next hb

theorem exec_completionDoorbell (q : Fin 64) (v : BitVec 32) (len : Nat) :
    exec (.completionDoorbell p q v len) s = .next (settle (doCompletionDoorbell (touched s) p.val q.val v.toNat len)) := ran_next hb

theorem exec_queueWindowWrite (off : BitVec 28) (data : Bytes) :
    exec (.queueWindowWrite p off data) s = .next (settle (doQueueWindowWrite s p.val off.toNat data)) := ran_next hb

theorem exec_fetch : exec (.fetch p) s = .next (settle (doFetch s p.val)) := ran_next hb

end

theorem doorbellsMoveRings : DoorbellsMoveRings := by
  intro s p q x hb
  refine ⟨fun v hdead hq hst => ⟨fun h16 hsize horder => ?moves, fun hbad => ?bad⟩, fun v hdead hq h16 hsize hused hw => ?completes,
    fun o data pls ho hr hq h4 hwin hring hpls => ?window, fun v len hlen => ⟨?short, ?shortCompletion⟩⟩
  case moves =>
    have hdo := doSubmissionDoorbell_moves hdead hq hst ⟨h16, hsize, horder⟩
    have hrung : queueOf (rung (touched s) p.val q.val v.toNat) p.val q.val = some { x with sqBell := v.toNat, tail := v.toNat } :=
      queueOf_updQueue _ (queueOf_updQueue _ hq)
    have hkept := rung_kept (touched s) p.val q.val v.toNat
    refine ⟨_, (exec_submissionDoorbell hb p q v 4).trans (next_settle hdo), ?_⟩
    split
    · have hpads := wakeFor_pads (rung (touched s) p.val q.val v.toNat) p.val q.val
      exact ⟨(queueOf_wakeFor ..).trans hrung, (congrArg State.rick hpads :), (congrArg State.cmd hpads :),
        fun k => kept_pad ((wakeFor_kept ..).trans hkept) k⟩
    · exact ⟨hrung, rfl, rfl, fun k => kept_pad ((bump_kept ..).trans hkept) k⟩
  case bad =>
    exact (exec_submissionDoorbell hb p q v 4).trans (next_settle (doSubmissionDoorbell_bad hdead hq hst hbad))
  case completes =>
    refine ⟨_, (exec_completionDoorbell hb p q v 4).trans (next_settle (doCompletionDoorbell_frees hdead hq h16 hsize hused hw)),
      queueOf_updQueue _ (queueOf_updQueue _ hq), rfl, fun k => kept_pad ((updQueue_kept ..).trans (updQueue_kept ..)) k⟩
  case window =>
    have hq64 := q.isLt
    have hoff : (BitVec.ofNat 28 (q.val * 2 ^ 22 + o)).toNat = q.val * 2 ^ 22 + o := by
      rw [BitVec.toNat_ofNat, Nat.mod_eq_of_lt (by omega)]
    refine (exec_queueWindowWrite hb p _ data).trans (next_settle ?_)
    rw [hoff]
    exact doQueueWindowWrite_ok ho hr hq h4 hwin hring hpls
  case short => exact (exec_submissionDoorbell hb p q v len).trans (next_settle (doSubmissionDoorbell_short _ _ hlen))
  case shortCompletion => exact (exec_completionDoorbell hb p q v len).trans (next_settle (doCompletionDoorbell_short _ _ hlen))

theorem doorbellsOutsideOpen : DoorbellsOutsideOpen := by
  intro s p q v hb
  refine ⟨fun hstate => ?discarded, fun hstate x hdead hq hst h16 hsize horder => ?recorded, fun hstate => ?fetch⟩
  case discarded =>
    have hdead : doorbellDead (touched s) p.val = true := doorbellDead_of_state (by rwa [pad_touched])
    exact ⟨(exec_submissionDoorbell hb p q v 4).trans (next_settle (doSubmissionDoorbell_dead _ _ hdead)),
      (exec_completionDoorbell hb p q v 4).trans (next_settle (doCompletionDoorbell_dead _ _ hdead))⟩
  case recorded =>
    have hopen : (pad (touched s) p.val).state ≠ .opened := by
      rw [pad_touched]
      rcases hstate with h | h | h <;> simp [h]
    have hdo := doSubmissionDoorbell_moves hdead hq hst ⟨h16, hsize, horder⟩
    rw [if_neg hopen] at hdo
    exact (exec_submissionDoorbell hb p q v 4).trans (next_settle hdo)
  case fetch =>
    refine (exec_fetch hb p).trans (next_settle ?_)
    by_cases hd : (pad s p.val).state = .draining
    · have hk : ∀ k ∈ s.cmd.killed, k.p ≠ p.val := by
        rcases hstate with h | h | h | h | ⟨-, hk⟩
        case inr.inr.inr.inr => exact hk
        all_goals cases h.symm.trans hd
      exact doFetch_none (pickQueue_none (by simp [hd]) hk)
    · have hopen : (pad s p.val).state ≠ .opened := by rcases hstate with h | h | h | h | ⟨h, -⟩ <;> simp [h]
      exact doFetch_closed (fetchOpen_of_state hopen hd)

/-- Settles O23: a doorbell's value is checked against its ring, and the paddock's state decides what follows. -/
theorem doorbellsAndWindows : Obligations.DoorbellsAndWindows := ⟨doorbellsMoveRings, doorbellsOutsideOpen⟩

end Sys2Proof.Machine
end

/-! # Queue pairs: made, moved through their states, destroyed -/

section
namespace Sys2Proof.Machine
open Sys2Proof

/-! ### Bytes that go to memory and to the host leave the rest as it was -/

/-- A state without memory, the paddocks' own tables, counters, messages and the Tenancy Port. -/
def beyondMemory (s : State) : State := { s with rick := {}, pads := [], obj := {}, out := [], tp := {} }

theorem beyondMemory_with (s : State) {a b c d e} :
    beyondMemory { s with rick := a, pads := b, obj := c, out := d, tp := e } = beyondMemory s := rfl

theorem beyondMemory_of {s t : State} (h : { t with rick := s.rick, pads := s.pads, obj := s.obj, out := s.out, tp := s.tp } = s) :
    beyondMemory t = beyondMemory s :=
  (congrArg beyondMemory h :)

theorem foldl_beyondMemory {α : Type} {f : State → α → State} (h : ∀ s a, beyondMemory (f s a) = beyondMemory s) (l : List α) (s : State) :
    beyondMemory (l.foldl f s) = beyondMemory s := foldl_keeps beyondMemory f h l s

theorem rekeyLine_beyond (s : State) (key l : Nat) : beyondMemory (rekeyLine s key l) = beyondMemory s := by
  simp only [rekeyLine]
  repeat' split
  all_goals simp only [beyondMemory]

theorem rickWrite_beyond (s : State) (key a : Nat) (bs : Bytes) : beyondMemory (rickWrite s key a bs) = beyondMemory s := by
  simp only [rickWrite]
  split
  · rfl
  · exact foldl_beyondMemory (fun s l => rekeyLine_beyond s key l) (linesOf a bs.length) s

theorem writePlace_beyond (s : State) (p : Nat) (pl : Place) (bs : Bytes) : beyondMemory (writePlace s p pl bs) = beyondMemory s := by
  cases pl with
  | rick a sel =>
    simp only [writePlace]
    split <;> exact rickWrite_beyond ..
  | _ => rfl

theorem issueTp_beyond (s : State) (o : TpOut) (a : Nat) (bs : Bytes) : beyondMemory (issueTp s o a bs) = beyondMemory s :=
  beyondMemory_of (by apply State.ext_fields <;> simp)

theorem hostPut_beyond (s : State) (p a : Nat) (bs : Bytes) : beyondMemory (hostPut s p a bs) = beyondMemory s := by
  have hbytes : beyondMemory (hostBytes s p bs.length) = beyondMemory s := beyondMemory_of (by apply State.ext_fields <;> simp)
  simp only [hostPut]
  split <;> exact hbytes

theorem putPlace_beyond (s : State) (p : Nat) (pl : Place) (bs : Bytes) : beyondMemory (putPlace s p pl bs) = beyondMemory s := by
  cases pl with
  | rick a sel =>
    have hcharge : beyondMemory (charge (writePlace s p (.rick a sel) bs) p 4 bs.length) = beyondMemory (writePlace s p (.rick a sel) bs) :=
      beyondMemory_of (by apply State.ext_fields <;> simp)
    exact hcharge.trans (writePlace_beyond ..)
  | host a => exact hostPut_beyond ..
  | lot lot off => exact foldl_beyondMemory (fun s _ => issueTp_beyond ..) _ s
  | far a sel => exact writePlace_beyond ..

theorem putPlaces_beyond (s : State) (p : Nat) (pls : List (Place × Nat)) (bs : Bytes) :
    beyondMemory (putPlaces s p pls bs) = beyondMemory s :=
  foldl_keeps (fun a : State × Bytes => beyondMemory a.1) (fun a (e : Place × Nat) => (putPlace a.1 p e.1 (a.2.take e.2), a.2.drop e.2))
    (fun a e => putPlace_beyond a.1 p e.1 _) pls (s, bs)

theorem putPlaces_net (s : State) (p : Nat) (pls : List (Place × Nat)) (bs : Bytes) : (putPlaces s p pls bs).net = s.net :=
  (congrArg State.net (putPlaces_beyond s p pls bs) :)

theorem putPlaces_cmd (s : State) (p : Nat) (pls : List (Place × Nat)) (bs : Bytes) : (putPlaces s p pls bs).cmd = s.cmd :=
  (congrArg State.cmd (putPlaces_beyond s p pls bs) :)

/-! ### Translation does not look at what MGT serves -/

section
variable (s : State) (via : Path) (tag : Tag)

theorem walkFrom_succ (s : State) (p va l page last : Nat) : walkFrom s p va (l + 1) page last =
    (let slot := page + 8 * (va / levelRange (l + 1) % 512)
    if poisonIn s slot 8 then Walk.fault (if l + 1 = 4 || granuleOf slot = 124 then 0x0A05 else 0x0A04) (l + 1) last
    else
      let pte := tableNat s slot 8
      if !bit pte 63 then .fault 0x0A01 (l + 1) pte
      else if pteBadFormat pte (l + 1) || pteBadFrame s p va pte (l + 1) then .fault 0x0A06 (l + 1) pte
      else if bit pte 62 then
        (if bit pte 10 && group64Bad s slot pte then .fault 0x0A06 (l + 1) pte else .leaf pte (l + 1))
      else walkFrom s p va l (bits pte 51 12 * 4096) pte) := rfl

theorem walkFrom_accepted (p va : Nat) : ∀ level page last,
    walkFrom (accepted s via tag) p va level page last = walkFrom s p va level page last := by
  intro level
  induction level with
  | zero => exact fun page last => rfl
  | succ l ih =>
    intro page last
    rw [walkFrom_succ, walkFrom_succ]
    simp only [ih]
    rfl

theorem walk_accepted (p va : Nat) : walk (accepted s via tag) p va = walk s p va := by
  rw [walk, walkFrom_accepted]; rfl

theorem access_accepted (p va n : Nat) (w : Bool) : access (accepted s via tag) p va n w = access s p va n w := by
  rw [access, walk_accepted]; rfl

theorem pieces_accepted (p : Nat) : ∀ fuel va n, pieces (accepted s via tag) p fuel va n = pieces s p fuel va n := by
  intro fuel
  induction fuel with
  | zero => intro va n; rfl
  | succ fuel ih => intro va n; simp only [pieces, pageLeft, walk_accepted, ih]

theorem accessAll_accepted (p va n : Nat) (w : Bool) : accessAll (accepted s via tag) p va n w = accessAll s p va n w := by
  simp only [accessAll, cut, pieces_accepted, access_accepted]

end

/-! ### QP_MODIFY's argument (R216) -/

/-- The TARGET field of an argument is the row's own, and no other field changes. -/
theorem qpTarget_fields (k : Nat) (a : BitVec 256) (hk : k < 16) : qpTarget k a.toNat < 2 ^ 256 ∧
    bits (qpTarget k a.toNat) 231 228 = k ∧ bits (qpTarget k a.toNat) 255 232 = bits a.toNat 255 232 := by
  have ha := a.isLt
  simp only [qpTarget, bits, Nat.shiftRight_eq_div_pow]
  omega

/-- What stands above a field does not show in it. -/
theorem bits_add_mul {m hi lo : Nat} (x y : Nat) (hlo : lo ≤ hi) (hhi : hi < m) : bits (x + 2 ^ m * y) hi lo = bits x hi lo := by
  have hpow : 2 ^ m = 2 ^ lo * (2 ^ (hi + 1 - lo) * 2 ^ (m - (hi + 1))) := by
    rw [← pow_add, ← pow_add]
    congr 1
    omega
  simp only [bits, Nat.shiftRight_eq_div_pow]
  rw [hpow, Nat.mul_assoc, Nat.add_mul_div_left _ _ (Nat.two_pow_pos lo), Nat.mul_assoc, Nat.add_mul_mod_self_left]

theorem bits_mod {m hi lo : Nat} (x : Nat) (hlo : lo ≤ hi) (hhi : hi < m) : bits (x % 2 ^ m) hi lo = bits x hi lo := by
  rw [← bits_add_mul (x % 2 ^ m) (x / 2 ^ m) hlo hhi, Nat.mod_add_div]

theorem qpTarget_low (k : Nat) (a : BitVec 256) {hi lo : Nat} (hlo : lo ≤ hi) (hhi : hi < 228) :
    bits (qpTarget k a.toNat) hi lo = bits a.toNat hi lo := by
  have hsplit : qpTarget k a.toNat = a.toNat % 2 ^ 228 + 2 ^ 228 * (a.toNat / 2 ^ 232 * 16 + k) := by
    simp only [qpTarget]
    omega
  rw [hsplit, bits_add_mul _ _ hlo hhi, bits_mod _ hlo hhi]

/-! ### The commands -/

theorem descPad_qpCreate : ∃ d, descPad 0x52 0x01 = some d ∧ octCmd d 16 1 = true ∧ octCmd d 16 2 = true := ⟨_, rfl, by decide⟩

theorem descPad_qpModify : ∃ d, descPad 0x52 0x02 = some d ∧ octCmd d 32 1 = true ∧ octCmd d 32 2 = true := ⟨_, rfl, by decide⟩

theorem descPad_qpDestroy : ∃ d, descPad 0x52 0x03 = some d ∧ numCmd d 4 1 = true ∧ numCmd d 4 2 = true ∧ d.lo = 0 ∧ d.hi = 2 ^ 32 - 1 :=
  ⟨_, rfl, by decide⟩

section
variable {s : State} {via : Path} {p : PNum} (ho : OwnerAsks s p via) (tag : Tag)
include ho

theorem exec_qpCreate (a : BitVec 128) : exec (.qpCreate via tag p a) s =
    .next (settle (settled via (writeReq tag (pidx p.val 0x52) 1 16) 16 (doQpCreate (accepted s via tag) p.val a.toNat))) := by
  have h := exec_pad_packed (n := 16) (v := a.toNat) (tag := tag) (sub := 1) (f := {}) (b := s.sys.bootFacts)
    (c := .qpCreate via tag p a) ho (off := 0x52) (by decide) descPad_qpCreate rfl
  exact h.trans (by rw [padWrite, beNat_beBytes (by exact a.isLt)])

/-- Each row of QP_MODIFY writes its argument with its own TARGET. -/
theorem exec_qpModify {c : Instr} {k : Nat} {a : BitVec 256} (hk : k < 16)
    (hexec : exec c s = ran s (serve s via (writeReq tag (pidx p.val 0x52) 2 32) (beBytes 32 (qpTarget k a.toNat)) {} s.sys.bootFacts)) :
    exec c s = .next (settle (settled via (writeReq tag (pidx p.val 0x52) 2 32) 32
      (doQpModify (accepted s via tag) p.val (qpTarget k a.toNat)))) := by
  have h := exec_pad_packed (c := c) ho (off := 0x52) (by decide) descPad_qpModify hexec
  obtain ⟨hlt, -, -⟩ := qpTarget_fields k a hk
  exact h.trans (by rw [padWrite, beNat_beBytes (by exact hlt)])

theorem exec_qpDestroy (v : BitVec 32) : exec (.qpDestroy via tag p v) s =
    .next (settle (settled via (writeReq tag (pidx p.val 0x52) 3 4) 4 (doQpDestroy (accepted s via tag) p.val v.toNat))) := by
  obtain ⟨d, hd, hk1, hk2, hlo, hhi⟩ := descPad_qpDestroy
  have hv := v.isLt
  have h := exec_pad_num (n := 4) (v := v.toNat) (tag := tag) (sub := 3) (f := {}) (b := s.sys.bootFacts)
    (c := .qpDestroy via tag p v) ho (off := 0x52) (by decide) ⟨d, hd, hk1, hk2, by omega, by omega⟩ hv rfl
  exact h.trans (by rw [padWrite, beNat_beBytes hv])

end

/-! ### Making and destroying -/

theorem doQpCreate_makes {s : State} {p arg : Nat} {pls : List (Place × Nat)} (hr : bits arg 81 0 = 0)
    (ht : bits arg 103 100 = 1 ∨ bits arg 103 100 = 2) (hp : qpPad (bits arg 127 104) = p)
    (hnew : Tbl.has s.net.qps (bits arg 127 104) = false) (hpair : paired s = false)
    (hcount : bits arg 127 104 % 2 ^ 18 < cfgP s p 0x52 7)
    (hpls : accessAll s p (cfgP s p 0x52 6 + 1024 * (bits arg 127 104 % 2 ^ 18)) 1024 true = .ok pls)
    (hrick : (pls.any (fun e => match e.1 with | .rick .. => false | _ => true)) = false) :
    doQpCreate s p arg = ({ putPlaces s p pls (List.replicate 1024 0) with
      net.qps := Tbl.set (putPlaces s p pls (List.replicate 1024 0)).net.qps (bits arg 127 104)
        { type := bits arg 103 100, recvCtx := bits arg 99 88, recvQ := bits arg 87 82 } }, some 0) := by
  have hargs : ¬ (bits arg 81 0 ≠ 0 || (bits arg 103 100 ≠ 1 && bits arg 103 100 ≠ 2) || qpPad (bits arg 127 104) ≠ p ||
      Tbl.has s.net.qps (bits arg 127 104)) = true := by
    rcases ht with ht | ht <;> simp [hr, ht, hp, hnew]
  simp only [doQpCreate, if_neg hargs, hpair, Bool.false_and, Bool.false_eq_true, if_false, if_neg (Nat.not_le.mpr hcount), hpls]
  rw [if_neg]
  rw [← Bool.not_eq_true] at hrick
  exact hrick

theorem qpNamed_ok {s : State} {p n : Nat} {q : Qp} (hq : Tbl.find s.net.qps n = some q) (hp : qpPad n = p) (ht : q.type ≠ 3) :
    qpNamed s p n = .ok q := by
  simp [qpNamed, hq, hp, ht]

section
variable {s : State} {p v : Nat} (hv : v < 2 ^ 24)
include hv

theorem doQpDestroy_named {q : Qp} (hq : Tbl.find s.net.qps v = some q) (hp : qpPad v = p) (ht : q.type ≠ 3) : doQpDestroy s p v =
    if q.st ≠ 0 then (s, some 0x0603) else ({ s with net.qps := Tbl.erase s.net.qps v }, some 0) := by
  simp only [doQpDestroy, Nat.mod_eq_of_lt hv, ne_eq, not_true_eq_false, if_false, qpNamed_ok hq hp ht]

theorem doQpDestroy_unknown (hq : Tbl.find s.net.qps v = none) : doQpDestroy s p v = (s, some 0x0601) := by
  simp only [doQpDestroy, Nat.mod_eq_of_lt hv, ne_eq, not_true_eq_false, if_false, qpNamed, hq]

end

/-! ### Moving through the states (R216, R217) -/

/-- What QP_MODIFY does with the QP it has found, by TARGET. -/
def qpModifyTo (s : State) (p qpn : Nat) (q : Qp) (arg : Nat) : Nat → State × Option Nat
  | 0 => qpToReset s qpn q
  | 1 => qpToInit s qpn q arg
  | 2 => qpToReady s p qpn q arg
  | 4 => qpToDrained s qpn q
  | 3 => (s, some 0x0603)
  | _ => (s, some 0x0602)

/-- QP_MODIFY goes by its TARGET once it has found its QP. -/
theorem doQpModify_target {s : State} {p k : Nat} {a : BitVec 256} {q : Qp} (hk : k < 16) (hr : bits a.toNat 54 0 = 0)
    (hq : Tbl.find s.net.qps (bits a.toNat 255 232) = some q) (hp : qpPad (bits a.toNat 255 232) = p) (ht : q.type ≠ 3) :
    doQpModify s p (qpTarget k a.toNat) = qpModifyTo s p (bits a.toNat 255 232) q (qpTarget k a.toNat) k := by
  obtain ⟨-, htarget, hqpn⟩ := qpTarget_fields k a hk
  have hr' : bits (qpTarget k a.toNat) 54 0 = 0 := (qpTarget_low k a (by decide) (by decide)).trans hr
  simp only [doQpModify, htarget, hqpn, hr', ne_eq, not_true_eq_false, if_false, qpNamed_ok hq hp ht]
  rfl

section
variable {s : State} {qpn : Nat} {q : Qp}

theorem qpToInit_reset {arg : Nat} (hst : q.st = 0) (h8 : 8 ≤ bits arg 227 224) (h12 : bits arg 227 224 ≤ 12) :
    qpToInit s qpn q arg = (updQp s qpn (fun q => { q with st := 1, mtu := bits arg 227 224 }), some 0) := by
  have hmtu : ¬ (bits arg 227 224 < 8 || 12 < bits arg 227 224) = true := by simp; omega
  simp only [qpToInit, hst, ne_eq, not_true_eq_false, if_false, if_neg hmtu]

theorem qpToInit_wrong (arg : Nat) (hst : q.st ≠ 0) : qpToInit s qpn q arg = (s, some 0x0603) := by
  simp only [qpToInit, if_pos hst]

/-- The QP that QP_MODIFY takes from INIT to READY. -/
def readyQp (s : State) (arg : Nat) (q : Qp) : Qp := { q with
  st := 2, node := bits arg 223 211, peer := bits arg 210 187,
  paths := ((List.range (bits arg 186 183 + 1)).map (fun k => bits arg (182 - 6 * k) (177 - 6 * k))).map (fun l => newPath s l (bits arg 86 55)),
  rto := (getO s 0x1600 2 : Nat), expiries := 0, srtt := 0 }

theorem qpToReady_init {p arg : Nat} (hst : q.st = 1)
    (hlinks : ∀ k, k ≤ bits arg 186 183 → bit (pad s p).links (bits arg (182 - 6 * k) (177 - 6 * k)) = true)
    (hpeer : q.type = 2 → qpPad (bits arg 210 187) = p) :
    qpToReady s p qpn q arg = (updQp s qpn (readyQp s arg), some 0) := by
  have hok : ¬ (((List.range (bits arg 186 183 + 1)).map (fun k => bits arg (182 - 6 * k) (177 - 6 * k))).any (fun l => !bit (pad s p).links l) ||
      (q.type = 2 && qpPad (bits arg 210 187) ≠ p)) = true := by
    simp only [Bool.or_eq_true, List.any_map, List.any_eq_true, List.mem_range, Function.comp_apply, Bool.not_eq_true', Bool.and_eq_true,
      decide_eq_true_eq, not_or, not_exists, not_and]
    exact ⟨fun k hk => by simp [hlinks k (by omega)], fun h h' => h' (hpeer h)⟩
  simp only [qpToReady, hst, ne_eq, not_true_eq_false, if_false, OfNat.one_ne_ofNat, if_neg hok]
  rfl

theorem qpToReady_drained {p arg : Nat} (hst : q.st = 4) :
    qpToReady s p qpn q arg = (updQp s qpn (fun q => { q with st := 2 }), some 0) := by
  simp only [qpToReady, if_pos hst]

theorem readyQp_path (s : State) (arg : Nat) (q : Qp) (k : Nat) (pa : QPath) (h : (readyQp s arg q).paths[k]? = some pa) :
    pa.link = bits arg (182 - 6 * k) (177 - 6 * k) ∧ pa.tx = bits arg 86 55 := by
  simp only [readyQp, List.getElem?_map, Option.map_map, Option.map_eq_some_iff] at h
  obtain ⟨j, hj, rfl⟩ := h
  obtain ⟨-, rfl⟩ := List.getElem?_eq_some_iff.mp hj
  simp only [List.getElem_range]
  exact ⟨rfl, rfl⟩

theorem qpToDrained_ready (hst : q.st = 2) :
    qpToDrained s qpn q = (drainCheck (updQp s qpn (fun q => { q with draining := true })) qpn, some 0) := by
  simp only [qpToDrained, hst, ne_eq, not_true_eq_false, if_false]

theorem qpToReset_quiet (hst : q.st = 1 ∨ q.st = 4 ∨ q.st = 3) (hrx : q.rx = []) : qpToReset s qpn q =
    (updQp s qpn (fun q => { type := q.type, recvCtx := q.recvCtx, recvQ := q.recvQ, quar := q.quar, readDone := q.readDone,
                             lastErr := q.lastErr, retx := q.retx }), some 0) := by
  have hok : ¬ (q.st ≠ 1 && q.st ≠ 4 && q.st ≠ 3) = true := by rcases hst with h | h | h <;> simp [h]
  simp only [qpToReset, if_neg hok, hrx, List.foldl_nil]

end

theorem find_updQp (s : State) {qpn : Nat} (f : Qp → Qp) {q : Qp} (hq : Tbl.find s.net.qps qpn = some q) :
    Tbl.find (updQp s qpn f).net.qps qpn = some (f q) := by
  simp [updQp, Tbl.upd, Tbl.get, hq]

/-- A QP that drains is DRAINED at once where no message is open, and else once the last one ends (R216). -/
theorem find_drained {s : State} {qpn : Nat} {q : Qp} (hq : Tbl.find s.net.qps qpn = some q) :
    Tbl.find (drainCheck (updQp s qpn (fun q => { q with draining := true })) qpn).net.qps qpn =
      some (if q.tx.isEmpty && q.rx.all (·.aborted) then { q with st := 4, draining := false } else { q with draining := true }) := by
  have hdrain := find_updQp s (fun q => { q with draining := true }) hq
  have hqp : qp (updQp s qpn (fun q => { q with draining := true })) qpn = { q with draining := true } := by simp [qp, Tbl.get, hdrain]
  simp only [drainCheck, hqp, Bool.true_and]
  split
  · have hdrained := find_updQp (updQp s qpn (fun q => { q with draining := true })) (fun q => { q with st := 4, draining := false }) hdrain
    exact hdrained
  · exact hdrain

/-- Settles O32: a control write finds its QP or is refused, and the QP's state decides what its TARGET comes to. -/
theorem queuePairsMoveThroughTheirStates : Obligations.QueuePairsMoveThroughTheirStates := by
  intro s via tag p ho
  have hs := serving_eq_none_of_owner ho
  refine ⟨fun a pls hr ht hp hnew hpair hcount hpls hrick => ?create, fun a q hr hq hp ht => ⟨fun hst h8 h12 => ?init,
    fun hst hlinks hpeer => ?ready, fun hst => ?again, fun hst => ?drained, fun hst hrx => ?reset, fun hst => ?wrong⟩,
    fun v hv => ⟨fun q hq hp ht => ⟨fun hst => ?destroy, fun hst => ?busy⟩, fun hq => ?unknown⟩⟩
  case create =>
    have hexec := exec_qpCreate ho tag a
    rw [doQpCreate_makes (s := accepted s via tag) hr ht hp hnew hpair hcount
      ((accessAll_accepted ..).trans hpls) hrick] at hexec
    have hnet : (putPlaces (accepted s via tag) p.val pls (List.replicate 1024 0)).net = s.net := putPlaces_net ..
    have hcmd : (putPlaces (accepted s via tag) p.val pls (List.replicate 1024 0)).cmd = s.cmd := putPlaces_cmd ..
    generalize putPlaces (accepted s via tag) p.val pls (List.replicate 1024 0) = t at hexec hnet hcmd
    refine ⟨_, answers_of_settled hexec rfl, Tbl.find_set_self .., fun k hk => ?_, hcmd⟩
    exact (Tbl.find_set_ne hk.symm ..).trans (by rw [hnet])
  case init =>
    have hexec := exec_qpModify (c := .qpModifyInit via tag p a) (k := 1) ho tag (by decide) rfl
    have hmtu := qpTarget_low 1 a (hi := 227) (lo := 224) (by decide) (by decide)
    rw [doQpModify_target (s := accepted s via tag) (by decide) hr hq hp ht, qpModifyTo,
      qpToInit_reset hst (by omega) (by omega), hmtu] at hexec
    exact answers_of_settled hexec (by rw [← accepted_done s via tag hs]; rfl)
  case wrong =>
    have hexec := exec_qpModify (c := .qpModifyInit via tag p a) (k := 1) ho tag (by decide) rfl
    rw [doQpModify_target (s := accepted s via tag) (by decide) hr hq hp ht, qpModifyTo, qpToInit_wrong _ hst] at hexec
    exact answers_of_settled hexec (accepted_done s via tag hs)
  case ready =>
    have hlow := fun hi lo => qpTarget_low 2 a (hi := hi) (lo := lo)
    have hexec := exec_qpModify (c := .qpModifyReady via tag p a) (k := 2) ho tag (by decide) rfl
    have hlinks' : ∀ k, k ≤ bits (qpTarget 2 a.toNat) 186 183 →
        bit (pad s p.val).links (bits (qpTarget 2 a.toNat) (182 - 6 * k) (177 - 6 * k)) = true := by
      intro k hk
      rw [hlow _ _ (by decide) (by decide)] at hk
      rw [hlow _ _ (by omega) (by omega)]
      exact hlinks k hk
    have hpeer' : q.type = 2 → qpPad (bits (qpTarget 2 a.toNat) 210 187) = p.val := by
      rw [hlow _ _ (by decide) (by decide)]
      exact hpeer
    rw [doQpModify_target (s := accepted s via tag) (by decide) hr hq hp ht, qpModifyTo,
      qpToReady_init (s := accepted s via tag) hst hlinks' hpeer'] at hexec
    have hfind : Tbl.find (updQp s (bits a.toNat 255 232) (readyQp s (qpTarget 2 a.toNat))).net.qps (bits a.toNat 255 232) =
        some (readyQp s (qpTarget 2 a.toNat) q) := find_updQp _ _ hq
    refine ⟨updQp s (bits a.toNat 255 232) (readyQp s (qpTarget 2 a.toNat)), answers_of_settled hexec ?_,
      readyQp s (qpTarget 2 a.toNat) q, hfind, rfl, hlow _ _ (by decide) (by decide), hlow _ _ (by decide) (by decide), rfl, ?_,
      fun k pa hpa => ?_, rfl⟩
    · exact congrArg (updQp · (bits a.toNat 255 232) (readyQp s (qpTarget 2 a.toNat))) (accepted_done s via tag hs)
    · simp [readyQp, hlow 186 183 (by decide) (by decide)]
    · have hpath := readyQp_path s _ q k pa hpa
      rwa [hlow _ _ (by omega) (by omega), hlow 86 55 (by decide) (by decide)] at hpath
  case again =>
    have hexec := exec_qpModify (c := .qpModifyReady via tag p a) (k := 2) ho tag (by decide) rfl
    rw [doQpModify_target (s := accepted s via tag) (by decide) hr hq hp ht, qpModifyTo, qpToReady_drained hst] at hexec
    exact answers_of_settled hexec (by rw [← accepted_done s via tag hs]; rfl)
  case drained =>
    have hexec := exec_qpModify (c := .qpModifyDrained via tag p a) (k := 4) ho tag (by decide) rfl
    rw [doQpModify_target (s := accepted s via tag) (by decide) hr hq hp ht, qpModifyTo, qpToDrained_ready hst] at hexec
    have hfind := find_drained (s := accepted s via tag) hq
    refine ⟨_, answers_of_settled hexec rfl, fun htx hrx => hfind.trans ?_, fun htx => hfind.trans ?_⟩
    · rw [if_pos (by simp [htx, hrx])]
    · rw [if_neg (by simp [htx])]
  case reset =>
    have hexec := exec_qpModify (c := .qpModifyReset via tag p a) (k := 0) ho tag (by decide) rfl
    rw [doQpModify_target (s := accepted s via tag) (by decide) hr hq hp ht, qpModifyTo, qpToReset_quiet hst hrx] at hexec
    exact answers_of_settled hexec (by rw [← accepted_done s via tag hs]; rfl)
  case destroy =>
    have hexec := exec_qpDestroy ho tag v
    rw [doQpDestroy_named (s := accepted s via tag) hv hq hp ht, if_neg (not_not.mpr hst)] at hexec
    exact answers_of_settled hexec (by rw [← accepted_done s via tag hs]; rfl)
  case busy =>
    have hexec := exec_qpDestroy ho tag v
    rw [doQpDestroy_named (s := accepted s via tag) hv hq hp ht, if_pos hst] at hexec
    exact answers_of_settled hexec (accepted_done s via tag hs)
  case unknown =>
    have hexec := exec_qpDestroy ho tag v
    rw [doQpDestroy_unknown (s := accepted s via tag) hv hq] at hexec
    exact answers_of_settled hexec (accepted_done s via tag hs)

end Sys2Proof.Machine
end

/-! # Links: their transitions, and what sending on one leaves as it was -/

section
namespace Sys2Proof.Machine
open Sys2Proof

theorem link_updLink (s : State) (l k : Nat) (f : Link → Link) : link (updLink s l f) k = if l = k then f (link s l) else link s k := by
  by_cases h : l = k
  · subst h
    simp [link, updLink]
  · simp [link, updLink, h, Tbl.get_upd_ne h]

theorem link_of_net {s t : State} (h : s.net = t.net) (k : Nat) : link s k = link t k := by rw [link, h, link]

/-! ### Frames that leave on a link -/

/-- The links without what sending a frame on link l changes: its counter, replay buffer, credits and waiting frames. -/
def lineup (l : Nat) (s : State) (k : Nat) : Link :=
  if k = l then { link s k with tx := 0, replay := [], credits := [], waiting := [] } else link s k

theorem lineup_of_net {s t : State} (l : Nat) (h : s.net = t.net) : lineup l s = lineup l t := by
  funext k
  simp only [lineup, link_of_net h]

theorem lineup_updLink {f : Link → Link} (s : State) (l : Nat)
    (hf : ∀ k, { f k with tx := 0, replay := [], credits := [], waiting := [] } =
      { k with tx := 0, replay := [], credits := [], waiting := [] }) : lineup l (updLink s l f) = lineup l s := by
  funext k
  simp only [lineup, link_updLink]
  by_cases h : k = l
  · subst h
    simp only [if_true]
    exact hf _
  · simp only [if_neg h, if_neg (Ne.symm h)]

theorem link_of_lineup_ne {s t : State} {l k : Nat} (h : lineup l t = lineup l s) (hk : k ≠ l) : link t k = link s k := by
  have := congrFun h k
  simpa only [lineup, if_neg hk] using this

theorem link_of_lineup {s t : State} {l : Nat} (h : lineup l t = lineup l s) : (link t l).st = (link s l).st ∧
    (link t l).rx = (link s l).rx ∧ (link t l).partner = (link s l).partner ∧ (link t l).rebound = (link s l).rebound := by
  have h' := congrFun h l
  simp only [lineup, if_true] at h'
  have hfield {α : Type} (g : Link → α) := congrArg g h'
  exact ⟨hfield Link.st, hfield Link.rx, hfield Link.partner, hfield Link.rebound⟩

theorem foldl_lineup {α : Type} {l : Nat} {f : State → α → State} (h : ∀ s a, lineup l (f s a) = lineup l s) (as : List α) (s : State) :
    lineup l (as.foldl f s) = lineup l s := foldl_keeps (lineup l) f h as s

/-- A link after the frame at a place of its queue has left. -/
def sentFrame (i vc pool : Nat) (p : Nat) (pkt : Packet) (k : Link) : Link :=
  { (if vc = 7 then k else setCredit k pool vc (creditHeld k pool vc - creditsOf vc pkt)) with
    tx := (k.tx + 1) % 65536, replay := k.replay ++ [(k.tx, vc, pool, pkt, p)], waiting := k.waiting.eraseIdx i }

theorem putFrame_net {s : State} {l i vc pool p : Nat} {pkt : Packet} (h : (link s l).waiting[i]? = some (vc, pool, p, pkt)) :
    (putFrame s l i).net = (updLink s l (sentFrame i vc pool 0 pkt)).net := by
  have hwait (n : Nat) (ws : List Nat) (s : State) : (ws.foldl (waitBehind p n) s).net = s.net :=
    foldl_keeps State.net (waitBehind p n) (fun s w => by simp) ws s
  delta sentFrame
  simp only [putFrame, h]
  repeat' split
  all_goals simp [updLink, *]

theorem putFrame_lineup (s : State) (l i : Nat) : lineup l (putFrame s l i) = lineup l s := by
  cases h : (link s l).waiting[i]? with
  | none => simp only [putFrame, h]
  | some e =>
    obtain ⟨vc, pool, p, pkt⟩ := e
    rw [lineup_of_net l (putFrame_net h), lineup_updLink]
    intro k
    simp only [sentFrame]
    split <;> rfl

theorem drainLink_lineup (l n : Nat) (s : State) : lineup l (drainLink l n s) = lineup l s := by
  induction n generalizing s with
  | zero => rfl
  | succ n ih =>
    simp only [drainLink]
    split
    · rfl
    · rw [ih, putFrame_lineup]

theorem toLink_lineup (s : State) (l vc pool p : Nat) (pkt : Packet) : lineup l (toLink s l vc pool p pkt) = lineup l s := by
  simp only [toLink]
  split
  · rw [drainLink_lineup]
    refine (lineup_updLink _ l ?_).trans (lineup_of_net l ?_)
    · exact fun k => rfl
    · split <;> simp
  · rfl

theorem sendControl_lineup (s : State) (l ctl : Nat) : lineup l (sendControl s l ctl) = lineup l s := toLink_lineup ..

theorem sendCredits_lineup (s : State) (l : Nat) : lineup l (sendCredits s l) = lineup l s := by
  simp only [sendCredits]
  rw [foldl_lineup (fun s e => foldl_lineup (fun s c => sendControl_lineup ..) _ s), foldl_lineup (fun s c => sendControl_lineup ..)]

theorem sendPoolMap_lineup (s : State) (l : Nat) : lineup l (sendPoolMap s l) = lineup l s :=
  foldl_lineup (fun s (e : Nat × Nat) => sendControl_lineup s l (poolMapCtl e.1 (pad s e.2).tag true)) _ s

/-! ### A link's state and the pairing state (R262, R567) -/

theorem portsUp_eq_zero (s : State) : portsUp s = 0 ↔ ∀ k, k < 4 → (link s (64 + k)).st ≠ .up := by
  have hsum : portsUp s = (if (link s 64).st = .up then 1 else 0) + (if (link s 65).st = .up then 2 else 0) +
      (if (link s 66).st = .up then 4 else 0) + (if (link s 67).st = .up then 8 else 0) := by
    simp [portsUp, List.range_succ]
  rw [hsum]
  constructor
  · intro h k hk hup
    interval_cases k <;> simp only [hup, if_true] at h <;> omega
  · intro h
    have h0 := h 0 (by decide)
    have h1 := h 1 (by decide)
    have h2 := h 2 (by decide)
    have h3 := h 3 (by decide)
    simp [h0, h1, h2, h3]

/-- A port that does not come up brings no first port back. -/
theorem portsUp_updLink {s : State} {l : Nat} {st : LState} (hst : st ≠ .up) (h : portsUp s = 0) :
    portsUp (updLink s l (fun k => { k with st := st })) = 0 := by
  rw [portsUp_eq_zero] at h ⊢
  intro k hk
  rw [link_updLink]
  split
  · exact hst
  · exact h k hk

/-- Commands that crossed are killed only where the first port of a unit comes back. -/
theorem pairPorts_net {s : State} {before : Nat} (h : s.pair.st ≠ 3 ∨ (before = 0 → portsUp s = 0)) : (pairPorts s before).net = s.net := by
  have hkill : s.pair.st = 3 → ¬ (before = 0 && portsUp s ≠ 0) = true := by
    intro h3 hb
    simp only [Bool.and_eq_true, decide_eq_true_eq] at hb
    exact h.elim (fun h => h h3) (fun h => hb.2 (h hb.1))
  simp only [pairPorts]
  split
  · rfl
  · split
    · next h3 =>
      rw [if_neg (hkill h3)]
      split <;> rfl
    · split <;> rfl

theorem setLState_net {s : State} {l : Nat} {st : LState} (h : l < 64 ∨ s.pair.st ≠ 3 ∨ st ≠ .up) :
    (setLState s l st).net = (updLink s l (fun k => { k with st := st })).net := by
  simp only [setLState]
  split
  · exact fire_net ..
  · next hl =>
    refine pairPorts_net ?_
    rcases h with h | h | h
    · exact absurd h hl
    · exact .inl h
    · exact .inr (portsUp_updLink h)

theorem link_setLState {s : State} {l : Nat} {st : LState} (h : l < 64 ∨ s.pair.st ≠ 3 ∨ st ≠ .up) (k : Nat) :
    link (setLState s l st) k = if l = k then { link s l with st := st } else link s k := by
  rw [link_of_net (setLState_net h), link_updLink]

/-! ### RETRAIN and DOWN (R263) -/

theorem setLState_retrain (t : State) {l : Nat} (hl : l < 64) :
    setLState t l .retrain = fire (updLink t l (fun k => { k with st := .retrain })) (512 + l) := by
  simp only [setLState, if_pos hl]

theorem toRetrain_other {s : State} {l : Nat} (cause : Nat) (h : (link s l).st ≠ .up) : toRetrain s l cause = s := by
  simp only [toRetrain, if_neg h]

/-- What precedes RETRAIN: the partner is told unless it asked, and the cause is logged. -/
def retrainTold (s : State) (l cause : Nat) : State :=
  logDev (if cause = 4 then s else sendBare s l (retrainCtl cause)) 0x0703 1 [l, cause]

theorem toRetrain_up {s : State} {l : Nat} (cause : Nat) (h : (link s l).st = .up) :
    toRetrain s l cause = setLState (retrainTold s l cause) l .retrain := by
  simp only [toRetrain, if_pos h]
  rfl

theorem retrainTold_net (s : State) (l cause : Nat) : (retrainTold s l cause).net = s.net := by
  simp only [retrainTold]
  split <;> simp

theorem logDev_occurs (s : State) (code sev : Nat) (facts : List Nat) {k : Nat} (hk : k ≠ 736) :
    Tbl.get (logDev s code sev facts).ev.occurs k = Tbl.get s.ev.occurs k := by
  simp only [logDev, geq, if_true, fire_occurs]
  rw [Tbl.get_set_ne (Ne.symm hk)]
  repeat' split
  all_goals simp only [addO_ev]

theorem retrainTold_occurs (s : State) (l cause : Nat) {k : Nat} (hk : k ≠ 736) :
    Tbl.get (retrainTold s l cause).ev.occurs k = Tbl.get s.ev.occurs k := by
  rw [retrainTold, logDev_occurs _ _ _ _ hk]
  split <;> rfl

theorem link_toRetrain {s : State} {l : Nat} (cause : Nat) (h : (link s l).st = .up) :
    link (toRetrain s l cause) l = { link s l with st := .retrain } := by
  rw [toRetrain_up cause h, link_setLState (.inr (.inr (by decide))), if_pos rfl, link_of_net (retrainTold_net ..)]

theorem toRetrain_occurs {s : State} {l : Nat} (cause : Nat) (h : (link s l).st = .up) (hl : l < 64) :
    Tbl.get (toRetrain s l cause).ev.occurs (512 + l) = (Tbl.get s.ev.occurs (512 + l) + 1) % 65536 := by
  rw [toRetrain_up cause h, setLState_retrain _ hl, fire_occurs, Tbl.get_set_self]
  have hocc := retrainTold_occurs s l cause (k := 512 + l) (by omega)
  exact congrArg (fun n => (n + 1) % 65536) hocc

theorem link_toDown {s : State} {l : Nat} (h : s.net.qps = []) : link (toDown s l) l = { clearLink (link s l) with st := .down } := by
  have hnet : (setLState (updLink (logDev s 0x0704 0 [l]) l clearLink) l .down).net.qps = s.net.qps := by
    rw [setLState_net (.inr (.inr (by decide)))]
    exact congrArg (·.qps) (logDev_net s 0x0704 0 [l])
  simp only [toDown, rebind, hnet, h, List.foldl_nil]
  rw [link_setLState (.inr (.inr (by decide))), if_pos rfl, link_updLink, if_pos rfl, link_of_net (logDev_net ..)]

/-! ### The commands -/

section
variable {s : State} {l : Nat}

theorem doInitFrame_good {ctl : Nat} (hst : (link s l).st = .init) (h1 : bits ctl 127 120 = 1) (h0 : bits ctl 106 0 = 0) :
    doInitFrame s l ctl =
      sendPoolMap (sendCredits (setLState (updLink s l (fun k => { clearLink k with partner := bits ctl 119 107 })) l .up) l) l := by
  simp [doInitFrame, hst, h1, h0]

/-- A link whose FEC has locked again, before its frames go out. -/
def relocked (s : State) (l : Nat) : State :=
  setLState (updLink s l (fun k => { k with
    replay := k.replay.map (fun e => (e.1, e.2.1, e.2.2.1, e.2.2.2.1, 0)), nakked := false, rebound := false })) l .up

theorem doRetrainLock_retrain (hst : (link s l).st = .retrain) (hp : s.pow.st ≠ 2) : ∃ n, doRetrainLock s l =
    drainLink l n (sendCredits ((link (relocked s l) l).replay.foldl (fun s e => sendAgain s l e) (relocked s l)) l) := by
  have hgo : ¬ ((link s l).st ≠ .retrain || s.pow.st = 2) = true := by simp [hst, hp]
  simp only [doRetrainLock, if_neg hgo]
  exact ⟨_, rfl⟩

theorem sendAgain_net (s : State) (l : Nat) (e : Nat × Nat × Nat × Packet × Nat) : (sendAgain s l e).net = s.net := by
  simp only [sendAgain]
  split <;> simp

theorem doRetrainLock_lineup (hst : (link s l).st = .retrain) (hp : s.pow.st ≠ 2) :
    lineup l (doRetrainLock s l) = lineup l (relocked s l) := by
  obtain ⟨n, hn⟩ := doRetrainLock_retrain hst hp
  rw [hn, drainLink_lineup, sendCredits_lineup, foldl_lineup (fun s e => lineup_of_net l (sendAgain_net s l e))]

end

section
variable {s : State} (hb : 2 ≤ s.sys.boot) (l : Fin 68)
include hb

theorem exec_signalDetected : exec (.signalDetected l) s = .next (settle (doSignalDetected s l.val)) := ran_next hb

theorem exec_trainingDone : exec (.trainingDone l) s = .next (settle (doTrainingDone s l.val)) := ran_next hb

theorem exec_trainingTimeout : exec (.trainingTimeout l) s = .next (settle (doTrainingTimeout s l.val)) := ran_next hb

theorem exec_initFrame (ctl : BitVec 128) : exec (.initFrame l ctl) s = .next (settle (doInitFrame s l.val ctl.toNat)) := ran_next hb

theorem exec_initTimeout : exec (.initTimeout l) s = .next (settle (doInitTimeout s l.val)) := ran_next hb

theorem exec_ackWindowExpiry : exec (.ackWindowExpiry l) s = .next (settle (doAckWindowExpiry s l.val)) := ran_next hb

theorem exec_retrainReq (ctl : BitVec 128) : exec (.retrainReq l ctl) s = .next (settle (doRetrainReq s l.val ctl.toNat)) := ran_next hb

theorem exec_retrainLock : exec (.retrainLock l) s = .next (settle (doRetrainLock s l.val)) := ran_next hb

theorem exec_retrainTimeout : exec (.retrainTimeout l) s = .next (settle (doRetrainTimeout s l.val)) := ran_next hb

theorem exec_retrainRebind : exec (.retrainRebind l) s = .next (settle (doRetrainRebind s l.val)) := ran_next hb

theorem exec_lossOfSignal : exec (.lossOfSignal l) s = .next (settle (doLossOfSignal s l.val)) := ran_next hb

end

theorem descOf_linkRetrain : ∃ d, descOf 0x1700 0x12 = some d ∧ numCmd d 1 1 = true ∧ d.lo = 0 ∧ d.hi = 63 := ⟨_, rfl, by decide⟩

theorem exec_linkRetrain {s : State} {via : Path} (hm : ManagerAsks s via) (tag : Tag) (v : BitVec 8) (hv : v.toNat < 64) :
    exec (.linkRetrain via tag v) s = .next (settle (settled via (writeReq tag 0x1700 0x12 1) 1
      (toRetrain (accepted s via tag) v.toNat 5, some 0))) := by
  obtain ⟨d, hd, hk, hlo, hhi⟩ := descOf_linkRetrain
  have hnat : beNat (beBytes 1 v.toNat) = v.toNat := beNat_beBytes (by omega)
  have h := exec_device_num (n := 1) (v := v.toNat) (tag := tag) (sub := 0x12) (f := {}) (b := s.sys.bootFacts)
    (c := .linkRetrain via tag v) hm (by decide) ⟨d, hd, hk, by omega, by omega⟩ (by omega) rfl rfl
  exact h.trans (by rw [deviceWrite, hnat, doLinkRetrain])

theorem toRetrain_serving (s : State) {l : Nat} (cause : Nat) (hl : l < 64) : (toRetrain s l cause).obj.serving = s.obj.serving := by
  by_cases h : (link s l).st = .up
  · rw [toRetrain_up cause h, setLState_retrain _ hl, fire_obj, updLink_obj, retrainTold, logDev_serving]
    split <;> rfl
  · rw [toRetrain_other cause h]

theorem toRetrain_accepted (s : State) (via : Path) (tag : Tag) {l : Nat} (cause : Nat) (hl : l < 64) :
    toRetrain (accepted s via tag) l cause = accepted (toRetrain s l cause) via tag := by
  by_cases h : (link s l).st = .up
  · have htold : retrainTold (accepted s via tag) l cause = accepted (retrainTold s l cause) via tag := by
      simp only [retrainTold]
      split
      · exact logDev_accepted ..
      · exact logDev_accepted (sendBare s l (retrainCtl cause)) ..
    rw [toRetrain_up cause h, toRetrain_up (s := accepted s via tag) cause h, htold, setLState_retrain _ hl, setLState_retrain _ hl]
    exact fire_accepted (updLink (retrainTold s l cause) l (fun k => { k with st := .retrain })) via tag (512 + l)
  · rw [toRetrain_other cause h, toRetrain_other (s := accepted s via tag) cause h]

theorem answers_linkRetrain {s : State} {via : Path} (hm : ManagerAsks s via) (tag : Tag) (v : BitVec 8) (hv : v.toNat < 64) :
    Answers (.linkRetrain via tag v) s (toRetrain s v.toNat 5) via (writeReq tag 0x1700 0x12 1) 1 0 := by
  have hexec := exec_linkRetrain hm tag v hv
  rw [toRetrain_accepted s via tag 5 hv] at hexec
  exact answers_of_settled hexec (accepted_done _ via tag ((toRetrain_serving s 5 hv).trans (serving_eq_none_of_manager hm)))

/-! ### The obligation -/

/-- Settles O37: each row looks at the link's state and makes its one transition; what goes out on the link changes none of its state. -/
theorem linksFollowTheirTransitions : Obligations.LinksFollowTheirTransitions := by
  intro s l hb
  refine ⟨fun hst hp hi => ?signal, fun hst => ⟨?trained, ?trainingTimeout⟩, fun ctl hst h1 h0 => ?init, fun hst => ?initTimeout,
    fun hst hr => ?ackWindow, fun hr => ?ackNone, fun ctl h5 h0 => ?request, fun via tag v hm hv => answers_linkRetrain hm tag v hv,
    fun cause hst => ?retrain, fun cause hst => toRetrain_other cause hst, fun hst hp => ⟨?lock, ?retrainTimeout⟩, fun hst => ?rebind,
    fun hst => ?loss, fun hq => ?down⟩
  case signal => exact (exec_signalDetected hb l).trans (next_settle (by simp [doSignalDetected, hst, hp, hi]))
  case trained =>
    exact (exec_trainingDone hb l).trans (next_settle (by simp [doTrainingDone, hst, initCtl, pack]))
  case trainingTimeout => exact (exec_trainingTimeout hb l).trans (next_settle (by simp only [doTrainingTimeout, if_pos hst]))
  case init =>
    refine ⟨_, (exec_initFrame hb l ctl).trans (next_settle (doInitFrame_good hst h1 h0)), fun hport => ?_⟩
    have hline := (sendPoolMap_lineup (sendCredits _ l.val) l.val).trans (sendCredits_lineup
      (setLState (updLink s l.val (fun k => { clearLink k with partner := bits ctl.toNat 119 107 })) l.val .up) l.val)
    have hlink := link_setLState (s := updLink s l.val (fun k => { clearLink k with partner := bits ctl.toNat 119 107 })) (l := l.val)
      (st := .up) (hport.imp_right .inl)
    obtain ⟨hup, hrx, hpartner, -⟩ := link_of_lineup hline
    rw [hlink, if_pos rfl, link_updLink, if_pos rfl] at hup hrx hpartner
    refine ⟨hup, hrx, hpartner, fun k hk => ?_⟩
    rw [link_of_lineup_ne hline hk, hlink, if_neg hk.symm, link_updLink, if_neg hk.symm]
  case initTimeout => exact (exec_initTimeout hb l).trans (next_settle (by simp only [doInitTimeout, if_pos hst]))
  case ackWindow => exact (exec_ackWindowExpiry hb l).trans (next_settle (by simp [doAckWindowExpiry, hr]))
  case ackNone => exact (exec_ackWindowExpiry hb l).trans (next_settle (by simp [doAckWindowExpiry, hr]))
  case request => exact (exec_retrainReq hb l ctl).trans (next_settle (by simp [doRetrainReq, h5, h0]))
  case retrain =>
    have hlink := link_toRetrain cause hst
    exact ⟨by rw [hlink], fun hl => ⟨by rw [hlink], toRetrain_occurs cause hst hl⟩⟩
  case lock =>
    refine ⟨_, exec_retrainLock hb l, fun hport => ?_⟩
    obtain ⟨hup, -, -, hrebound⟩ := link_of_lineup (doRetrainLock_lineup hst hp)
    have hlink := link_setLState (s := updLink s l.val (fun k => { k with
      replay := k.replay.map (fun e => (e.1, e.2.1, e.2.2.1, e.2.2.2.1, 0)), nakked := false, rebound := false })) (l := l.val)
      (st := .up) (hport.imp_right .inl) l.val
    rw [if_pos rfl, link_updLink, if_pos rfl] at hlink
    rw [relocked, hlink] at hup hrebound
    exact ⟨hup, hrebound⟩
  case retrainTimeout => exact (exec_retrainTimeout hb l).trans (next_settle (by simp [doRetrainTimeout, hst, hp]))
  case rebind => exact (exec_retrainRebind hb l).trans (next_settle (by simp only [doRetrainRebind, if_pos hst]))
  case loss => exact (exec_lossOfSignal hb l).trans (next_settle (by simp [doLossOfSignal, hst]))
  case down =>
    rw [link_toDown hq]
    exact ⟨rfl, rfl, rfl⟩

end Sys2Proof.Machine
end

/-! # Fabric time and the swathe schedule -/

section
namespace Sys2Proof.Machine
open Sys2Proof

/-! ### Stopping scheduled injection changes the links alone -/

theorem unscheduleLink_ftm (f : Packet → Bool) (s : State) (l : Nat) : (unscheduleLink f s l).ftm = s.ftm := by simp [unscheduleLink]

theorem unscheduleLink_sw (f : Packet → Bool) (s : State) (l : Nat) : (unscheduleLink f s l).sw = s.sw := by simp [unscheduleLink]

theorem unscheduleLink_rick (f : Packet → Bool) (s : State) (l : Nat) : (unscheduleLink f s l).rick = s.rick := by simp [unscheduleLink]

theorem foldl_unscheduleLink {β : Type} (g : State → β) (hg : ∀ f s l, g (unscheduleLink f s l) = g s) (f : Nat → Packet → Bool)
    (s : State) : g (unscheduleAll f s) = g s := by
  refine foldl_keeps g _ (fun s l => ?_) _ s
  split
  · rfl
  · exact hg ..

theorem unscheduleAll_ftm (f : Nat → Packet → Bool) (s : State) : (unscheduleAll f s).ftm = s.ftm :=
  foldl_unscheduleLink State.ftm unscheduleLink_ftm f s

theorem unscheduleAll_sw (f : Nat → Packet → Bool) (s : State) : (unscheduleAll f s).sw = s.sw :=
  foldl_unscheduleLink State.sw unscheduleLink_sw f s

theorem unscheduleAll_rick (f : Nat → Packet → Bool) (s : State) : (unscheduleAll f s).rick = s.rick :=
  foldl_unscheduleLink State.rick unscheduleLink_rick f s

theorem stopInjection_ftm (s : State) : (stopInjection s).ftm = s.ftm := unscheduleAll_ftm ..

theorem stopInjection_injecting (s : State) : (stopInjection s).sw.injecting = false := by rw [stopInjection, unscheduleAll_sw]

/-! ### A change of the time state (R257, R291) -/

/-- A change of the time state reaches the time and the delay bases of the paths. -/
theorem setTime_eq (s : State) (st : Nat) : ∃ n, setTime s st = { s with ftm.st := st, net := n } := by
  simp only [setTime]
  split
  · exact ⟨s.net, rfl⟩
  · exact ⟨_, rfl⟩

theorem setTime_ftm (s : State) (st : Nat) : (setTime s st).ftm = { s.ftm with st := st } := by
  obtain ⟨n, h⟩ := setTime_eq s st
  rw [h]

theorem setTime_sw (s : State) (st : Nat) : (setTime s st).sw = s.sw := by
  obtain ⟨n, h⟩ := setTime_eq s st
  rw [h]

theorem setTime_cmd (s : State) (st : Nat) : (setTime s st).cmd = s.cmd := by
  obtain ⟨n, h⟩ := setTime_eq s st
  rw [h]

theorem setTime_pads (s : State) (st : Nat) : (setTime s st).pads = s.pads := by
  obtain ⟨n, h⟩ := setTime_eq s st
  rw [h]

/-! ### Time packets (R287, R288) -/

section
variable {s : State} (hb : 2 ≤ s.sys.boot)
include hb

theorem exec_timeReq (l : Fin 68) (pkt : Packet) : exec (.timeReq l pkt) s = .next (settle (doTimeReq s l.val pkt)) := ran_next hb

theorem exec_timeResp (l : Fin 68) (pkt : Packet) : exec (.timeResp l pkt) s = .next (settle (doTimeResp s l.val pkt)) := ran_next hb

theorem exec_timeIntervalTick : exec .timeIntervalTick s = .next (settle (doTimeIntervalTick s)) := ran_next hb

theorem exec_holdoverExpired : exec .holdoverExpired s = .next (settle (doHoldoverExpired s)) := ran_next hb

theorem exec_swatheSwitch : exec .swatheSwitch s = .next (settle (doSwatheSwitch s)) := ran_next hb

theorem exec_cycleBoundary : exec .cycleBoundary s = .next (settle (doCycleBoundary s)) := ran_next hb

theorem exec_swatheOpen (e : Nat) : exec (.swatheOpen e) s = .next (settle (doSwatheOpen s e)) := ran_next hb

theorem exec_swatheInjectionEnd (e : Nat) : exec (.swatheInjectionEnd e) s = .next (settle (doSwatheInjectionEnd s e)) := ran_next hb

end

section
variable {s : State} {l : Nat} {pkt : Packet}

theorem timeOk_forged (kind : Nat) (hup : (link s l).st = .up) (hkey : keyOpens s s.ftm.key pkt = false) :
    timeOk s l kind pkt = (logDev s 0x0706 0 [l, bSrc pkt.hdr.toNat], false) := by
  simp [timeOk, hup, hkey]

theorem doTimeReq_ok (h : timeOk s l 1 pkt = (s, true)) : doTimeReq s l pkt = sendTime s l (bSrc pkt.hdr.toNat) 2
    (timeBody pkt.payload).seq (timeBody pkt.payload).tSend (ofSigned 80 ((now80 s : Int) - (timeBody pkt.payload).corr)) := by
  simp only [doTimeReq, h]

theorem doTimeReq_refused {t : State} (h : timeOk s l 1 pkt = (t, false)) : doTimeReq s l pkt = t := by simp only [doTimeReq, h]

theorem doTimeResp_refused {t : State} (h : timeOk s l 2 pkt = (t, false)) : doTimeResp s l pkt = t := by simp only [doTimeResp, h]

/-- A peer with the sample that its RESP gives (R287). -/
def sampled (s : State) (old : TimePeer) (b : TimeBody) : TimePeer :=
  { samples := (((b.tRx : Int) - b.tEcho + ((now80 s : Int) - b.corr - b.tSend),
      (b.tRx : Int) - b.tEcho - ((now80 s : Int) - b.corr - b.tSend)) :: old.samples).take 8,
    st := b.st, stratum := b.stratum, u := b.u, gm := b.gm, fresh := true, seq := old.seq, t1 := old.t1 }

/-- The state in which a peer's sample is kept. -/
def keepSample (s : State) (src : Nat) (p : TimePeer) : State :=
  { s with ftm.peers := Tbl.set s.ftm.peers src p, ftm.lastSample := if s.ftm.parent = src then ns s else s.ftm.lastSample }

theorem doTimeResp_ok {src : Nat} {b : TimeBody} {old p : TimePeer} (hsrc : src = bSrc pkt.hdr.toNat) (hbody : b = timeBody pkt.payload)
    (hold : old = Tbl.get s.ftm.peers src) (hp : p = sampled s old b) (h : timeOk s l 2 pkt = (s, true)) (hpeer : src ∈ timePeers s)
    (hseq : b.seq = old.seq) (hecho : b.tEcho = old.t1) :
    doTimeResp s l pkt = if s.ftm.st = 0 && candidate p then
      { (setTime (keepSample s src p) 1) with ftm.parent := src, ftm.good := 0, ftm.misses := 0, ftm.lastSample := ns s }
      else keepSample s src p := by
  subst hsrc hbody hold hp
  simp only [doTimeResp, h]
  rw [if_neg (by simp [hseq, hecho, hpeer])]
  rfl

end

/-! ### Intervals and HOLDOVER (R290, R291) -/

/-- The time once an interval has ended: its parent's sample is used, or missed. -/
def intervalEnd (s : State) : State :=
  if s.ftm.st = 0 || s.ftm.st = 4 then s
  else match bestParent s with
    | none => missed s
    | some n => if (Tbl.get s.ftm.peers n).fresh && !(Tbl.get s.ftm.peers n).samples.isEmpty then disciplined s n (Tbl.get s.ftm.peers n)
        else missed s

/-- Each peer owes a new sample. -/
def staled (s : State) : State := { s with ftm.peers := s.ftm.peers.map (fun e => (e.1, { e.2 with fresh := false })) }

theorem doTimeIntervalTick_eq (s : State) : doTimeIntervalTick s = sendReqs (staled (intervalEnd s)) := rfl

section
variable {s : State}

theorem intervalEnd_free (h : s.ftm.st = 0 ∨ s.ftm.st = 4) : intervalEnd s = s := if_pos (by simpa using h)

theorem intervalEnd_alone {k : Nat} (hst : s.ftm.st = k) (hk : k ≠ 0 ∧ k ≠ 4) (h : bestParent s = none) : intervalEnd s = missed s := by
  subst hst
  simp [intervalEnd, hk, h]

theorem missed_few (hst : s.ftm.st ≠ 3) (h : s.ftm.misses < 3) :
    missed s = { s with ftm.misses := s.ftm.misses + 1, ftm.good := 0, ftm.slew := 0 } := by
  have hlt : s.ftm.misses + 1 < 4 := by omega
  simp [missed, hlt, holdU, hst]

theorem missed_fourth_locked (hst : s.ftm.st = 2) (h : s.ftm.misses = 3) : (missed s).ftm.st = 3 ∧ (missed s).ftm.time = s.ftm.time := by
  simp [missed, h, hst, setTime_ftm]

theorem missed_fourth_acquiring (hst : s.ftm.st = 1) (h : s.ftm.misses = 3) : (missed s).ftm.st = 0 := by
  simp [missed, h, hst, setTime_ftm]

/-- Frequency, slew, stratum and uncertainty after a sample of the parent (R290). -/
def tuned (s : State) (n : Nat) (p : TimePeer) : State :=
  { s with ftm := { s.ftm with
      misses := 0, parent := n, lastSample := ns s,
      freq := max (-freqMost) (min freqMost (s.ftm.freq + leastDelay p.samples * 2 ^ 23 / (64 * (intervalNs s : Int)))),
      slew := leastDelay p.samples * 2 ^ 23 / (4 * (intervalNs s : Int)), stratum := p.stratum + 1,
      u := p.u + getO s 0x1700 0x0E + ceilDiv (spread p.samples) (2 ^ 14) } }

/-- The count of good intervals after one. -/
def goodAfter (s : State) (p : TimePeer) : Nat :=
  if decide ((leastDelay p.samples).natAbs ≤ 10 * 2 ^ 17) &&
    decide (p.u + getO s 0x1700 0x0E + ceilDiv (spread p.samples) (2 ^ 14) ≤ guardNs s * 8) then s.ftm.good + 1 else 0

theorem disciplined_near {n : Nat} {p : TimePeer} (hst : s.ftm.st = 1) (h : (leastDelay p.samples).natAbs ≤ 1000 * 2 ^ 17) :
    disciplined s n p = if 8 ≤ goodAfter s p then startInjection (setTime { tuned s n p with ftm.good := goodAfter s p } 2)
      else { tuned s n p with ftm.good := goodAfter s p } := by
  have hfar : ¬ (decide (s.ftm.st = 1) && decide (1000 * 2 ^ 17 < (leastDelay p.samples).natAbs)) = true := by
    rw [Bool.and_eq_true, decide_eq_true_eq, decide_eq_true_eq]
    omega
  simp only [disciplined]
  rw [if_neg hfar]
  split
  · rfl
  · next h => cases hst.symm.trans h
  · next h => cases hst.symm.trans h
  · next h _ _ => exact absurd hst h

/-- One sample that is near enough, seven good intervals before it. -/
theorem disciplined_eighth {n : Nat} {p : TimePeer} {d o : Int} (hst : s.ftm.st = 1) (hs : p.samples = [(d, o)])
    (ho : o.natAbs ≤ 10 * 2 ^ 17) (hu : p.u + getO s 0x1700 0x0E ≤ guardNs s * 8) (hgood : s.ftm.good = 7) :
    (disciplined s n p).ftm.st = 2 ∧ (disciplined s n p).sw.resumeAt = true ∧ (disciplined s n p).ftm.stratum = p.stratum + 1 ∧
      (disciplined s n p).ftm.parent = n := by
  have htheta : leastDelay p.samples = o := by rw [hs]; rfl
  have hspread : ceilDiv (spread p.samples) (2 ^ 14) = 0 := by simp [hs, spread, ceilDiv]
  have height : goodAfter s p = 8 := by
    rw [goodAfter, htheta, hspread, hgood, decide_eq_true ho, decide_eq_true (p := _ + 0 ≤ _) hu]
    rfl
  rw [disciplined_near hst (by omega), height, if_pos (le_refl _)]
  simp [startInjection, setTime_ftm, tuned]

theorem doHoldoverExpired_holding (hst : s.ftm.st = 3) :
    (doHoldoverExpired s).ftm.st = 0 ∧ (doHoldoverExpired s).sw.injecting = false := by
  simp [doHoldoverExpired, hst, stopInjection_ftm, setTime_ftm, stopInjection_injecting]

end

/-! ### TIME_SET (R287) -/

section
variable (s : State) (via : Path) (tag : Tag)

theorem descOf_timeSet : ∃ d, descOf 0x1700 0x0D = some d ∧ numCmd d 8 1 = true ∧ d.lo = 0 ∧ d.hi = 2 ^ 64 - 1 := ⟨_, rfl, by decide⟩

variable {s via} (hm : ManagerAsks s via)
include hm

theorem exec_timeSet (v : BitVec 64) : exec (.timeSet via tag v) s = .next (settle (settled via (writeReq tag 0x1700 0x0D 8) 8
    (doTimeSet (accepted s via tag) v.toNat))) := by
  obtain ⟨d, hd, hk, hlo, hhi⟩ := descOf_timeSet
  have hv := v.isLt
  have hnat : beNat (beBytes 8 v.toNat) = v.toNat := beNat_beBytes (by omega)
  have h := exec_device_num (n := 8) (v := v.toNat) (tag := tag) (sub := 0x0D) (f := {}) (b := s.sys.bootFacts)
    (c := .timeSet via tag v) hm (by decide) ⟨d, hd, hk, by omega, by omega⟩ (by omega) rfl rfl
  exact h.trans (by rw [deviceWrite, hnat])

end

/-! ### The schedule (R293 to R298) -/

/-- What the check of a staged table looks at besides the image (R294). -/
theorem swatheCheck_congr {s t : State} (hr : t.obj.requireSigned = s.obj.requireSigned) (hn : ns t = ns s) (hs : synced t = synced s)
    (img : Bytes) (f : Facts) : swatheCheck t img f = swatheCheck s img f := by
  delta swatheCheck
  rw [hr, hn, hs]

theorem swatheCheck_accepted (s : State) (via : Path) (tag : Tag) (f : Facts) :
    swatheCheck (accepted s via tag) (stagedSwathe (accepted s via tag)) f = swatheCheck s (stagedSwathe s) f :=
  swatheCheck_congr rfl rfl rfl _ f

/-- What SWATHE_APPLY does with the outcome of the check. -/
def appliedSwathe (s : State) : Except Nat Swathes → State × Option Nat
  | .error e => (s, some e)
  | .ok t => (fire { s with sw.shadow := some t } 709, some 0)

theorem doSwatheApply_eq (s : State) (f : Facts) : doSwatheApply s f = appliedSwathe s (swatheCheck s (stagedSwathe s) f) := by
  delta doSwatheApply appliedSwathe
  rfl

theorem doSwatheApply_ok {s : State} {f : Facts} {t : Swathes} (h : swatheCheck s (stagedSwathe s) f = .ok t) :
    doSwatheApply s f = (fire { s with sw.shadow := some t } 709, some 0) :=
  (doSwatheApply_eq s f).trans (congrArg (appliedSwathe s) h)

theorem doSwatheApply_error {s : State} {f : Facts} {e : Nat} (h : swatheCheck s (stagedSwathe s) f = .error e) :
    doSwatheApply s f = (s, some e) :=
  (doSwatheApply_eq s f).trans (congrArg (appliedSwathe s) h)

theorem swatheCheck_error {s : State} {img : Bytes} {f : Facts} {e : Nat} (h : swatheCheck s img f = .error e) : e = 0x0707 ∨ e = 0x0708 := by
  simp only [swatheCheck] at h
  repeat' split at h
  all_goals cases h
  all_goals simp

theorem doSwatheSwitch_staged {s : State} {t : Swathes} (h : s.sw.shadow = some t) :
    (doSwatheSwitch s).sw.active = some t ∧ (doSwatheSwitch s).sw.shadow = none ∧ (doSwatheSwitch s).sw.openSwathes = [] ∧
      (doSwatheSwitch s).sw.injecting = synced s ∧ (doSwatheSwitch s).rick = s.rick := by
  simp [doSwatheSwitch, h, unscheduleAll_sw, unscheduleAll_rick]

/-- A TX swathe opens: of the links, only its own is drained. -/
theorem doSwatheOpen_tx {s : State} {t : Swathes} {e : Nat} (ht : s.sw.active = some t) (htx : bits (t.entries.getD e 0) 127 126 = 1)
    (hi : s.sw.injecting = true) (he : e ∉ s.sw.openSwathes) : (doSwatheOpen s e).sw.openSwathes = e :: s.sw.openSwathes ∧
      ∀ k, k ≠ bits (t.entries.getD e 0) 125 120 → link (doSwatheOpen s e) k = link s k := by
  have hopen : ∃ n, doSwatheOpen s e = drainLink (bits (t.entries.getD e 0) 125 120) n { s with sw.openSwathes := e :: s.sw.openSwathes } := by
    refine ⟨(link s (bits (t.entries.getD e 0) 125 120)).waiting.length, ?_⟩
    simp only [doSwatheOpen, ht, hi, htx]
    rw [if_pos (by simpa using he)]
  obtain ⟨n, hn⟩ := hopen
  refine ⟨by rw [hn, drainLink_sw], fun k hk => ?_⟩
  rw [hn, link_of_lineup_ne (drainLink_lineup _ _ _) hk]
  rfl

theorem descOf_swatheApply : ∃ d, descOf 0x1700 0x14 = some d ∧ boolCmd d 1 = true := ⟨_, rfl, by decide⟩

theorem descOf_swatheCancel : ∃ d, descOf 0x1700 0x15 = some d ∧ boolCmd d 1 = true := ⟨_, rfl, by decide⟩

section
variable {s : State} {via : Path} (hm : ManagerAsks s via) (tag : Tag)
include hm

theorem exec_swatheApply (f : Facts) : exec (.swatheApply via tag f) s = .next (settle (settled via (writeReq tag 0x1700 0x14 1) 1
    (doSwatheApply (accepted s via tag) f))) :=
  exec_device_bool hm (by decide) descOf_swatheApply rfl rfl

theorem exec_swatheCancel : exec (.swatheCancel via tag) s = .next (settle (settled via (writeReq tag 0x1700 0x15 1) 1
    (doSwatheCancel (accepted s via tag)))) :=
  exec_device_bool hm (by decide) descOf_swatheCancel rfl rfl

theorem answers_swatheApply_refused {f : Facts} {e : Nat} (h : swatheCheck s (stagedSwathe s) f = .error e) :
    Answers (.swatheApply via tag f) s s via (writeReq tag 0x1700 0x14 1) 1 e := by
  have hdo := doSwatheApply_error ((swatheCheck_accepted s via tag f).trans h)
  exact answers_of_settled ((exec_swatheApply hm tag f).trans (by rw [hdo])) (accepted_done s via tag (serving_eq_none_of_manager hm))

theorem answers_swatheApply {f : Facts} {t : Swathes} (h : swatheCheck s (stagedSwathe s) f = .ok t) :
    Answers (.swatheApply via tag f) s (fire { s with sw.shadow := some t } 709) via (writeReq tag 0x1700 0x14 1) 1 0 := by
  have hdo : doSwatheApply (accepted s via tag) f = (accepted (fire { s with sw.shadow := some t } 709) via tag, some 0) :=
    (doSwatheApply_ok ((swatheCheck_accepted s via tag f).trans h)).trans
      (congrArg (·, some 0) (fire_accepted { s with sw.shadow := some t } via tag 709))
  refine answers_of_settled ((exec_swatheApply hm tag f).trans (by rw [hdo])) (accepted_done _ via tag ?_)
  rw [fire_obj]
  exact serving_eq_none_of_manager hm

theorem answers_swatheCancel :
    Answers (.swatheCancel via tag) s { s with sw.shadow := none } via (writeReq tag 0x1700 0x15 1) 1 0 :=
  answers_of_settled (exec_swatheCancel hm tag) (accepted_done { s with sw.shadow := none } via tag (serving_eq_none_of_manager hm))

theorem answers_timeSet_elsewhere (v : BitVec 64) (hst : s.ftm.st ≠ 4) :
    Answers (.timeSet via tag v) s s via (writeReq tag 0x1700 0x0D 8) 8 0x0705 := by
  have hdo : doTimeSet (accepted s via tag) v.toNat = (accepted s via tag, some 0x0705) := if_pos hst
  exact answers_of_settled ((exec_timeSet tag hm v).trans (by rw [hdo])) (accepted_done s via tag (serving_eq_none_of_manager hm))

end

/-- The step to a time ends at it (R286). -/
theorem stepTime_to (s : State) {t : Nat} (ht : t < 2 ^ 104) : (stepTime s ((t : Int) - s.ftm.time)).ftm.time = t := by
  simp only [stepTime, fire_ftm, logDev_ftm]
  rw [show (s.ftm.time : Int) + ((t : Int) - s.ftm.time) = t by omega, ← Int.natCast_mod, Int.toNat_natCast, Nat.mod_eq_of_lt ht]

theorem stepTime_occurs (s : State) (d : Int) : Tbl.get (stepTime s d).ev.occurs 707 = (Tbl.get s.ev.occurs 707 + 1) % 65536 := by
  rw [stepTime, fire_occurs, Tbl.get_set_self, logDev_occurs _ _ _ _ (by decide)]

theorem stepTime_accepted (s : State) (via : Path) (tag : Tag) (d : Int) :
    stepTime (accepted s via tag) d = accepted (stepTime s d) via tag := by
  have hlog := logDev_accepted { s with ftm.time := (((s.ftm.time : Int) + d) % ((2 ^ 104 : Nat) : Int)).toNat } via tag 0x070A 0
    [d.natAbs, b2n (d < 0)]
  exact (congrArg (fire · 707) hlog).trans (fire_accepted _ via tag 707)

theorem answers_timeSet {s : State} {via : Path} (hm : ManagerAsks s via) (tag : Tag) (v : BitVec 64) (hst : s.ftm.st = 4) :
    Answers (.timeSet via tag v) s (stepTime s ((v.toNat * 2 ^ 40 : Nat) - (s.ftm.time : Int))) via (writeReq tag 0x1700 0x0D 8) 8 0 := by
  have hdo : doTimeSet (accepted s via tag) v.toNat =
      (accepted (stepTime s ((v.toNat * 2 ^ 40 : Nat) - (s.ftm.time : Int))) via tag, some 0) :=
    (if_neg (not_not.mpr hst)).trans (congrArg (·, some 0) (stepTime_accepted ..))
  refine answers_of_settled ((exec_timeSet tag hm v).trans (by rw [hdo])) (accepted_done _ via tag ?_)
  rw [stepTime, fire_obj, logDev_serving]
  exact serving_eq_none_of_manager hm

/-! ### The obligation -/

/-- Settles O39: each row by its one case; what the schedule drains or the time state clears is a link or a path. -/
theorem timeAndSwathes : Obligations.TimeAndSwathes := by
  intro s l pkt hb
  refine ⟨fun h => ?request, fun hup hkey => ⟨?forgedRequest, ?forgedResponse⟩, fun old h hold hpeer hseq hecho => ?response,
    ⟨staled (intervalEnd s), exec_timeIntervalTick hb, fun h => ?free, fun hst hnone hm => ?holdover, fun hst hnone hm => ?unsync,
      fun hst hnone hm => ?few, fun n d o hst hbest hfresh hs ho hu hgood => ?eighth⟩,
    fun hst => ⟨_, exec_holdoverExpired hb, doHoldoverExpired_holding hst⟩,
    fun via tag v hm => ⟨answers_timeSet_elsewhere hm tag v, fun hst => ⟨_, answers_timeSet hm tag v hst, stepTime_to s ?inRange,
      stepTime_occurs ..⟩⟩,
    fun via tag f hm => ⟨fun t h => answers_swatheApply hm tag h, fun e h => ⟨swatheCheck_error h, answers_swatheApply_refused hm tag h⟩,
      answers_swatheCancel hm tag⟩,
    fun t ht => ⟨_, exec_swatheSwitch hb, doSwatheSwitch_staged ht⟩,
    fun t ht => ⟨⟨_, exec_cycleBoundary hb, ?cycle⟩, fun e htx hi he => ⟨_, exec_swatheOpen hb e, doSwatheOpen_tx ht htx hi he⟩,
      fun e => exec_swatheInjectionEnd hb e⟩⟩
  case request => exact (exec_timeReq hb l pkt).trans (next_settle (doTimeReq_ok h))
  case forgedRequest => exact (exec_timeReq hb l pkt).trans (next_settle (doTimeReq_refused (timeOk_forged 1 hup hkey)))
  case forgedResponse => exact (exec_timeResp hb l pkt).trans (next_settle (doTimeResp_refused (timeOk_forged 2 hup hkey)))
  case response =>
    refine ⟨_, _, exec_timeResp hb l pkt, rfl, ?_⟩
    rw [doTimeResp_ok rfl rfl hold rfl h hpeer hseq hecho]
    generalize hp : sampled s old (timeBody pkt.payload) = p
    split
    · next hc =>
      rw [Bool.and_eq_true, decide_eq_true_eq] at hc
      simp [setTime_ftm, setTime_cmd, setTime_pads, keepSample, hc.1, ← hp, sampled]
    · next hc =>
      rw [Bool.and_eq_true, decide_eq_true_eq] at hc
      simp only [keepSample, Tbl.get_set_self, ← hp, sampled, and_true, implies_true, true_and, List.take_succ_cons]
      refine ⟨⟨_, rfl⟩, fun h0 hcand => (hc ⟨h0, hp ▸ hcand⟩).elim⟩
  case free => rw [intervalEnd_free h, staled]
  case holdover => rw [staled, intervalEnd_alone hst (by decide) hnone]; exact missed_fourth_locked hst hm
  case unsync => rw [staled, intervalEnd_alone hst (by decide) hnone]; exact missed_fourth_acquiring hst hm
  case few => simp [staled, intervalEnd_alone hst (by decide) hnone, missed_few (by omega) hm, hst]
  case eighth =>
    have hend : intervalEnd s = disciplined s n (Tbl.get s.ftm.peers n) := by simp [intervalEnd, hst, hbest, hfresh, hs]
    rw [staled, hend]
    exact disciplined_eighth hst hs ho hu hgood
  case inRange => have := v.isLt; omega
  case cycle => simp [doCycleBoundary, ht]

end Sys2Proof.Machine
end

/-! # Mowing and repair of the rick -/

section
namespace Sys2Proof.Machine
open Sys2Proof

/-! ### Sets of numbers as bits -/

theorem bit_eq_testBit (x i : Nat) : bit x i = x.testBit i := by
  simp [bit, Nat.testBit_eq_decide_div_mod_eq, Nat.shiftRight_eq_div_pow]

theorem bit_join_self (x g : Nat) : bit (join x (2 ^ g)) g = true := by
  simp [bit_eq_testBit, join]

theorem bit_less_self (x g : Nat) : bit (less x (2 ^ g)) g = false := by
  have hpos : 0 < 2 ^ g := Nat.two_pow_pos g
  rw [bit_eq_testBit, less, Nat.and_two_pow]
  cases h : x.testBit g with
  | false => simpa using h
  | true =>
    rw [Nat.testBit_eq_decide_div_mod_eq, decide_eq_true_eq] at h
    rw [Nat.testBit_eq_decide_div_mod_eq, decide_eq_false_iff_not, Bool.toNat_true, one_mul]
    have hle : 2 ^ g ≤ x := by
      by_contra hlt
      rw [Nat.div_eq_of_lt (by omega)] at h
      omega
    have hdiv : x / 2 ^ g = (x - 2 ^ g) / 2 ^ g + 1 := by
      rw [← Nat.add_div_right _ hpos, Nat.sub_add_cancel hle]
    omega

/-! ### Object values -/

theorem getO_setO_same (s : State) (i sub v : Nat) : getO (setO s i sub v) i sub = v := by simp [getO, setO]

theorem getO_setO_ne {i j sub k : Nat} (h : okey i sub ≠ okey j k) (s : State) (v : Nat) : getO (setO s i sub v) j k = getO s j k := by
  simp [getO, setO, Tbl.find_set_ne h]

theorem getO_of_obj {s t : State} (h : s.obj = t.obj) (i sub : Nat) : getO s i sub = getO t i sub := by rw [getO, h, getO]

/-- The values of the paddocks' blocks lie above those of the device. -/
theorem okey_pidx_ne {i sub : Nat} (hi : i < 0x4000) (hsub : sub < 256) (p off row : Nat) : okey (pidx p off) row ≠ okey i sub := by
  simp only [okey, pidx]
  omega

theorem geqTell_dev {s : State} {e : Entry} (h : e.dev = true) : geqTell s e = fire s 736 := if_pos h

theorem getO_geqRoom (s : State) {i sub : Nat} (hi : i < 0x4000) (hsub : sub < 256) : getO (geqRoom s) i sub = getO s i sub := by
  simp only [geqRoom]
  repeat' split
  · rfl
  · rfl
  · rfl
  · exact getO_setO_ne (okey_pidx_ne hi hsub _ _ _) s _

/-- An entry of the device's view changes no value outside the paddocks' blocks. -/
theorem getO_logDev (s : State) (code sev : Nat) (facts : List Nat) {i sub : Nat} (hi : i < 0x4000) (hsub : sub < 256) :
    getO (logDev s code sev facts) i sub = getO s i sub := by
  rw [logDev, geq_eq, geqTell_dev rfl, getO_of_obj (fire_obj _ _), getO_of_obj (logWith_obj ..), getO_geqRoom s hi hsub]

/-! ### The rick's memory under an entry of the queue -/

/-- An entry of the queue makes its own line whole, and changes nothing else of the rick. -/
theorem rick_geq (s : State) (e : Entry) :
    (geq s e).rick = { s.rick with poisoned := s.rick.poisoned.filter (· ≠ geqLine s.log.geqNext) } := by
  simp only [geq]
  repeat' split
  all_goals simp

theorem poisoned_geq {s : State} (e : Entry) {l : Nat} (hl : l ∈ s.rick.poisoned) (h : l / 2 ^ 22 ≠ 124) : l ∈ (geq s e).rick.poisoned := by
  have hne : l ≠ geqLine s.log.geqNext := by
    simp only [geqLine]
    omega
  simp [rick_geq, hl, hne]

/-- An entry of a paddock's view counts an occurrence of the paddock's error event alone, one of the device of 736 alone. -/
theorem occurs_geq {s : State} (e : Entry) {k : Nat} (hdev : k ≠ 736) (hpad : k % 8 ≠ 2) :
    Tbl.get (geq s e).ev.occurs k = Tbl.get s.ev.occurs k := by
  have h2 : 8 * e.p + 2 ≠ k := by omega
  simp only [geq, firePad]
  repeat' split
  all_goals simp [fire_occurs, Tbl.get_set_ne hdev.symm, Tbl.get_set_ne h2]

/-! ### Mowing (R423, R424) -/

section
variable {s : State} (hb : 2 ≤ s.sys.boot)
include hb

theorem exec_mowRead (line errors : Nat) : exec (.mowRead line errors) s = .next (settle (doMowRead s line errors)) := ran_next hb

theorem exec_repairDone (ok : Bool) : exec (.repairDone ok) s = .next (settle (doRepairDone s ok)) := ran_next hb

end

section
variable (s : State) (line : Nat)

/-- The corrections of the last day, this one with them. -/
def recentCorrections (s : State) (line : Nat) : List (Nat × Nat) :=
  (line / 2 ^ 22, s.sys.uptime) :: s.rick.corrections.filter (fun e => s.sys.uptime < e.2 + dayNs)

/-- A corrected error is kept, and makes a repair due where its granule has shown too many. -/
def keepCorrection (s : State) (line : Nat) : State :=
  if 1000 ≤ ((recentCorrections s line).filter (fun e => e.1 = line / 2 ^ 22)).length then
    { s with rick.corrections := recentCorrections s line, com.repairDue := join s.com.repairDue (2 ^ (line / 2 ^ 22)) }
  else { s with rick.corrections := recentCorrections s line }

theorem correctLine_eq : correctLine s line =
    fire (logDev (addO (keepCorrection s line) 0x1B00 3 1 64) 0x0A0C 1 [line / 2 ^ 22, line]) 738 := rfl

theorem getO_correctLine : getO (correctLine s line) 0x1B00 3 = (getO s 0x1B00 3 + 1) % 2 ^ 64 := by
  rw [correctLine_eq, getO_of_obj (fire_obj _ _), getO_logDev _ _ _ _ (by decide) (by decide), addO, getO_setO_same]
  simp only [keepCorrection]
  split <;> rfl

theorem occurs_correctLine : Tbl.get (correctLine s line).ev.occurs 738 = (Tbl.get s.ev.occurs 738 + 1) % 65536 := by
  rw [correctLine_eq, fire_occurs, Tbl.get_set_self, logDev_occurs _ _ _ _ (by decide), addO_ev]
  simp only [keepCorrection]
  split <;> rfl

theorem rick_correctLine : (correctLine s line).rick.cells = s.rick.cells ∧ (correctLine s line).rick.mowAt = s.rick.mowAt := by
  rw [correctLine_eq, fire_rick, logDev, rick_geq, addO_rick]
  simp only [keepCorrection]
  split <;> exact ⟨rfl, rfl⟩

/-- A line found uncorrectable is poisoned, and its granule's repair is due. -/
def markLine (s : State) (line : Nat) : State :=
  { s with rick.poisoned := line :: s.rick.poisoned, com.repairDue := join s.com.repairDue (2 ^ (line / 2 ^ 22)) }

/-- What the line held is lost: entries of the queue, a trace record. -/
def loseLine (s : State) (line : Nat) : State :=
  if line / 2 ^ 22 = 125 || line / 2 ^ 22 = 126 then loseTrace (loseEntries s line) line else loseEntries s line

/-- The entry that tells of a poisoned line goes to the view of the paddock that holds its granule. -/
def logLine (s : State) (line : Nat) : State :=
  match s.pads.find? (fun e => bit e.2.granules (line / 2 ^ 22)) with
  | some e => logPad s e.1 0x0A03 0 [line * 64, line / 2 ^ 22]
  | none => logDev s 0x0A03 0 [line * 64, line / 2 ^ 22]

theorem poisonLine_new {s : State} {line : Nat} (h : line ∉ s.rick.poisoned) :
    poisonLine s line = fire (logLine (addO (loseLine (markLine s line) line) 0x1B00 4 1 32) line) 739 :=
  if_neg (by simpa using h)

theorem logLine_eq (s : State) (line : Nat) : ∃ e, logLine s line = geq s e := by
  simp only [logLine]
  split <;> exact ⟨_, rfl⟩

/-- Losing entries of the queue changes the log and a count. -/
theorem loseEntries_frame (s : State) (line : Nat) : { loseEntries s line with log := s.log, obj := s.obj } = s := by
  simp only [loseEntries]
  repeat' split
  all_goals rfl

theorem loseTrace_eq (s : State) (line : Nat) :
    loseTrace s line = s ∨ ∃ t e, loseTrace s line = geq t e ∧ { t with obj := s.obj, pads := s.pads } = s := by
  simp only [loseTrace]
  split
  · exact .inl rfl
  · exact .inr ⟨_, _, rfl, rfl⟩

/-- What a poisoned line's granule shows after the entries that tell of it: entries lost or written change none of it. -/
structure PoisonShows (s t : State) (line : Nat) : Prop where
  cells : t.rick.cells = s.rick.cells
  poisoned : line / 2 ^ 22 ≠ 124 → line ∈ s.rick.poisoned → line ∈ t.rick.poisoned
  com : t.com = s.com
  occurs : Tbl.get t.ev.occurs 739 = Tbl.get s.ev.occurs 739

theorem PoisonShows.trans {s t u : State} {line : Nat} (h : PoisonShows s t line) (h' : PoisonShows t u line) : PoisonShows s u line :=
  ⟨h'.cells.trans h.cells, fun hg hl => h'.poisoned hg (h.poisoned hg hl), h'.com.trans h.com, h'.occurs.trans h.occurs⟩

theorem poisonShows_geq (s : State) (e : Entry) (line : Nat) : PoisonShows s (geq s e) line where
  cells := by rw [rick_geq]
  poisoned hg hl := poisoned_geq e hl hg
  com := geq_com s e
  occurs := occurs_geq e (by decide) (by decide)

theorem poisonShows_of_frame {s t : State} {line : Nat} (h : { t with log := s.log, obj := s.obj, pads := s.pads } = s) :
    PoisonShows s t line := by
  have hrick := (congrArg State.rick h :)
  have hcom := (congrArg State.com h :)
  have hev := (congrArg State.ev h :)
  exact ⟨congrArg Rick.cells hrick, fun _ hl => by rwa [hrick], hcom, by rw [hev]⟩

theorem poisonShows_loseLine (s : State) (line : Nat) : PoisonShows s (loseLine s line) line := by
  have hentries : PoisonShows s (loseEntries s line) line :=
    poisonShows_of_frame (congrArg (fun u : State => { u with pads := s.pads }) (loseEntries_frame s line))
  simp only [loseLine]
  split
  · rcases loseTrace_eq (loseEntries s line) line with h | ⟨t, e, h, ht⟩
    · rwa [h]
    · rw [h]
      exact hentries.trans ((poisonShows_of_frame (congrArg (fun u : State => { u with log := (loseEntries s line).log }) ht)).trans
        (poisonShows_geq t e line))
  · exact hentries

theorem poisonLine_outcome {s : State} {line : Nat} (h : line ∉ s.rick.poisoned) :
    (poisonLine s line).rick.cells = s.rick.cells ∧ (line / 2 ^ 22 ≠ 124 → line ∈ (poisonLine s line).rick.poisoned) ∧
      bit (poisonLine s line).com.repairDue (line / 2 ^ 22) = true ∧
      Tbl.get (poisonLine s line).ev.occurs 739 = (Tbl.get s.ev.occurs 739 + 1) % 65536 := by
  obtain ⟨e, he⟩ := logLine_eq (addO (loseLine (markLine s line) line) 0x1B00 4 1 32) line
  have hadd : PoisonShows (loseLine (markLine s line) line) (addO (loseLine (markLine s line) line) 0x1B00 4 1 32) line :=
    ⟨rfl, fun _ hl => hl, rfl, rfl⟩
  have hshows := (poisonShows_loseLine (markLine s line) line).trans (hadd.trans (poisonShows_geq _ e line))
  rw [poisonLine_new h, he, fire_rick, fire_com, fire_occurs, Tbl.get_set_self, hshows.com, hshows.occurs]
  exact ⟨hshows.cells, fun hg => hshows.poisoned hg (.head _), bit_join_self .., rfl⟩

/-- Mowing at a line that it has not passed moves it on, and acts on an error of a line that is not poisoned. -/
theorem doMowRead_eq {s : State} {line errors : Nat} (hline : line + 1 < rickLines) (hst : s.pow.st < 2) (hat : s.rick.mowAt ≤ line) :
    doMowRead s line errors = if errors = 0 || s.rick.poisoned.contains line then { s with rick.mowAt := line + 1 }
      else if errors = 1 then correctLine { s with rick.mowAt := line + 1 } line
      else poisonLine { s with rick.mowAt := line + 1 } line := by
  have hrun : ¬ (decide (rickLines ≤ line) || decide (2 ≤ s.pow.st)) = true := by simp; omega
  simp only [doMowRead, if_neg hrun, if_neg (show ¬ line < s.rick.mowAt by omega), if_neg (show ¬ line + 1 = rickLines by omega)]

end

/-! ### Repair (R430 to R432) -/

theorem descOf_rickRepair : ∃ d, descOf 0x1B00 8 = some d ∧ numCmd d 1 1 = true ∧ d.lo = 0 ∧ d.hi = 123 := ⟨_, rfl, by decide⟩

section
variable {s : State} {via : Path} (hm : ManagerAsks s via) (tag : Tag) {v : BitVec 8} (hv : v.toNat < 124)
include hm hv

theorem exec_rickRepair : exec (.rickRepair via tag v) s = .next (settle (settled via (writeReq tag 0x1B00 8 1) 1
    (doRickRepair (accepted s via tag) v.toNat))) := by
  obtain ⟨d, hd, hk, hlo, hhi⟩ := descOf_rickRepair
  have hnat : beNat (beBytes 1 v.toNat) = v.toNat := beNat_beBytes (by omega)
  have h := exec_device_num (n := 1) (v := v.toNat) (tag := tag) (sub := 8) (f := {}) (b := s.sys.bootFacts)
    (c := .rickRepair via tag v) hm (by decide) ⟨d, hd, hk, by omega, by omega⟩ (by omega) rfl rfl
  exact h.trans (by rw [deviceWrite, hnat])

theorem answers_rickRepair_free (hpads : ∀ e ∈ s.pads, bit e.2.granules v.toNat = false) (hz : v.toNat ∉ s.com.zeroising)
    (hr : v.toNat ∉ s.com.repairing) : Answers (.rickRepair via tag v) s
      { s with com.free := less s.com.free (2 ^ v.toNat), com.repairing := s.com.repairing ++ [v.toNat] } via
      (writeReq tag 0x1B00 8 1) 1 0 := by
  refine answers_of_settled ((exec_rickRepair hm tag hv).trans ?_)
    (accepted_done { s with com.free := less s.com.free (2 ^ v.toNat), com.repairing := s.com.repairing ++ [v.toNat] } via tag
      (serving_eq_none_of_manager hm))
  have hdo : doRickRepair (accepted s via tag) v.toNat = _ :=
    if_neg (by simpa [accepted, hz, hr] using hpads)
  rw [hdo]
  rfl

theorem answers_rickRepair_used (h : (∃ e ∈ s.pads, bit e.2.granules v.toNat = true) ∨ v.toNat ∈ s.com.zeroising ∨
    v.toNat ∈ s.com.repairing) : Answers (.rickRepair via tag v) s s via (writeReq tag 0x1B00 8 1) 1 0x0A0D := by
  refine answers_of_settled ((exec_rickRepair hm tag hv).trans ?_) (accepted_done s via tag (serving_eq_none_of_manager hm))
  have hdo : doRickRepair (accepted s via tag) v.toNat = _ :=
    if_pos (by simpa [accepted, or_assoc] using h)
  rw [hdo]

end

/-- A granule that a repair has mended: zeroised, and in the Commons unless it is retired. -/
def mended (s : State) (g : Nat) (rest : List Nat) : State :=
  setO { rickZero { s with com.repairing := rest } (g * 2 ^ 28) (2 ^ 28) with
    com.repairDue := less s.com.repairDue (2 ^ g), com.kept := less s.com.kept (2 ^ g),
    com.free := if 124 ≤ g || bit s.com.retired g then s.com.free else join s.com.free (2 ^ g) } 0x1B00 9 0

/-- A granule that no repair mends: retired, with an entry in the queue and in the Cairn. -/
def retiredFor (s : State) (g : Nat) (rest : List Nat) : State :=
  setO (cairn (logDev { s with com.repairing := rest, com.retired := join s.com.retired (2 ^ g) } 0x0A0E 3 [g]) 0x0A0E 3 true 0 [g])
    0x1B00 9 0x0A0E

section
variable {s : State} {g : Nat} {rest : List Nat}

theorem doRepairDone_true (h : s.com.repairing = g :: rest) : doRepairDone s true = fire (mended s g rest) 740 := by
  simp only [doRepairDone, h]
  rfl

theorem doRepairDone_false (h : s.com.repairing = g :: rest) : doRepairDone s false = fire (retiredFor s g rest) 740 := by
  simp only [doRepairDone, h]
  rfl

theorem cells_mended (a : Nat) : Mem.get (mended s g rest).rick.cells a = if granuleOf a = g then 0 else Mem.get s.rick.cells a := by
  have hin : granuleOf a = g ↔ g * 2 ^ 28 ≤ a ∧ a < g * 2 ^ 28 + 2 ^ 28 := by
    simp only [granuleOf]
    omega
  simp only [hin]
  exact get_zero ..

theorem com_retiredFor : (retiredFor s g rest).com = { s.com with repairing := rest, retired := join s.com.retired (2 ^ g) } := by
  simp [retiredFor]

theorem cells_retiredFor : (retiredFor s g rest).rick.cells = s.rick.cells := by
  rw [retiredFor, setO_rick, cairn_rick, logDev, rick_geq]

end

/-! ### The obligation -/

/-- Settles O45: mowing by the count of errors it reads, a repair by its outcome; what the log loses and gains touches none of it. -/
theorem mowingFindsAndRepairMends : Obligations.MowingFindsAndRepairMends := by
  intro s hb
  refine ⟨fun line errors hline hst hat => ⟨fun h0 => ?clean, fun h1 hp => ?corrected, fun h2 hp => ?poisoned⟩,
    fun via tag v hm hv => ⟨answers_rickRepair_free hm tag hv, answers_rickRepair_used hm tag hv⟩,
    fun g rest hg hlt => ⟨⟨_, (exec_repairDone hb true).trans (next_settle (doRepairDone_true hg)), ?mends⟩,
      ⟨_, (exec_repairDone hb false).trans (next_settle (doRepairDone_false hg)), ?retires⟩⟩⟩
  case clean =>
    refine (exec_mowRead hb line errors).trans (next_settle ?_)
    rw [doMowRead_eq hline hst hat, if_pos (by simp [h0])]
  case corrected =>
    refine ⟨_, exec_mowRead hb line errors, ?_⟩
    rw [doMowRead_eq hline hst hat, if_neg (by simp [h1, hp]), if_pos h1]
    obtain ⟨hcells, hmow⟩ := rick_correctLine { s with rick.mowAt := line + 1 } line
    exact ⟨hcells, hmow, getO_correctLine .., occurs_correctLine ..⟩
  case poisoned =>
    refine ⟨_, exec_mowRead hb line errors, ?_⟩
    rw [doMowRead_eq hline hst hat, if_neg (by simp [hp]; omega), if_neg (by omega)]
    exact poisonLine_outcome (s := { s with rick.mowAt := line + 1 }) hp
  case mends =>
    rw [fire_com, fire_rick, fire_occurs, Tbl.get_set_self]
    refine ⟨rfl, bit_less_self .., fun a ha => by rw [cells_mended, if_pos ha], fun a ha => by rw [cells_mended, if_neg ha],
      fun hr => ?_, rfl⟩
    simp only [mended, setO_com]
    rw [if_neg (by simp [hr]; omega)]
    exact bit_join_self ..
  case retires =>
    rw [fire_com, fire_rick, com_retiredFor, getO_of_obj (fire_obj _ _)]
    exact ⟨rfl, bit_join_self .., rfl, getO_setO_same .., cells_retiredFor⟩

end Sys2Proof.Machine
end

/-! # The accounting rows -/

section
namespace Sys2Proof.Machine
open Sys2Proof

/-! ### What a tick of the meters changes (R474 to R476) -/

/-- A state with the parts that metering writes as another state has them. -/
def unmetered (s0 s : State) : State := { s with acct := s0.acct, pads := s0.pads, obj := s0.obj, fresh := s0.fresh }

section
variable (s0 s : State)

theorem railTick_unmetered (r : Nat) (acc : State × Nat) (e : Nat) : unmetered s0 (railTick r acc e).1 = unmetered s0 acc.1 :=
  foldl_keeps (unmetered s0) _ (by intros; rfl) (notEmpty acc.1) acc.1

theorem railTick_acct (r : Nat) (acc : State × Nat) (e : Nat) : (railTick r acc e).1.acct = acc.1.acct :=
  foldl_keeps State.acct _ (by intros; rfl) (notEmpty acc.1) acc.1

theorem waitElsewhere_unmetered (p : Nat) : unmetered s0 (waitElsewhere s p) = unmetered s0 s :=
  foldl_keeps (unmetered s0) _ (by intros; rfl) (List.range 4) s

theorem waitElsewhere_acct (p : Nat) : (waitElsewhere s p).acct = s.acct :=
  foldl_keeps State.acct _ (by intros; rfl) (List.range 4) s

end

/-- Rails with their energies one after the other, and what is left to the device. -/
def railTicks (s : State) (l : List (Nat × Nat)) : State × Nat := l.foldl (fun acc x => railTick x.1 acc x.2) (s, 0)

theorem foldl_railTick {γ : Type} (g : State → γ) (h : ∀ r acc e, g (railTick r acc e).1 = g acc.1) :
    ∀ (l : List (Nat × Nat)) (acc : State × Nat), g (l.foldl (fun acc x => railTick x.1 acc x.2) acc).1 = g acc.1
  | [], _ => rfl
  | x :: l, acc => (foldl_railTick g h l (railTick x.1 acc x.2)).trans (h x.1 acc x.2)

theorem railTicks_unmetered (s0 s : State) (l : List (Nat × Nat)) : unmetered s0 (railTicks s l).1 = unmetered s0 s :=
  foldl_railTick (unmetered s0) (railTick_unmetered s0) l (s, 0)

theorem railTicks_acct (s : State) (l : List (Nat × Nat)) : (railTicks s l).1.acct = s.acct :=
  foldl_railTick State.acct railTick_acct l (s, 0)

/-- The four rails of a tick. -/
def rails (s : State) (e : List Nat) : State × Nat := railTicks s ((List.range 4).map (fun r => (r, e.getD r 0)))

/-- The rick byte-seconds and ENERGY_MJ of each paddock, and the waits of the arbiters. -/
def metered (s : State) : State :=
  let s := (notEmpty s).foldl (fun s p => setP (meter s p 8 (256 * popCount 124 (pad s p).granules)) p 0x30 10 ((pad s p).energy / 1000)) s
  (notEmpty s).foldl waitElsewhere s

/-- The device's own sums. -/
def summed (s : State) (e : List Nat) (device : Nat) : State :=
  { s with acct.meterEnergy := s.acct.meterEnergy + (e.take 4).foldl (· + ·) 0, acct.deviceEnergy := s.acct.deviceEnergy + device }

/-- A tick while the sensor bus has failed is an estimate, logged once (R486). -/
def estimatedTick (s : State) : State :=
  if getO s 0x1C00 5 = 0 then logDev (setO { s with acct.estimated := true } 0x1C00 5 1) 0x0325 0 [] else { s with acct.estimated := true }

section
variable (s : State) (e : List Nat)

theorem doMeterTick_eq : doMeterTick s e =
    if (summed (metered (rails s e).1) e (rails s e).2).pow.sensorBus = 2 then estimatedTick (summed (metered (rails s e).1) e (rails s e).2)
    else setO (summed (metered (rails s e).1) e (rails s e).2) 0x1C00 5 0 := by
  rw [doMeterTick, ← railTicks, ← rails]
  generalize rails s e = x
  obtain ⟨t, d⟩ := x
  rfl

theorem rails_unmetered (s0 : State) : unmetered s0 (rails s e).1 = unmetered s0 s :=
  railTicks_unmetered s0 s _

theorem rails_acct : (rails s e).1.acct = s.acct := railTicks_acct s _

theorem metered_unmetered (s0 : State) : unmetered s0 (metered s) = unmetered s0 s :=
  (foldl_keeps (unmetered s0) _ (fun s p => waitElsewhere_unmetered s0 s p) _ _).trans
    (foldl_keeps (unmetered s0) _ (by intros; rfl) _ s)

theorem metered_acct : (metered s).acct = s.acct :=
  (foldl_keeps State.acct _ waitElsewhere_acct _ _).trans (foldl_keeps State.acct _ (by intros; rfl) _ s)

theorem summed_unmetered (s0 : State) (device : Nat) : unmetered s0 (summed s e device) = unmetered s0 s := rfl

/-- The state after the rails, the meters and the sums, but for what metering writes. -/
theorem tick_unmetered (s0 : State) : unmetered s0 (summed (metered (rails s e).1) e (rails s e).2) = unmetered s0 s :=
  (summed_unmetered ..).trans ((metered_unmetered _ s0).trans (rails_unmetered s e s0))

theorem tick_acct : (summed (metered (rails s e).1) e (rails s e).2).acct =
    { s.acct with meterEnergy := s.acct.meterEnergy + (e.take 4).foldl (· + ·) 0, deviceEnergy := s.acct.deviceEnergy + (rails s e).2 } := by
  rw [summed, metered_acct, rails_acct]

end

/-- Where no paddock holds anything, a rail changes nothing and its energy is the device's. -/
theorem railTick_none {s : State} (h : notEmpty s = []) (r d e : Nat) : railTick r (s, d) e = (s, d + e) := by
  simp [railTick, h]

theorem rails_none {s : State} (h : notEmpty s = []) (e : List Nat) : rails s e = (s, (e.take 4).foldl (· + ·) 0) := by
  have hsum : (e.take 4).foldl (· + ·) 0 = e.getD 0 0 + e.getD 1 0 + e.getD 2 0 + e.getD 3 0 := by
    rcases e with _ | ⟨a, _ | ⟨b, _ | ⟨c, _ | ⟨d, t⟩⟩⟩⟩ <;> simp
  rw [hsum]
  simp only [rails, railTicks, List.range_succ, List.range_zero, List.nil_append, List.cons_append, List.map_cons, List.map_nil,
    List.foldl_cons, List.foldl_nil, railTick_none h, Nat.zero_add]

theorem metered_none {s : State} (h : notEmpty s = []) : metered s = s := by simp [metered, h]

section
variable (s : State) (e : List Nat)

theorem estimatedTick_acct : (estimatedTick s).acct = { s.acct with estimated := true } := by
  simp only [estimatedTick]
  split <;> simp

theorem estimatedTick_cmd : (estimatedTick s).cmd = s.cmd := by
  simp only [estimatedTick]
  split <;> simp

theorem estimatedTick_pads : (estimatedTick s).pads = s.pads := by
  simp only [estimatedTick]
  split <;> simp

theorem estimatedTick_cells : (estimatedTick s).rick.cells = s.rick.cells := by
  simp only [estimatedTick]
  split
  · rw [logDev, rick_geq, setO_rick]
  · rfl

/-- A part of the state that metering does not write. -/
theorem tick_keeps {γ : Type} (g : State → γ) (hg : ∀ t, g (unmetered s t) = g t) :
    g (summed (metered (rails s e).1) e (rails s e).2) = g s := by
  rw [← hg, tick_unmetered, hg]

/-- What METER_TICK leaves of the tick's state. -/
def meterOutcome (s t : State) : State := if s.pow.sensorBus = 2 then estimatedTick t else setO t 0x1C00 5 0

theorem doMeterTick_outcome : doMeterTick s e = meterOutcome s (summed (metered (rails s e).1) e (rails s e).2) := by
  rw [doMeterTick_eq, tick_keeps s e State.pow (fun _ => rfl)]
  rfl

end

/-! ### The end of a period (R478, R485) -/

/-- A usage record is written where a context holds a slot. -/
theorem foldl_usageRecord_none (p : Nat) (l : List (Nat × Ctx)) (h : ∀ e ∈ l, e.2.slot = none) (s : State) :
    l.foldl (fun s e => if e.2.slot.isSome then usageRecord s p e.1 2 else s) s = s := by
  induction l generalizing s with
  | nil => rfl
  | cons e l ih =>
    have he : e.2.slot = none := h e (.head _)
    rw [List.foldl_cons, he]
    exact ih (fun e he => h e (.tail _ he)) s

/-- A snapshot with room in the queue. -/
theorem formSnapshot_room {s : State} {p stop : Nat} (hst : s.sec.st ≠ 2) (hwork : s.store.work = []) :
    ∃ rcd, formSnapshot s p false false stop = flash (updPad (fresh1 s) p (fun d => { d with
      snapSeq := d.snapSeq + 1, snapPrev := sha384 rcd, periodStart := stop, allotAtPeriod := d.allotSeq })) (.snapshot p rcd) := by
  refine ⟨snapRecord s p false false stop, ?_⟩
  simp [formSnapshot, hst, hwork]

/-- A paddock whose interferers are forgotten. -/
def forgotten (d : Paddock) : Paddock := { d with behind := [] }

/-- The interferers of each listed paddock are published and forgotten. -/
def forgetBehind (s : State) (l : List (Nat × Paddock)) : State :=
  l.foldl (fun s e => updPad (setO s 0x1C02 (e.1 + 1) (topOf e.2.behind)) e.1 forgotten) s

theorem pad_forgetBehind (l : List (Nat × Paddock)) (s : State) (k : Nat) : pad (forgetBehind s l) k =
    if k ∈ l.map (·.1) then forgotten (pad s k) else pad s k := by
  induction l generalizing s with
  | nil => simp [forgetBehind]
  | cons e l ih =>
    rw [show forgetBehind s (e :: l) = forgetBehind _ l from rfl, ih, pad_updPad]
    have hset : pad (setO s 0x1C02 (e.1 + 1) (topOf e.2.behind)) = pad s := rfl
    simp only [hset, List.map_cons, List.mem_cons]
    by_cases he : e.1 = k
    · subst he
      by_cases hl : e.1 ∈ l.map (·.1)
      · rw [if_pos hl, if_pos rfl, if_pos (.inl rfl)]
        rfl
      · rw [if_neg hl, if_pos rfl, if_pos (.inl rfl)]
    · rw [if_neg he]
      simp only [Ne.symm he, false_or]

theorem find_not_listed {α : Type} {k : Nat} : ∀ {t : Tbl α}, k ∉ t.map (·.1) → Tbl.find t k = none
  | [], _ => rfl
  | (j, v) :: t, h => by
    rw [List.map_cons, List.mem_cons, not_or] at h
    rw [Tbl.find, if_neg (Ne.symm h.1)]
    exact find_not_listed h.2

theorem behind_forgetBehind (s : State) (k : Nat) : (pad (forgetBehind s s.pads) k).behind = [] := by
  rw [pad_forgetBehind]
  split
  · rfl
  · next h => rw [pad, Tbl.get, find_not_listed h]; rfl

/-- The snapshots of a period's end, and the usage records of resident contexts. -/
def snapshots (s : State) (stop : Nat) : State :=
  (notEmpty s).foldl (fun s p =>
    let s := formSnapshot s p false false (max stop (pad s p).periodStart)
    (pad s p).ctxs.foldl (fun s e => if e.2.slot.isSome then usageRecord s p e.1 2 else s) s) s

/-- The period that follows takes ACCT_PERIOD anew. -/
def nextPeriod (s : State) : State := { s with acct.estimated := false, acct.accPeriod := getO s 0x1C00 4 }

theorem doPeriodEnd_eq (s : State) : doPeriodEnd s = nextPeriod (forgetBehind (snapshots s (ns s / periodNs s * periodNs s))
    (snapshots s (ns s / periodNs s * periodNs s)).pads) := rfl

theorem pad_nextPeriod (s : State) (k : Nat) : pad (nextPeriod s) k = pad s k := rfl

theorem store_forgetBehind (s : State) (l : List (Nat × Paddock)) : (forgetBehind s l).store = s.store :=
  foldl_keeps State.store _ (by intros; rfl) l s

theorem snapshots_one {s : State} {p : Nat} (stop : Nat) (h : notEmpty s = [p]) (hst : s.sec.st ≠ 2) (hwork : s.store.work = [])
    (hslots : ∀ e ∈ (pad s p).ctxs, e.2.slot = none) : ∃ rcd, (snapshots s stop).store.work = [.snapshot p rcd] ∧
      (pad (snapshots s stop) p).snapSeq = (pad s p).snapSeq + 1 ∧ (pad (snapshots s stop) p).snapPrev = sha384 rcd := by
  obtain ⟨rcd, hform⟩ := formSnapshot_room (p := p) (stop := max stop (pad s p).periodStart) hst hwork
  have hpad : pad (formSnapshot s p false false (max stop (pad s p).periodStart)) p = { pad s p with
      snapSeq := (pad s p).snapSeq + 1, snapPrev := sha384 rcd, periodStart := max stop (pad s p).periodStart,
      allotAtPeriod := (pad s p).allotSeq } := by
    rw [hform, pad_of_pads (flash_pads _ _), pad_updPad, if_pos rfl]
    rfl
  have hall : snapshots s stop = formSnapshot s p false false (max stop (pad s p).periodStart) := by
    simp only [snapshots, h, List.foldl_cons, List.foldl_nil]
    exact foldl_usageRecord_none p _ (by rw [hpad]; exact hslots) _
  rw [hall]
  refine ⟨rcd, ?_, by rw [hpad], by rw [hpad]⟩
  rw [hform, flash, updPad_store]
  exact congrArg (· ++ _) hwork

/-! ### Publication (R481, R525) -/

theorem doSnapshotPublished_none {s : State} (h : s.acct.snapWork = []) : doSnapshotPublished s = s := by simp only [doSnapshotPublished, h]

theorem doSnapshotPublished_next {s : State} {p : Nat} {rcd : Bytes} {rest : List (Nat × Bytes)} (h : s.acct.snapWork = (p, rcd) :: rest) :
    doSnapshotPublished s = firePad (updPad { s with acct.snapWork := rest } p (fun d => { d with snap := rcd })) p 4 := by
  simp only [doSnapshotPublished, h]

section
variable {s : State} (hb : 2 ≤ s.sys.boot)
include hb

theorem exec_ledgerTick : exec .ledgerTick s = .next (settle (doLedgerTick s)) := ran_next hb

theorem exec_meterTick (e : List Nat) : exec (.meterTick e) s = .next (settle (doMeterTick s e)) := ran_next hb

theorem exec_periodEnd : exec .periodEnd s = .next (settle (doPeriodEnd s)) := ran_next hb

theorem exec_snapshotPublished : exec .snapshotPublished s = .next (settle (doSnapshotPublished s)) := ran_next hb

end

/-! ### The obligation -/

/-- Settles O46: what the rails, meters and sums of a tick write is the accounts, the paddocks and object values; a period's end
folds over the paddocks once for the snapshots and once for the interferers. -/
theorem accountingTicksAndPeriods : Obligations.AccountingTicksAndPeriods := by
  intro s hb
  refine ⟨exec_ledgerTick hb, fun e => ⟨_, (exec_meterTick hb e).trans (next_settle (doMeterTick_outcome s e)), ?_⟩,
    ⟨_, (exec_periodEnd hb).trans (next_settle (doPeriodEnd_eq s)), rfl, rfl, fun p => ?behind, fun p h hst hwork hslots => ?one⟩,
    fun h => (exec_snapshotPublished hb).trans (next_settle (doSnapshotPublished_none h)),
    fun p rcd rest h => ⟨_, (exec_snapshotPublished hb).trans (next_settle (doSnapshotPublished_next h)), ?shown⟩⟩
  case behind =>
    rw [pad_nextPeriod]
    exact behind_forgetBehind ..
  case one =>
    obtain ⟨rcd, hstore, hseq, hprev⟩ := snapshots_one (ns s / periodNs s * periodNs s) h hst hwork hslots
    rw [pad_nextPeriod, pad_forgetBehind]
    refine ⟨?_, rcd, (congrArg Store.work (store_forgetBehind _ _)).trans hstore, ?_⟩
    · split
      · exact hseq
      · exact hseq
    · split
      · exact hprev
      · exact hprev
  case shown =>
    rw [firePad, fire_acct, pad_of_pads (fire_pads _ _), pad_updPad, if_pos rfl, fire_occurs, Tbl.get_set_self]
    exact ⟨rfl, rfl, rfl, congrArg (fun t : State => { t with acct := s.acct, pads := s.pads })
      (fire_frame (updPad { s with acct.snapWork := rest } p (fun d => { d with snap := rcd })) (8 * p + 4))⟩
  generalize ht : summed (metered (rails s e).1) e (rails s e).2 = t
  have hacct := tick_acct s e
  have hframe := tick_unmetered s e s
  have hdevice (h : notEmpty s = []) : (rails s e).2 = (e.take 4).foldl (· + ·) 0 ∧ t.pads = s.pads := by
    rw [← ht, summed, rails_none h, metered_none h]
    exact ⟨rfl, rfl⟩
  rw [ht] at hacct hframe
  by_cases hbus : s.pow.sensorBus = 2
  · rw [meterOutcome, if_pos hbus, estimatedTick_acct, estimatedTick_pads, estimatedTick_cells, estimatedTick_cmd, hacct]
    exact ⟨rfl, fun h => ⟨by rw [(hdevice h).1], (hdevice h).2⟩, fun h => (h hbus).elim, fun _ => ⟨rfl,
      (congrArg (·.rick.cells) hframe :), (congrArg State.cmd hframe :)⟩⟩
  · rw [meterOutcome, if_neg hbus, setO_acct, setO_pads, hacct]
    exact ⟨rfl, fun h => ⟨by rw [(hdevice h).1], (hdevice h).2⟩, fun _ => ⟨getO_setO_same .., rfl, hframe⟩, fun h => (hbus h).elim⟩

end Sys2Proof.Machine
end

/-! # The sensor bus and the power cap -/

section
namespace Sys2Proof.Machine
open Sys2Proof

section
variable {s : State} (hb : 2 ≤ s.sys.boot)
include hb

theorem exec_sensorPoll (r : List (Nat × Nat × Nat)) (status : List (Nat × Nat)) :
    exec (.sensorPoll r status) s = .next (settle (doSensorPoll s r status)) := ran_next hb

theorem exec_sensorBusRecovery (high : Bool) : exec (.sensorBusRecovery high) s = .next (settle (doSensorBusRecovery s high)) := ran_next hb

theorem exec_sensorBusRetry (high : Bool) : exec (.sensorBusRetry high) s = .next (settle (doSensorBusRetry s high)) := ran_next hb

theorem exec_sensorBusPeriodicRecovery (high : Bool) :
    exec (.sensorBusPeriodicRecovery high) s = .next (settle (doSensorBusPeriodicRecovery s high)) := ran_next hb

theorem exec_capTick (mw : Nat) : exec (.capTick mw) s = .next (settle (doCapTick s mw)) := ran_next hb

end

/-! ### The sensor bus (R583, R584) -/

section
variable (s : State)

theorem doSensorPoll_kept {s : State} (h : s.pow.sensorBus = 0) (r : List (Nat × Nat × Nat)) (status : List (Nat × Nat)) :
    doSensorPoll s r status =
      status.foldl (fun s e => (setBits 16 e.2).foldl (fun s b => logDev s 0x0C0A 0 [e.1, b]) s) { s with pow.readings := r } := by
  simp [doSensorPoll, h]

/-- A change that may move the cap, of a state that it does not take from its bus. -/
theorem withCap_pow (f : State → State) : (withCap s f).pow = (f s).pow := by
  simp only [withCap]
  split
  · rfl
  · exact fire_pow _ _

theorem withCap_pads (f : State → State) : (withCap s f).pads = (f s).pads := by
  simp only [withCap]
  split
  · rfl
  · exact fire_pads _ _

theorem withCap_obj (f : State → State) : (withCap s f).obj = (f s).obj := by
  simp only [withCap]
  split
  · rfl
  · exact fire_obj _ _

theorem withCap_occurs (f : State → State) {k : Nat} (h : k ≠ 703) : Tbl.get (withCap s f).ev.occurs k = Tbl.get (f s).ev.occurs k := by
  simp only [withCap]
  split
  · rfl
  · rw [fire_occurs, Tbl.get_set_ne h.symm]

/-- The bus is given up or comes back: its new state, an entry and an event. -/
def busTurns (bus code sev : Nat) (facts : List Nat) (src : Nat) (s : State) : State :=
  fire (logDev { s with pow.sensorBus := bus, pow.sensorTries := 0 } code sev facts) src

variable (bus code sev : Nat) (facts : List Nat) {src : Nat}

theorem busTurns_pow : (withCap s (busTurns bus code sev facts src)).pow = { s.pow with sensorBus := bus, sensorTries := 0 } := by
  rw [withCap_pow, busTurns, fire_pow, logDev, geq_pow]

theorem busTurns_pads : (withCap s (busTurns bus code sev facts src)).pads = s.pads := by
  rw [withCap_pads, busTurns, fire_pads, logDev_pads]

theorem busTurns_occurs (h : src ≠ 703) (hdev : src ≠ 736) :
    Tbl.get (withCap s (busTurns bus code sev facts src)).ev.occurs src = (Tbl.get s.ev.occurs src + 1) % 65536 := by
  rw [withCap_occurs _ _ h, busTurns, fire_occurs, Tbl.get_set_self, logDev_occurs _ _ _ _ hdev]

theorem getO_busTurns {i sub : Nat} (hi : i < 0x4000) (hsub : sub < 256) :
    getO (withCap s (busTurns bus code sev facts src)) i sub = getO s i sub := by
  rw [getO_of_obj (withCap_obj ..), busTurns, getO_of_obj (fire_obj ..), getO_logDev _ _ _ _ hi hsub]
  rfl

end

theorem doSensorBusRetry_last {s : State} (hbus : s.pow.sensorBus = 1) (htries : 2 ≤ s.pow.sensorTries) :
    doSensorBusRetry s false = withCap s (busTurns 2 0x0C07 0 [] 701) := by
  simp only [doSensorBusRetry, hbus, ne_eq, not_true_eq_false, if_false, Bool.false_eq_true, if_neg (show ¬s.pow.sensorTries < 2 by omega)]
  rfl

theorem doSensorBusPeriodicRecovery_back {s : State} (hbus : s.pow.sensorBus = 2) :
    doSensorBusPeriodicRecovery s true = withCap s (busTurns 0 0x0C06 1 [s.pow.sensorTries + 1] 702) := by
  simp only [doSensorBusPeriodicRecovery, hbus, ne_eq, not_true_eq_false, if_false, if_true]
  rfl

/-! ### The cap (R589, R590) -/

/-- The ticks in a row that found the power above the cap at the lowest duty. -/
def missesAt (s : State) (mw : Nat) : Nat := if s.pow.duty = 0 && 1000 * capInForce s < mw then s.pow.capMisses + 1 else 0

/-- A tick keeps its reading and its misses, and logs the tenth. -/
def keepReading (s : State) (mw misses watts : Nat) : State :=
  if misses = 10 then logDev { s with pow.modulePower := mw, pow.capMisses := misses } 0x0C08 0 [mw, watts]
  else { s with pow.modulePower := mw, pow.capMisses := misses }

/-- The reading of a tick. -/
def capRead (s : State) (mw : Nat) : State := keepReading s mw (missesAt s mw) (1000 * capInForce s / 1000)

/-- Less work: the clock down to 1200 MHz, then the duty. -/
def slower (s : State) : State :=
  if 1200 < s.pow.freqMhz then { s with pow.freqMhz := max (s.pow.freqMhz - 100) 1200 } else { s with pow.duty := s.pow.duty - 1 }

/-- More work: the duty up to 16, then the clock. -/
def faster (s : State) : State :=
  if s.pow.duty < 16 then { s with pow.duty := s.pow.duty + 1 } else { s with pow.freqMhz := min (s.pow.freqMhz + 25) (getO s 0x1800 1) }

/-- The power manager's choice for a power and a cap in mW. -/
def capStep (s : State) (mw cap : Nat) : State :=
  if s.pow.brake.isSome || s.pow.st = 4 then s
  else if cap < mw || s.pow.throttle then slower s
  else if mw + 10000 < cap then faster s
  else s

theorem doCapTick_eq (s : State) (mw : Nat) : doCapTick s mw = capStep (capRead s mw) mw (1000 * capInForce s) := rfl

section
variable (s : State) (mw : Nat)

theorem capRead_pow : (capRead s mw).pow = { s.pow with modulePower := mw, capMisses := missesAt s mw } := by
  simp only [capRead, keepReading]
  split
  · rw [logDev, geq_pow]
  · rfl

theorem capRead_pads : (capRead s mw).pads = s.pads := by
  simp only [capRead, keepReading]
  split
  · exact logDev_pads ..
  · rfl

theorem capRead_cmd : (capRead s mw).cmd = s.cmd := by
  simp only [capRead, keepReading]
  split
  · rw [logDev, geq_cmd]
  · rfl

theorem getO_capRead : getO (capRead s mw) 0x1800 1 = getO s 0x1800 1 := by
  simp only [capRead, keepReading]
  split
  · rw [getO_logDev _ _ _ _ (by decide) (by decide)]
    rfl
  · rfl

variable (cap : Nat)

/-- The choice moves the clock and the duty alone. -/
theorem capStep_frame : { capStep s mw cap with pow.freqMhz := s.pow.freqMhz, pow.duty := s.pow.duty } = s := by
  simp only [capStep, slower, faster]
  repeat' split
  all_goals rfl

theorem capStep_held (h : s.pow.brake ≠ none ∨ s.pow.st = 4) : capStep s mw cap = s := by
  refine if_pos ?_
  obtain h | h := h
  · simp [Option.isSome_iff_ne_none.2 h]
  · simp [h]

variable {s mw cap}
variable (hbrake : s.pow.brake = none) (hst : s.pow.st ≠ 4)
include hbrake hst

theorem capStep_free : capStep s mw cap =
    if cap < mw || s.pow.throttle then slower s else if mw + 10000 < cap then faster s else s := by
  rw [capStep, if_neg (by simp [hbrake, hst])]

theorem capStep_over (h : cap < mw ∨ s.pow.throttle = true) : capStep s mw cap = slower s := by
  rw [capStep_free hbrake hst, if_pos (by simpa using h)]

theorem capStep_under (h : mw ≤ cap) (ht : s.pow.throttle = false) : capStep s mw cap = if mw + 10000 < cap then faster s else s := by
  rw [capStep_free hbrake hst, if_neg (by simpa [ht] using h)]

end

/-! ### The obligation -/

/-- Settles O56: the bus turns with one entry and one event; a tick reads the power, which leaves clock and duty, and then takes one of
the power manager's choices. -/
theorem sensorBusAndPowerCap : Obligations.SensorBusAndPowerCap := by
  intro s hb
  refine ⟨fun r status h => (exec_sensorPoll hb r status).trans (next_settle (if_pos h)),
    fun r h => ⟨(exec_sensorPoll hb r []).trans (next_settle (doSensorPoll_kept h r [])), fun a v b hv => ?bits⟩,
    (exec_sensorBusRecovery hb true).trans (next_settle (ite_self s)),
    fun h => (exec_sensorBusRecovery hb false).trans (next_settle (by simp [doSensorBusRecovery, h])),
    fun h => ⟨(exec_sensorBusRetry hb true).trans (next_settle (by simp [doSensorBusRetry, h])),
      fun ht => (exec_sensorBusRetry hb false).trans (next_settle (by simp [doSensorBusRetry, h, ht])),
      fun ht => ⟨_, (exec_sensorBusRetry hb false).trans (next_settle (doSensorBusRetry_last h ht)), ?failed⟩⟩,
    fun h => ⟨(exec_sensorBusPeriodicRecovery hb false).trans (next_settle (by simp [doSensorBusPeriodicRecovery, h])),
      _, (exec_sensorBusPeriodicRecovery hb true).trans (next_settle (doSensorBusPeriodicRecovery_back h)), ?back⟩,
    fun mw => ⟨_, (exec_capTick hb mw).trans (next_settle (doCapTick_eq s mw)), ?tick⟩⟩
  case bits =>
    refine (exec_sensorPoll hb r _).trans (next_settle ?_)
    rw [doSensorPoll_kept h, List.foldl_cons, hv]
    rfl
  case failed =>
    have hpow := busTurns_pow s 2 0x0C07 0 [] (src := 701)
    exact ⟨by rw [hpow], by rw [capInForce, hpow]; rfl, busTurns_occurs _ _ _ _ _ (by decide) (by decide), busTurns_pads ..⟩
  case back =>
    have hpow := busTurns_pow s 0 0x0C06 1 [s.pow.sensorTries + 1] (src := 702)
    exact ⟨by rw [hpow], by rw [capInForce, hpow]; exact getO_busTurns _ _ _ _ _ (by decide) (by decide),
      busTurns_occurs _ _ _ _ _ (by decide) (by decide), busTurns_pads ..⟩
  case tick =>
    have hpow := capRead_pow s mw
    have hpads := capRead_pads s mw
    have hcmd := capRead_cmd s mw
    have hget := getO_capRead s mw
    generalize capInForce s = c
    generalize capRead s mw = t at *
    have hfreq : t.pow.freqMhz = s.pow.freqMhz := by rw [hpow]
    have hduty : t.pow.duty = s.pow.duty := by rw [hpow]
    have hthrottle : t.pow.throttle = s.pow.throttle := by rw [hpow]
    have hbrake : t.pow.brake = s.pow.brake := by rw [hpow]
    have hst : t.pow.st = s.pow.st := by rw [hpow]
    have hframe := capStep_frame t mw (1000 * c)
    refine ⟨(congrArg (·.pow.modulePower) hframe :).trans (by rw [hpow]), (congrArg State.pads hframe :).trans hpads,
      (congrArg State.cmd hframe :).trans hcmd, fun h => ?_, fun hb hs => ⟨fun h => ?_, fun hle ht => ?_⟩⟩
    · rw [capStep_held _ _ _ (by rwa [hbrake, hst])]
      exact ⟨hfreq, hduty⟩
    · rw [capStep_over (hbrake.trans hb) (by rwa [hst]) (by rwa [hthrottle]), slower, ← hfreq, ← hduty]
      exact ⟨fun h => by simp [h], fun h => by simp [show ¬1200 < t.pow.freqMhz by omega]⟩
    · rw [capStep_under (hbrake.trans hb) (by rwa [hst]) hle (hthrottle.trans ht), faster, hget, ← hfreq, ← hduty]
      exact ⟨fun h hd => by simp [h, hd], fun h hd => by simp [h, show ¬t.pow.duty < 16 by omega], fun h => by
        simp [show ¬mw + 10000 < 1000 * c by omega]⟩

end Sys2Proof.Machine
end

/-! # Key envelopes -/

section
namespace Sys2Proof.Machine
open Sys2Proof

/-! ### Commands that carry keys -/

section
variable {s u : State} {via : Path} {tag : Tag} {c : Instr} {n code : Nat} {f : Facts} {data : Bytes}

/-- A command that leaves an accepted state with a status is answered there. -/
theorem answers_accepted {r : Req} {x : State × Option Nat} (hu : u.obj.serving = none)
    (hexec : exec c s = .next (settle (settled via r n x))) (hx : x = (accepted u via tag, some code)) : Answers c s u via r n code :=
  answers_of_settled (hexec.trans (by rw [hx])) (accepted_done u via tag hu)

theorem descOf_keyInstall : ∃ d, descOf 0x1D00 3 = some d ∧ octCmd d 240 1 = true := ⟨_, rfl, by decide⟩

theorem exec_keyInstall (hm : ManagerAsks s via) (tag : Tag) (f : Facts) (hlen : data.length = 240) :
    exec (.keyInstall via tag data f) s = .next (settle (settled via (writeReq tag 0x1D00 3 240) 240
      (doKeyInstall (accepted s via tag) data f))) := by
  have h := exec_device_oct (c := .keyInstall via tag data f) (tag := tag) (sub := 3) (f := f) (b := s.sys.bootFacts) (data := data) hm
    (by decide) (by rw [hlen]; exact descOf_keyInstall) rfl rfl
  rwa [hlen] at h

variable {p : PNum}

theorem descPad_paddockKeyInstall : ∃ d, descPad 0x70 2 = some d ∧ octCmd d 240 1 = true ∧ octCmd d 240 2 = true := ⟨_, rfl, by decide⟩

theorem exec_paddockKeyInstall (ho : OwnerAsks s p via) (tag : Tag) (f : Facts) (hlen : data.length = 240) :
    exec (.paddockKeyInstall via tag p data f) s = .next (settle (settled via (writeReq tag (pidx p.val 0x70) 2 240) 240
      (doPaddockKeyInstall (accepted s via tag) p.val data f))) := by
  have h := exec_pad_oct (c := .paddockKeyInstall via tag p data f) (tag := tag) (sub := 2) (f := f) (b := s.sys.bootFacts) (data := data) ho
    (off := 0x70) (by decide) (by rw [hlen]; exact descPad_paddockKeyInstall) rfl
  rwa [hlen] at h

end

/-! ### What an envelope comes to (R495, R498) -/

section
variable {s : State}

/-- A delivered key goes on to the secondary of a unit. -/
def sentOn (v p dest : Nat) (x : State × Nat) : State × Option Nat := (if x.2 = 0 then keyToPeer x.1 v p dest else x.1, some x.2)

/-- A half without its partner sends no key there. -/
theorem sentOn_alone {x : State × Nat} (h : x.1.pair.st = 0) (v p dest : Nat) : sentOn v p dest x = (x.1, some x.2) := by
  simp [sentOn, keyToPeer, paired, h]

theorem installLink_pair (e v : Nat) : (installLink s e v).1.pair = s.pair := by
  simp only [installLink]
  repeat' split
  all_goals rfl

theorem installTime_pair (e v : Nat) : (installTime s e v).1.pair = s.pair := by
  simp only [installTime]
  split <;> rfl

theorem installPad_pair (p e v : Nat) : (installPad s p e v).1.pair = s.pair := by
  simp only [installPad]
  repeat' split
  case h_2 => exact installLink_pair e v
  all_goals rfl

/-- The link key or the time key that the device's path delivers. -/
def delivered (s : State) (e v : Nat) : State × Nat := if eDest e = 2 then installLink s e v else installTime s e v

variable {data : Bytes} {f : Facts}

theorem doKeyInstall_refused {code : Nat}
    (h : envCheck s (beNat data) false (eDest (beNat data) = 2 || eDest (beNat data) = 5) (deviceNonce s) f = code) (hne : code ≠ 0) :
    doKeyInstall s data f = (newDeviceNonce s, some code) := by
  simp only [doKeyInstall, h, hne, ne_eq, not_false_eq_true, if_true]

theorem doKeyInstall_passed (h : envCheck s (beNat data) false (eDest (beNat data) = 2 || eDest (beNat data) = 5) (deviceNonce s) f = 0)
    (hp : s.pair.st = 0) {x : State × Nat} (hx : delivered (newDeviceNonce s) (beNat data) (unwrapped f) = x) :
    doKeyInstall s data f = (x.1, some x.2) := by
  have hpair : (delivered (newDeviceNonce s) (beNat data) (unwrapped f)).1.pair = s.pair := by
    rw [delivered]
    split
    · exact installLink_pair ..
    · exact installTime_pair ..
  have hdo : doKeyInstall s data f = sentOn (unwrapped f) 0 (eDest (beNat data)) (delivered (newDeviceNonce s) (beNat data) (unwrapped f)) :=
    if_neg (not_not.mpr h)
  rw [hdo, sentOn_alone (by rw [hpair, hp]), hx]

theorem doPaddockKeyInstall_refused {p code : Nat} (h : envCheck s (beNat data) true (padDest s p (beNat data)) (padNonce s p) f = code)
    (hne : code ≠ 0) : doPaddockKeyInstall s p data f = (newPadNonce s p, some code) := by
  simp only [doPaddockKeyInstall, h, hne, ne_eq, not_false_eq_true, if_true]

theorem doPaddockKeyInstall_passed {p : Nat} (h : envCheck s (beNat data) true (padDest s p (beNat data)) (padNonce s p) f = 0)
    (hp : s.pair.st = 0) {x : State × Nat} (hx : installPad (newPadNonce s p) p (beNat data) (unwrapped f) = x) :
    doPaddockKeyInstall s p data f = (x.1, some x.2) := by
  have hdo : doPaddockKeyInstall s p data f =
      sentOn (unwrapped f) p (eDest (beNat data)) (installPad (newPadNonce s p) p (beNat data) (unwrapped f)) :=
    if_neg (not_not.mpr h)
  rw [hdo, sentOn_alone (by rw [installPad_pair]; exact hp), hx]

end

section
variable {s : State} {e v : Nat}

theorem delivered_time (hd : eDest e = 5) (hn : eNext e = false) :
    delivered s e v = ({ s with ftm.key := { cur := some v, next := none, old := s.ftm.key.cur.map (fun c => (c, ns s)) } }, 0) := by
  simp [delivered, hd, installTime, keyInto, hn]

theorem delivered_time_next {c : Nat} (hd : eDest e = 5) (hn : eNext e = true) (hcur : s.ftm.key.cur = some c)
    (hs : ns s + 1000000 ≤ eSwitch e) : delivered s e v = ({ s with ftm.key := { s.ftm.key with next := some (v, eSwitch e) } }, 0) := by
  simp [delivered, hd, installTime, keyInto, hn, hcur, show ¬eSwitch e < ns s + 1000000 by omega]

theorem delivered_time_early (hd : eDest e = 5) (hn : eNext e = true) (h : s.ftm.key.cur = none ∨ eSwitch e < ns s + 1000000) :
    delivered s e v = (s, 0x0B07) := by
  have hcond : (decide (eSwitch e < ns s + 1000000) || s.ftm.key.cur.isNone) = true := by
    rw [Bool.or_eq_true, decide_eq_true_eq, Option.isNone_iff_eq_none]
    exact h.symm
  simp [delivered, hd, installTime, keyInto, hn, hcond]

theorem delivered_link_full (hd : eDest e = 2) (hn : eNext e = false) (hnew : Tbl.has s.net.linkKeys (eTag e) = false)
    (hfull : 64 ≤ s.net.linkKeys.length) : delivered s e v = (s, 0x0B05) := by
  simp [delivered, hd, installLink, hn, hnew, hfull]

/-- The link key of an envelope's tag, in place of the current one. -/
def linkKeyNow (s : State) (e v : Nat) : State :=
  { s with net.linkKeys := Tbl.set s.net.linkKeys (eTag e)
             { cur := some v, next := none, old := (Tbl.get s.net.linkKeys (eTag e)).cur.map (fun c => (c, ns s)) },
           net.keyWear := s.net.keyWear.filter (fun x => x.1 ≠ eTag e) }

theorem delivered_link (hd : eDest e = 2) (hn : eNext e = false)
    (hroom : Tbl.has s.net.linkKeys (eTag e) = true ∨ s.net.linkKeys.length < 64) : delivered s e v = (linkKeyNow s e v, 0) := by
  have hcond : (!Tbl.has s.net.linkKeys (eTag e) && decide (64 ≤ s.net.linkKeys.length)) = false := by
    rcases hroom with h | h
    · simp [h]
    · simp [h]
  simp [delivered, hd, installLink, keyInto, hn, hcond, linkKeyNow]

end

/-! ### The obligation -/

section
variable {s : State} {via : Path} {tag : Tag} {data : Bytes} {f : Facts} (hlen : data.length = 240)
include hlen

/-- An envelope through the device's path that passes its checks is answered with what its delivery comes to. -/
theorem answers_keyInstall (hm : ManagerAsks s via)
    (hcheck : envCheck s (beNat data) false (eDest (beNat data) = 2 || eDest (beNat data) = 5) (deviceNonce s) f = 0) (hp : s.pair.st = 0)
    {u : State} {code : Nat} (hu : u.obj = s.obj)
    (hx : delivered (newDeviceNonce (accepted s via tag)) (beNat data) (unwrapped f) = (accepted u via tag, code)) :
    Answers (.keyInstall via tag data f) s u via (writeReq tag 0x1D00 3 240) 240 code :=
  answers_accepted (by rw [hu]; exact serving_eq_none_of_manager hm) (exec_keyInstall hm tag f hlen)
    (doKeyInstall_passed (s := accepted s via tag) hcheck hp hx)

/-- The same through the path of a paddock. -/
theorem answers_paddockKeyInstall {p : PNum} (ho : OwnerAsks s p via)
    (hcheck : envCheck s (beNat data) true (padDest s p.val (beNat data)) (padNonce s p.val) f = 0) (hp : s.pair.st = 0)
    {u : State} {code : Nat} (hu : u.obj = s.obj)
    (hx : installPad (newPadNonce (accepted s via tag) p.val) p.val (beNat data) (unwrapped f) = (accepted u via tag, code)) :
    Answers (.paddockKeyInstall via tag p data f) s u via (writeReq tag (pidx p.val 0x70) 2 240) 240 code :=
  answers_accepted (by rw [hu]; exact serving_eq_none_of_owner ho) (exec_paddockKeyInstall ho tag f hlen)
    (doPaddockKeyInstall_passed (s := accepted s via tag) hcheck hp hx)

end

theorem sels_newPadNonce (s : State) (p : Nat) : pad (newPadNonce s p) p = { pad s p with nonceIx := (pad s p).nonceIx + 1 } := by
  rw [newPadNonce, pad_updPad, if_pos rfl]

/-- Settles O49: the nonce is replaced before the check's code is looked at; what passes is delivered by its DEST. -/
theorem envelopesDeliverKeys : Obligations.EnvelopesDeliverKeys := by
  rintro s via tag data f e hlen rfl
  refine ⟨fun hm => ⟨fun code hcode hne => ?refused, fun hcheck hp => ⟨fun hd hn => ?time, fun c hd hn hcur hs => ?timeNext,
      fun hd hn hearly => ?timeEarly, fun hd hn hnew hfull => ?linkFull, fun hd hn hroom => ?link⟩⟩,
    fun p ho => ⟨fun code hcode hne => ?padRefused, ?closed, fun hcheck hp => ⟨fun hd hst => ?selFull, fun hd hst => ?sel,
      fun hd h => ?h2d, fun hd h => ?d2h⟩⟩,
    fun hbroken hst => by simp [envCheck, hst, hbroken], fun hst => if_pos hst⟩
  case refused =>
    exact answers_accepted (u := newDeviceNonce s) (serving_eq_none_of_manager hm) (exec_keyInstall hm tag f hlen)
      (doKeyInstall_refused (s := accepted s via tag) hcode hne)
  case time => exact answers_keyInstall hlen hm hcheck hp rfl (delivered_time hd hn)
  case timeNext => exact answers_keyInstall hlen hm hcheck hp rfl (delivered_time_next (s := newDeviceNonce (accepted s via tag)) hd hn hcur hs)
  case timeEarly => exact answers_keyInstall hlen hm hcheck hp rfl (delivered_time_early (s := newDeviceNonce (accepted s via tag)) hd hn hearly)
  case linkFull =>
    exact answers_keyInstall hlen hm hcheck hp rfl (delivered_link_full (s := newDeviceNonce (accepted s via tag)) hd hn hnew hfull)
  case link =>
    refine ⟨linkKeyNow (newDeviceNonce s) (beNat data) (unwrapped f), answers_keyInstall hlen hm hcheck hp rfl
      (delivered_link (s := newDeviceNonce (accepted s via tag)) hd hn hroom), ?_, ?_, fun t ht => ?_, rfl⟩
    · rw [linkKeyNow, Tbl.get_set_self]
    · rw [linkKeyNow, Tbl.get_set_self]
    · exact Tbl.find_set_ne ht.symm _ _
  case padRefused =>
    exact answers_accepted (u := newPadNonce s p.val) (serving_eq_none_of_owner (s := s) ho) (exec_paddockKeyInstall ho tag f hlen)
      (doPaddockKeyInstall_refused (s := accepted s via tag) hcode hne)
  case closed => rintro (h | h) <;> simp [padDest, h]
  case selFull =>
    refine answers_paddockKeyInstall hlen ho hcheck hp (u := newPadNonce s p.val) rfl ?_
    have h : (Tbl.get (pad (newPadNonce (accepted s via tag) p.val) p.val).sels (eSlot (beNat data))).st ≠ 0 := by
      rw [sels_newPadNonce]
      exact hst
    simp only [installPad, hd, h, ne_eq, not_false_eq_true, if_true]
    rfl
  case sel =>
    refine answers_paddockKeyInstall hlen ho hcheck hp rfl ?_
    have h : (Tbl.get (pad (newPadNonce (accepted s via tag) p.val) p.val).sels (eSlot (beNat data))).st = 0 := by
      rw [sels_newPadNonce]
      exact hst
    simp only [installPad, hd, h, ne_eq, not_true_eq_false, if_false]
    rfl
  case h2d =>
    refine answers_paddockKeyInstall hlen ho hcheck hp rfl ?_
    have hnone : (pad (newPadNonce (accepted s via tag) p.val) p.val).bounceH2d = none := by
      rw [sels_newPadNonce]
      exact h
    simp only [installPad, hd, hnone]
    rfl
  case d2h =>
    refine answers_paddockKeyInstall hlen ho hcheck hp rfl ?_
    have hnone : (pad (newPadNonce (accepted s via tag) p.val) p.val).bounceD2h = none := by
      rw [sels_newPadNonce]
      exact h
    simp only [installPad, hd, hnone]
    rfl

end Sys2Proof.Machine
end

/-! # Sealed weights -/

section
namespace Sys2Proof.Machine
open Sys2Proof

/-- An entry of a paddock's view counts one occurrence of its error event. -/
theorem occurs_logPad (s : State) (p code sev : Nat) (facts : List Nat) :
    Tbl.get (logPad s p code sev facts).ev.occurs (8 * p + 2) = (Tbl.get s.ev.occurs (8 * p + 2) + 1) % 65536 := by
  simp only [logPad, geq, firePad]
  repeat' split
  all_goals simp_all [fire_occurs]

theorem sels_of_strip {d d' : Paddock} (h : strip d = strip d') : d.sels = d'.sels := (congrArg (·.sels) h :)

/-! ### The commands -/

theorem descPad_sealGrant : ∃ d, descPad 0x70 7 = some d ∧ octCmd d 336 1 = true ∧ octCmd d 336 2 = true := ⟨_, rfl, by decide⟩

theorem descPad_sealBind : ∃ d, descPad 0x70 8 = some d ∧ octCmd d 16 1 = true ∧ octCmd d 16 2 = true := ⟨_, rfl, by decide⟩

theorem descPad_sealLock : ∃ d, descPad 0x70 9 = some d ∧ numCmd d 1 1 = true ∧ numCmd d 1 2 = true ∧ d.lo = 1 ∧ d.hi = 63 :=
  ⟨_, rfl, by decide⟩

section
variable {s : State} {via : Path} {p : PNum} (ho : OwnerAsks s p via) (tag : Tag)
include ho

theorem exec_sealGrant {data : Bytes} (f : Facts) (hlen : data.length = 336) :
    exec (.sealGrant via tag p data f) s = .next (settle (settled via (writeReq tag (pidx p.val 0x70) 7 336) 336
      (doSealGrant (accepted s via tag) data f))) := by
  have h := exec_pad_oct (c := .sealGrant via tag p data f) (tag := tag) (sub := 7) (f := f) (b := s.sys.bootFacts) (data := data) ho
    (off := 0x70) (by decide) (by rw [hlen]; exact descPad_sealGrant) rfl
  rwa [hlen] at h

theorem exec_sealBind (arg : BitVec 128) : exec (.sealBind via tag p arg) s = .next (settle (settled via
    (writeReq tag (pidx p.val 0x70) 8 16) 16 (doSealBind (accepted s via tag) p.val arg.toNat))) := by
  have h := exec_pad_packed (n := 16) (v := arg.toNat) (tag := tag) (sub := 8) (f := {}) (b := s.sys.bootFacts)
    (c := .sealBind via tag p arg) ho (off := 0x70) (by decide) descPad_sealBind rfl
  exact h.trans (by rw [padWrite, beNat_beBytes (by exact arg.isLt)])

theorem exec_sealLock {v : BitVec 8} (hlo : 1 ≤ v.toNat) (hhi : v.toNat ≤ 63) : exec (.sealLock via tag p v) s =
    .next (settle (settled via (writeReq tag (pidx p.val 0x70) 9 1) 1 (doSealLock (accepted s via tag) p.val v.toNat via tag))) := by
  obtain ⟨d, hd, hk1, hk2, hl, hh⟩ := descPad_sealLock
  have h := exec_pad_num (n := 1) (v := v.toNat) (tag := tag) (sub := 9) (f := {}) (b := s.sys.bootFacts)
    (c := .sealLock via tag p v) ho (off := 0x70) (by decide) ⟨d, hd, hk1, hk2, by omega, by omega⟩ (by omega) rfl
  exact h.trans (by rw [padWrite, beNat_beBytes (by exact v.isLt)])

end

theorem descOf_sealRevoke : ∃ d, descOf 0x1D03 0 = some d ∧ numCmd d 8 1 = true ∧ d.lo = 0 ∧ d.hi = 2 ^ 64 - 1 := ⟨_, rfl, by decide⟩

theorem exec_sealRevoke {s : State} {via : Path} (hm : ManagerAsks s via) (tag : Tag) (v : BitVec 64) :
    exec (.sealRevoke via tag v) s = .next (settle (settled via (writeReq tag 0x1D03 0 8) 8 (doSealRevoke (accepted s via tag) v.toNat))) := by
  obtain ⟨d, hd, hk, hlo, hhi⟩ := descOf_sealRevoke
  have hv := v.isLt
  have hnat : beNat (beBytes 8 v.toNat) = v.toNat := beNat_beBytes (by omega)
  have h := exec_device_num (n := 8) (v := v.toNat) (tag := tag) (sub := 0) (f := {}) (b := s.sys.bootFacts)
    (c := .sealRevoke via tag v) hm (by decide) ⟨d, hd, hk, by omega, by omega⟩ (by omega) rfl rfl
  exact h.trans (by rw [deviceWrite, hnat])

section
variable {s : State} (hb : 2 ≤ s.sys.boot)
include hb

theorem exec_sealDigestDone (p : PNum) (sel : Fin 64) (digest : BitVec 384) :
    exec (.sealDigestDone p sel digest) s = .next (settle (doSealDigestDone s p.val sel.val digest.toNat)) := ran_next hb

theorem exec_sealLockTimeout (p : PNum) (sel : Fin 64) :
    exec (.sealLockTimeout p sel) s = .next (settle (doSealLockTimeout s p.val sel.val)) := ran_next hb

end

/-! ### Grants (R504) -/

section
variable {s : State} {data : Bytes} {f : Facts} (hg : grantBroken (beNat (data.take 96)) = false)
include hg

/-- The envelope of a grant is checked with the hash of its header as nonce. -/
def grantCheck (s : State) (data : Bytes) (f : Facts) : Nat :=
  envCheck s (beNat (data.drop 96)) false (eDest (beNat (data.drop 96)) = 6) (sha384 (data.take 96) / 2 ^ 128) f

omit hg in
theorem grantCheck_accepted (s : State) (via : Path) (tag : Tag) (data : Bytes) (f : Facts) :
    grantCheck (accepted s via tag) data f = grantCheck s data f := by
  simp only [grantCheck, envCheck]
  rfl

/-- A journaled grant of a set without one is kept. -/
def withGrant (s : State) (h key : Nat) : State :=
  { journal s 8 [0x1D02, gSet h, h] with sec.grants := (journal s 8 [0x1D02, gSet h, h]).sec.grants ++ [(gSet h, h, key)] }

section
omit hg
variable (s) (h key : Nat)

theorem withGrant_grants : (withGrant s h key).sec.grants = s.sec.grants ++ [(gSet h, h, key)] :=
  congrArg (fun x : Sec => x.grants ++ [(gSet h, h, key)]) (journal_sec s 8 [0x1D02, gSet h, h])

theorem withGrant_pads : (withGrant s h key).pads = s.pads := journal_pads s 8 [0x1D02, gSet h, h]

theorem withGrant_rick : (withGrant s h key).rick = s.rick := journal_rick s 8 [0x1D02, gSet h, h]

end

/-- A newer grant replaces the kept one, and one of a set without a grant is kept where there is room. -/
def keepGrant (s : State) (h key : Nat) : State × Option Nat :=
  match grantOf s (gSet h) with
  | some (old, _) =>
    if gVersion h ≤ gVersion old then (s, some 0x0B09)
    else ({ clearSet (journal s 8 [0x1D02, gSet h, h]) (gSet h) with
      sec.grants := (clearSet (journal s 8 [0x1D02, gSet h, h]) (gSet h)).sec.grants.map (fun g => if g.1 = gSet h then (gSet h, h, key) else g) },
      some 0)
  | none =>
    if 16 ≤ s.sec.grants.length then (s, some 0x0B09)
    else (withGrant s h key, some 0)

theorem doSealGrant_eq : doSealGrant s data f =
    if grantCheck s data f ≠ 0 then (s, some (grantCheck s data f)) else keepGrant s (beNat (data.take 96)) (unwrapped f) :=
  if_neg (by simp [hg])

theorem doSealGrant_refused {code : Nat} (h : grantCheck s data f = code) (hne : code ≠ 0) : doSealGrant s data f = (s, some code) := by
  rw [doSealGrant_eq hg, h, if_pos hne]

section
variable (h : grantCheck s data f = 0)
include h

theorem doSealGrant_passed : doSealGrant s data f = keepGrant s (beNat (data.take 96)) (unwrapped f) := by
  rw [doSealGrant_eq hg, if_neg (not_not.mpr h)]

theorem doSealGrant_older {old k : Nat} (hold : grantOf s (gSet (beNat (data.take 96))) = some (old, k))
    (hv : gVersion (beNat (data.take 96)) ≤ gVersion old) : doSealGrant s data f = (s, some 0x0B09) := by
  rw [doSealGrant_passed hg h]
  simp only [keepGrant, hold, hv, if_true]

variable (hnone : grantOf s (gSet (beNat (data.take 96))) = none)
include hnone

theorem doSealGrant_full (hfull : 16 ≤ s.sec.grants.length) : doSealGrant s data f = (s, some 0x0B09) := by
  rw [doSealGrant_passed hg h]
  simp only [keepGrant, hnone, hfull, if_true]

theorem doSealGrant_new (hroom : s.sec.grants.length < 16) : doSealGrant s data f =
    (withGrant s (beNat (data.take 96)) (unwrapped f), some 0) := by
  rw [doSealGrant_passed hg h]
  simp only [keepGrant, hnone, if_neg (show ¬16 ≤ s.sec.grants.length by omega)]

end

end

theorem grantOf_append {s u : State} {id h key : Nat} (hnone : grantOf s id = none)
    (hu : u.sec.grants = s.sec.grants ++ [(id, h, key)]) : grantOf u id = some (h, key) := by
  rw [grantOf, Option.map_eq_none_iff] at hnone
  simp [grantOf, hu, List.find?_append, hnone]

/-! ### Revocation (R519) -/

/-- No selector is bound: none is cleared. -/
theorem clearSet_unbound {s : State} (h : ∀ e ∈ s.pads, e.2.sels = []) (id : Nat) : clearSet s id = s := by
  rw [clearSet]
  generalize s.pads = l at h
  induction l with
  | nil => rfl
  | cons e l ih =>
    rw [List.foldl_cons, h e (.head _)]
    exact ih fun e he => h e (.tail _ he)

/-- The grant's end in the journal, where there is a grant. -/
def revoked (s : State) (id : Nat) : State := if (grantOf s id).isSome then journal s 8 [0x1D02, id, 0] else s

section
variable (s : State) (id : Nat)

theorem revoked_sec : (revoked s id).sec = s.sec := by
  simp only [revoked]
  split
  · exact journal_sec ..
  · rfl

theorem revoked_pads : (revoked s id).pads = s.pads := by
  simp only [revoked]
  split
  · exact journal_pads ..
  · rfl

/-- A state with the grants of a list. -/
def holding (s : State) (l : List (Nat × Nat × Nat)) : State := { s with sec.grants := l }

theorem doSealRevoke_unbound {s : State} (h : ∀ e ∈ s.pads, e.2.sels = []) :
    doSealRevoke s id = (holding (revoked s id) (s.sec.grants.filter (fun g => g.1 ≠ id)), some 0) := by
  have hclear : clearSet (revoked s id) id = revoked s id := clearSet_unbound (by rwa [revoked_pads]) id
  have hdo : doSealRevoke s id = (holding (clearSet (revoked s id) id) ((revoked s id).sec.grants.filter (fun g => g.1 ≠ id)), some 0) := rfl
  rw [hdo, hclear, revoked_sec]

theorem grants_of_none {s : State} {id : Nat} (h : grantOf s id = none) : s.sec.grants.filter (fun g => g.1 ≠ id) = s.sec.grants := by
  rw [grantOf, Option.map_eq_none_iff, List.find?_eq_none] at h
  rw [List.filter_eq_self]
  intro g hg
  simpa using h g hg

theorem grantOf_filter_same {u : State} (hu : u.sec.grants = s.sec.grants.filter (fun g => g.1 ≠ id)) : grantOf u id = none := by
  rw [grantOf, hu, Option.map_eq_none_iff, List.find?_eq_none]
  intro g hg
  simpa using (List.mem_filter.1 hg).2

theorem grantOf_filter_ne {u : State} (hu : u.sec.grants = s.sec.grants.filter (fun g => g.1 ≠ id)) {k : Nat} (hk : k ≠ id) :
    grantOf u k = grantOf s k := by
  rw [grantOf, hu, List.find?_filter, grantOf]
  congr 2
  funext g
  by_cases h : g.1 = k
  · simp [h, hk]
  · simp [h]

end

/-! ### Binding and locking (R505, R507) -/

section
variable {s : State} {p : Nat}

theorem doSealBind_ungranted {a : Nat} (h0 : bits a 57 0 = 0) (hk : bits a 63 58 ≠ 0) (hnone : grantOf s (bits a 127 64) = none) :
    doSealBind s p a = (s, some 0x0B09) := by
  simp [doSealBind, h0, hk, hnone]

section
variable {a h key : Nat} (h0 : bits a 57 0 = 0) (hk : bits a 63 58 ≠ 0) (hg : grantOf s (bits a 127 64) = some (h, key))
  (hmask : less (gMask h) (pad s p).granules = 0) (hconf : bit h 614 = false)
include h0 hk hg hmask hconf

theorem doSealBind_filled (hst : (Tbl.get (pad s p).sels (bits a 63 58)).st ≠ 0) : doSealBind s p a = (s, some 0x0B05) := by
  simp [doSealBind, h0, hk, hg, hmask, hconf, hst]

theorem doSealBind_empty (hst : (Tbl.get (pad s p).sels (bits a 63 58)).st = 0) : doSealBind s p a =
    (updPad s p (fun d => { d with sels := Tbl.set d.sels (bits a 63 58) { st := 2, key := key, set := bits a 127 64 } }), some 0) := by
  simp [doSealBind, h0, hk, hg, hmask, hconf, hst]

end

theorem doSealLock_refused {k : Nat} {path : Path} {tag : Tag}
    (h : (Tbl.get (pad s p).sels k).st ≠ 2 ∨ (Tbl.get (pad s p).sels k).locking = true) : doSealLock s p k path tag = (s, some 0x0B0A) := by
  rcases h with h | h
  · simp [doSealLock, h]
  · simp [doSealLock, h]

theorem doSealLock_begins {k : Nat} {path : Path} {tag : Tag} (hst : (Tbl.get (pad s p).sels k).st = 2)
    (hl : (Tbl.get (pad s p).sels k).locking = false) : doSealLock s p k path tag = (updPad s p (fun d => { d with
      sels := Tbl.set d.sels k { Tbl.get (pad s p).sels k with locking := true, lockTag := some (path, tag) } }), none) := by
  simp [doSealLock, hst, hl]

/-- A selector of a paddock after its lock has ended with a state. -/
def unlocked (s : State) (p k st : Nat) : State :=
  updPad s p (fun d => { d with sels := Tbl.set d.sels k { Tbl.get (pad s p).sels k with st := st, locking := false, lockTag := none } })

theorem endLock_eq {k : Nat} {path : Path} {tag : Tag} (h : (Tbl.get (pad s p).sels k).lockTag = some (path, tag)) (st code : Nat) :
    endLock s p k st code = respond (unlocked s p k st) path tag 2 (pidx p 0x70) 9 code [] := by
  simp only [endLock, h, unlocked]

theorem sels_unlocked (k st : Nat) : Tbl.get (pad (unlocked s p k st) p).sels k =
    { Tbl.get (pad s p).sels k with st := st, locking := false, lockTag := none } := by
  rw [unlocked, pad_updPad, if_pos rfl, Tbl.get_set_self]

section
variable {k : Nat}

theorem doSealDigestDone_busy (h : writersThrough s p k = true) (digest : Nat) : doSealDigestDone s p k digest = s := by
  simp [doSealDigestDone, h]

theorem doSealLockTimeout_busy (hl : (Tbl.get (pad s p).sels k).locking = true) (h : writersThrough s p k = true) :
    doSealLockTimeout s p k = endLock s p k 2 0x0B14 := by
  simp [doSealLockTimeout, hl, h]

variable (hl : (Tbl.get (pad s p).sels k).locking = true) (hw : writersThrough s p k = false)
  {h key : Nat} (hg : grantOf s (Tbl.get (pad s p).sels k).set = some (h, key))
include hl hw hg

theorem doSealDigestDone_match : doSealDigestDone s p k (gDigest h) = endLock s p k 3 0 := by
  simp [doSealDigestDone, hl, hw, hg]

theorem doSealDigestDone_differs {digest : Nat} (hd : gDigest h ≠ digest) :
    doSealDigestDone s p k digest = endLock (logPad s p 0x0B0B 2 [(Tbl.get (pad s p).sels k).set]) p k 2 0x0B0B := by
  simp [doSealDigestDone, hl, hw, hg, hd]

end

end

/-! ### The obligation -/

/-- Settles O51: each command by the cases of its checks; a lock that ends answers under the tag that began it. -/
theorem sealsAreGrantedBoundAndLocked : Obligations.SealsAreGrantedBoundAndLocked := by
  intro s via tag p
  refine ⟨?grant, ?bind, fun v ho hlo hhi => ⟨?locked, ?locks⟩, fun sel x path tag hb hx hl htag => ⟨fun hw digest h key hg => ⟨fun hd => ?same,
    fun hd => ?differs⟩, fun hw => ⟨fun digest => ?busy, ?timeout⟩⟩, fun v hm => ⟨fun hnone hsels => ?unknown, fun hsels => ?revoke⟩⟩
  case grant =>
    rintro data f h e nonce ho hlen rfl rfl rfl hg
    have hexec := exec_sealGrant ho tag f hlen
    have hserve := serving_eq_none_of_owner ho
    refine ⟨fun code hcode hne => ?_, fun hcode old k hold hv => ?_, fun hcode hnone hfull => ?_, fun hcode hnone hroom => ?_⟩
    · exact answers_accepted hserve hexec (doSealGrant_refused (s := accepted s via tag) hg ((grantCheck_accepted s via tag data f).trans hcode) hne)
    · exact answers_accepted hserve hexec (doSealGrant_older (s := accepted s via tag) hg ((grantCheck_accepted s via tag data f).trans hcode) hold hv)
    · exact answers_accepted hserve hexec (doSealGrant_full (s := accepted s via tag) hg ((grantCheck_accepted s via tag data f).trans hcode) hnone hfull)
    · rw [doSealGrant_new (s := accepted s via tag) hg ((grantCheck_accepted s via tag data f).trans hcode) hnone hroom] at hexec
      have hkept := withGrant_grants (accepted s via tag) (beNat (data.take 96)) (unwrapped f)
      have hpads := withGrant_pads (accepted s via tag) (beNat (data.take 96)) (unwrapped f)
      have hrick := withGrant_rick (accepted s via tag) (beNat (data.take 96)) (unwrapped f)
      exact ⟨_, answers_of_settled hexec rfl, hkept, grantOf_append hnone hkept, hpads, hrick⟩
  case bind =>
    rintro arg id k ho rfl rfl h0 hk
    have hexec := exec_sealBind ho tag arg
    have hserve := serving_eq_none_of_owner ho
    refine ⟨fun hnone => ?_, fun h key hg hmask hconf => ⟨fun hst => ?_, fun hst => ?_⟩⟩
    · exact answers_accepted hserve hexec (doSealBind_ungranted (s := accepted s via tag) h0 hk hnone)
    · exact answers_accepted hserve hexec (doSealBind_filled (s := accepted s via tag) h0 hk hg hmask hconf hst)
    · exact answers_accepted (u := updPad s p.val _) hserve hexec (doSealBind_empty (s := accepted s via tag) h0 hk hg hmask hconf hst)
  case locked =>
    rintro x rfl h
    exact answers_accepted (serving_eq_none_of_owner ho) (exec_sealLock ho tag hlo hhi) (doSealLock_refused (s := accepted s via tag) h)
  case locks =>
    rintro x rfl hst hl
    exact (exec_sealLock ho tag hlo hhi).trans (by rw [doSealLock_begins (s := accepted s via tag) hst hl]; rfl)
  case same =>
    subst hx
    rw [exec_sealDigestDone hb, ← hd, doSealDigestDone_match hl hw hg, endLock_eq htag]
    rfl
  case differs =>
    subst hx
    have hsels : (pad (logPad s p.val 0x0B0B 2 [(Tbl.get (pad s p.val).sels sel.val).set]) p.val).sels = (pad s p.val).sels :=
      sels_of_strip (strip_pad_logPad ..)
    refine ⟨_, (exec_sealDigestDone hb p sel digest).trans (next_settle
      ((doSealDigestDone_differs hl hw hg hd).trans (endLock_eq (by rw [hsels]; exact htag) _ _))), ?_, ?_⟩
    · rw [sels_unlocked, hsels]
    · exact occurs_logPad ..
  case busy => exact (exec_sealDigestDone hb p sel digest).trans (next_settle (doSealDigestDone_busy hw _))
  case timeout =>
    subst hx
    exact (exec_sealLockTimeout hb p sel).trans (next_settle ((doSealLockTimeout_busy hl hw).trans (endLock_eq htag _ _)))
  case unknown =>
    have hdo := doSealRevoke_unbound (s := accepted s via tag) v.toNat hsels
    have hrevoked : revoked (accepted s via tag) v.toNat = accepted s via tag := if_neg (by rw [Option.isSome_iff_ne_none]; exact not_not.mpr hnone)
    rw [hrevoked, grants_of_none (s := accepted s via tag) hnone] at hdo
    exact answers_accepted (serving_eq_none_of_manager hm) (exec_sealRevoke hm tag v) hdo
  case revoke =>
    have hexec := exec_sealRevoke hm tag v
    rw [doSealRevoke_unbound (s := accepted s via tag) v.toNat hsels] at hexec
    exact ⟨_, answers_of_settled hexec rfl, grantOf_filter_same s _ rfl, fun id hid => grantOf_filter_ne s _ rfl hid, revoked_pads ..⟩

end Sys2Proof.Machine
end

/-! # What commands that end leave of keys, islands and modules -/

section
namespace Sys2Proof.Machine
open Sys2Proof

/-- Whether a module of the Tenancy Port is up, its die, and whether it failed or is gated. -/
def linkState (k : TpModule) : Bool × Option Nat × Bool × Bool := (k.up, k.die, k.failed, k.gated)

/-- What the end of commands never changes besides what is `kept`: the settings and grants of SEC, the states of the islands and the
gated paddocks, link keys, manifests and the states of the modules. -/
def quiet (s : State) : Sec × Tbl Nat × Nat × Tbl LinkKey × Tbl Manifest × (Nat → Bool × Option Nat × Bool × Bool) :=
  ({ s.sec with sessions := [], spdm := [] }, s.flt.state, s.flt.gate, s.net.linkKeys, s.tp.manifests, fun n => linkState (tpm s n))

theorem quiet_of {s t : State} (hsec : t.sec = s.sec) (hflt : t.flt = s.flt) (hnet : t.net.linkKeys = s.net.linkKeys) (htp : t.tp = s.tp) :
    quiet t = quiet s := by
  simp only [quiet, tpm, hsec, hflt, hnet, htp]

theorem foldl_quiet {α : Type} {f : State → α → State} (h : ∀ s a, quiet (f s a) = quiet s) (l : List α) (s : State) :
    quiet (l.foldl f s) = quiet s := foldl_keeps quiet f h l s

/-- Outside these parts a state may change freely. -/
theorem quiet_with (s : State) {a b c d e f g h i j k l m n o} :
    quiet { s with out := a, fresh := b, cmd := c, log := d, host := e, obj := f, sheaf := g, rick := h, ev := i, sward := j, pads := k, acct := l,
                   store := m, sys := n, com := o } = quiet s := rfl

theorem linkKeys_updLink (s : State) (l : Nat) (f : Link → Link) : (updLink s l f).net.linkKeys = s.net.linkKeys := rfl

theorem updPad_quiet (s : State) (p : Nat) (f : Paddock → Paddock) : quiet (updPad s p f) = quiet s := quiet_of rfl rfl rfl rfl

theorem emit_quiet (s : State) (o : Out) : quiet (emit s o) = quiet s := quiet_of rfl rfl rfl rfl

theorem setO_quiet (s : State) (i k v : Nat) : quiet (setO s i k v) = quiet s := quiet_of rfl rfl rfl rfl

theorem addO_quiet (s : State) (i k n w : Nat) : quiet (addO s i k n w) = quiet s := quiet_of rfl rfl rfl rfl

theorem setP_quiet (s : State) (p o k v : Nat) : quiet (setP s p o k v) = quiet s := quiet_of rfl rfl rfl rfl

theorem bump_quiet (s : State) (p o r n : Nat) : quiet (bump s p o r n) = quiet s := quiet_of rfl rfl rfl rfl

theorem meter_quiet (s : State) (p r n : Nat) : quiet (meter s p r n) = quiet s := quiet_of rfl rfl rfl rfl

theorem fresh1_quiet (s : State) : quiet (fresh1 s) = quiet s := quiet_of rfl rfl rfl rfl

theorem updQp_quiet (s : State) (n : Nat) (f : Qp → Qp) : quiet (updQp s n f) = quiet s := quiet_of rfl rfl rfl rfl

theorem updLink_quiet (s : State) (l : Nat) (f : Link → Link) : quiet (updLink s l f) = quiet s := quiet_of rfl rfl rfl rfl

theorem fire_quiet (s : State) (n : Nat) : quiet (fire s n) = quiet s := quiet_of (fire_sec ..) (fire_flt ..) (by rw [fire_net]) (fire_tp ..)

theorem firePad_quiet (s : State) (p k : Nat) : quiet (firePad s p k) = quiet s := fire_quiet _ _

theorem geq_quiet (s : State) (e : Entry) : quiet (geq s e) = quiet s := quiet_of (geq_sec ..) (geq_flt ..) (by rw [geq_net]) (geq_tp ..)

theorem logPad_quiet (s : State) (p c v : Nat) (fs : List Nat) : quiet (logPad s p c v fs) = quiet s := geq_quiet _ _

theorem logDev_quiet (s : State) (c v : Nat) (fs : List Nat) : quiet (logDev s c v fs) = quiet s := geq_quiet _ _

theorem msix_quiet (s : State) (fn : Fn) (v : Nat) : quiet (msix s fn v) = quiet s :=
  quiet_of (msix_sec ..) (msix_flt ..) (by rw [msix_net]) (msix_tp ..)

theorem charge_quiet (s : State) (p c u : Nat) : quiet (charge s p c u) = quiet s :=
  quiet_of (charge_sec ..) (charge_flt ..) (by rw [charge_net]) (charge_tp ..)

theorem take_quiet (s : State) (p c u : Nat) : quiet (take s p c u) = quiet s :=
  quiet_of (take_sec ..) (take_flt ..) (by rw [take_net]) (take_tp ..)

theorem hostBytes_quiet (s : State) (p n : Nat) : quiet (hostBytes s p n) = quiet s :=
  quiet_of (hostBytes_sec ..) (hostBytes_flt ..) (by rw [hostBytes_net]) (hostBytes_tp ..)

theorem updCmd_quiet (s : State) (id : Nat) (f : Cmd → Cmd) : quiet (updCmd s id f) = quiet s :=
  quiet_of (updCmd_sec ..) (updCmd_flt ..) (by rw [updCmd_net]) (updCmd_tp ..)

theorem updFunc_quiet (s : State) (fn : Fn) (f : Func → Func) : quiet (updFunc s fn f) = quiet s := by
  cases fn <;> rfl

theorem stileDone_quiet (s : State) (fn : Fn) (b : Bytes) : quiet (stileDone s fn b) = quiet s := by
  simp only [stileDone]
  repeat' split
  all_goals simp only [msix_quiet, updFunc_quiet]

/-- An answer changes a session or a mailbox, which are no settings. -/
theorem sendResponse_quiet (s : State) (v : Path) (h : BitVec 128) (b : Bytes) : quiet (sendResponse s v h b) = quiet s := by
  cases v with
  | udp k =>
    simp only [sendResponse]
    split
    · rfl
    · split <;> rfl
  | pf =>
    simp only [sendResponse]
    split
    · exact stileDone_quiet ..
    · rfl
  | stile n =>
    simp only [sendResponse]
    split
    · exact stileDone_quiet ..
    · rfl
  | _ => rfl

theorem respond_quiet (s : State) (v : Path) (t : Tag) (o i u c : Nat) (b : Bytes) : quiet (respond s v t o i u c b) = quiet s := by
  simp only [respond, sendResponse_quiet]
  split <;> rfl

/-! ### Traffic -/

theorem waitBehind_quiet (p n : Nat) (s : State) (w : Nat) : quiet (waitBehind p n s w) = quiet s := quiet_of rfl rfl rfl rfl

theorem putFrame_quiet (s : State) (l i : Nat) : quiet (putFrame s l i) = quiet s := by
  have hwait := fun p n => foldl_quiet (waitBehind_quiet p n)
  simp only [putFrame]
  repeat' split
  all_goals simp only [meter_quiet, updPad_quiet, charge_quiet, take_quiet, setO_quiet, emit_quiet, updLink_quiet, hwait]

theorem drainLink_quiet (l n : Nat) (s : State) : quiet (drainLink l n s) = quiet s := by
  induction n generalizing s with
  | zero => rfl
  | succ n ih =>
    simp only [drainLink]
    split
    · rfl
    · rw [ih, putFrame_quiet]

theorem activate_quiet (s : State) (p : Nat) : quiet (activate s p) = quiet s :=
  quiet_of (activate_sec ..) (activate_flt ..) (by rw [activate_net]) (activate_tp ..)

theorem toLink_quiet (s : State) (l vc pool p : Nat) (k : Packet) : quiet (toLink s l vc pool p k) = quiet s := by
  simp only [toLink]
  repeat' split
  all_goals simp only [drainLink_quiet, updLink_quiet, activate_quiet]

theorem wear_quiet (s : State) (t q p : Nat) : quiet (wear s t q p) = quiet s := by
  simp only [wear]
  split
  · rw [fire_quiet, logDev_quiet]; rfl
  · rfl

theorem sendOn_quiet (s : State) (p q l h : Nat) (b : Bytes) (d : Bool) : quiet (sendOn s p q l h b d) = quiet s := by
  simp only [sendOn]
  split
  · rfl
  · split
    · rfl
    · rw [toLink_quiet, wear_quiet]; rfl

/-- A module that keeps what it is may send. -/
theorem updTpm_quiet {f : TpModule → TpModule} (hf : ∀ k, linkState (f k) = linkState k) (s : State) (m : Nat) :
    quiet (updTpm s m f) = quiet s := by
  have hall : (fun n => linkState (tpm (updTpm s m f) n)) = fun n => linkState (tpm s n) := by
    funext n
    rw [tpm, updTpm]
    by_cases h : m = n
    · subst h; simp only [Tbl.get_upd_self, hf, tpm]
    · simp only [Tbl.get_upd_ne h, tpm]
  simp only [quiet, hall]
  rfl

theorem sendTp_quiet (s : State) (m p : Nat) (h : BitVec 256) (b : Bytes) : quiet (sendTp s m p h b) = quiet s := by
  rw [sendTp, meter_quiet, emit_quiet, charge_quiet]
  refine updTpm_quiet (fun k => ?_) s m
  rfl

theorem issueTp_quiet (s : State) (o : TpOut) (a : Nat) (b : Bytes) : quiet (issueTp s o a b) = quiet s := by
  simp only [issueTp]
  split
  · rfl
  · rw [sendTp_quiet]; rfl

/-! ### Memory -/

theorem rekeyLine_quiet (s : State) (k l : Nat) : quiet (rekeyLine s k l) = quiet s := by
  simp only [rekeyLine]
  repeat' split
  all_goals simp only [quiet_with]

theorem rickWrite_quiet (s : State) (k a : Nat) (b : Bytes) : quiet (rickWrite s k a b) = quiet s := by
  simp only [rickWrite]
  split
  · rfl
  · have hlines := foldl_quiet (fun s l => rekeyLine_quiet s k l)
    simp only [chargeRick, addO_quiet, quiet_with, hlines]

theorem rickZero_quiet (s : State) (a n : Nat) : quiet (rickZero s a n) = quiet s := rfl

theorem putPte_quiet (s : State) (a v : Nat) : quiet (putPte s a v) = quiet s := rickWrite_quiet _ _ _ _

theorem writePlace_quiet (s : State) (p : Nat) (pl : Place) (b : Bytes) : quiet (writePlace s p pl b) = quiet s := by
  simp only [writePlace]
  repeat' split
  all_goals simp only [rickWrite_quiet, emit_quiet]

theorem takeWinPage_quiet (s : State) (p k : Nat) : quiet (takeWinPage s p k) = quiet s := by
  simp only [takeWinPage]
  split <;> rfl

theorem needL0_quiet (s : State) (p va : Nat) : quiet (needL0 s p va) = quiet s := by
  simp only [needL0]
  repeat' split
  all_goals simp only [takeWinPage_quiet, putPte_quiet]

theorem mapPage_quiet (p z : Nat) (s : State) (e : Nat × Nat) : quiet (mapPage p z s e) = quiet s := by
  have hput := foldl_quiet (fun (s : State) (x : Nat × Nat) => putPte_quiet s x.1 x.2)
  simp only [mapPage]
  split <;> simp only [hput, needL0_quiet]

theorem mapAlloc_quiet (s : State) (p : Nat) (a : Allocation) : quiet (mapAlloc s p a) = quiet s := by
  have hpage := foldl_quiet (fun (s : State) (e : Nat × Nat) => mapPage_quiet p a.psize s e)
  simp only [mapAlloc, setMapped, updPad_quiet, hpage]

theorem trimL0_quiet (s : State) (p : Nat) : quiet (trimL0 s p) = quiet s := by
  simp only [trimL0, updPad_quiet]
  exact foldl_quiet (fun s a => by split <;> simp only [putPte_quiet]) _ _

theorem dropAlloc_quiet (s : State) (p va : Nat) : quiet (dropAlloc s p va) = quiet s := by
  simp only [dropAlloc, trimL0_quiet, updPad_quiet]

theorem freeFill_quiet (s : State) (r : Nat × Nat) : quiet (freeFill s r) = quiet s := by
  simp only [freeFill, rickWrite_quiet, fresh1_quiet]

theorem hostPut_quiet (s : State) (p a : Nat) (b : Bytes) : quiet (hostPut s p a b) = quiet s := by
  simp only [hostPut]
  repeat' split
  all_goals simp only [hostBytes_quiet, emit_quiet, updPad_quiet]

theorem putPlace_quiet (s : State) (p : Nat) (pl : Place) (b : Bytes) : quiet (putPlace s p pl b) = quiet s := by
  cases pl <;> simp only [putPlace, charge_quiet, writePlace_quiet, hostPut_quiet]
  exact foldl_quiet (fun s _ => issueTp_quiet s _ _ _) _ _

theorem putPlaces_quiet (s : State) (p : Nat) (pls : List (Place × Nat)) (b : Bytes) : quiet (putPlaces s p pls b) = quiet s :=
  foldl_keeps (fun a : State × Bytes => quiet a.1) _ (fun a e => putPlace_quiet a.1 p e.1 _) pls (s, b)

theorem ringPut_quiet {s t : State} {p b l h n : Nat} {r : Bytes} (e : ringPut s p b l h n r = some t) : quiet t = quiet s := by
  simp only [ringPut] at e
  repeat' split at e
  all_goals cases e
  exact putPlaces_quiet ..

/-! ### Records -/

theorem traceAppend_quiet (s : State) (p : Nat) (r : Bytes) : quiet (traceAppend s p r).1 = quiet s := by
  simp only [traceAppend]
  repeat' split
  all_goals rfl

theorem putTrace_quiet (s : State) (p : Nat) (r : Bytes) : quiet (putTrace s p r) = quiet s := by
  simp only [putTrace]
  repeat' split
  all_goals simp only [charge_quiet, logPad_quiet, bump_quiet, updPad_quiet, traceAppend_quiet]

theorem traceCmd_quiet (s : State) (c : Cmd) (k st : Nat) : quiet (traceCmd s c k st) = quiet s := by
  simp only [traceCmd]
  split
  · exact putTrace_quiet ..
  · rfl

theorem updCtx_quiet (s : State) (p c : Nat) (f : Ctx → Ctx) : quiet (updCtx s p c f) = quiet s := rfl

theorem usageRecord_quiet (s : State) (p c r : Nat) : quiet (usageRecord s p c r) = quiet s := by
  simp only [usageRecord]
  split
  · rfl
  · split
    · rfl
    · split
      · rw [addO_quiet]
      · next t e => rw [updCtx_quiet, updPad_quiet, ringPut_quiet e]

theorem writeRecord_quiet (s : State) (p n : Nat) (q : Queue) (pls : List (Place × Nat)) (r : Nat) (i : Bool) :
    quiet (writeRecord s p n q pls r i) = quiet s := by
  simp only [writeRecord]
  split
  · rw [msix_quiet]; exact putPlaces_quiet ..
  · exact putPlaces_quiet ..

/-! ### Contexts and commands -/

theorem updQueue_quiet (s : State) (p q : Nat) (f : Queue → Queue) : quiet (updQueue s p q f) = quiet s := rfl

theorem advanceEpoch_quiet (s : State) (p c : Nat) : quiet (advanceEpoch s p c) = quiet s := rfl

theorem progress_quiet (s : State) (p c : Nat) : quiet (progress s p c) = quiet s := rfl

theorem endEntry_quiet (s : State) (p q e : Nat) : quiet (endEntry s p q e) = quiet s := rfl

theorem exclEnd_quiet (s : State) (p id : Nat) : quiet (exclEnd s p id) = quiet s := rfl

theorem unbind_quiet (s : State) (c : Cmd) : quiet (unbind s c) = quiet s := rfl

theorem freeSlot_quiet (s : State) (p c : Nat) : quiet (freeSlot s p c) = quiet s := by
  simp only [freeSlot]
  repeat' split
  all_goals simp only [updCtx_quiet, usageRecord_quiet]

theorem detachCmd_quiet (s : State) (id : Nat) : quiet (detachCmd s id) = quiet s :=
  foldl_quiet (fun s (e : Nat × TpOut) => by split <;> simp only [sendTp_quiet]) _ s

theorem abortMsgs_quiet (s : State) (id : Nat) : quiet (abortMsgs s id) = quiet s := by
  simp only [abortMsgs]
  exact foldl_quiet (fun s e => foldl_quiet (fun s m => by rw [sendOn_quiet, updQp_quiet]) _ _) _ _

theorem undoAlloc_quiet (s : State) (c : Cmd) : quiet (undoAlloc s c) = quiet s := by
  have hdrop : quiet (c.effects.foldl (fun s e => match e with | .addAlloc va _ => dropAlloc s c.p va | _ => s) s) = quiet s :=
    foldl_quiet (fun s e => by cases e <;> simp only [dropAlloc_quiet]) _ s
  simp only [undoAlloc]
  split
  · exact hdrop
  · split
    · exact (mapAlloc_quiet ..).trans hdrop
    · exact hdrop

theorem killCmd_quiet (s : State) (id : Nat) : quiet (killCmd s id) = quiet s := by
  simp only [killCmd]
  split
  · rfl
  · rw [quiet_with, meter_quiet, traceCmd_quiet, exclEnd_quiet, unbind_quiet, undoAlloc_quiet, abortMsgs_quiet, detachCmd_quiet]

theorem clearCkpts_quiet (s : State) (p c : Nat) (f : Ckpt → Bool) : quiet (clearCkpts s p c f) = quiet s := by
  simp only [clearCkpts]
  split
  · rfl
  · rw [updCtx_quiet]
    exact foldl_quiet (fun s k => by split <;> simp only [putPlaces_quiet]) _ _

theorem removeCtx_quiet (s : State) (p c : Nat) : quiet (removeCtx s p c) = quiet s := by
  rw [removeCtx, updPad_quiet, updPad_quiet, usageRecord_quiet]

theorem idleCheck_quiet (s : State) (p c : Nat) : quiet (idleCheck s p c) = quiet s := by
  simp only [idleCheck]
  repeat' split
  all_goals simp only [respond_quiet, removeCtx_quiet, updCtx_quiet]

theorem queueCheck_quiet (s : State) (p q : Nat) : quiet (queueCheck s p q) = quiet s := by
  simp only [queueCheck]
  repeat' split
  all_goals simp only [respond_quiet, updPad_quiet]

theorem afterEnd_quiet (s : State) (p c q : Nat) : quiet (afterEnd s p c q) = quiet s := by
  simp only [afterEnd, queueCheck_quiet, idleCheck_quiet]
  repeat' split
  all_goals simp only [freeSlot_quiet, advanceEpoch_quiet]

theorem applyEffect_quiet (p : Nat) (s : State) (e : Effect) : quiet (applyEffect p s e) = quiet s := by
  have hzero := fun (n : Nat) => foldl_quiet (fun (s : State) (f : Nat) => rickZero_quiet s f n)
  cases e <;> simp only [applyEffect, putPlace_quiet, putPlaces_quiet, dropAlloc_quiet]
  split
  · rfl
  · split <;> simp only [mapAlloc_quiet, hzero]

theorem releaseRerun_quiet (s : State) (id : Nat) : quiet (releaseRerun s id) = quiet s := rfl

theorem releaseCycle_quiet (s : State) (id : Nat) : quiet (releaseCycle s id) = quiet s := by
  simp only [releaseCycle]
  exact foldl_quiet (fun s (w : Nat × List Nat) => releaseRerun_quiet s w.1) _ _

theorem commitNow_quiet (s : State) (id : Nat) (c : Cmd) (pls : List (Place × Nat)) : quiet (commitNow s id c pls) = quiet s := by
  have heffects := foldl_quiet (applyEffect_quiet c.p)
  have hholds := foldl_quiet freeFill_quiet
  simp only [commitNow]
  split
  · rfl
  · simp only [afterEnd_quiet, writeRecord_quiet, progress_quiet, endEntry_quiet, clearCkpts_quiet]
    repeat' split
    all_goals simp only [meter_quiet, updQueue_quiet, bump_quiet, traceCmd_quiet, exclEnd_quiet, unbind_quiet, heffects, hholds,
      releaseCycle_quiet]
    all_goals rfl

theorem failQuiet_quiet (s : State) (id k : Nat) : quiet (failQuiet s id k) = quiet s := by
  simp only [failQuiet]
  repeat' split
  all_goals simp only [updCmd_quiet, commitNow_quiet, quiet_with, undoAlloc_quiet, abortMsgs_quiet, detachCmd_quiet]

theorem stopCmdWith_quiet (s : State) (y : Stop) (id : Nat) : quiet (stopCmdWith failQuiet y s id) = quiet s := by
  simp only [stopCmdWith]
  repeat' split
  all_goals simp only [failQuiet_quiet, updCmd_quiet, killCmd_quiet]

theorem stopCtx_quiet (s : State) (p c : Nat) (y : Stop) (nxt : CState) : quiet (stopCtx s p c y nxt) = quiet s := by
  have hstop := foldl_quiet (fun (s : State) id => stopCmdWith_quiet s y id)
  simp only [stopCtx]
  repeat' split
  all_goals simp only [updCtx_quiet, freeSlot_quiet, advanceEpoch_quiet, hstop]

/-! ### Faults -/

theorem qpDead_quiet (s : State) (q code : Nat) : quiet (qpDead s q code) = quiet s := rfl

theorem faultQps_quiet (s : State) (p code : Nat) : quiet (faultQps s p code) = quiet s :=
  foldl_quiet (fun s (e : Nat × Qp) => qpDead_quiet s e.1 code) _ s

theorem setPState_quiet (s : State) (p : Nat) (st : PState) : quiet (setPState s p st) = quiet s := by
  rw [setPState, firePad_quiet, updPad_quiet]

theorem endPend_quiet (s : State) (p code : Nat) : quiet (endPend s p code) = quiet s := by
  simp only [endPend]
  split
  · rfl
  · rw [logPad_quiet, updPad_quiet]

theorem killAll_quiet (s : State) (p : Nat) : quiet (killAll s p) = quiet s := by
  simp only [killAll]
  split
  · exact foldl_quiet (fun s e => by rw [updCtx_quiet]; exact foldl_quiet (fun s id => updCmd_quiet ..) _ s) _ s
  · exact foldl_quiet (fun s e => stopCtx_quiet ..) _ s

theorem enterFaulted_quiet (s : State) (p code : Nat) : quiet (enterFaulted s p code) = quiet s := by
  rw [enterFaulted, setPState_quiet, updPad_quiet]
  split
  · exact endPend_quiet ..
  · rfl

theorem paddockFault_quiet (s : State) (p code : Nat) : quiet (paddockFault s p code) = quiet s := by
  by_cases hf : (pad s p).state = .faulted
  · rw [paddockFault_faulted hf]
    split
    · rw [endPend_quiet, logPad_quiet]
    · exact logPad_quiet ..
  · by_cases he : (pad s p).state = .empty ∧ (pad s p).pend = none
    · rw [paddockFault_empty he.1 he.2, logPad_quiet]
    · rw [paddockFault_enters hf he, logPad_quiet, faultQps_quiet, killAll_quiet, enterFaulted_quiet]

theorem faultPads_quiet (s : State) (ps : List Nat) (code : Nat) : quiet (faultPads s ps code) = quiet s :=
  foldl_quiet (fun s p => paddockFault_quiet s p code) ps s

end Sys2Proof.Machine
end

/-! # Keys that are cleared, and settings that only rise -/

section
namespace Sys2Proof.Machine
open Sys2Proof

/-! ### Faults of several paddocks (R51, R503) -/

/-- What the fault of a paddock leaves of each: no more than its state, its cause and its pending command change. -/
def unfaulted (d : Paddock) : Paddock := { strip d with state := .empty, cause := 0, pend := none, result := 0 }

theorem unfaulted_of_strip {d d' : Paddock} (h : strip d = strip d') : unfaulted d = unfaulted d' := by
  rw [unfaulted, h, unfaulted]

section
variable {s : State} {p : Nat} (code : Nat)

/-- A paddock that is FAULTED already stays as it was, but for its pending command. -/
theorem pad_paddockFault_faulted (h : (pad s p).state = .faulted) (k : Nat) :
    strip (pad (paddockFault s p code) k) =
      if k = p ∧ (pad s p).pend.isSome then { strip (pad s p) with pend := none, result := 0x0204 } else strip (pad s k) := by
  rw [paddockFault_faulted h]
  by_cases hp : (pad s p).pend.isSome = true
  · rw [if_pos hp, strip_pad_endPend, strip_pad_logPad, strip_pad_logPad]
    by_cases hk : k = p
    · rw [if_pos hk, if_pos ⟨hk, hp⟩]
    · rw [if_neg hk, if_neg (fun h => hk h.1)]
  · rw [if_neg hp, strip_pad_logPad, if_neg (fun h => hp h.2)]

theorem unfaulted_paddockFault (s : State) (p k : Nat) : unfaulted (pad (paddockFault s p code) k) = unfaulted (pad s k) := by
  by_cases hk : k = p
  · subst hk
    by_cases hf : (pad s k).state = .faulted
    · rw [unfaulted, pad_paddockFault_faulted code hf]
      split <;> rfl
    · by_cases he : (pad s k).state = .empty ∧ (pad s k).pend = none
      · exact unfaulted_of_strip (by rw [paddockFault_empty he.1 he.2, strip_pad_logPad])
      · rw [unfaulted, strip_pad_enters code k hf he, if_pos rfl]
        rfl
  · exact unfaulted_of_strip (strip_pad_paddockFault_ne s code hk)

theorem unfaulted_faultPads (ps : List Nat) (s : State) (k : Nat) : unfaulted (pad (faultPads s ps code) k) = unfaulted (pad s k) :=
  foldl_keeps (fun s => unfaulted (pad s k)) _ (fun s p => unfaulted_paddockFault code s p k) ps s

theorem state_of_strip {d d' : Paddock} (h : strip d = strip d') : d.state = d'.state := (congrArg (·.state) h :)

theorem cause_of_strip {d d' : Paddock} (h : strip d = strip d') : d.cause = d'.cause := (congrArg (·.cause) h :)

theorem pend_of_strip {d d' : Paddock} (h : strip d = strip d') : d.pend = d'.pend := (congrArg (·.pend) h :)

/-- A fault of any paddock leaves one that is FAULTED in FAULTED, with its cause. -/
theorem faulted_paddockFault {k : Nat} (h : (pad s k).state = .faulted) (p : Nat) :
    (pad (paddockFault s p code) k).state = .faulted ∧ (pad (paddockFault s p code) k).cause = (pad s k).cause := by
  by_cases hk : k = p
  · subst hk
    have hstrip := pad_paddockFault_faulted code h k
    split at hstrip
    · exact ⟨(congrArg (·.state) hstrip :).trans h, (congrArg (·.cause) hstrip :)⟩
    · exact ⟨(state_of_strip hstrip).trans h, cause_of_strip hstrip⟩
  · have hstrip := strip_pad_paddockFault_ne s code hk
    exact ⟨(state_of_strip hstrip).trans h, cause_of_strip hstrip⟩

theorem faulted_faultPads {k : Nat} (ps : List Nat) {s : State} (h : (pad s k).state = .faulted) :
    (pad (faultPads s ps code) k).state = .faulted ∧ (pad (faultPads s ps code) k).cause = (pad s k).cause := by
  induction ps generalizing s with
  | nil => exact ⟨h, rfl⟩
  | cons p ps ih =>
    obtain ⟨hst, hcause⟩ := faulted_paddockFault code h p
    obtain ⟨hst', hcause'⟩ := ih hst
    exact ⟨hst', hcause'.trans hcause⟩

/-- Every listed paddock that is not EMPTY is FAULTED with the cause, unless it was before. -/
theorem faultPads_hits {k : Nat} {ps : List Nat} {s : State} (hk : k ∈ ps) (hne : (pad s k).state ≠ .empty) :
    (pad (faultPads s ps code) k).state = .faulted ∧ ((pad s k).state ≠ .faulted → (pad (faultPads s ps code) k).cause = code) := by
  induction ps generalizing s with
  | nil => cases hk
  | cons p ps ih =>
    by_cases hf : (pad s k).state = .faulted
    · exact ⟨(faulted_faultPads code (p :: ps) hf).1, fun h => (h hf).elim⟩
    · by_cases hkp : k = p
      · subst hkp
        obtain ⟨hst, hcause, _⟩ := pad_enters code hf (fun h => hne h.1)
        obtain ⟨hst', hcause'⟩ := faulted_faultPads code ps hst
        exact ⟨hst', fun _ => hcause'.trans hcause⟩
      · have hstrip := strip_pad_paddockFault_ne s (p := p) code hkp
        have hmem : k ∈ ps := (List.mem_cons.1 hk).resolve_left hkp
        obtain ⟨hst, hcause⟩ := ih (s := paddockFault s p code) hmem (by rwa [state_of_strip hstrip])
        exact ⟨hst, fun h => hcause (by rwa [state_of_strip hstrip])⟩

/-- A paddock that is EMPTY without a pending command stays so. -/
theorem empty_faultPads {k : Nat} (ps : List Nat) {s : State} (he : (pad s k).state = .empty) (hp : (pad s k).pend = none) :
    (pad (faultPads s ps code) k).state = .empty := by
  induction ps generalizing s with
  | nil => exact he
  | cons p ps ih =>
    have hstrip : strip (pad (paddockFault s p code) k) = strip (pad s k) := by
      by_cases hk : k = p
      · subst hk; rw [paddockFault_empty he hp, strip_pad_logPad]
      · exact strip_pad_paddockFault_ne s code hk
    exact ih (s := paddockFault s p code) (by rwa [state_of_strip hstrip]) (by rwa [pend_of_strip hstrip])

end

/-- A paddock that is not EMPTY is listed. -/
theorem mem_pads_of_state {s : State} {p : Nat} (h : (pad s p).state ≠ .empty) : (p, pad s p) ∈ s.pads := by
  have hfind : ∃ d, Tbl.find s.pads p = some d := by
    cases hf : Tbl.find s.pads p with
    | none => exact (h (by rw [pad, Tbl.get, hf]; rfl)).elim
    | some d => exact ⟨d, rfl⟩
  obtain ⟨d, hd⟩ := hfind
  have hpad : pad s p = d := by rw [pad, Tbl.get, hd]; rfl
  rw [hpad]
  generalize s.pads = t at hd
  induction t with
  | nil => cases hd
  | cons e t ih =>
    obtain ⟨k, v⟩ := e
    rw [Tbl.find] at hd
    split at hd
    · next hk => cases hd; rw [hk]; exact .head _
    · exact .tail _ (ih hd)

theorem mem_notEmpty {s : State} {p : Nat} (h : (pad s p).state ≠ .empty) : p ∈ notEmpty s :=
  List.mem_map.2 ⟨(p, pad s p), List.mem_filter.2 ⟨mem_pads_of_state h, by simpa using h⟩, rfl⟩

/-! ### Keys of paddocks -/

/-- A paddock whose selectors and bounce keys are gone. -/
def keyless (d : Paddock) : Paddock := { d with sels := [], bounceH2d := none, bounceD2h := none }

theorem clearSel_quiet (s : State) (p k : Nat) : quiet (clearSel s p k) = quiet s := by
  simp only [clearSel]
  split
  · rw [respond_quiet, updPad_quiet]
  · exact updPad_quiet ..

theorem clearSel_pads (s : State) (p k : Nat) :
    (clearSel s p k).pads = (updPad s p (fun d => { d with sels := Tbl.erase d.sels k })).pads := by
  simp only [clearSel]
  split
  · exact respond_pads ..
  · rfl

theorem clearSel_rick (s : State) (p k : Nat) : (clearSel s p k).rick = s.rick := by
  simp only [clearSel]
  split
  · rw [respond_rick]; rfl
  · rfl

/-- A selector without a lock that waits just goes. -/
theorem clearSel_free {s : State} {p k : Nat} (h : (Tbl.get (pad s p).sels k).lockTag = none) :
    clearSel s p k = updPad s p (fun d => { d with sels := Tbl.erase d.sels k }) := by
  simp only [clearSel, h]

/-- The keys of a list, taken out one after the other. -/
def eraseAll {α : Type} (t : Tbl α) (l : List Nat) : Tbl α := l.foldl Tbl.erase t

theorem mem_erase {α : Type} {t : Tbl α} {k : Nat} {e : Nat × α} (h : e ∈ Tbl.erase t k) : e ∈ t ∧ e.1 ≠ k := by
  induction t with
  | nil => cases h
  | cons a t ih =>
    obtain ⟨j, v⟩ := a
    rw [Tbl.erase] at h
    split at h
    · exact ⟨.tail _ (ih h).1, (ih h).2⟩
    · next hj =>
      rcases List.mem_cons.1 h with rfl | h
      · exact ⟨.head _, hj⟩
      · exact ⟨.tail _ (ih h).1, (ih h).2⟩

theorem mem_eraseAll {α : Type} {l : List Nat} {t : Tbl α} {e : Nat × α} (h : e ∈ eraseAll t l) : e ∈ t ∧ e.1 ∉ l := by
  induction l generalizing t with
  | nil => exact ⟨h, List.not_mem_nil⟩
  | cons k l ih =>
    obtain ⟨hmem, hl⟩ := ih h
    obtain ⟨hmem', hk⟩ := mem_erase hmem
    exact ⟨hmem', List.not_mem_cons_of_ne_of_not_mem hk hl⟩

theorem eraseAll_keys {α : Type} (t : Tbl α) : eraseAll t (t.map (·.1)) = [] := by
  refine List.eq_nil_iff_forall_not_mem.2 fun e he => ?_
  obtain ⟨hmem, hkey⟩ := mem_eraseAll he
  exact hkey (List.mem_map_of_mem hmem)

theorem pad_clearSels (p : Nat) (l : List (Nat × Selector)) (s : State) (k : Nat) :
    pad (l.foldl (fun s e => clearSel s p e.1) s) k =
      if p = k then { pad s p with sels := eraseAll (pad s p).sels (l.map (·.1)) } else pad s k := by
  induction l generalizing s with
  | nil => split <;> simp_all [eraseAll]
  | cons e l ih =>
    rw [List.foldl_cons, ih, pad_of_pads (clearSel_pads s p e.1), pad_of_pads (clearSel_pads s p e.1), pad_updPad, pad_updPad, if_pos rfl]
    split <;> rfl

/-- The keys of one paddock are zeroised: it is keyless, and no other changes. -/
theorem pad_zeroPaddockKeys (s : State) (p k : Nat) : pad (zeroPaddockKeys s p) k = if p = k then keyless (pad s p) else pad s k := by
  have hpads : (zeroPaddockKeys s p).pads = (updPad ((pad s p).sels.foldl (fun s e => clearSel s p e.1) s) p
    (fun d => { d with bounceH2d := none, bounceD2h := none })).pads := rfl
  rw [pad_of_pads hpads, pad_updPad, pad_clearSels, pad_clearSels, if_pos rfl, eraseAll_keys]
  split <;> rfl

theorem zeroPaddockKeys_rick (s : State) (p : Nat) : (zeroPaddockKeys s p).rick.cells = s.rick.cells := by
  have hsels := foldl_keeps State.rick _ (fun s (e : Nat × Selector) => clearSel_rick s p e.1) (pad s p).sels s
  exact (congrArg (·.cells) hsels :)

/-- The keys of listed paddocks are zeroised. -/
def zeroPads (s : State) (l : List (Nat × Paddock)) : State := l.foldl (fun s e => zeroPaddockKeys s e.1) s

theorem pad_zeroPads (l : List (Nat × Paddock)) (s : State) (k : Nat) :
    pad (zeroPads s l) k = if k ∈ l.map (·.1) then keyless (pad s k) else pad s k := by
  induction l generalizing s with
  | nil => simp [zeroPads]
  | cons e l ih =>
    rw [show zeroPads s (e :: l) = zeroPads (zeroPaddockKeys s e.1) l from rfl, ih, pad_zeroPaddockKeys]
    simp only [List.map_cons, List.mem_cons]
    by_cases he : e.1 = k
    · subst he
      simp only [if_true, true_or]
      split <;> rfl
    · rw [if_neg he]
      simp only [Ne.symm he, false_or]

/-- Once those of every listed paddock are gone, no paddock has a key. -/
theorem pad_zeroPads_all (s : State) (k : Nat) : pad (zeroPads s s.pads) k = keyless (pad s k) := by
  rw [pad_zeroPads]
  split
  · rfl
  · next h => rw [pad, Tbl.get, find_not_listed h]; rfl

/-- What zeroising leaves of the settings of SEC: everything but sessions and requests of SPDM. -/
def settings (s : State) : Sec := { s.sec with sessions := [], spdm := [] }

theorem settings_of_quiet {s t : State} (h : quiet t = quiet s) : settings t = settings s := congrArg (·.1) h

theorem settings_zeroPads (l : List (Nat × Paddock)) (s : State) : settings (zeroPads s l) = settings s :=
  foldl_keeps settings _ (fun s (e : Nat × Paddock) => by
    have hsels := foldl_quiet (fun s (x : Nat × Selector) => clearSel_quiet s e.1 x.1) (pad s e.1).sels s
    exact (settings_of_quiet hsels :)) l s

theorem cells_zeroPads (l : List (Nat × Paddock)) (s : State) : (zeroPads s l).rick.cells = s.rick.cells :=
  foldl_keeps (fun s => s.rick.cells) _ (fun s (e : Nat × Paddock) => zeroPaddockKeys_rick s e.1) l s

/-! ### KEY_CLEAR (R662) and its read-back (R503) -/

section
variable {s : State} {f : Facts} {r : State × Option Nat}

/-- Where no table fails, nothing more happens. -/
theorem readBack_sound (h : f.stuck = 0) : readBack s f r = r := if_neg (by simp [h])

theorem readBack_fails (h : f.stuck ≠ 0) (hk : keysIn r.1 f.stuck < keysIn s f.stuck) :
    readBack s f r = (zeroFailed s r.1 f.stuck, r.2) := if_pos (by simp [h, hk])

end

/-- The paddocks that are not EMPTY and have a key in an island's table. -/
def heldIn (s : State) (i : Nat) : List Nat := (s.pads.filter (fun e => e.2.state ≠ .empty && keyIn s i e.2)).map (·.1)

theorem zeroFailed_eq (s t : State) (i : Nat) : ∃ sev, zeroFailed s t i = faultPads (cairn t 0x0B13 sev true 0 [i]) (heldIn s i) 0x0B13 :=
  ⟨_, rfl⟩

theorem linkKeys_faultPads (s : State) (ps : List Nat) (code : Nat) : (faultPads s ps code).net.linkKeys = s.net.linkKeys :=
  (congrArg (·.2.2.2.1) (faultPads_quiet s ps code) :)

theorem length_erase_le {α : Type} (t : Tbl α) (k : Nat) : (Tbl.erase t k).length ≤ t.length := by
  induction t with
  | nil => exact Nat.le_refl _
  | cons e t ih =>
    rw [Tbl.erase]
    split
    · exact Nat.le_succ_of_le ih
    · exact Nat.succ_le_succ ih

theorem length_erase_lt {α : Type} {t : Tbl α} {k : Nat} (h : Tbl.has t k = true) : (Tbl.erase t k).length < t.length := by
  induction t with
  | nil => cases h
  | cons e t ih =>
    obtain ⟨j, v⟩ := e
    rw [Tbl.erase]
    split
    · exact Nat.lt_succ_of_le (length_erase_le t k)
    · next hj =>
      rw [Tbl.has, Tbl.find, if_neg hj] at h
      exact Nat.succ_lt_succ (ih h)

theorem has_erase {α : Type} (t : Tbl α) (k : Nat) : Tbl.has (Tbl.erase t k) k = false := by
  rw [Tbl.has, Tbl.find_erase, if_pos rfl]
  rfl

/-- A state without a tag's link key. -/
def withoutLink (s : State) (tag : Nat) : State := { s with net.linkKeys := Tbl.erase s.net.linkKeys tag }

/-- The tables of link keys lie in PAIR and the LNK islands. -/
theorem keysIn_withoutLink {s : State} {tag i : Nat} (hi : i = 10 ∨ (23 ≤ i ∧ i ≤ 38)) (h : Tbl.has s.net.linkKeys tag = true) :
    keysIn (withoutLink s tag) i < keysIn s i := by
  have hlt := length_erase_lt h
  rcases hi with rfl | ⟨hlo, hhi⟩
  · simpa [keysIn, withoutLink] using hlt
  · simp [keysIn, withoutLink, show i ≠ 3 by omega, show i ≠ 9 by omega, show i ≠ 10 by omega, show ¬i ≤ 14 by omega, hlo, hhi, hlt]

theorem keyIn_links {s : State} {i : Nat} (hi : i = 10 ∨ (23 ≤ i ∧ i ≤ 38)) (d : Paddock) :
    keyIn s i d = Tbl.has s.net.linkKeys d.tag := by
  have h3 : i ≠ 3 := by omega
  have h11 : ¬(11 ≤ i ∧ i ≤ 14) := by omega
  simp [keyIn, h3, h11, hi]

theorem mem_heldIn {s : State} {i p : Nat} (hi : i = 10 ∨ (23 ≤ i ∧ i ≤ 38)) (hst : (pad s p).state ≠ .empty)
    (h : Tbl.has s.net.linkKeys (pad s p).tag = true) : p ∈ heldIn s i :=
  List.mem_map.2 ⟨(p, pad s p), List.mem_filter.2 ⟨mem_pads_of_state hst, by simpa [keyIn_links hi, hst] using h⟩, rfl⟩

section
variable {s : State} {v : Nat} (h0 : bits v 23 16 = 0)
include h0

/-- No paddock that runs has the tag. -/
theorem doKeyClear_link (hd : bits v 31 24 = 2)
    (hfree : ∀ e ∈ s.pads, e.2.state = .opened ∨ e.2.state = .draining → e.2.tag ≠ bits v 15 0) :
    doKeyClear s v = (withoutLink s (bits v 15 0), some 0) := by
  have hany : s.pads.any (fun e => (e.2.state = .opened || e.2.state = .draining) && e.2.tag = bits v 15 0) = false := by
    rw [List.any_eq_false]
    intro e he
    simpa using hfree e he
  simp [doKeyClear, h0, hd, hany, withoutLink]

theorem doKeyClear_used (hd : bits v 31 24 = 2) {e : Nat × Paddock} (he : e ∈ s.pads) (hst : e.2.state = .opened ∨ e.2.state = .draining)
    (htag : e.2.tag = bits v 15 0) (hhas : Tbl.has s.net.linkKeys (bits v 15 0) = true) : doKeyClear s v = (s, some 0x0B05) := by
  have hany : s.pads.any (fun e => (e.2.state = .opened || e.2.state = .draining) && e.2.tag = bits v 15 0) = true :=
    List.any_eq_true.2 ⟨e, he, by simpa [htag] using hst⟩
  simp only [doKeyClear, h0, hd, hany, hhas]
  rfl

theorem doKeyClear_time (hd : bits v 31 24 = 5) (htag : bits v 15 0 = 0) : doKeyClear s v = ({ s with ftm.key := {} }, some 0) := by
  simp [doKeyClear, h0, hd, htag]

theorem doKeyClear_elsewhere (h2 : bits v 31 24 ≠ 2) (h5 : bits v 31 24 ≠ 5 ∨ bits v 15 0 ≠ 0) : doKeyClear s v = (s, some 0x0B04) := by
  have hno : ¬(bits v 31 24 = 5 ∧ bits v 15 0 = 0) := by omega
  simp [doKeyClear, h0, h2, hno]

end

section
variable {s : State} {p v : Nat}

theorem doPaddockKeyClear_h2d (hd : bits v 15 8 = 3) (hk : bits v 7 0 = 0) :
    doPaddockKeyClear s p v = (updPad s p (fun d => { d with bounceH2d := none }), some 0) := by
  simp [doPaddockKeyClear, hd, hk]

theorem doPaddockKeyClear_d2h (hd : bits v 15 8 = 4) (hk : bits v 7 0 = 0) :
    doPaddockKeyClear s p v = (updPad s p (fun d => { d with bounceD2h := none }), some 0) := by
  simp [doPaddockKeyClear, hd, hk]

theorem doPaddockKeyClear_sel (hd : bits v 15 8 = 1) (hlo : 1 ≤ bits v 7 0) (hhi : bits v 7 0 ≤ 63)
    (hl : (Tbl.get (pad s p).sels (bits v 7 0)).lockTag = none) : doPaddockKeyClear s p v =
      (updPad s p (fun d => { d with sels := Tbl.erase d.sels (bits v 7 0) }), some 0) := by
  simp [doPaddockKeyClear, hd, hlo, hhi, clearSel_free hl]

theorem doPaddockKeyClear_elsewhere (h : bits v 15 8 ∉ [1, 3, 4] ∨ (bits v 15 8 = 1 ∧ (bits v 7 0 = 0 ∨ 63 < bits v 7 0)) ∨
    (bits v 15 8 ≠ 1 ∧ bits v 7 0 ≠ 0)) : doPaddockKeyClear s p v = (s, some 0x0B04) := by
  have h1 : ¬(bits v 15 8 = 1 && decide (1 ≤ bits v 7 0) && decide (bits v 7 0 ≤ 63)) = true := by
    simp only [Bool.and_eq_true, decide_eq_true_eq]
    rintro ⟨⟨hd, hlo⟩, hhi⟩
    rcases h with h | ⟨_, h⟩ | ⟨h, _⟩
    · exact h (by simp [hd])
    · omega
    · exact h hd
  have hother (n : Nat) (hn : n = 3 ∨ n = 4) : ¬(bits v 15 8 = n && decide (bits v 7 0 = 0)) = true := by
    simp only [Bool.and_eq_true, decide_eq_true_eq]
    rintro ⟨hd, hk⟩
    rcases h with h | ⟨h, _⟩ | ⟨_, h⟩
    · exact h (by rcases hn with rfl | rfl <;> simp [hd])
    · omega
    · exact h hk
  simp only [doPaddockKeyClear, if_neg h1, if_neg (hother 3 (.inl rfl)), if_neg (hother 4 (.inr rfl))]

end

/-! ### SECURE_ERASE (R518) and debug access (R517) -/

/-- Every key of every table is gone. -/
theorem zeroAllKeys_eq (s : State) : zeroAllKeys s =
    { zeroPads s s.pads with net.linkKeys := [], ftm.key := {}, rick.granuleKeys := [] } := rfl

/-- The device without keys, grants, anchors and sessions. -/
def erased (s : State) : State :=
  { journal (zeroAllKeys s) 8 [0x1D00] with
    sec.grants := [], sec.anchors := [0, 0], sec.sessions := [], sec.spdm := [], pair.pairKey := none, obj.requireSigned := false }

theorem doSecureErase_used {s : State} {e : Nat × Paddock} (he : e ∈ s.pads) (hst : e.2.state ≠ .empty) (f : Facts) :
    doSecureErase s f = (s, some 0x0201) :=
  if_pos (List.any_eq_true.2 ⟨e, he, by simpa using hst⟩)

theorem doSecureErase_empty {s : State} (h : ∀ e ∈ s.pads, e.2.state = .empty) {f : Facts} (hf : f.sigOk = true) :
    doSecureErase s f = (erased s, some 0) := by
  have hany : ¬s.pads.any (fun e => e.2.state ≠ .empty) = true := by
    rw [List.any_eq_true]
    rintro ⟨e, he, hst⟩
    simp [h e he] at hst
  simp only [doSecureErase, if_neg hany, hf]
  rfl

/-- Where every paddock is EMPTY, a failed read-back faults none. -/
theorem zeroFailed_empty {s : State} (h : ∀ e ∈ s.pads, e.2.state = .empty) (t : State) (i : Nat) :
    zeroFailed s t i = cairn t 0x0B13 0 true 0 [i] := by
  have hwho : s.pads.filter (fun e => e.2.state ≠ .empty && keyIn s i e.2) = [] := by
    rw [List.filter_eq_nil_iff]
    intro e he
    simp [h e he]
  simp only [zeroFailed, hwho]
  rfl

/-- What the read-back leaves of an erasure: an entry of the Cairn at most. -/
def erasedBack (s : State) (f : Facts) : State :=
  if f.stuck ≠ 0 && keysIn (erased s) f.stuck < keysIn s f.stuck then cairn (erased s) 0x0B13 0 true 0 [f.stuck] else erased s

theorem readBack_erased {s : State} (h : ∀ e ∈ s.pads, e.2.state = .empty) {f : Facts} (hf : f.sigOk = true) :
    readBack s f (doSecureErase s f) = (erasedBack s f, some 0) := by
  rw [doSecureErase_empty h hf, readBack, erasedBack, zeroFailed_empty h]
  split <;> rfl

section
variable (s : State) (f : Facts)

theorem erasedBack_keeps {γ : Type} (g : State → γ) (hg : ∀ t i, g (cairn t 0x0B13 0 true 0 [i]) = g t) : g (erasedBack s f) = g (erased s) := by
  rw [erasedBack]
  split
  · exact hg _ _
  · rfl

theorem erased_sec : (erased s).sec = { (journal (zeroAllKeys s) 8 [0x1D00]).sec with grants := [], anchors := [0, 0], sessions := [], spdm := [] } :=
  rfl

theorem erasedBack_sec : (erasedBack s f).sec = { settings s with grants := [], anchors := [0, 0] } := by
  have hsettings := settings_zeroPads s.pads s
  rw [erasedBack_keeps s f State.sec (fun _ _ => cairn_sec ..), erased_sec, journal_sec]
  exact (congrArg (fun x : Sec => { x with grants := [], anchors := [0, 0] }) hsettings :)

theorem pad_erasedBack (p : Nat) : pad (erasedBack s f) p = keyless (pad s p) := by
  have hpads : (erased s).pads = (zeroPads s s.pads).pads := journal_pads (zeroAllKeys s) 8 [0x1D00]
  rw [pad_of_pads ((erasedBack_keeps s f State.pads (fun _ _ => cairn_pads ..)).trans hpads), pad_zeroPads_all]

theorem erasedBack_rick : (erasedBack s f).rick = { (zeroPads s s.pads).rick with granuleKeys := [] } := by
  rw [erasedBack_keeps s f State.rick (fun _ _ => cairn_rick ..)]
  exact journal_rick (zeroAllKeys s) 8 [0x1D00]

theorem erasedBack_net : (erasedBack s f).net = { (zeroPads s s.pads).net with linkKeys := [] } := by
  rw [erasedBack_keeps s f State.net (fun _ _ => cairn_net ..)]
  exact journal_net (zeroAllKeys s) 8 [0x1D00]

theorem erasedBack_ftm : (erasedBack s f).ftm = { (zeroPads s s.pads).ftm with key := {} } := by
  rw [erasedBack_keeps s f State.ftm (fun _ _ => cairn_ftm ..)]
  exact journal_ftm (zeroAllKeys s) 8 [0x1D00]

theorem erasedBack_obj : (erasedBack s f).obj = { (zeroPads s s.pads).obj with requireSigned := false } := by
  rw [erasedBack_keeps s f State.obj (fun _ _ => cairn_obj ..)]
  exact congrArg (fun x : Objs => { x with requireSigned := false }) (journal_obj (zeroAllKeys s) 8 [0x1D00])

end

theorem clearSel_conf (s : State) (p k : Nat) : conf (clearSel s p k) = conf s := by
  simp only [clearSel]
  split
  · rw [respond_conf]; rfl
  · rfl

theorem zeroPads_conf (l : List (Nat × Paddock)) (s : State) : conf (zeroPads s l) = conf s :=
  foldl_keeps conf _ (fun s (e : Nat × Paddock) => by
    have hsels := foldl_keeps conf _ (fun s (x : Nat × Selector) => clearSel_conf s e.1 x.1) (pad s e.1).sels s
    exact hsels) l s

/-- A debug access empties every table of paddock keys, and then every paddock that is not EMPTY faults. -/
theorem doJtagDebugAccess_opens {s : State} {i : Nat} (hlock : s.sec.debugLock = false) (h2 : i ≠ 2) (hi : i ≤ 38) :
    ∃ sev, doJtagDebugAccess s i =
      faultPads (fire (logDev { zeroPads s s.pads with sec.debugOpened := true } 0x0B11 sev [i]) 749) (notEmpty s) 0x0B11 := by
  have hno : ¬(s.sec.debugLock || decide (i = 2) || decide (38 < i)) = true := by simp [hlock, h2, hi]
  exact ⟨_, if_neg hno⟩

theorem doMinSvRaise_refused {s : State} {v : Nat} (h : v < s.sec.minSv ∨ s.sys.securityVersion < v) :
    doMinSvRaise s v = (s, some 0x0106) := by
  rcases h with h | h
  · simp [doMinSvRaise, h]
  · simp [doMinSvRaise, h]

theorem doMinSvRaise_rises {s : State} {v : Nat} (hlo : s.sec.minSv < v) (hhi : v ≤ s.sys.securityVersion) (hn : s.sec.svRaises < 64) :
    doMinSvRaise s v = ({ s with sec.minSv := v, sec.svRaises := s.sec.svRaises + 1 }, some 0) := by
  simp [doMinSvRaise, show ¬v < s.sec.minSv by omega, show ¬s.sys.securityVersion < v by omega, show v ≠ s.sec.minSv by omega,
    show ¬64 ≤ s.sec.svRaises by omega]

/-! ### The commands -/

theorem descOf_keyClear : ∃ d, descOf 0x1D00 4 = some d ∧ numCmd d 4 1 = true ∧ d.lo = 0 ∧ d.hi = 2 ^ 32 - 1 := ⟨_, rfl, by decide⟩

theorem descOf_minSvRaise : ∃ d, descOf 0x1D00 6 = some d ∧ numCmd d 4 1 = true ∧ d.lo = 0 ∧ d.hi = 2 ^ 32 - 1 := ⟨_, rfl, by decide⟩

theorem descOf_debugLockSet : ∃ d, descOf 0x1D00 8 = some d ∧ boolCmd d 1 = true := ⟨_, rfl, by decide⟩

theorem descOf_secureErase {n : Nat} (hhi : n ≤ 1024) : ∃ d, descOf 0x1D00 0x0A = some d ∧ octCmd d n 1 = true := by
  have hshape : ∃ d, descOf 0x1D00 0x0A = some d ∧ octCmd d 1 1 = true ∧ d.least = 0 ∧ d.size = 1024 := ⟨_, rfl, by decide⟩
  obtain ⟨d, hd, hoct, hleast, hsize⟩ := hshape
  simp only [octCmd, Bool.and_eq_true, decide_eq_true_eq] at hoct
  obtain ⟨⟨⟨⟨hkind, _⟩, _⟩, _⟩, hrole⟩ := hoct
  refine ⟨d, hd, ?_⟩
  simp only [octCmd, Bool.and_eq_true, decide_eq_true_eq]
  exact ⟨⟨⟨⟨hkind, hleast ▸ Nat.zero_le n⟩, hsize ▸ hhi⟩, hhi⟩, hrole⟩

theorem descPad_paddockKeyClear : ∃ d, descPad 0x70 3 = some d ∧ numCmd d 2 1 = true ∧ numCmd d 2 2 = true ∧ d.lo = 0 ∧ d.hi = 65535 :=
  ⟨_, rfl, by decide⟩

section
variable {s : State} {via : Path} (hm : ManagerAsks s via) (tag : Tag)
include hm

theorem exec_keyClear (v : BitVec 32) (f : Facts) : exec (.keyClear via tag v f) s = .next (settle (settled via (writeReq tag 0x1D00 4 4) 4
    (readBack (accepted s via tag) f (doKeyClear (accepted s via tag) v.toNat)))) := by
  obtain ⟨d, hd, hk, hlo, hhi⟩ := descOf_keyClear
  have hv := v.isLt
  have hnat : beNat (beBytes 4 v.toNat) = v.toNat := beNat_beBytes (by omega)
  have h := exec_device_num (n := 4) (v := v.toNat) (tag := tag) (sub := 4) (f := f) (b := s.sys.bootFacts)
    (c := .keyClear via tag v f) hm (by decide) ⟨d, hd, hk, by omega, by omega⟩ (by omega) rfl rfl
  exact h.trans (by rw [deviceWrite, hnat])

theorem exec_minSvRaise (v : BitVec 32) : exec (.minSvRaise via tag v) s = .next (settle (settled via (writeReq tag 0x1D00 6 4) 4
    (doMinSvRaise (accepted s via tag) v.toNat))) := by
  obtain ⟨d, hd, hk, hlo, hhi⟩ := descOf_minSvRaise
  have hv := v.isLt
  have hnat : beNat (beBytes 4 v.toNat) = v.toNat := beNat_beBytes (by omega)
  have h := exec_device_num (n := 4) (v := v.toNat) (tag := tag) (sub := 6) (f := {}) (b := s.sys.bootFacts)
    (c := .minSvRaise via tag v) hm (by decide) ⟨d, hd, hk, by omega, by omega⟩ (by omega) rfl rfl
  exact h.trans (by rw [deviceWrite, hnat])

theorem exec_debugLockSet : exec (.debugLockSet via tag) s = .next (settle (settled via (writeReq tag 0x1D00 8 1) 1
    (doDebugLockSet (accepted s via tag)))) :=
  exec_device_bool hm (by decide) descOf_debugLockSet rfl rfl

theorem exec_secureErase {data : Bytes} (f : Facts) (hhi : data.length ≤ 1024) :
    exec (.secureErase via tag data f) s = .next (settle (settled via (writeReq tag 0x1D00 0x0A data.length) data.length
      (readBack (accepted s via tag) f (doSecureErase (accepted s via tag) f)))) :=
  exec_device_oct hm (by decide) (descOf_secureErase hhi) rfl rfl

end

theorem exec_paddockKeyClear {s : State} {p : PNum} {via : Path} (ho : OwnerAsks s p via) (tag : Tag) (v : BitVec 16) (f : Facts) :
    exec (.paddockKeyClear via tag p v f) s = .next (settle (settled via (writeReq tag (pidx p.val 0x70) 3 2) 2
      (readBack (accepted s via tag) f (doPaddockKeyClear (accepted s via tag) p.val v.toNat)))) := by
  obtain ⟨d, hd, hk1, hk2, hlo, hhi⟩ := descPad_paddockKeyClear
  have hv := v.isLt
  have h := exec_pad_num (n := 2) (v := v.toNat) (tag := tag) (sub := 3) (f := f) (b := s.sys.bootFacts)
    (c := .paddockKeyClear via tag p v f) ho (off := 0x70) (by decide) ⟨d, hd, hk1, hk2, by omega, by omega⟩ (by omega) rfl
  exact h.trans (by rw [padWrite, beNat_beBytes (by exact hv)])

section
variable {s : State} (hb : 2 ≤ s.sys.boot)
include hb

theorem exec_keyMaskRefresh : exec .keyMaskRefresh s = .next (settle (doKeyMaskRefresh s)) := ran_next hb

theorem exec_jtagDebugAccess (i : Fin 64) : exec (.jtagDebugAccess i) s = .next (settle (doJtagDebugAccess s i.val)) := ran_next hb

end

/-! ### The obligation -/

section
variable {s : State} {via : Path} {tag : Tag}

/-- A link key that its table keeps: the paddocks whose key sat in the table are FAULTED (R503). -/
theorem keyClear_fails (hm : ManagerAsks s via) {v : BitVec 32} {f : Facts} (h0 : bits v.toNat 23 16 = 0)
    (hf : f.stuck = 10 ∨ (23 ≤ f.stuck ∧ f.stuck ≤ 38)) (hd : bits v.toNat 31 24 = 2)
    (hhas : Tbl.has s.net.linkKeys (bits v.toNat 15 0) = true)
    (hfree : ∀ e ∈ s.pads, e.2.state = .opened ∨ e.2.state = .draining → e.2.tag ≠ bits v.toNat 15 0) :
    ∃ u, Answers (.keyClear via tag v f) s u via (writeReq tag 0x1D00 4 4) 4 0 ∧ Tbl.has u.net.linkKeys (bits v.toNat 15 0) = false ∧
      ∀ p, (pad s p).state ≠ .empty → Tbl.has s.net.linkKeys (pad s p).tag = true →
        (pad u p).state = .faulted ∧ ((pad s p).state ≠ .faulted → (pad u p).cause = 0x0B13) := by
  have hexec := exec_keyClear hm tag v f
  rw [doKeyClear_link (s := accepted s via tag) h0 hd hfree, readBack_fails (by omega) (keysIn_withoutLink hf hhas)] at hexec
  obtain ⟨sev, hfail⟩ := zeroFailed_eq (accepted s via tag) (withoutLink (accepted s via tag) (bits v.toNat 15 0)) f.stuck
  rw [hfail] at hexec
  have hpad (k : Nat) : pad (cairn (withoutLink (accepted s via tag) (bits v.toNat 15 0)) 0x0B13 sev true 0 [f.stuck]) k = pad s k :=
    pad_of_pads (cairn_pads ..) k
  refine ⟨_, answers_of_settled hexec rfl, ?_, fun p hst htag => ?_⟩
  · have hlinks := linkKeys_faultPads (cairn (withoutLink (accepted s via tag) (bits v.toNat 15 0)) 0x0B13 sev true 0 [f.stuck])
      (heldIn (accepted s via tag) f.stuck) 0x0B13
    rw [cairn_net] at hlinks
    exact (congrArg (Tbl.has · (bits v.toNat 15 0)) hlinks :).trans (has_erase ..)
  · have hhit := faultPads_hits 0x0B13 (mem_heldIn (s := accepted s via tag) hf hst htag) (by rwa [hpad])
    rw [hpad] at hhit
    exact hhit

end

/-- Settles O50: a clear takes its key out of its table; a table whose read-back fails, and a debug access, fault the paddocks listed
before; an erasure leaves every table empty. -/
theorem keysAreClearedAndLocksOnlyRise : Obligations.KeysAreClearedAndLocksOnlyRise := by
  intro s via tag
  refine ⟨fun hm => ⟨fun v f h0 hf hd hhas hfree => keyClear_fails hm h0 hf hd hhas hfree, fun v f hf h0 => ?clear,
      fun v h => ?svRefused, fun v hlo hhi hn => ?svRises, ?debugLock, fun data f _ hhi => ⟨?eraseUsed, ?erase⟩⟩,
    fun p v f hf ho => ?padClear, fun hb => exec_keyMaskRefresh hb, fun i hb => ⟨fun h => ?locked, fun hlock h2 hi => ?opens⟩⟩
  case clear =>
    have hserve := serving_eq_none_of_manager hm
    have hexec := exec_keyClear hm tag v f
    rw [readBack_sound hf] at hexec
    refine ⟨fun h2 h5 => ?_, fun h5 htag => ?_, fun h2 hfree => ?_, fun e he h2 hst htag hhas => ?_⟩
    · exact answers_accepted hserve hexec (doKeyClear_elsewhere (s := accepted s via tag) h0 h2 h5)
    · exact answers_accepted (u := { s with ftm.key := {} }) hserve hexec (doKeyClear_time (s := accepted s via tag) h0 h5 htag)
    · exact answers_accepted (u := withoutLink s (bits v.toNat 15 0)) hserve hexec (doKeyClear_link (s := accepted s via tag) h0 h2 hfree)
    · exact answers_accepted hserve hexec (doKeyClear_used (s := accepted s via tag) h0 h2 he hst htag hhas)
  case svRefused =>
    exact answers_accepted (serving_eq_none_of_manager hm) (exec_minSvRaise hm tag v) (doMinSvRaise_refused (s := accepted s via tag) h)
  case svRises =>
    exact answers_accepted (u := { s with sec.minSv := v.toNat, sec.svRaises := s.sec.svRaises + 1 }) (serving_eq_none_of_manager hm)
      (exec_minSvRaise hm tag v) (doMinSvRaise_rises (s := accepted s via tag) hlo hhi hn)
  case debugLock =>
    exact answers_accepted (u := { s with sec.debugLock := true }) (serving_eq_none_of_manager hm) (exec_debugLockSet hm tag) rfl
  case eraseUsed =>
    rintro ⟨e, he, hst⟩
    have hexec := exec_secureErase hm tag f hhi
    rw [doSecureErase_used (s := accepted s via tag) he hst] at hexec
    have hback : readBack (accepted s via tag) f (accepted s via tag, some 0x0201) = (accepted s via tag, some 0x0201) :=
      if_neg (by simp)
    exact answers_accepted (serving_eq_none_of_manager hm) hexec hback
  case erase =>
    intro hempty hsig
    have hexec := exec_secureErase hm tag f hhi
    rw [readBack_erased (s := accepted s via tag) hempty hsig] at hexec
    have hsec := erasedBack_sec (accepted s via tag) f
    have hpad := pad_erasedBack (accepted s via tag) f
    have hrick := erasedBack_rick (accepted s via tag) f
    have hnet := erasedBack_net (accepted s via tag) f
    have hftm := erasedBack_ftm (accepted s via tag) f
    have hobj := erasedBack_obj (accepted s via tag) f
    have hcells := cells_zeroPads (accepted s via tag).pads (accepted s via tag)
    have hconf := zeroPads_conf (accepted s via tag).pads (accepted s via tag)
    generalize erasedBack (accepted s via tag) f = t at *
    refine ⟨_, answers_of_settled hexec rfl, congrArg Net.linkKeys hnet, congrArg Ftm.key hftm, congrArg Rick.granuleKeys hrick,
      fun p => ⟨congrArg Paddock.sels (hpad p), congrArg Paddock.bounceH2d (hpad p), congrArg Paddock.bounceD2h (hpad p)⟩,
      congrArg Sec.grants hsec, congrArg Sec.anchors hsec, congrArg Sec.sessions hsec, congrArg Objs.requireSigned hobj,
      (congrArg Sec.debugLock hsec :), (congrArg Sec.minSv hsec :), ?_, ?_⟩
    · exact (congrArg Objs.cvn hobj).trans (congrArg Objs.cvn hconf :)
    · exact (congrArg Rick.cells hrick).trans hcells
  case padClear =>
    have hserve := serving_eq_none_of_owner ho
    have hexec := exec_paddockKeyClear ho tag v f
    rw [readBack_sound hf] at hexec
    refine ⟨fun hd hk => ?_, fun hd hk => ?_, fun hd hlo hhi hl => ?_, fun h => ?_⟩
    · exact answers_accepted (u := updPad s p.val _) hserve hexec (doPaddockKeyClear_h2d (s := accepted s via tag) hd hk)
    · exact answers_accepted (u := updPad s p.val _) hserve hexec (doPaddockKeyClear_d2h (s := accepted s via tag) hd hk)
    · exact answers_accepted (u := updPad s p.val _) hserve hexec (doPaddockKeyClear_sel (s := accepted s via tag) hd hlo hhi hl)
    · exact answers_accepted hserve hexec (doPaddockKeyClear_elsewhere (s := accepted s via tag) h)
  case locked =>
    refine (exec_jtagDebugAccess hb i).trans (next_settle (if_pos ?_))
    rcases h with h | h | h
    · simp [h]
    · simp [h]
    · simp [h]
  case opens =>
    obtain ⟨sev, hdo⟩ := doJtagDebugAccess_opens hlock h2 hi
    have hpads (k : Nat) : pad (fire (logDev { zeroPads s s.pads with sec.debugOpened := true } 0x0B11 sev [i.val]) 749) k = keyless (pad s k) := by
      rw [pad_of_pads (fire_pads ..), pad_of_pads (logDev_pads ..)]
      exact pad_zeroPads_all s k
    have hsettings : settings (fire (logDev { zeroPads s s.pads with sec.debugOpened := true } 0x0B11 sev [i.val]) 749) =
        { settings s with debugOpened := true } := by
      rw [settings, fire_sec, logDev, geq_sec]
      exact (congrArg (fun x : Sec => { x with debugOpened := true }) (settings_zeroPads s.pads s) :)
    generalize fire (logDev { zeroPads s s.pads with sec.debugOpened := true } 0x0B11 sev [i.val]) 749 = t at hdo hpads hsettings
    have hset := (settings_of_quiet (faultPads_quiet t (notEmpty s) 0x0B11)).trans hsettings
    have hkeys (k : Nat) := unfaulted_faultPads 0x0B11 (notEmpty s) t k
    refine ⟨_, (exec_jtagDebugAccess hb i).trans (next_settle hdo), (congrArg Sec.debugOpened hset :), (congrArg Sec.st hset :), fun p => ?_,
      fun p hst => ?_, fun p hst hp => ?_⟩
    · have hk := hkeys p
      rw [hpads] at hk
      exact ⟨(congrArg Paddock.sels hk :), (congrArg Paddock.bounceH2d hk :), (congrArg Paddock.bounceD2h hk :)⟩
    · have hhit := faultPads_hits 0x0B11 (s := t) (mem_notEmpty hst) (by rw [hpads]; exact hst)
      rw [hpads] at hhit
      exact hhit
    · exact empty_faultPads 0x0B11 (notEmpty s) (by rw [hpads]; exact hst) (by rw [hpads]; exact hp)

end Sys2Proof.Machine
end

/-! # Hangs, dumps, Mbomon's kicks and the hard fence -/

section
namespace Sys2Proof.Machine
open Sys2Proof

section
variable {s : State} (hb : 2 ≤ s.sys.boot)
include hb

theorem exec_ctxNoProgress (p : PNum) (c : BitVec 12) :
    exec (.ctxNoProgress p c) s = .next (settle (doCtxNoProgress s p.val c.toNat)) := ran_next hb

theorem exec_waitgraphScan : exec .waitgraphScan s = .next (settle (doWaitgraphScan s)) := ran_next hb

theorem exec_waitgraphBackoffExpiry (id : Nat) :
    exec (.waitgraphBackoffExpiry id) s = .next (settle (doWaitgraphBackoffExpiry s id)) := ran_next hb

theorem exec_snapshotBufferUpdate (i : Fin 64) :
    exec (.snapshotBufferUpdate i) s = .next (settle (doSnapshotBufferUpdate s i.val)) := ran_next hb

theorem exec_dumpWritten : exec .dumpWritten s = .next (settle (doDumpWritten s)) := ran_next hb

theorem exec_mgtKick : exec .mgtKick s = .next (settle (doMgtKick s)) := ran_next hb

theorem exec_mgtWatchdog (b : Boot) : exec (.mgtWatchdog b) s = .next (settle (doMgtWatchdog s b)) := ran_next hb

end

/-! ### Contexts without progress (R550, R551) -/

section
variable {s : State} {p c : Nat}

theorem doCtxNoProgress_gone (h : ctxOf s p c = none) : doCtxNoProgress s p c = s := by simp only [doCtxNoProgress, h]

variable {x : Ctx} (hx : ctxOf s p c = some x)
include hx

theorem doCtxNoProgress_waits (h : x.st ≠ .running ∨ ∀ id ∈ ctxCmds s p c, watched s id = false) : doCtxNoProgress s p c = s := by
  have hany : (decide (x.st ≠ .running) || !(ctxCmds s p c).any (watched s)) = true := by
    rcases h with h | h
    · simp [h]
    · simpa using .inr h
  simp only [doCtxNoProgress, hx, hany, if_true]

theorem doCtxNoProgress_kills {id : Nat} {k : Cmd} (hst : x.st = .running) (hids : ctxCmds s p c = [id]) (hw : watched s id = true)
    (hk : cmdOf s id = some k) : doCtxNoProgress s p c =
      updCtx (stopCtx (geqCmd s k 0x0123 2 [c, x.progress]) p c .control .killed) p c (fun x => { x with lastErr := 0x0123 }) := by
  simp [doCtxNoProgress, hx, hst, hids, hw, oldest, hk]

end

/-! ### The wait graph (R553) -/

theorem breakCycles_none {s : State} (h : waitEdges s = []) (n : Nat) : breakCycles n s = s := by
  cases n with
  | zero => rfl
  | succ n => simp [breakCycles, h]

/-- One round finds a cycle, and the rest of the search goes on from there. -/
theorem breakCycles_finds {s : State} {a : Nat} {cs es : List (Nat × Nat)} {ctxs : List Nat} (hes : es = waitEdges s)
    (hcs : cs = (es.map (fun e => (ctxKey s e.1, ctxKey s e.2))).eraseDups)
    (ha : (cs.map (fun e => e.1)).find? (fun a => !(cycleOf cs a).isEmpty) = some a) (hctxs : ctxs = cycleOf cs a) (n : Nat) :
    breakCycles (n + 1) s = breakCycles n (breakCycle s (cycleCmds s es ctxs) ctxs) := by
  subst hes hcs hctxs
  simp only [breakCycles, ha]

theorem breakCycle_withholds {s : State} {ids ctxs : List Nat} {id : Nat} (hid : youngest s ids = some id) (hc : cmdOf s id ≠ none) :
    (id, ids.filter (fun i => i ≠ id)) ∈ (breakCycle s ids ctxs).flt.withheld ∧
      ∀ k ∈ (breakCycle s ids ctxs).cmd.killed, k.id = id → k.backoff = true := by
  obtain ⟨c, hc⟩ := Option.ne_none_iff_exists'.1 hc
  simp only [breakCycle, hid, hc]
  refine ⟨List.mem_append_right _ (.head _), fun k hk hkid => ?_⟩
  obtain ⟨k', -, rfl⟩ := List.mem_map.1 hk
  split at hkid
  · next h => simp [h]
  · next h => exact (h hkid).elim

/-! ### Dumps (R554, R560) -/

section
variable {s : State} {cause code : Nat}

theorem freeze_skips (h : dumpSlot s = none ∨ s.log.frozen ≠ none) : freeze s cause code = logDev s 0x0126 0 [cause] := by
  cases hd : dumpSlot s with
  | none => simp only [freeze, hd]
  | some k =>
    obtain ⟨j, hj⟩ := Option.ne_none_iff_exists'.1 (h.resolve_left (by simp [hd]))
    simp only [freeze, hd, hj]

/-- What a slot holds once a snapshot is frozen into it. -/
def frozenDump (s : State) (cause code : Nat) : Dump :=
  { st := 1, cause := cause, code := code, boot := s.sys.bootCount, time := ns s,
    data := s.flt.snapBuffers.map (fun e => (0x100 + 8 * e.1, beBytes 8 e.2.1)) ++ (s.flt.snapBuffers.map (·.2.2)).flatten,
    free := s.fresh }

theorem freeze_takes {k : Nat} (hk : dumpSlot s = some k) (hf : s.log.frozen = none) : freeze s cause code =
    flash (fresh1 { s with log.dumps := s.log.dumps.set k (frozenDump s cause code), log.frozen := some k }) .dump := by
  simp only [freeze, hk, hf, frozenDump]

theorem doDumpWritten_none (h : s.log.frozen = none) : doDumpWritten s = s := by simp only [doDumpWritten, h]

/-- A dump is on flash: its slot is unread, and the next may be frozen. -/
def dumped (s : State) (k : Nat) : State :=
  { s with
    log.dumps := s.log.dumps.set k { s.log.dumps.getD k {} with
      st := 2, len := 262144, check := (crc32c (dumpBytes (s.log.dumps.getD k {}) 0 262144)).toNat },
    log.frozen := none, store.work := s.store.work.filter (fun w => w ≠ .dump) }

theorem doDumpWritten_some {k : Nat} (h : s.log.frozen = some k) :
    doDumpWritten s = logDev (dumped s k) 0x0125 0 [k + 1, (s.log.dumps.getD k {}).cause] := by
  simp only [doDumpWritten, h]
  rfl

end

theorem geqRoom_log (s : State) : (geqRoom s).log = s.log := by
  simp only [geqRoom]
  repeat' split
  · rfl
  · rfl
  · rfl
  · exact addO_log ..

theorem conf_of_logDev (s : State) (code sev : Nat) (facts : List Nat) : conf (logDev s code sev facts) = conf s := geq_conf ..

theorem dumps_of_queue (log : Logs) (q : List Entry) (n : Nat) : { log with geq := q, geqNext := n }.dumps = log.dumps ∧
    { log with geq := q, geqNext := n }.frozen = log.frozen := ⟨rfl, rfl⟩

theorem geqLog_dumps (log : Logs) (e : Entry) : (geqLog log e).dumps = log.dumps ∧ (geqLog log e).frozen = log.frozen :=
  dumps_of_queue log _ _

/-- An entry of the queue leaves the dumps as they are. -/
theorem dumps_logDev (s : State) (code sev : Nat) (facts : List Nat) :
    (logDev s code sev facts).log.dumps = s.log.dumps ∧ (logDev s code sev facts).log.frozen = s.log.frozen := by
  have hlog : (logDev s code sev facts).log = geqLog s.log (stamped s { code := code, sev := sev, dev := true, facts := facts }) := by
    rw [logDev, geq_eq, geqTell_dev rfl, fire_log, ← geqRoom_log s]
    rfl
  rw [hlog]
  exact geqLog_dumps ..

/-! ### Mbomon's kicks (R554) -/

section
variable {s : State}

/-- No command uses MGT. -/
theorem islandUsers_mgt (s : State) : islandUsers s 1 = [] := by
  have hno : s.cmd.live.filter (usesIsland s 1) = [] := by
    rw [List.filter_eq_nil_iff]
    intro e _
    simp [usesIsland]
  rw [islandUsers, hno]
  rfl

theorem killBatch_nil (s : State) (y : Stop) : killBatch s [] y = s := by
  simp only [killBatch, List.filter_nil, List.foldl_nil, List.filterMap_nil, List.map_nil, List.eraseDups_nil, ite_self]

/-- MGT is held in reset. -/
def mgtOut (s : State) : State :=
  { s with flt.state := Tbl.set s.flt.state 1 2, flt.wedged := s.flt.wedged.filter (· ≠ 1), flt.killed := Tbl.set s.flt.killed 1 0 }

/-- A reset of MGT loses what MGT held, and nothing else. -/
theorem islandReset_mgt (h0 : Tbl.get s.flt.state 1 = 0) (hp : s.pow.st ≠ 4) : islandReset s 1 = mgtLost (mgtOut s) := by
  have hkeys (t : State) : keysReady t 1 = true := rfl
  simp [islandReset, h0, hp, islandUsers_mgt, killBatch_nil, hkeys, islandLost, mgtOut]

/-- AON notes a reset of MGT. -/
def mgtNoted (s : State) : State :=
  cairn { s with flt.mgtResets := recentMgtResets s, flt.kickAt := s.sys.uptime } 0x0127 0 true 0 [(recentMgtResets s).length]

theorem mgtNoted_flt (s : State) : (mgtNoted s).flt = { s.flt with mgtResets := recentMgtResets s, kickAt := s.sys.uptime } := cairn_flt ..

theorem mgtReset_eq (h0 : Tbl.get s.flt.state 1 = 0) (hp : s.pow.st ≠ 4) :
    ∃ n, mgtReset s = logDev (mgtLost (mgtOut (mgtNoted s))) 0x0127 0 [n] := by
  have hreset : mgtReset s = logDev (islandReset (mgtNoted s) 1) 0x0127 0 [(mgtNoted s).flt.mgtResets.length] := rfl
  have hpow : (mgtNoted s).pow = s.pow := cairn_pow ..
  exact ⟨_, hreset.trans (by rw [islandReset_mgt (by rw [mgtNoted_flt]; exact h0) (by rw [hpow]; exact hp)])⟩

end

/-- No slot of the Lark is left to see an event. -/
theorem lark_fire_nil {s : State} (h : s.ev.lark = []) (n : Nat) : (fire s n).ev.lark = [] := by
  simp [fire, raise, larkSee, h]

theorem lark_logDev_nil {s : State} (h : s.ev.lark = []) (code sev : Nat) (facts : List Nat) : (logDev s code sev facts).ev.lark = [] := by
  rw [logDev, geq_eq, geqTell_dev rfl]
  refine lark_fire_nil ?_ _
  have hev : (geqRoom s).ev = s.ev := by
    simp only [geqRoom]
    repeat' split
    all_goals rfl
  rw [logWith, hev, h]

theorem doMgtWatchdog_idle {s : State} {b : Boot} (h : s.sys.boot ≠ 3 ∨ islandOut s 1 = true ∨ s.sys.uptime < s.flt.kickAt + 10 ^ 9) :
    doMgtWatchdog s b = s := by
  refine if_pos ?_
  simp only [Bool.or_eq_true, decide_eq_true_eq]
  rcases h with h | h | h
  · exact .inl (.inl h)
  · exact .inl (.inr h)
  · exact .inr h

theorem doMgtWatchdog_resets {s : State} {b : Boot} (hb : s.sys.boot = 3) (h0 : Tbl.get s.flt.state 1 = 0)
    (hk : s.flt.kickAt + 10 ^ 9 ≤ s.sys.uptime) (hn : (recentMgtResets s).length < 3) : doMgtWatchdog s b = mgtReset s := by
  have hno : ¬(s.sys.boot ≠ 3 || islandOut s 1 || decide (s.sys.uptime < s.flt.kickAt + 10 ^ 9)) = true := by
    simp only [Bool.or_eq_true, decide_eq_true_eq, islandOut]
    rintro ((h | h) | h)
    · exact h hb
    · exact h h0
    · omega
  rw [doMgtWatchdog, if_neg hno, resetMgt, if_neg (by omega)]

/-! ### The hard fence (R558) -/

/-- The HARD requests to the dies of a paddock. -/
def fenceHard (s : State) (n : Nat) : State :=
  (diesOf s (pad s n).lots).foldl (fun s d =>
    if (sideModules s d).isEmpty then s
    else sendFence n 3 (pad s n).fenceGen { s with tp.fencesOut := s.tp.fencesOut ++ (fenceKeys s d).map (fun k => (n, k, 3)) } d) s

/-- The Hedgerow lets nothing of a paddock pass. -/
def gatedOff (s : State) (n : Nat) : State := { s with flt.gate := join s.flt.gate (2 ^ n) }

theorem doHardFence_eq {s : State} {n : Nat} (h : (pad s n).state ≠ .empty) :
    doHardFence s n = (paddockFault (fenceHard (gatedOff s n) n) n 0x020E, some 0) := if_neg h

theorem doHardFence_empty {s : State} {n : Nat} (h : (pad s n).state = .empty) : doHardFence s n = (s, some 0x0201) := if_pos h

section
variable (s : State) (n : Nat)

/-- A part of the state that side messages leave alone. -/
theorem sendFence_keeps {γ : Type} (g : State → γ) (hg : ∀ s m w, g (sendSide s m w []) = g s) (p action gen die : Nat) :
    g (sendFence p action gen s die) = g s := foldl_keeps g _ (fun s m => hg s m _) (sideModules s die) s

theorem fenceHard_keeps {γ : Type} (g : State → γ) (hside : ∀ s m w, g (sendSide s m w []) = g s)
    (hout : ∀ (s : State) l, g { s with tp.fencesOut := l } = g s) : g (fenceHard s n) = g s :=
  foldl_keeps g _ (fun s d => by
    split
    · rfl
    · rw [sendFence_keeps _ g hside, hout]) _ s

theorem fenceHard_none {s : State} {n : Nat} (h : (pad s n).lots = []) : fenceHard s n = s := by
  rw [fenceHard, h]
  rfl

end

/-! ### The commands -/

theorem descOf_snapshotTake : ∃ d, descOf 0x1F00 0x0B = some d ∧ boolCmd d 1 = true := ⟨_, rfl, by decide⟩

theorem descOf_dumpRelease : ∃ d, descOf 0x1F04 4 = some d ∧ numCmd d 1 1 = true ∧ d.lo = 1 ∧ d.hi = 4 := ⟨_, rfl, by decide⟩

theorem descOf_hardFence : ∃ d, descOf 0x1F00 2 = some d ∧ numCmd d 1 1 = true ∧ d.lo = 0 ∧ d.hi = 63 := ⟨_, rfl, by decide⟩

section
variable {s : State} {via : Path} (hm : ManagerAsks s via) (tag : Tag)
include hm

theorem exec_snapshotTake : exec (.snapshotTake via tag) s = .next (settle (settled via (writeReq tag 0x1F00 0x0B 1) 1
    (freeze (accepted s via tag) 0xFF 0, some 0))) :=
  exec_device_bool hm (by decide) descOf_snapshotTake rfl rfl

theorem exec_dumpRelease {v : BitVec 8} (hlo : 1 ≤ v.toNat) (hhi : v.toNat ≤ 4) : exec (.dumpRelease via tag v) s =
    .next (settle (settled via (writeReq tag 0x1F04 4 1) 1 (doDumpRelease (accepted s via tag) v.toNat))) := by
  obtain ⟨d, hd, hk, hl, hh⟩ := descOf_dumpRelease
  have hnat : beNat (beBytes 1 v.toNat) = v.toNat := beNat_beBytes (by omega)
  have h := exec_device_num (n := 1) (v := v.toNat) (tag := tag) (sub := 4) (f := {}) (b := s.sys.bootFacts)
    (c := .dumpRelease via tag v) hm (by decide) ⟨d, hd, hk, by omega, by omega⟩ (by omega) rfl rfl
  exact h.trans (by rw [deviceWrite, hnat])

theorem exec_hardFence {v : BitVec 8} (hv : v.toNat < 64) : exec (.hardFence via tag v) s =
    .next (settle (settled via (writeReq tag 0x1F00 2 1) 1 (doHardFence (accepted s via tag) v.toNat))) := by
  obtain ⟨d, hd, hk, hl, hh⟩ := descOf_hardFence
  have hnat : beNat (beBytes 1 v.toNat) = v.toNat := beNat_beBytes (by omega)
  have h := exec_device_num (n := 1) (v := v.toNat) (tag := tag) (sub := 2) (f := {}) (b := s.sys.bootFacts)
    (c := .hardFence via tag v) hm (by decide) ⟨d, hd, hk, by omega, by omega⟩ (by omega) rfl rfl
  exact h.trans (by rw [deviceWrite, hnat])

end

/-! ### The obligation -/

theorem hangsAreBroken : HangsAreBroken := by
  intro s hb
  refine ⟨fun p c => ⟨fun h => ?gone, fun x hx => ⟨fun h => ?waits, fun id k hst hids hw hk => ?kills⟩⟩, fun h => ?acyclic,
    fun a cs es ctxs n hes hcs ha hctxs hlen hnone => ?cycle, fun ids ctxs id hid hc => breakCycle_withholds hid hc,
    fun id => ⟨_, exec_waitgraphBackoffExpiry hb id, fun w hw => ?withheld, fun k hk hkid => ?expired, rfl⟩⟩
  case gone => exact (exec_ctxNoProgress hb p c).trans (next_settle (doCtxNoProgress_gone h))
  case waits => exact (exec_ctxNoProgress hb p c).trans (next_settle (doCtxNoProgress_waits hx h))
  case kills => exact (exec_ctxNoProgress hb p c).trans (next_settle (doCtxNoProgress_kills hx hst hids hw hk))
  case acyclic => exact (exec_waitgraphScan hb).trans (next_settle (breakCycles_none h _))
  case cycle =>
    refine (exec_waitgraphScan hb).trans (next_settle ?_)
    rw [doWaitgraphScan, hlen, breakCycles_finds hes hcs ha hctxs, breakCycles_none hnone]
  case withheld => simpa using (List.mem_filter.1 hw).2
  case expired =>
    obtain ⟨k', -, rfl⟩ := List.mem_map.1 hk
    split at hkid
    · next h => simp [h]
    · next h => exact (h hkid).elim

theorem dumpsWatchdogsAndHardFence : DumpsWatchdogsAndHardFence := by
  intro s via tag
  refine ⟨fun i hb => ⟨fun h => ?bufferKept, fun h0 h38 hout hw => ?buffer⟩,
    fun hm => ⟨fun h => ?skip, fun k hk hf => ?take, fun v hlo hhi => ?release, fun v hv => ⟨fun h => ?fenceEmpty,
      fun hst hp hl => ?fenceFaulted, fun hne hnf => ?fence⟩⟩,
    fun hb => ⟨fun h => (exec_dumpWritten hb).trans (next_settle (doDumpWritten_none h)), fun k h => ?written, exec_mgtKick hb,
      fun b h => (exec_mgtWatchdog hb b).trans (next_settle (doMgtWatchdog_idle h)), fun b h3 h0 hp hk hn => ?reset⟩⟩
  case bufferKept =>
    refine (exec_snapshotBufferUpdate hb i).trans (next_settle (if_pos ?_))
    rcases h with h | h | h | h
    · simp [h]
    · simp [h]
    · simp [h]
    · simp [h]
  case buffer =>
    refine (exec_snapshotBufferUpdate hb i).trans (next_settle (if_neg ?_))
    simp [h0, h38, hout, hw]
  case skip =>
    refine answers_accepted ?_ (exec_snapshotTake hm tag) (congrArg (·, some 0) ((freeze_skips (s := accepted s via tag) h).trans
      (logDev_accepted s via tag 0x0126 0 [0xFF])))
    rw [logDev_serving]
    exact serving_eq_none_of_manager hm
  case take =>
    have hexec := exec_snapshotTake hm tag
    rw [freeze_takes (s := accepted s via tag) hk hf] at hexec
    exact ⟨_, answers_of_settled hexec rfl, rfl, ⟨frozenDump s 0xFF 0, rfl, rfl, rfl, rfl, rfl⟩, rfl, rfl, rfl⟩
  case release =>
    exact answers_accepted (u := { s with log.dumps := _ }) (serving_eq_none_of_manager hm) (exec_dumpRelease hm tag hlo hhi) rfl
  case fenceEmpty =>
    exact answers_accepted (serving_eq_none_of_manager hm) (exec_hardFence hm tag hv) (doHardFence_empty (s := accepted s via tag) h)
  case fenceFaulted =>
    have hpend : ¬(pad (gatedOff (accepted s via tag) v.toNat) v.toNat).pend.isSome = true := by
      rw [Option.not_isSome_iff_eq_none]
      exact hp
    have hfault := paddockFault_faulted (s := gatedOff (accepted s via tag) v.toNat) (code := 0x020E) hst
    rw [if_neg hpend] at hfault
    have hdo : doHardFence (accepted s via tag) v.toNat = (accepted (logPad (gatedOff s v.toNat) v.toNat 0x020E 0 []) via tag, some 0) := by
      rw [doHardFence_eq (s := accepted s via tag) (fun h => by cases hst.symm.trans h),
        fenceHard_none (s := gatedOff (accepted s via tag) v.toNat) hl, hfault]
      exact congrArg (·, some 0) (geq_accepted (gatedOff s v.toNat) via tag _)
    refine answers_accepted ?_ (exec_hardFence hm tag hv) hdo
    rw [logPad, geq_serving]
    exact serving_eq_none_of_manager hm
  case fence =>
    have hexec := exec_hardFence hm tag hv
    rw [doHardFence_eq (s := accepted s via tag) hne] at hexec
    have hpads := fenceHard_keeps (gatedOff (accepted s via tag) v.toNat) v.toNat State.pads (by intros; rfl) (by intros; rfl)
    have hquiet := fenceHard_keeps (gatedOff (accepted s via tag) v.toNat) v.toNat quiet (fun s m w => quiet_of rfl rfl rfl rfl)
      (by intros; rfl)
    generalize fenceHard (gatedOff (accepted s via tag) v.toNat) v.toNat = t at hexec hpads hquiet
    have hpad (k : Nat) : pad t k = pad s k := pad_of_pads hpads k
    obtain ⟨hst, hcause, hpend, -⟩ := pad_enters (s := t) (p := v.toNat) 0x020E (by rwa [hpad]) (fun h => hne (by rw [← hpad]; exact h.1))
    have hgate := (congrArg (·.2.2.1) ((paddockFault_quiet t v.toNat 0x020E).trans hquiet) :)
    exact ⟨_, answers_of_settled hexec rfl, hgate, hst, hcause, hpend, fun k hk =>
      (strip_pad_paddockFault_ne t 0x020E hk).trans (by rw [hpad])⟩
  case written =>
    obtain ⟨hdumps, hfrozen⟩ := dumps_logDev (dumped s k) 0x0125 0 [k + 1, (s.log.dumps.getD k {}).cause]
    refine ⟨_, (exec_dumpWritten hb).trans (next_settle (doDumpWritten_some h)), hfrozen, ⟨_, hdumps, rfl, rfl, rfl⟩, ?_, ?_⟩
    · rw [logDev, geq_store]
      exact fun hmem => by simpa using (List.mem_filter.1 hmem).2
    · exact logDev_pads ..
  case reset =>
    obtain ⟨n, hdo⟩ := mgtReset_eq h0 hp
    refine ⟨_, (exec_mgtWatchdog hb b).trans (next_settle ((doMgtWatchdog_resets h3 h0 hk hn).trans hdo)), ?_⟩
    have hpads : (logDev (mgtLost (mgtOut (mgtNoted s))) 0x0127 0 [n]).pads = s.pads := (logDev_pads ..).trans (cairn_pads ..)
    have hobj := conf_of_logDev (mgtLost (mgtOut (mgtNoted s))) 0x0127 0 [n]
    have hsec : (logDev (mgtLost (mgtOut (mgtNoted s))) 0x0127 0 [n]).sec.sessions = [] := by rw [logDev, geq_sec]; rfl
    have hflt : (logDev (mgtLost (mgtOut (mgtNoted s))) 0x0127 0 [n]).flt = (mgtOut (mgtNoted s)).flt := by rw [logDev, geq_flt]; rfl
    have hrick : (logDev (mgtLost (mgtOut (mgtNoted s))) 0x0127 0 [n]).rick.cells = s.rick.cells := by
      rw [logDev, rick_geq]
      exact (congrArg Rick.cells (cairn_rick ..) :)
    have hlark : (logDev (mgtLost (mgtOut (mgtNoted s))) 0x0127 0 [n]).ev.lark = [] := lark_logDev_nil rfl _ _ _
    have hnoted : (mgtNoted s).obj = s.obj := cairn_obj ..
    generalize logDev (mgtLost (mgtOut (mgtNoted s))) 0x0127 0 [n] = u at *
    refine ⟨?_, ?_, ?_, ?_, (congrArg Objs.draftOwner hobj :), hsec, hlark, hpads, hrick⟩
    · rw [islandOut, hflt, mgtOut, Tbl.get_set_self]; rfl
    · rw [hflt, mgtOut, mgtNoted_flt]
    · exact (congrArg Objs.draft hobj :).trans (congrArg Objs.committed hobj :).symm
    · exact (congrArg Objs.committed hobj :).trans (congrArg Objs.committed hnoted :)

/-- Settles O54: each row by the cases of its check; a fault of one paddock keeps the gates, and MGT's reset is what MGT loses. -/
theorem watchdogsDumpsAndHardFence : Obligations.WatchdogsDumpsAndHardFence := ⟨hangsAreBroken, dumpsWatchdogsAndHardFence⟩

end Sys2Proof.Machine
end

/-! # Management sessions, trust anchors and the SPDM responder -/

section
namespace Sys2Proof.Machine
open Sys2Proof

/-! ### Sessions and anchors (R511 to R514) -/

section
variable {s : State} {via : Path} {data : Bytes} {f : Facts} (tag : Tag)

theorem descOf_udpSessionOpen : ∃ d, descOf 0x1D00 0x0B = some d ∧ octCmd d 336 1 = true := ⟨_, rfl, by decide⟩

theorem exec_udpSessionOpen (hm : ManagerAsks s via) (hlen : data.length = 336) : exec (.udpSessionOpen via tag data f) s =
    .next (settle (settled via (writeReq tag 0x1D00 0x0B 336) 336 (doUdpSessionOpen (accepted s via tag) data f))) := by
  have h := exec_device_oct (c := .udpSessionOpen via tag data f) (tag := tag) (sub := 0x0B) (f := f) (b := s.sys.bootFacts) (data := data) hm
    (by decide) (by rw [hlen]; exact descOf_udpSessionOpen) rfl rfl
  rwa [hlen] at h

theorem exec_anchorSet {n : Nat} (hd : ∃ d, descOf 0x1D00 9 = some d ∧ octCmd d n 1 = true) (hm : ManagerAsks s via)
    (hlen : data.length = n) : exec (.anchorSet via tag data f) s =
    .next (settle (settled via (writeReq tag 0x1D00 9 n) n (doAnchorSet (accepted s via tag) data f))) := by
  have h := exec_device_oct (c := .anchorSet via tag data f) (tag := tag) (sub := 9) (f := f) (b := s.sys.bootFacts) (data := data) hm
    (by decide) (by rw [hlen]; exact hd) rfl rfl
  rwa [hlen] at h

theorem descOf_anchorSet : ∃ d, descOf 0x1D00 9 = some d ∧ octCmd d 100 1 = true ∧ octCmd d 196 1 = true := ⟨_, rfl, by decide⟩

end

/-- A session of a slot opens under the key that its envelope carries. -/
def withSession (s : State) (k : Nat) (f : Facts) : State :=
  { s with sec.sessions := Tbl.set s.sec.sessions (k + 1) { key := unwrapped f, used := s.sys.uptime } }

section
variable {s : State} {data : Bytes} {f : Facts} (hlen : data.length = 336)
  (hcode : envCheck s (beNat (data.take 240)) false (eDest (beNat (data.take 240)) = 7 && eSlot (beNat (data.take 240)) < 8) (deviceNonce s) f = 0)
include hlen hcode

theorem doUdpSessionOpen_passes (hroot : s.sec.anchors.getD 0 0 ≠ 0) (hsig : f.sigOk = true) :
    doUdpSessionOpen s data f = (fire (withSession (newDeviceNonce s) (eSlot (beNat (data.take 240))) f) 750, some 0) := by
  have hroot' : (newDeviceNonce s).sec.anchors.getD 0 0 ≠ 0 := hroot
  simp only [doUdpSessionOpen, hlen, hcode, hsig, hroot', lt_irrefl, if_false, ne_eq, not_true_eq_false, decide_false, Bool.not_true,
    Bool.or_self, Bool.false_and, Bool.false_eq_true]
  rfl

theorem doUdpSessionOpen_refused (h : s.sec.anchors.getD 0 0 = 0 ∨ f.sigOk = false) :
    doUdpSessionOpen s data f = (newDeviceNonce s, some 0x0B10) := by
  have hroot : (newDeviceNonce s).sec.anchors.getD 0 0 = s.sec.anchors.getD 0 0 := rfl
  simp only [doUdpSessionOpen, hlen, hcode, hroot, lt_irrefl, if_false, ne_eq, not_true_eq_false]
  rw [if_pos]
  rcases h with h | h
  · rw [decide_eq_true h, Bool.true_or, Bool.true_or]
  · rw [h, Bool.not_false, Bool.or_true, Bool.true_or]

end

/-- An anchor of a row is journaled and takes its place. -/
def withAnchor (s : State) (row key : Nat) : State :=
  { journal s 8 [0x1D01, row, key] with
    sec.anchors := (journal s 8 [0x1D01, row, key]).sec.anchors.set (row - 1) key }

section
variable (s : State) (row key : Nat)

theorem withAnchor_sec : (withAnchor s row key).sec = { s.sec with anchors := s.sec.anchors.set (row - 1) key } :=
  congrArg (fun x : Sec => { x with anchors := x.anchors.set (row - 1) key }) (journal_sec s 8 [0x1D01, row, key])

theorem withAnchor_pads : (withAnchor s row key).pads = s.pads := journal_pads s 8 [0x1D01, row, key]

end

section
variable {s : State} {data : Bytes} {f : Facts} {row : Nat} (hrow : row = beNat (data.take 4))
include hrow

theorem doAnchorSet_empty (hr : row = 1 ∨ row = 2) (hlen : data.length = 100) (hempty : s.sec.anchors.getD (row - 1) 0 = 0) :
    doAnchorSet s data f = (withAnchor s row (beNat ((data.drop 4).take 96)), some 0) := by
  subst hrow
  unfold doAnchorSet
  rw [if_neg (by rcases hr with h | h <;> simp [h, hlen]), if_neg (by rw [decide_eq_false (not_not.mpr hempty), Bool.false_and]; exact Bool.false_ne_true)]
  rfl

theorem doAnchorSet_filled (hset : s.sec.anchors.getD (row - 1) 0 ≠ 0) (hsig : data.length = 196 → f.sigOk = false) :
    doAnchorSet s data f = (s, some 0x0B0F) := by
  subst hrow
  have hunsigned : (data.length = 196 && f.sigOk) = false := by by_cases h : data.length = 196 <;> simp [h, hsig]
  simp only [doAnchorSet]
  split
  · rfl
  · rw [if_pos]
    rw [hunsigned, Bool.not_false, Bool.and_true]
    exact decide_eq_true hset

end

theorem getD_set_row {l : List Nat} {row : Nat} (hr : row = 1 ∨ row = 2) (hl : l.length = 2) (v : Nat) : (l.set (row - 1) v).getD (row - 1) 0 = v := by
  rw [List.getD_eq_getElem?_getD, List.getElem?_set_self (by omega), Option.getD_some]

theorem sessionsAndAnchors : SessionsAndAnchors := by
  intro s via tag data f
  refine ⟨fun e k hm hlen he hk hcode => ⟨fun hroot hsig => ?opens, fun h => ?refused⟩, fun k hb => ?idle,
    fun row hm hrow => ⟨fun hlen hr hempty hl => ?fills, fun hlen hr hset => ?filled, fun hlen hsig hr hset => ?unsigned⟩⟩
  case opens =>
    subst hk he
    refine ⟨fire (withSession (newDeviceNonce s) (eSlot (beNat (data.take 240))) f) 750, ?_, ?_, fun j hj => ?_, ?_⟩
    · refine answers_accepted (tag := tag) ?_ (exec_udpSessionOpen tag hm hlen) ((doUdpSessionOpen_passes (s := accepted s via tag) hlen hcode hroot hsig).trans ?_)
      · exact (congrArg (·.obj.serving) (fire_frame _ 750) :).trans (serving_eq_none_of_manager (s := s) hm)
      · exact congrArg (·, some 0) (fire_accepted (s := withSession (newDeviceNonce s) _ f) via tag 750)
    · exact (congrArg (fun t : State => Tbl.get t.sec.sessions _) (fire_frame _ 750) :).trans (Tbl.get_set_self ..)
    · exact (congrArg (fun t : State => Tbl.find t.sec.sessions j) (fire_frame _ 750) :).trans (Tbl.find_set_ne hj.symm _ _)
    · exact (congrArg (fun t : State => { t with sec := s.sec }) (fire_frame (withSession (newDeviceNonce s) _ f) 750) :)
  case refused =>
    subst hk he
    exact answers_accepted (u := newDeviceNonce s) (serving_eq_none_of_manager hm) (exec_udpSessionOpen tag hm hlen)
      (doUdpSessionOpen_refused (s := accepted s via tag) hlen hcode h)
  case idle => exact ran_next hb
  case fills =>
    obtain ⟨d, hd, h100, -⟩ := descOf_anchorSet
    have hexec := exec_anchorSet (f := f) tag ⟨d, hd, h100⟩ hm hlen
    rw [doAnchorSet_empty (s := accepted s via tag) hrow hr hlen hempty] at hexec
    have hsec := withAnchor_sec (accepted s via tag) row (beNat ((data.drop 4).take 96))
    refine ⟨_, answers_of_settled hexec rfl, ?_, ?_, withAnchor_pads (accepted s via tag) row (beNat ((data.drop 4).take 96))⟩
    · exact (congrArg (·.anchors.getD (row - 1) 0) hsec).trans (getD_set_row hr hl _)
    · exact congrArg (fun x : Sec => { x with anchors := s.sec.anchors }) hsec
  case filled =>
    obtain ⟨d, hd, h100, -⟩ := descOf_anchorSet
    exact answers_accepted (serving_eq_none_of_manager hm) (exec_anchorSet tag ⟨d, hd, h100⟩ hm hlen)
      (doAnchorSet_filled (s := accepted s via tag) hrow hset (by omega))
  case unsigned =>
    obtain ⟨d, hd, -, h196⟩ := descOf_anchorSet
    exact answers_accepted (serving_eq_none_of_manager hm) (exec_anchorSet tag ⟨d, hd, h196⟩ hm hlen)
      (doAnchorSet_filled (s := accepted s via tag) hrow hset fun _ => hsig)

/-! ### The SPDM responder (R508 to R510) -/

section
variable (s : State) (pcie : Bool)

theorem mctpSeen_frame : { mctpSeen s pcie with ev := s.ev } = s := by
  unfold mctpSeen
  split
  · rfl
  · split
    · exact fire_frame s 850
    · exact (congrArg (fun t : State => { t with ev := s.ev }) (fire_frame (fire s 850) 851)).trans (fire_frame s 850)

theorem mctpSeen_sec : (mctpSeen s pcie).sec = s.sec := congrArg (·.sec) (mctpSeen_frame s pcie)

end

theorem spdmOf_setSpdm (s : State) (pcie : Bool) (who : Nat) (x : Spdm) : spdmOf (setSpdm s pcie who x) pcie who = x := by
  have hold : (s.sec.spdm.filter (fun e => !(e.1 = pcie && e.2.1 = who))).find? (fun e => e.1 = pcie && e.2.1 = who) = none := by
    refine List.find?_eq_none.mpr fun e he => ?_
    have hkeep := (List.mem_filter.mp he).2
    exact fun h => by rw [h] at hkeep; exact Bool.false_ne_true hkeep
  simp only [spdmOf, setSpdm, List.find?_append, hold]
  simp

/-- A state after an answer: it has gone out, and objects, paddocks and the rick are those before. -/
def Says (pcie : Bool) (who code : Nat) (s u : State) : Prop :=
  (∃ part, Out.spdm pcie who code part ∈ u.out) ∧ u.obj = s.obj ∧ u.pads = s.pads ∧ u.rick = s.rick

section
variable {s : State} {pcie : Bool} {who : Nat}

theorem spdmAnswer_says (x : Spdm) (code : Nat) (body : Bytes) : Says pcie who code s (spdmAnswer s pcie who x code body) :=
  ⟨⟨_, List.mem_cons_self ..⟩, rfl, rfl, rfl⟩

theorem spdmError_says (code : Nat) : Says pcie who 0x7F s (spdmError s pcie who code) := ⟨⟨_, List.mem_cons_self ..⟩, rfl, rfl, rfl⟩

theorem spdmOf_spdmAnswer (x : Spdm) (code : Nat) (body : Bytes) :
    spdmOf (spdmAnswer s pcie who x code body) pcie who = spdmNote { x with chunks := body.drop spdmPart, chunkSeq := 0 } body :=
  spdmOf_setSpdm ..

section
variable {stage : Nat} (body : Bytes) (f : Spdm → State)

theorem spdmServe_reached (h : stage ≤ (spdmOf s pcie who).stage) :
    spdmServe s pcie who stage body f = f (spdmNote (spdmOf s pcie who) body) := if_neg (not_lt.mpr h)

theorem spdmServe_early (h : (spdmOf s pcie who).stage < stage) :
    spdmServe s pcie who stage body f = spdmError s pcie who spdmUnexpected := if_pos h

end

end

/-! ### The requests -/

section
variable {s : State} {pcie : Bool} {who : Nat} (body : Bytes)

theorem doGetVersion_says : Says pcie who 0x04 s (doGetVersion s pcie who body) := spdmAnswer_says ..

theorem doGetCapabilities_says (h : 2 ≤ (spdmOf s pcie who).stage) : Says pcie who 0x61 s (doGetCapabilities s pcie who body) := by
  rw [doGetCapabilities, spdmServe_reached body _ (by omega)]
  exact spdmAnswer_says ..

theorem doNegotiateAlgorithms_says (h : 2 ≤ (spdmOf s pcie who).stage) : Says pcie who 0x63 s (doNegotiateAlgorithms s pcie who body) := by
  rw [doNegotiateAlgorithms, spdmServe_reached body _ h]
  exact spdmAnswer_says ..

theorem doChallenge_early (h : (spdmOf s pcie who).stage < 3) : Says pcie who 0x7F s (doChallenge s pcie who body) := by
  rw [doChallenge, spdmServe_early body _ h]
  exact spdmError_says ..

section
variable (h : (spdmOf s pcie who).stage = 3)
include h

theorem doGetDigests_says : Says pcie who 0x01 s (doGetDigests s pcie who body) := by
  rw [doGetDigests, spdmServe_reached body _ h.ge]
  exact spdmAnswer_says ..

theorem doChunkGet_says (hc : (spdmOf s pcie who).chunks ≠ []) : Says pcie who 0x06 s (doChunkGet s pcie who body) := by
  rw [doChunkGet, spdmServe_reached body _ (by omega), if_neg (by simpa [spdmNote] using hc)]
  exact ⟨⟨_, List.mem_cons_self ..⟩, rfl, rfl, rfl⟩

theorem doGetCertificate_says {body : Bytes} (hslot : body.getD 0 0 = 0) (hoff : leNat ((body.drop 1).take 2) = 0) :
    Says pcie who 0x02 s (doGetCertificate s pcie who body) := by
  rw [doGetCertificate, spdmServe_reached body _ h.ge]
  simp only [hslot, hoff, Nat.not_lt_zero, decide_false, Bool.or_false]
  exact spdmAnswer_says ..

section
variable (hready : s.sec.st = 1)
include hready

theorem doChallenge_says : Says pcie who 0x03 s (doChallenge s pcie who body) := by
  rw [doChallenge, spdmServe_reached body _ h.ge, if_neg (by omega), if_neg (by omega)]
  exact spdmAnswer_says ..

theorem doKeyExchange_says (f : Facts) : Says pcie who 0x64 s (doKeyExchange s pcie who body f) := by
  rw [doKeyExchange, spdmServe_reached body _ h.ge, if_neg (by omega), if_neg (by omega)]
  exact spdmAnswer_says ..

theorem doGetMeasurements_says {body : Bytes} (hix : body.getD 0 0 = 4) : Says pcie who 0x60 s (doGetMeasurements s pcie who body) := by
  rw [doGetMeasurements, spdmServe_reached body _ h.ge, if_neg (by omega), if_neg (by omega), hix]
  change Says pcie who 0x60 s (if (body.getD 1 0).toNat % 2 = 1 then _ else _)
  split <;> exact spdmAnswer_says ..

end

section
variable (f : Facts) (hpend : (spdmOf s pcie who).pending = true)
include hpend

theorem doFinish_proven (hsig : f.sigOk = true) : doFinish s pcie who body f =
    spdmAnswer s pcie who { spdmNote (spdmOf s pcie who) body with pending := false, session := true } 0x65 [] := by
  rw [doFinish, spdmServe_reached body _ h.ge, if_neg (by simp [spdmNote, hpend]), if_neg (by simp [hsig])]

theorem doFinish_unproven (hsig : f.sigOk = false) : doFinish s pcie who body f =
    spdmError (setSpdm s pcie who { spdmNote (spdmOf s pcie who) body with pending := false, mgr := false }) pcie who spdmInvalid := by
  rw [doFinish, spdmServe_reached body _ h.ge, if_neg (by simp [spdmNote, hpend]), if_pos (by simp [hsig])]

end

section
variable (f : Spdm → State)

theorem inSession_open (hs : (spdmOf s pcie who).session = true) : inSession s pcie who body f = f (spdmNote (spdmOf s pcie who) body) := by
  rw [inSession, spdmServe_reached body _ h.ge, if_pos (show (spdmNote _ body).session = true from hs)]

theorem inSession_closed (hs : (spdmOf s pcie who).session = false) :
    inSession s pcie who body f = spdmError s pcie who spdmUnexpected := by
  rw [inSession, spdmServe_reached body _ h.ge, if_neg (by simp [spdmNote, hs])]

end
end
end

/-- A request of the responder runs after its message has been counted. -/
theorem exec_spdmRow {s : State} {pcie : Bool} {c : Instr} {f : State → State} (hb : 2 ≤ s.sys.boot) (hmgt : islandOut s 1 = false)
    (hexec : exec c s = ran s (spdmRow s pcie f)) : exec c s = .next (settle (f (mctpSeen s pcie))) := by
  rw [hexec, ran_next hb, spdmRow, hmgt]
  rfl

theorem spdmAnswersInSequence : SpdmAnswersInSequence := by
  rintro s pcie who body hboot hmgt - hready x said
  have hb : 2 ≤ s.sys.boot := by omega
  have hseen := mctpSeen_frame s pcie
  have hsec := mctpSeen_sec s pcie
  have hx : spdmOf (mctpSeen s pcie) pcie who.toNat = x := by simp only [x, spdmOf, hsec]
  have hobj := (congrArg (·.obj) hseen :)
  have hpads := (congrArg (·.pads) hseen :)
  have hrick := (congrArg (·.rick) hseen :)
  have hready' : (mctpSeen s pcie).sec.st = 1 := by rw [hsec]; exact hready
  have sent : ∀ {c : Instr} {code : Nat} {f : State → State}, exec c s = ran s (spdmRow s pcie f) →
      Says pcie who.toNat code (mctpSeen s pcie) (f (mctpSeen s pcie)) → said c code := by
    rintro c code f hexec ⟨⟨part, hout⟩, ho, hp, hr⟩
    exact ⟨_, part, exec_spdmRow hb hmgt hexec, hout, ho.trans hobj, hp.trans hpads, hr.trans hrick⟩
  refine ⟨sent rfl (doGetVersion_says _), fun h2 => ?second, fun h3 => ?third, fun h => sent rfl (doChallenge_early _ (hx ▸ h))⟩
  case second =>
    rw [← hx] at h2
    exact ⟨sent rfl (doGetCapabilities_says _ h2), sent rfl (doNegotiateAlgorithms_says _ h2)⟩
  case third =>
    rw [← hx] at h3 ⊢
    refine ⟨sent rfl (doGetDigests_says _ h3), sent rfl (doChallenge_says _ h3 hready'), fun hslot hoff => ?_, fun hix => ?_,
      fun f => sent rfl (doKeyExchange_says _ h3 hready' f), fun f hpend hsig => ?_, fun f hpend hsig => ?_, fun hs => ?_, fun hs => ?_,
      fun hc => sent rfl (doChunkGet_says _ h3 hc)⟩
    · exact sent rfl (doGetCertificate_says h3 hslot hoff)
    · exact sent rfl (doGetMeasurements_says h3 hready' hix)
    · have hdo := doFinish_proven body h3 f hpend hsig
      refine ⟨sent (f := fun t => doFinish t pcie who.toNat body f) rfl (by rw [hdo]; exact spdmAnswer_says ..), _, exec_spdmRow hb hmgt rfl, ?_⟩
      rw [hdo, spdmOf_spdmAnswer]
      rfl
    · have hdo := doFinish_unproven body h3 f hpend hsig
      refine ⟨sent (f := fun t => doFinish t pcie who.toNat body f) rfl (by rw [hdo]; exact spdmError_says ..), _, exec_spdmRow hb hmgt rfl, ?_⟩
      rw [hdo]
      exact (congrArg Spdm.session (spdmOf_setSpdm (mctpSeen s pcie) pcie who.toNat
        { spdmNote (spdmOf (mctpSeen s pcie) pcie who.toNat) body with pending := false, mgr := false }) :)
    · have hopen := inSession_open body h3 (hs := hs)
      refine ⟨sent (f := fun t => doHeartbeat t pcie who.toNat body) rfl (by rw [doHeartbeat, hopen]; exact spdmAnswer_says ..),
        sent (f := fun t => doKeyUpdate t pcie who.toNat body) rfl (by rw [doKeyUpdate, hopen]; exact spdmAnswer_says ..),
        sent (f := fun t => doEndSession t pcie who.toNat body) rfl (by rw [doEndSession, hopen]; exact spdmAnswer_says ..),
        _, exec_spdmRow hb hmgt rfl, ?_⟩
      rw [doEndSession, hopen, spdmOf_spdmAnswer]
      rfl
    · exact sent (f := fun t => doHeartbeat t pcie who.toNat body) rfl
        (by rw [doHeartbeat, inSession_closed body h3 _ hs]; exact spdmError_says ..)

/-- Settles O52: each command of the sessions and each request of the responder by its branches. -/
theorem sessionsAndAttestation : Obligations.SessionsAndAttestation := ⟨sessionsAndAnchors, spdmAnswersInSequence⟩

end Sys2Proof.Machine
end

/-! # Contexts share slots -/

section
namespace Sys2Proof.Machine
open Sys2Proof

/-! ### Writing to memory leaves the paddocks' tables -/

/-- Paddock k without its share of the ledger and the count of its bounce headers, which every write to a place moves. -/
def unpaid (s : State) (k : Nat) : Paddock := { pad s k with v := [], bounceTx := 0 }

theorem unpaid_of_pads {s t : State} (h : t.pads = s.pads) : unpaid t = unpaid s := by
  funext k
  simp only [unpaid, pad, h]

theorem unpaid_updPad {f : Paddock → Paddock} (h : ∀ d, { f d with v := [], bounceTx := 0 } = { d with v := [], bounceTx := 0 })
    (s : State) (p : Nat) : unpaid (updPad s p f) = unpaid s := by
  funext k
  simp only [unpaid, pad_updPad]
  split
  · next hk => rw [h, hk]
  · rfl

theorem charge_unpaid (s : State) (p c u : Nat) : unpaid (charge s p c u) = unpaid s := unpaid_updPad (by intros; rfl) ..

theorem sendTp_unpaid (s : State) (m p : Nat) (h : BitVec 256) (b : Bytes) : unpaid (sendTp s m p h b) = unpaid s :=
  charge_unpaid ..

theorem issueTp_unpaid (s : State) (o : TpOut) (a : Nat) (b : Bytes) : unpaid (issueTp s o a b) = unpaid s := by
  simp only [issueTp]
  split
  · rfl
  · exact sendTp_unpaid ..

theorem rekeyLine_pads (s : State) (key l : Nat) : (rekeyLine s key l).pads = s.pads := by
  simp only [rekeyLine]
  repeat' split
  all_goals rfl

theorem rickWrite_pads (s : State) (key a : Nat) (b : Bytes) : (rickWrite s key a b).pads = s.pads := by
  simp only [rickWrite]
  split
  · rfl
  · exact foldl_keeps State.pads _ (fun s l => rekeyLine_pads s key l) _ s

theorem writePlace_pads (s : State) (p : Nat) (pl : Place) (b : Bytes) : (writePlace s p pl b).pads = s.pads := by
  cases pl with
  | rick a sel =>
    simp only [writePlace]
    split <;> exact rickWrite_pads ..
  | _ => rfl

theorem hostPut_unpaid (s : State) (p a : Nat) (b : Bytes) : unpaid (hostPut s p a b) = unpaid s := by
  have hbytes : unpaid (hostBytes s p b.length) = unpaid s := charge_unpaid ..
  simp only [hostPut]
  split
  · exact (unpaid_updPad (f := fun d => { d with bounceTx := d.bounceTx + 1 }) (by intros; rfl) (hostBytes s p b.length) p).trans hbytes
  · exact hbytes

theorem putPlace_unpaid (s : State) (p : Nat) (pl : Place) (b : Bytes) : unpaid (putPlace s p pl b) = unpaid s := by
  cases pl with
  | rick a sel => exact (charge_unpaid ..).trans (unpaid_of_pads (writePlace_pads ..))
  | host a => exact hostPut_unpaid ..
  | lot lot off => exact foldl_keeps unpaid _ (fun s _ => issueTp_unpaid ..) _ s
  | far a sel => exact unpaid_of_pads (writePlace_pads ..)

theorem putPlaces_unpaid (s : State) (p : Nat) (pls : List (Place × Nat)) (b : Bytes) : unpaid (putPlaces s p pls b) = unpaid s :=
  foldl_keeps (fun a : State × Bytes => unpaid a.1) _ (fun a e => putPlace_unpaid a.1 p e.1 _) pls (s, b)

theorem ringPut_unpaid {s t : State} {p b l h n : Nat} {r : Bytes} (e : ringPut s p b l h n r = some t) : unpaid t = unpaid s := by
  simp only [ringPut] at e
  repeat' split at e
  all_goals cases e
  exact putPlaces_unpaid ..

/-- The contexts of every paddock. -/
def ctxTables (s : State) (k : Nat) : Tbl Ctx := (pad s k).ctxs

theorem ctxTables_of_unpaid {s t : State} (h : unpaid t = unpaid s) : ctxTables t = ctxTables s :=
  funext fun k => (congrArg Paddock.ctxs (congrFun h k) :)

theorem ctxTables_updPad {f : Paddock → Paddock} (h : ∀ d, (f d).ctxs = d.ctxs) (s : State) (p : Nat) :
    ctxTables (updPad s p f) = ctxTables s := by
  funext k
  simp only [ctxTables, pad_updPad]
  split
  · next hk => rw [h, hk]
  · rfl

/-! ### A context that leaves its slot -/

theorem ctxOf_eq (s : State) (p c : Nat) : ctxOf s p c = Tbl.find (ctxTables s p) c := rfl

section
variable {s : State} {p c : Nat} {x : Ctx} (h : ctxOf s p c = some x)
include h

theorem ctxOf_updCtx (f : Ctx → Ctx) : ctxOf (updCtx s p c f) p c = some (f x) := by
  have hfind : Tbl.find (pad s p).ctxs c = some x := h
  rw [ctxOf, updCtx, pad_updPad, if_pos rfl, hfind]
  exact Tbl.find_set_self ..

/-- A usage record starts the usage again, and leaves the rest of the context. -/
theorem ctxOf_usageRecord (reason : Nat) : ∃ u, ctxOf (usageRecord s p c reason) p c = some { x with usage := u } := by
  simp only [usageRecord, h]
  split
  · exact ⟨x.usage, h⟩
  · split
    · exact ⟨x.usage, h⟩
    · next t ht =>
      have hput : ctxOf t p c = some x := by rw [ctxOf_eq, ctxTables_of_unpaid (ringPut_unpaid ht)]; exact h
      have hseq : ctxOf (updPad t p (fun d => { d with usageSeq := d.usageSeq + 1, usageTail := (d.usageTail + 1) % 65536 })) p c = some x := by
        rw [ctxOf_eq, ctxTables_updPad (by intros; rfl)]
        exact hput
      exact ⟨_, ctxOf_updCtx hseq _⟩

theorem ctxOf_freeSlot : ∃ u, ctxOf (freeSlot s p c) p c = some { x with slot := none, usage := u } := by
  simp only [freeSlot, h]
  split
  · obtain ⟨u, hu⟩ := ctxOf_usageRecord h 1
    exact ⟨u, ctxOf_updCtx hu _⟩
  · next hslot =>
    have hnone : x.slot = none := Option.not_isSome_iff_eq_none.mp hslot
    exact ⟨x.usage, by rw [← hnone]; exact h⟩

theorem ctxOf_ready : ctxOf (ready s p c) p c = some { x with st := .ready, readySince := ns s } := ctxOf_updCtx h _

end

theorem ns_of_kept {s t : State} (h : kept t = kept s) : ns t = ns s := 
  congrArg (·.2.2.2.2.2.2.2.2.1.time / 2 ^ 40) h

/-! ### The slot commands (R462, R463, R467 to R473) -/

section
variable {s : State} {p : Nat}

theorem doSlotGrant_free {c k : Nat} {x : Ctx} {l : List (Place × Nat)} (hst : (pad s p).state = .opened ∨ (pad s p).state = .draining)
    (hfirst : firstReady s p = some (c, x)) (hfree : freeSlotOf s p = some k) (harea : accessAll s p x.area 16384 false = .ok l) :
    doSlotGrant s p = updCtx s p c (fun x => { x with st := .running, slot := some k, grantedAt := ns s, progress := ns s }) := by
  have hopen : ¬ (((pad s p).state ≠ .opened) && ((pad s p).state ≠ .draining)) = true := by rcases hst with h | h <;> simp [h]
  simp only [doSlotGrant, if_neg hopen, hfirst, harea, hfree, Option.isSome_some, if_true]

theorem doPreemption_chosen {w : Nat × Ctx} {v : Nat} {x : Ctx} (hfirst : firstReady s p = some w) (hfree : freeSlotOf s p = none)
    (hloose : looseSlot s p = none) (hvictim : victim s p w.2.prio = some (v, x)) : doPreemption s p v = preemptCtx s p v := by
  simp only [doPreemption, hfirst, hfree, hloose, hvictim, Option.isSome_none, Bool.or_self, Bool.false_eq_true, if_false, if_true]

theorem doPreemptionEpochAdvance_ends {c : Nat} {x : Ctx} (hx : ctxOf s p c = some x) (hpre : x.preempting = true)
    (hcmds : ctxCmds s p c = []) : doPreemptionEpochAdvance s p c =
      ready (updCtx (freeSlot (advanceEpoch s p c) p c) p c (fun x => { x with preempting := false })) p c := by
  simp only [doPreemptionEpochAdvance, hx, hpre, hcmds, List.isEmpty_nil, Bool.and_self, if_true]

section
variable {c : Nat} {x : Ctx} (hx : ctxOf s p c = some x) (hrun : x.st = .running) (hpre : x.preempting = false)
include hx hrun hpre

theorem doTimeSliceExpiry_alone (hfirst : firstReady s p = none) :
    doTimeSliceExpiry s p c = updCtx s p c (fun x => { x with grantedAt := ns s }) := by
  simp only [doTimeSliceExpiry, hx, hrun, hpre, hfirst, ne_eq, not_true_eq_false, decide_false, Bool.or_self, Bool.false_eq_true, if_false]

theorem doTimeSliceExpiry_waiter {w : Nat × Ctx} (hfirst : firstReady s p = some w) (hprio : x.prio ≤ w.2.prio)
    (hexcl : (pad s p).excl = none) (hfree : freeSlotOf s p = none) (hloose : looseSlot s p = none) :
    doTimeSliceExpiry s p c = preemptCtx s p c := by
  simp only [doTimeSliceExpiry, hx, hrun, hpre, hfirst, hprio, hexcl, hfree, hloose, ne_eq, not_true_eq_false, decide_false, decide_true,
    Bool.or_self, Bool.not_false, Bool.and_self, Option.isSome_none, Bool.false_eq_true, if_false, if_true]

end

theorem doExclExpired_some {c id : Nat} {k : Cmd} (he : (pad s p).excl = some (c, id)) (hk : cmdOf s id = some k) :
    doExclExpired s p = geqCmd (updPad s p (fun d => { d with excl := none })) k 0x0320 0 [] := by
  simp only [doExclExpired, he, hk]

theorem doNopreExpired_goes {id : Nat} {k : Cmd} (hk : cmdOf s id = some k) (hwait : k.killWaits = true) (hnopre : dNopre k.desc = true)
    (hmust : killMustWait (geqCmd s k 0x0321 2 []) k .control = false) :
    doNopreExpired s id = endDeferredKill (geqCmd s k 0x0321 2 []) id := by
  simp only [doNopreExpired, hk, hwait, hnopre, hmust, Bool.and_self, if_true, Bool.false_eq_true, if_false]

/-- A pre-empted context whose last command has ended is READY without a slot. -/
theorem ctxOf_preempted {c : Nat} {x : Ctx} (hx : ctxOf s p c = some x) :
    ∃ y, ctxOf (ready (updCtx (freeSlot (advanceEpoch s p c) p c) p c (fun x => { x with preempting := false })) p c) p c = some y ∧
      y.st = .ready ∧ y.slot = none ∧ y.preempting = false ∧ y.readySince = ns s := by
  obtain ⟨u, hu⟩ := ctxOf_freeSlot (ctxOf_updCtx hx _ : ctxOf (advanceEpoch s p c) p c = some _)
  refine ⟨_, ctxOf_ready (ctxOf_updCtx hu _), rfl, rfl, rfl, ?_⟩
  exact ns_of_kept ((updCtx_kept ..).trans ((freeSlot_kept ..).trans (updCtx_kept ..)))

end

/-- Settles O26: each command of the slots by its guard. -/
theorem contextsShareSlots : Obligations.ContextsShareSlots := by
  intro s p hb
  refine ⟨fun c x k hst hfirst hx hfree harea => ?grant, fun v w x y hfirst hfree hloose hvictim hy => ?preempt,
    fun c x hx hpre hcmds => ?advance, fun c x hx hrun hpre hfirst => ?alone,
    fun c x w hx hrun hpre hfirst hprio hexcl hfree hloose => ?waiter, fun c id k he hk => ?excl, fun id k hk hwait hnopre hmust => ?nopre⟩
  case grant =>
    obtain ⟨l, hl⟩ := harea
    exact (ran_next hb).trans (next_settle (doSlotGrant_free hst hfirst hfree hl))
  case preempt => exact (ran_next hb).trans (next_settle (doPreemption_chosen hfirst hfree hloose hvictim))
  case advance => exact ⟨_, (ran_next hb).trans (next_settle (doPreemptionEpochAdvance_ends hx hpre hcmds)), ctxOf_preempted hx⟩
  case alone => exact (ran_next hb).trans (next_settle (doTimeSliceExpiry_alone hx hrun hpre hfirst))
  case waiter => exact (ran_next hb).trans (next_settle (doTimeSliceExpiry_waiter hx hrun hpre hfirst hprio hexcl hfree hloose))
  case excl => exact (ran_next hb).trans (next_settle (doExclExpired_some he hk))
  case nopre => exact (ran_next hb).trans (next_settle (doNopreExpired_goes hk hwait hnopre hmust))

end Sys2Proof.Machine
end

/-! # Page tables and translations -/

section
namespace Sys2Proof.Machine
open Sys2Proof

/-! ### A table entry reads back as it was written -/

section
variable {s : State} {key : Nat}

theorem rekeyLine_wf (hwf : Memory.wf s.rick.cells = true) (l : Nat) : Memory.wf (rekeyLine s key l).rick.cells = true := by
  unfold rekeyLine
  repeat' split
  · exact hwf
  · exact hwf
  · dsimp only
    exact puts_wf _ _ _ hwf

theorem find_rekeyLine (l k : Nat) (h : k = l ∨ Tbl.find s.rick.lineKey k = some key) :
    Tbl.find (rekeyLine s key l).rick.lineKey k = some key := by
  have hset : Tbl.find (Tbl.set s.rick.lineKey l key) k = some key := by
    rw [Tbl.find_set]
    split
    · rfl
    · next hne => exact h.resolve_left (Ne.symm hne)
  unfold rekeyLine
  split
  · exact hset
  · next key' hkey =>
    split
    · next heq =>
      subst heq
      rcases h with rfl | h
      · exact hkey
      · exact h
    · exact hset

theorem rekeyLines_keyed : ∀ (ls : List Nat) (s : State), Memory.wf s.rick.cells = true →
    Memory.wf (ls.foldl (fun s l => rekeyLine s key l) s).rick.cells = true ∧
      ∀ k, k ∈ ls ∨ Tbl.find s.rick.lineKey k = some key → Tbl.find (ls.foldl (fun s l => rekeyLine s key l) s).rick.lineKey k = some key
  | [], _, hwf => ⟨hwf, fun _ h => h.resolve_left (by simp)⟩
  | l :: ls, s, hwf => by
    obtain ⟨h1, h2⟩ := rekeyLines_keyed ls (rekeyLine s key l) (rekeyLine_wf hwf l)
    refine ⟨h1, fun k hk => h2 k ?_⟩
    rw [List.mem_cons, or_assoc] at hk
    rcases hk with hk | hk | hk
    · exact .inr (find_rekeyLine l k (.inl hk))
    · exact .inl hk
    · exact .inr (find_rekeyLine l k (.inr hk))

theorem rickRead_rickWrite (hwf : Memory.wf s.rick.cells = true) (a : Nat) {bs : Bytes} (hbs : bs ≠ []) :
    rickRead (rickWrite s key a bs) key a bs.length = bs := by
  obtain ⟨hwf', hkeyed⟩ := rekeyLines_keyed (key := key) (linesOf a bs.length) s hwf
  generalize ht : (linesOf a bs.length).foldl (fun s l => rekeyLine s key l) s = t at hwf' hkeyed
  have hrick := rickWrite_eq hbs ht
  refine rickRead_eq fun c hlo hhi => ?_
  have hkey := hkeyed (c / 64) (.inl (line_mem_linesOf hlo hhi))
  rw [seen_own_key (by rw [hrick]; exact hkey), hrick, get_puts _ _ _ _ hwf', if_pos ⟨hlo, hhi⟩]

end

section
variable (s : State) (key : Nat)

/-- A line's new key changes what is stored alone. -/
theorem rekeyLine_rick (l : Nat) : { (rekeyLine s key l).rick with cells := [], lineKey := [], poisoned := [] } =
    { s.rick with cells := [], lineKey := [], poisoned := [] } := by
  unfold rekeyLine
  repeat' split
  all_goals rfl

theorem rickWrite_rick (a : Nat) (bs : Bytes) : { (rickWrite s key a bs).rick with cells := [], lineKey := [], poisoned := [] } =
    { s.rick with cells := [], lineKey := [], poisoned := [] } := by
  unfold rickWrite
  split
  · rfl
  · exact foldl_keeps (fun s => { s.rick with cells := [], lineKey := [], poisoned := [] }) (fun s l => rekeyLine s key l)
      (fun s l => rekeyLine_rick s key l) _ s

theorem rekeyLine_frame (l : Nat) : { rekeyLine s key l with rick := {} } = { s with rick := {} } := by
  unfold rekeyLine
  repeat' split
  all_goals rfl

/-- A write changes memory and counters alone. -/
theorem rickWrite_frame (a : Nat) (bs : Bytes) : { rickWrite s key a bs with rick := {}, obj.live := [] } = { s with rick := {}, obj.live := [] } := by
  unfold rickWrite
  split
  · rfl
  · exact (congrArg (fun t : State => { t with obj.live := [] })
      (foldl_keeps (fun s => { s with rick := {} }) (fun s l => rekeyLine s key l) (fun s l => rekeyLine_frame s key l) _ s) :)

theorem putPte_rick (slot pte : Nat) : { (putPte s slot pte).rick with cells := [], lineKey := [], poisoned := [] } =
    { s.rick with cells := [], lineKey := [], poisoned := [] } := rickWrite_rick ..

theorem putPte_frame (slot pte : Nat) : { putPte s slot pte with rick := {}, obj.live := [] } = { s with rick := {}, obj.live := [] } :=
  rickWrite_frame ..

end

theorem tableNat_putPte {s : State} (hwf : Memory.wf s.rick.cells = true) (slot : Nat) {pte : Nat} (h : pte < 2 ^ 64) :
    tableNat (putPte s slot pte) slot 8 = pte := by
  have hkeys : (putPte s slot pte).rick.granuleKeys = s.rick.granuleKeys := (congrArg Rick.granuleKeys (putPte_rick s slot pte) :)
  have hlen : (beBytes 8 pte).length = 8 := beBytes_length 8 pte
  have hread := rickRead_rickWrite (key := tableKey s slot) hwf slot (bs := beBytes 8 pte) (by intro h; rw [h] at hlen; simp at hlen)
  rw [hlen] at hread
  have hnat : beNat (beBytes 8 pte) = pte := beNat_beBytes (by omega)
  rw [tableNat, hkeys]
  exact (congrArg beNat hread).trans hnat

theorem ptPte_lt (e : Nat) : ptPte e < 2 ^ 64 := by
  simp only [ptPte, bits, Nat.shiftRight_eq_div_pow]
  omega

/-! ### PT_WRITE (R436, R437) -/

section
variable (s : State) (via : Path) (tag : Tag)

theorem slotFrom_succ (s : State) (p va target l page : Nat) : slotFrom s p va target (l + 1) page =
    (let slot := page + 8 * (va / levelRange (l + 1) % 512)
    if l + 1 ≤ target then .ok slot
    else if poisonIn s slot 8 then .error 0x0A04
    else
      let pte := tableNat s slot 8
      if !bit pte 63 || bit pte 62 || pteBadFormat pte (l + 1) || pteBadFrame s p va pte (l + 1) then .error 0x0A09
      else slotFrom s p va target l (bits pte 51 12 * 4096)) := rfl

theorem slotFrom_accepted (p va target : Nat) : ∀ level page,
    slotFrom (accepted s via tag) p va target level page = slotFrom s p va target level page := by
  intro level
  induction level with
  | zero => exact fun page => rfl
  | succ l ih =>
    intro page
    rw [slotFrom_succ, slotFrom_succ]
    simp only [ih]
    rfl

theorem slotOf_accepted (p va target : Nat) : slotOf (accepted s via tag) p va target = slotOf s p va target := by
  rw [slotOf, slotFrom_accepted]
  rfl

theorem ptCheck_accepted (p : Nat) (slots : List (Nat × Nat)) (e : Nat) : ptCheck (accepted s via tag) p slots e = ptCheck s p slots e := by
  simp only [ptCheck, slotOf_accepted]
  rfl

theorem ptWriteCheck_accepted (p : Nat) (data : Bytes) : ptWriteCheck (accepted s via tag) p data = ptWriteCheck s p data := by
  have hslots : ptSlot (accepted s via tag) p = ptSlot s p := by
    funext e
    rw [ptSlot, slotOf_accepted]
    rfl
  have hcheck : ptCheck (accepted s via tag) p = ptCheck s p := by
    funext slots e
    exact ptCheck_accepted ..
  simp only [ptWriteCheck, hslots, hcheck]
  rfl

end

theorem descPad_ptWrite {n : Nat} (h16 : 16 ≤ n) (h1024 : n ≤ 1024) : ∃ d, descPad 0x40 3 = some d ∧ octCmd d n 1 = true :=
  ⟨_, rfl, by simp [octCmd, meet, h16, h1024]⟩

section
variable {s : State} {via : Path} (hm : ManagerAsks s via) (tag : Tag) (p : PNum)
include hm

theorem exec_ptWrite {data : Bytes} (h16 : 16 ≤ data.length) (h1024 : data.length ≤ 1024) : exec (.ptWrite via tag p data) s =
    .next (settle (settled via (writeReq tag (pidx p.val 0x40) 3 data.length) data.length
      (doPtWrite (accepted s via tag) p.val data via tag))) := by
  obtain ⟨d, hd, hk⟩ := descPad_ptWrite h16 h1024
  exact (ran_next_of_manager hm _).trans (next_settle (serve_pad_oct (.inl ⟨hm, hk⟩) (by decide) hd))

end

/-- A paddock that is EMPTY or FAULTED takes no entry. -/
theorem ptWriteCheck_closed {s : State} {p : Nat} {data : Bytes} (h16 : 16 ≤ data.length) (h1024 : data.length ≤ 1024)
    (hmod : data.length % 16 = 0) (hst : (pad s p).state = .empty ∨ (pad s p).state = .faulted) : ptWriteCheck s p data = 0x0A0B := by
  have hne : data.isEmpty = false := by
    rw [List.isEmpty_eq_false_iff]
    rintro rfl
    simp at h16
  unfold ptWriteCheck
  rw [if_neg (by simp [hne, hmod, h1024]), if_pos (by rcases hst with h | h <;> simp [h])]

/-- The lines that the payload writes whole are no longer poisoned. -/
def cleansed (s : State) (e slot : Nat) : State :=
  { s with rick.poisoned := s.rick.poisoned.filter (fun l => !(List.range 8).all (fun k => [(e, slot)].any (fun x => x.2 = 64 * l + 8 * k))) }

/-- The frame that an entry names is noted in place of the old one's. -/
def noted (s : State) (p e slot : Nat) : State := noteMapped s p (ptLevel e) (tableNat s slot 8) (ptPte e)

/-- One entry stands at its slot. -/
def wrotePte (s : State) (p e slot : Nat) : State := cleansed (putPte (noted s p e slot) slot (ptPte e)) e slot

/-- Ranges that were valid before are invalidated, and the answer waits. -/
def answersLater (s : State) (p : Nat) (rs : List (Nat × Nat)) (via : Path) (tag : Tag) : State :=
  { invalidateAll s p rs with obj.deferred := s.obj.deferred ++ [(via, tag, p, s.rick.nextInval)] }

section
variable {s : State} {p e slot : Nat} {data : Bytes} (hcheck : ptWriteCheck s p data = 0) (hone : ptEntries data = [e])
  (hslot : slotOf s p (ptVa e) (ptLevel e) = .ok slot) (via : Path) (tag : Tag)
include hcheck hone hslot

theorem doPtWrite_new (hbit : bit (tableNat s slot 8) 63 = false) : doPtWrite s p data via tag = (wrotePte s p e slot, some 0) := by
  have hs : ptSlot s p e = slot := by rw [ptSlot, hslot]; rfl
  simp only [doPtWrite, hcheck, hone, hs, ptPutAt, List.map_cons, List.map_nil, List.foldl_cons, List.foldl_nil, hbit, ne_eq,
    not_true_eq_false, if_false, Bool.false_eq_true, List.isEmpty_nil, if_true]
  rfl

theorem doPtWrite_valid (hbit : bit (tableNat s slot 8) 63 = true) : doPtWrite s p data via tag = 
    (answersLater (wrotePte s p e slot) p [(ptVa e, levelRange (ptLevel e))] via tag, none) := by
  have hs : ptSlot s p e = slot := by rw [ptSlot, hslot]; rfl
  simp only [doPtWrite, hcheck, hone, hs, ptPutAt, List.map_cons, List.map_nil, List.foldl_cons, List.foldl_nil, hbit, ne_eq,
    not_true_eq_false, if_false, Bool.false_eq_true, if_true, List.nil_append, List.isEmpty_cons]
  rfl

end

section
variable (s : State) (p e slot : Nat)

theorem wrotePte_rick : { (wrotePte s p e slot).rick with cells := [], lineKey := [], poisoned := [] } =
    { s.rick with cells := [], lineKey := [], poisoned := [] } := by
  have hnoted : (noted s p e slot).rick = s.rick := rfl
  rw [← hnoted, ← putPte_rick (noted s p e slot) slot (ptPte e)]
  rfl

theorem wrotePte_frame : { wrotePte s p e slot with rick := {}, obj.live := [], pads := [] } = { s with rick := {}, obj.live := [], pads := [] } :=
  congrArg (fun t : State => { t with pads := [] }) (putPte_frame (noted s p e slot) slot (ptPte e))

theorem noted_rick : (noted s p e slot).rick = s.rick := rfl

theorem tableNat_congr {s t : State} (hcells : t.rick.cells = s.rick.cells) (hlines : t.rick.lineKey = s.rick.lineKey)
    (hkeys : t.rick.granuleKeys = s.rick.granuleKeys) (a n : Nat) : tableNat t a n = tableNat s a n := by
  have hseen : ∀ key c, seen t key c = seen s key c := fun key c => seen_congr key (by rw [hlines]) (by rw [hcells])
  simp only [tableNat, rickNat, rickRead, hkeys, hseen]

theorem tableNat_cleansed (a n : Nat) : tableNat (cleansed s e slot) a n = tableNat s a n := rfl

theorem tableNat_wrotePte (hwf : Memory.wf s.rick.cells = true) : tableNat (wrotePte s p e slot) slot 8 = ptPte e := by
  rw [wrotePte, tableNat_cleansed]
  exact tableNat_putPte (by rw [noted_rick]; exact hwf) slot (ptPte_lt e)

theorem tableNat_answersLater (rs : List (Nat × Nat)) (via : Path) (tag : Tag) (a n : Nat) :
    tableNat (answersLater s p rs via tag) a n = tableNat s a n := tableNat_congr rfl rfl rfl a n

theorem answersLater_tlb (rs : List (Nat × Nat)) (via : Path) (tag : Tag) {x : Nat × Nat × Nat × Bool × Nat}
    (hx : x ∈ (answersLater s p rs via tag).rick.tlb) : ¬ (x.1 = p ∧ rs.any (fun r => overlap x.2.1 x.2.2.1 r.1 r.2) = true) := by
  have h := (List.mem_filter.mp hx).2
  rintro ⟨h1, h2⟩
  rw [decide_eq_true h1, h2] at h
  exact Bool.false_ne_true h

theorem answersLater_walks (rs : List (Nat × Nat)) (via : Path) (tag : Tag) {w : WalkJob}
    (hw : w ∈ (answersLater s p rs via tag).rick.walks) (hp : w.p = p) : w.stale = true := by
  obtain ⟨x, -, rfl⟩ := List.mem_map.mp hw
  split at hp
  · next h => rw [if_pos h]
  · next h => exact absurd hp h

end

/-! ### Invalidations and walks (R437, R439, R441, R443, R446) -/

section
variable {s : State} (hb : 2 ≤ s.sys.boot)
include hb

theorem exec_rangeInvalidationDone (n : Nat) : exec (.rangeInvalidationDone n) s = .next (settle (doRangeInvalidationDone s n)) := ran_next hb

theorem exec_walkComplete (n : Nat) : exec (.walkComplete n) s = .next (settle (doWalkComplete s n)) := ran_next hb

theorem exec_faultBatchFlush (p : PNum) : exec (.faultBatchFlush p) s = .next (settle (flushBatch s p.val)) := ran_next hb

theorem exec_prefetch (id : Nat) : exec (.prefetch id) s = .next (settle (doPrefetch s id)) := ran_next hb

theorem exec_advise (id : Nat) : exec (.advise id) s = .next (settle (doAdvise s id)) := ran_next hb

theorem exec_invalidate (id : Nat) : exec (.invalidate id) s = .next (settle (doInvalidate s id)) := ran_next hb

end

section
variable {s : State} {n : Nat}

/-- No invalidation and no answer waits. -/
def noInvals (s : State) : State := { s with rick.invals := [], obj.deferred := [] }

theorem doRangeInvalidationDone_answers {p : Nat} {via : Path} {tag : Tag} (hi : s.rick.invals = [(n, p, 0, 0)])
    (hd : s.obj.deferred = [(via, tag, p, n)]) (hc : cmdOf s 0 = none) :
    doRangeInvalidationDone s n = respond (noInvals s) via tag 2 (pidx p 0x40) 3 0 [] := by
  have hc' : cmdOf (respond (noInvals s) via tag 2 (pidx p 0x40) 3 0 []) 0 = none := by
    simp only [cmdOf, respond]
    split <;> simp only [sendResponse_cmd] <;> exact hc
  simp only [doRangeInvalidationDone, hi, hd, List.find?_cons_of_pos, decide_true, List.filter_cons, List.filter_nil, ne_eq,
    not_true_eq_false, decide_false, Bool.false_eq_true, if_false, if_true, List.foldl_cons, List.foldl_nil]
  change (match cmdOf (respond (noInvals s) via tag 2 (pidx p 0x40) 3 0 []) 0 with | some c => _ | none => _) = _
  rw [hc']
  rfl

theorem respond_deferred (s : State) (via : Path) (tag : Tag) (op i sub st : Nat) (b : Bytes) :
    (respond s via tag op i sub st b).obj.deferred = s.obj.deferred := by
  rw [respond, sendResponse_obj]
  split <;> rfl

theorem doRangeInvalidationDone_commits {a k id : Nat} {c : Cmd} (hi : s.rick.invals = [(n, a, k, id)]) (hd : s.obj.deferred = [])
    (hc : cmdOf s id = some c) (hn : c.inval = some n) :
    doRangeInvalidationDone s n = finish { s with rick.invals := [] } id c.effects c.result := by
  have hc' : cmdOf { s with rick.invals := [] } id = some c := hc
  have hobj : { s with rick.invals := [], obj.deferred := [] } = { s with rick.invals := [] } := by rw [← hd]
  simp only [doRangeInvalidationDone, hi, hd, List.find?_cons_of_pos, decide_true, List.filter_cons, List.filter_nil, ne_eq,
    not_true_eq_false, decide_false, Bool.false_eq_true, if_false, List.foldl_nil, hobj, hc', hn, if_true]

end

section
variable {s : State} {n : Nat} {w : WalkJob} (hw : s.rick.walks.find? (fun w => w.id = n && w.running) = some w)
include hw

theorem doWalkComplete_stale (hst : w.stale = true) : doWalkComplete s n =
    bump { s with rick.walks := s.rick.walks.map (fun x => if x.id = n then { x with stale := false } else x) } w.p 0x41 4 1 := by
  simp only [doWalkComplete, hw, hst, if_true]

section
variable (hst : w.stale = false) {t : State} (ht : t = bump (startWalks 32 { s with rick.walks := s.rick.walks.filter (fun x => x.id ≠ n) }) w.p 0x41 3 1)
  {c : Cmd} (hc : cmdOf t w.cmd = some c)
include hst ht hc

theorem doWalkComplete_leaf {pte level : Nat} (hwalk : walk t w.p w.va = .leaf pte level) (hlocal : bits pte 61 60 = 0) :
    doWalkComplete s n = prefetchOn (tlbFill t w.p (w.va / leafSize pte level * leafSize pte level) (leafSize pte level)) w.cmd c
      (w.va / leafSize pte level * leafSize pte level + leafSize pte level) (c.result + 1) := by
  simp only [doWalkComplete, hw, hst, Bool.false_eq_true, if_false, ← ht, hc, hwalk, hlocal, zero_ne_one, decide_false, Bool.false_and]

theorem doWalkComplete_fault {code level pte : Nat} (hwalk : walk t w.p w.va = .fault code level pte) : doWalkComplete s n =
    prefetchOn (recFault t w.p w.va level false 5 code c.ctx 0 (dId c.desc) (dLayer c.desc) (dOper c.desc)) w.cmd c
      ((w.va / 4096 + 1) * 4096) c.result := by
  simp only [doWalkComplete, hw, hst, Bool.false_eq_true, if_false, ← ht, hc, hwalk]

end
end

theorem prefetchOn_past {c : Cmd} {va : Nat} (s : State) (id loaded : Nat) (h : dArg c.desc 0 + dArg c.desc 1 ≤ va) :
    prefetchOn s id c va loaded = finish (updCmd s id (fun c => { c with waitOn := some va, result := loaded })) id [] loaded :=
  if_pos h

section
variable (s : State) (p page size : Nat)

theorem tlbFill_cmd : (tlbFill s p page size).cmd = s.cmd := by
  simp only [tlbFill]
  repeat' split
  all_goals rfl

/-- A page outside the streamed ranges stands in the translations once it is loaded. -/
theorem mem_tlbFill (hs : s.rick.streams = []) : ∃ e ∈ (tlbFill s p page size).rick.tlb, e.1 = p ∧ e.2.1 = page := by
  simp only [tlbFill, hs, List.any_nil, Bool.false_eq_true, if_false]
  split
  · next h =>
    obtain ⟨e, he, hpage⟩ := List.any_eq_true.mp h
    obtain ⟨hmem, hp⟩ := List.mem_filter.mp he
    refine ⟨_, List.mem_map_of_mem hmem, ?_⟩
    rw [hpage]
    simp [of_decide_eq_true hp, of_decide_eq_true hpage]
  · exact ⟨_, List.mem_append_right _ (List.mem_singleton.mpr rfl), rfl, rfl⟩

end

/-! ### Fault batches (R443 to R445) -/

section
variable (s : State) (p : Nat)

theorem ringPut_beyond {s t : State} {p b l h n : Nat} {r : Bytes} (e : ringPut s p b l h n r = some t) : beyondMemory t = beyondMemory s := by
  simp only [ringPut] at e
  repeat' split at e
  all_goals cases e
  exact putPlaces_beyond ..

theorem faultRing_beyond (r : Bytes) : beyondMemory (faultRing s p r) = beyondMemory s := by
  simp only [faultRing]
  repeat' split
  · rfl
  · rfl
  · next t h => exact ringPut_beyond (t := t) h

theorem faultRing_unpaid (r : Bytes) : unpaid (faultRing s p r) = unpaid s := by
  simp only [faultRing]
  repeat' split
  · rfl
  · rfl
  · next t h => exact ringPut_unpaid (t := t) h

/-- The batch of a paddock starts again. -/
def emptied (s : State) (p : Nat) : State := updPad s p (fun d => { d with faultBatch := [] })

/-- Records stand in the fault ring. -/
def ringed (s : State) (p : Nat) (l : List (List Nat)) : State := l.foldl (fun s f => faultRing s p (batchRecord f)) s

theorem ringed_beyond (l : List (List Nat)) : beyondMemory (ringed s p l) = beyondMemory s := foldl_beyondMemory (fun s _ => faultRing_beyond s p _) l s

theorem ringed_unpaid (l : List (List Nat)) : unpaid (ringed s p l) = unpaid s := foldl_keeps unpaid _ (fun s _ => faultRing_unpaid s p _) l s

theorem flushBatch_nil (h : (pad s p).faultBatch = []) : flushBatch s p = s := by simp only [flushBatch, h]

theorem flushBatch_cons {b : List Nat} {l : List (List Nat)} (h : (pad s p).faultBatch = b :: l) : flushBatch s p =
    logPad (firePad (ringed (emptied s p) p (b :: l)) p 1) p (b.getD 5 0) 2 [b.getD 0 0, b.getD 1 0] := by
  simp only [flushBatch, h]
  rfl

theorem flushBatch_cmd : (flushBatch s p).cmd = s.cmd := by
  cases h : (pad s p).faultBatch with
  | nil => rw [flushBatch_nil s p h]
  | cons b l =>
    rw [flushBatch_cons s p h, logPad_cmd, firePad_cmd]
    exact (congrArg State.cmd (ringed_beyond (emptied s p) p (b :: l)) :)

theorem recFault_cmd (va level : Nat) (w : Bool) (src code ctx node id layer oper : Nat) :
    (recFault s p va level w src code ctx node id layer oper).cmd = s.cmd := by
  have hstruck : (if code = 0x0A05 then strike s p (level ≠ 4) else s).cmd = s.cmd := by split <;> rfl
  simp only [recFault]
  rw [apply_ite State.cmd, flushBatch_cmd, ite_self]
  exact hstruck

theorem logWith_pads (log : Logs) (l : List Nat) : (logWith s log l).pads = s.pads := rfl

/-- An entry of the error queue leaves the batches of faults. -/
theorem faultBatch_geq (e : Entry) (k : Nat) : (pad (geq s e) k).faultBatch = (pad s k).faultBatch := by
  have hroom : (geqRoom s).pads = s.pads := by
    simp only [geqRoom]
    repeat' split
    all_goals rfl
  obtain ⟨t, ht, hpads⟩ : ∃ t, geq s e = geqTell t (stamped s e) ∧ t.pads = s.pads := ⟨_, geq_eq s e, (logWith_pads ..).trans hroom⟩
  have hpad : ∀ k, pad t k = pad s k := fun k => by simp only [pad, hpads]
  rw [ht, geqTell]
  split
  · rw [pad, fire_pads, ← pad, hpad]
  · rw [firePad, pad, fire_pads, ← pad, geqNote]
    split
    · exact congrArg Paddock.faultBatch (hpad k)
    · rw [pad_updPad]
      split
      · next h =>
        subst h
        exact (congrArg Paddock.faultBatch (hpad (stamped s e).p) :)
      · exact congrArg Paddock.faultBatch (hpad k)

theorem faultBatch_flushed {b : List Nat} {l : List (List Nat)} (h : (pad s p).faultBatch = b :: l) : (pad (flushBatch s p) p).faultBatch = [] := by
  have hringed := (congrArg Paddock.faultBatch (congrFun (ringed_unpaid (emptied s p) p (b :: l)) p) :)
  rw [flushBatch_cons s p h, logPad, faultBatch_geq, pad, firePad_pads]
  refine hringed.trans ?_
  rw [emptied, unpaid, pad_updPad, if_pos rfl]

theorem occurs_flushed {b : List Nat} {l : List (List Nat)} (h : (pad s p).faultBatch = b :: l) (hp : p < 64) :
    Tbl.get (flushBatch s p).ev.occurs (8 * p + 1) = (Tbl.get s.ev.occurs (8 * p + 1) + 1) % 65536 := by
  have hev : (ringed (emptied s p) p (b :: l)).ev = s.ev := (congrArg State.ev (ringed_beyond (emptied s p) p (b :: l)) :)
  rw [flushBatch_cons s p h, logPad, occurs_geq _ (by omega) (by omega), firePad, fire_occurs, hev, Tbl.get_set_self]

end

/-! ### Memory opcodes (R449, R450) -/

/-- The entries of a paddock that are pinned. -/
def pinned (p : Nat) (l : List (Nat × Nat × Nat × Bool × Nat)) : List (Nat × Nat × Nat × Bool × Nat) := l.filter (fun e => e.1 = p && e.2.2.2.1)

/-- One entry of a range is pinned while there is room. -/
def pinStep (p a n most held : Nat) (acc : List (Nat × Nat × Nat × Bool × Nat) × Nat) (e : Nat × Nat × Nat × Bool × Nat) :
    List (Nat × Nat × Nat × Bool × Nat) × Nat :=
  if tlbIn p a n e && !e.2.2.2.1 && held + acc.2 < most then (acc.1 ++ [(e.1, e.2.1, e.2.2.1, true, e.2.2.2.2)], acc.2 + 1)
  else (acc.1 ++ [e], acc.2)

section
variable (p a n most held : Nat)

theorem pinStep_fold : ∀ (l : List (Nat × Nat × Nat × Bool × Nat)) (acc : List (Nat × Nat × Nat × Bool × Nat) × Nat),
    (l.foldl (pinStep p a n most held) acc).1.map (fun e => (e.1, e.2.1)) = acc.1.map (fun e => (e.1, e.2.1)) ++ l.map (fun e => (e.1, e.2.1)) ∧
    (pinned p (l.foldl (pinStep p a n most held) acc).1).length + acc.2 =
      (pinned p acc.1).length + (pinned p l).length + (l.foldl (pinStep p a n most held) acc).2
  | [], acc => by simp [pinned]
  | e :: l, acc => by
    obtain ⟨h1, h2⟩ := pinStep_fold l (pinStep p a n most held acc e)
    rw [List.foldl_cons, h1]
    by_cases hin : (tlbIn p a n e && !e.2.2.2.1 && held + acc.2 < most) = true
    · have hstep : pinStep p a n most held acc e = (acc.1 ++ [(e.1, e.2.1, e.2.2.1, true, e.2.2.2.2)], acc.2 + 1) := if_pos hin
      rw [hstep] at h2 ⊢
      have hp : e.1 = p ∧ e.2.2.2.1 = false := by simp [tlbIn] at hin; exact ⟨hin.1.1.1, hin.1.2⟩
      refine ⟨by simp, ?_⟩
      simp [pinned, List.filter_append, hp] at h2 ⊢
      omega
    · have hstep : pinStep p a n most held acc e = (acc.1 ++ [e], acc.2) := if_neg hin
      rw [hstep] at h2 ⊢
      refine ⟨by simp, ?_⟩
      simp only [pinned, List.filter_append, List.length_append] at h2 ⊢
      rw [h2, ← List.singleton_append (l := l), List.filter_append, List.length_append]
      omega

theorem pinRange_eq (l : List (Nat × Nat × Nat × Bool × Nat)) : pinRange p a n most l = l.foldl (pinStep p a n most (pinned p l).length) ([], 0) := rfl

theorem pinRange_keys (l : List (Nat × Nat × Nat × Bool × Nat)) :
    (pinRange p a n most l).1.map (fun e => (e.1, e.2.1)) = l.map (fun e => (e.1, e.2.1)) :=
  (pinStep_fold p a n most (pinned p l).length l ([], 0)).1

theorem pinRange_count (l : List (Nat × Nat × Nat × Bool × Nat)) :
    (pinned p (pinRange p a n most l).1).length = (pinned p l).length + (pinRange p a n most l).2 :=
  (pinStep_fold p a n most (pinned p l).length l ([], 0)).2.trans (by rw [pinned, List.filter_nil, List.length_nil, Nat.zero_add]; rfl)

end

section
variable {s : State} {id : Nat} {c : Cmd}

/-- The command has started. -/
def begun (s : State) (id : Nat) : State := updCmd s id (fun c => { c with phase := .started })

theorem begun_rick (s : State) (id : Nat) : (begun s id).rick = s.rick := updCmd_rick ..

theorem doPrefetch_walks (hw : Works s id c 0xA2) (hidle : c.waitOn = none) (hr : rangeCheck c [2, 3, 4, 5] = 0) :
    doPrefetch s id = queueWalk (updCmd (begun s id) id (fun c => { c with waitOn := some (dArg c.desc 0) })) id c.p (dArg c.desc 0) := by
  obtain ⟨-, hc, ho, hm⟩ := hw
  have hr' : rangeCheck { c with phase := .started } [2, 3, 4, 5] = 0 := hr
  rw [doPrefetch, withCmd_eq _ hc ho hm]
  simp only [hr', ne_eq, not_true_eq_false, if_false]
  exact if_neg (by simp [hidle])

theorem doPrefetch_empty (hw : Works s id c 0xA2) (hidle : c.waitOn = none) (hn : dArg c.desc 1 = 0) :
    doPrefetch s id = failCmd (begun s id) id 0x0A10 := by
  obtain ⟨-, hc, ho, hm⟩ := hw
  have hr : rangeCheck { c with phase := .started } [2, 3, 4, 5] = 0x0A10 := if_pos (by simp [hn])
  rw [doPrefetch, withCmd_eq _ hc ho hm]
  simp only [hr, ne_eq, OfNat.ofNat_ne_zero, not_false_eq_true, if_true]
  exact if_neg (by simp [hidle])

/-- Entries of a range are no longer pinned, and it is no longer streamed. -/
def unpinned (s : State) (p a n : Nat) : State :=
  { s with rick.tlb := s.rick.tlb.map (fun e => if tlbIn p a n e then (e.1, e.2.1, e.2.2.1, false, e.2.2.2.2) else e),
           rick.streams := unstream p a n s.rick.streams }

section
variable (hw : Works s id c 0xA3) (hr : rangeCheck c [3, 4, 5] = 0)
include hw hr

/-- What ADVISE does once its range and its kind have passed. -/
theorem doAdvise_eq {k : Nat} (hk : dArg c.desc 2 = k) (hlt : k < 4) : doAdvise s id =
    match k with
    | 0 => finish (unpinned (begun s id) c.p (dArg c.desc 0) (dArg c.desc 1)) id []
        (s.rick.tlb.filter (fun e => tlbIn c.p (dArg c.desc 0) (dArg c.desc 1) e && e.2.2.2.1)).length
    | 1 => finish { begun s id with rick.tlb := (pinRange c.p (dArg c.desc 0) (dArg c.desc 1) (tlbRoom (begun s id) c.p / 4) s.rick.tlb).1 } id []
        (pinRange c.p (dArg c.desc 0) (dArg c.desc 1) (tlbRoom (begun s id) c.p / 4) s.rick.tlb).2
    | 2 => finish { begun s id with rick.tlb := s.rick.tlb.filter (fun e => !tlbIn c.p (dArg c.desc 0) (dArg c.desc 1) e) } id []
        (s.rick.tlb.filter (tlbIn c.p (dArg c.desc 0) (dArg c.desc 1))).length
    | _ => finish { begun s id with rick.streams := s.rick.streams ++ [(c.p, dArg c.desc 0, dArg c.desc 1)] } id [] 0 := by
  obtain ⟨-, hc, ho, hm⟩ := hw
  have hr' : rangeCheck { c with phase := .started } [3, 4, 5] = 0 := hr
  rw [doAdvise, withCmd_eq _ hc ho hm, ← begun_rick s id]
  simp only [hr', ne_eq, not_true_eq_false, if_false, hk, Nat.not_le.mpr hlt]
  interval_cases k <;> rfl

end

theorem dropAts_frame (s : State) (p a n : Nat) : { dropAts s p a n with host.ats := s.host.ats } = s := rfl

theorem doInvalidate_waits (hw : Works s id c 0xA4) (hidle : c.inval = none) (hr : rangeCheck c [2, 3, 4, 5] = 0) :
    doInvalidate s id = updCmd (invalidate (dropAts (begun s id) c.p (dArg c.desc 0) (dArg c.desc 1)) c.p (dArg c.desc 0) (dArg c.desc 1) id) id
      (fun c => { c with inval := some s.rick.nextInval }) := by
  obtain ⟨-, hc, ho, hm⟩ := hw
  have hr' : rangeCheck { c with phase := .started } [2, 3, 4, 5] = 0 := hr
  rw [doInvalidate, withCmd_eq _ hc ho hm, ← begun_rick s id]
  simp only [hr', ne_eq, not_true_eq_false, if_false]
  exact if_neg (by simp [hidle])

end

/-! ### PT_QUERY (R451) -/

section
variable {s : State} {via : Path} (hm : ManagerAsks s via) (tag : Tag) (p : PNum)
include hm

/-- The request that reads PT_QUERY_RESULT. -/
def queryReq (tag : Tag) (p : PNum) : Req := { op := 1, tag := tag, index := pidx p.val 0x40, sub := 5, len := 0 }

theorem requestCode_query : requestCode s via (queryReq tag p) [] = 0 := by
  obtain ⟨⟨hb, -, -, -⟩, hrole⟩ := hm
  have hd : descOf (pidx p.val 0x40) 5 = descPad 0x40 5 := descOf_pad 5 p.isLt (by decide)
  obtain ⟨d, hpad, htab, hacc, hread, hty, hsize⟩ : ∃ d, descPad 0x40 5 = some d ∧ d.tab = false ∧ d.acc = .ro ∧ d.readers = 1 ∧ d.ty = 10 ∧ d.size = 16 :=
    ⟨_, rfl, by decide⟩
  rw [hpad] at hd
  have h1 : headerCode (queryReq tag p) 0 = 0 := by simp [headerCode, queryReq]
  have h2 : startCode s (queryReq tag p) = 0 := by simp [startCode, hb]
  have h3 : reachCode s via (queryReq tag p) = 0 := reachCode_manager hrole (by have := p.isLt; simp only [queryReq, pidx]; omega)
  have h4 : placeCode s (queryReq tag p) = 0 := by simp [placeCode, queryReq, descsAt_ne hd, hd, htab]
  have h5 : accessCode (queryReq tag p) = 0 := by simp [accessCode, queryReq, hd, hacc]
  have h6 : roleCode s via (queryReq tag p) = 0 := by simp [roleCode, queryReq, hd, hread, hrole, meet]
  have h7 : typeCode (queryReq tag p) = 0 := by simp [typeCode, queryReq]
  have h8 : valueCode (queryReq tag p) [] = 0 := by simp [valueCode, sizeAt, queryReq]
  simp [requestCode, firstCode, h1, h2, h3, h4, h5, h6, h7, h8]

omit hm in
theorem readOctets_query : readOctets s (pidx p.val 0x40) 5 = none := by
  have hlt := p.isLt
  have hne : ∀ k, k < 0x4000 → pidx p.val 0x40 ≠ k := fun k hk => by simp only [pidx]; omega
  obtain ⟨hlo, -, hmod⟩ := pidx_split hlt (off := 0x40) (by decide)
  have hhi : pidx p.val 0x40 < 0x8000 := by simp only [pidx]; omega
  unfold readOctets
  simp [hne, hlo, hhi, hmod]

omit hm in
theorem readValue_query : readValue s (queryReq tag p) = beBytes 16 (queryResult s p.val) := by
  have hlt := p.isLt
  obtain ⟨hlo, hp, hmod⟩ := pidx_split hlt (off := 0x40) (by decide)
  have hhi : pidx p.val 0x40 < 0x8000 := by simp only [pidx]; omega
  obtain ⟨d, hpad, htab, hacc, hsize⟩ : ∃ d, descPad 0x40 5 = some d ∧ d.tab = false ∧ d.acc = .ro ∧ d.size = 16 := ⟨_, rfl, by decide⟩
  have hd : descOf (pidx p.val 0x40) 5 = some d := (descOf_pad 5 hlt (by decide)).trans hpad
  have hbytes : valueBytes s (pidx p.val 0x40) 5 false = beBytes 16 (queryResult s p.val) := by
    simp [valueBytes, hd, htab, hacc, hsize, readOctets_query, hlo, hhi, hp, hmod, readPad]
  have hlen : (beBytes 16 (queryResult s p.val)).length = 16 := beBytes_length ..
  have hall : ∀ m, 16 ≤ m → (beBytes 16 (queryResult s p.val)).take m = beBytes 16 (queryResult s p.val) := fun m hm =>
    List.take_of_length_le (by omega)
  unfold readValue
  change (if _ then ((valueBytes s (pidx p.val 0x40) 5 false).drop 0).take 1024 else valueBytes s (pidx p.val 0x40) 5 false) = _
  rw [hbytes, List.drop_zero, hall 1024 (by decide), ite_self]

theorem exec_ptQueryResult : exec (.ptQueryResult via tag p) s =
    .next (settle (answer (fresh1 s) via (queryReq tag p) 0 0 (beBytes 16 (queryResult s p.val)))) := by
  have hrun : exec (.ptQueryResult via tag p) s = .next (settle (serve s via (queryReq tag p) [] {} s.sys.bootFacts)) := ran_next_of_manager hm _
  obtain ⟨⟨-, hr, hs, -⟩, -⟩ := id hm
  have hj : ¬ ((queryReq tag p).index = 0x1C00 ∧ (queryReq tag p).sub = 0x0C ∧ journalRecord s = none) := by
    rintro ⟨h, -⟩
    simp only [queryReq, pidx] at h
    omega
  rw [hrun, serve_read hr hs rfl (requestCode_query hm tag p) hj, readValue_query]

end

/-- Settles O44: PT_WRITE by its check and the entry's old value, walks and invalidations by what waits for them, each memory opcode by its
branch, and a batch by whether it holds a record. -/
theorem pageTablesAndTranslations : Obligations.PageTablesAndTranslations := by
  intro s p
  refine ⟨fun via tag data hm h16 h1024 hmod => ⟨fun hcode => ?refused, ptWriteCheck_closed h16 h1024 hmod,
      fun e slot hcheck hone hslot hwf _ => ⟨fun hbit => ?new, fun hbit => ?valid⟩⟩,
    fun n via tag hb hi hd hc => ?answered, fun n a k id c hb hi hd hc hn => ?commits, fun via tag hm => exec_ptQueryResult hm tag p,
    fun n w hb hw hst => (exec_walkComplete hb n).trans (next_settle (doWalkComplete_stale hw hst)),
    fun n w t c pte level hb hw hst ht hc => ⟨fun hwalk hlocal hs _ => ?leaf, fun code hwalk => ?fault⟩,
    fun id c loaded va _ h => prefetchOn_past s id loaded h, ?memory, fun hb => ⟨fun h => ?nobatch, fun h => ?batch⟩⟩
  case refused =>
    exact answers_accepted (serving_eq_none_of_manager hm) (exec_ptWrite hm tag p h16 h1024) (by
      rw [doPtWrite, ptWriteCheck_accepted]
      exact if_pos hcode)
  case new =>
    have hexec := exec_ptWrite hm tag p h16 h1024
    rw [doPtWrite_new (s := accepted s via tag) ((ptWriteCheck_accepted s via tag p.val data).trans hcheck) hone
      ((slotOf_accepted s via tag ..).trans hslot) via tag hbit] at hexec
    refine ⟨_, answers_of_settled hexec rfl, ?_, ?_⟩
    · exact (tableNat_congr rfl rfl rfl slot 8).trans (tableNat_wrotePte (accepted s via tag) p.val e slot hwf)
    · exact (congrArg Rick.tlb (wrotePte_rick (accepted s via tag) p.val e slot) :)
  case valid =>
    have hexec := exec_ptWrite hm tag p h16 h1024
    rw [doPtWrite_valid (s := accepted s via tag) ((ptWriteCheck_accepted s via tag p.val data).trans hcheck) hone
      ((slotOf_accepted s via tag ..).trans hslot) via tag hbit, settled_none] at hexec
    have hrick := wrotePte_rick (accepted s via tag) p.val e slot
    have hframe := wrotePte_frame (accepted s via tag) p.val e slot
    generalize hu : wrotePte (accepted s via tag) p.val e slot = u at hexec hrick hframe
    have hnext : u.rick.nextInval = s.rick.nextInval := (congrArg Rick.nextInval hrick :)
    have hinvals : u.rick.invals = s.rick.invals := (congrArg Rick.invals hrick :)
    refine ⟨_, hexec, ?_, ?_, ?_, fun x hx h => ?_, fun w hw hp => answersLater_walks u p.val _ via tag hw hp, ?_⟩
    · rw [tableNat_answersLater, ← hu]
      exact tableNat_wrotePte (accepted s via tag) p.val e slot hwf
    · rw [← hinvals, ← hnext]
      rfl
    · rw [← hnext]
      exact List.mem_append_right _ (List.mem_singleton.mpr rfl)
    · exact answersLater_tlb u p.val _ via tag hx ⟨h.1, by simpa using h.2⟩
    · exact (congrArg State.out hframe :)
  case answered =>
    refine ⟨_, _, (exec_rangeInvalidationDone hb n).trans (next_settle (doRangeInvalidationDone_answers hi hd hc)), ?_, ?_,
      mem_sendResponse_out .., ?_⟩
    · rw [respond_rick]
      rfl
    · rw [respond_deferred]
      rfl
    · obtain ⟨htag, -, hstatus, -⟩ := responseHeader_fields 2 tag.toNat (pidx p.val 0x40) 3 _ _ 0 0 tag.isLt (by decide) (by decide)
      exact ⟨htag, hstatus⟩
  case commits => exact (exec_rangeInvalidationDone hb n).trans (next_settle (doRangeInvalidationDone_commits hi hd hc hn))
  case leaf =>
    exact ⟨_, (exec_walkComplete hb n).trans (next_settle (doWalkComplete_leaf hw hst ht hc hwalk hlocal)), mem_tlbFill t w.p _ _ hs,
      tlbFill_cmd ..⟩
  case fault => exact ⟨_, (exec_walkComplete hb n).trans (next_settle (doWalkComplete_fault hw hst ht hc hwalk)), recFault_cmd ..⟩
  case nobatch => exact (exec_faultBatchFlush hb p).trans (next_settle (flushBatch_nil s p.val h))
  case batch =>
    obtain ⟨b, l, hl⟩ := List.exists_cons_of_ne_nil h
    exact ⟨_, exec_faultBatchFlush hb p, faultBatch_flushed s p.val hl, flushBatch_cmd s p.val, occurs_flushed s p.val hl p.isLt⟩
  case memory =>
    rintro s1 id c k rfl rfl
    refine ⟨fun hw hidle hr => (exec_prefetch hw.1 id).trans (next_settle (doPrefetch_walks hw hidle hr)),
      fun hw hidle hn => (exec_prefetch hw.1 id).trans (next_settle (doPrefetch_empty hw hidle hn)), fun hw hr => ?advise,
      fun hw hidle hr => ?invalidate⟩
    case advise =>
      have hdo := fun (k : Nat) (hk : dArg c.desc 2 = k) (hlt : k < 4) => (exec_advise hw.1 id).trans (next_settle (doAdvise_eq hw hr hk hlt))
      refine ⟨fun hk => ⟨_, _, hdo 0 hk (by decide), rfl, fun e he hin => ?_, rfl⟩, fun hk => ⟨_, _, hdo 1 hk (by decide), rfl, ?_, ?_⟩,
        fun hk => hdo 2 hk (by decide), fun hk => hdo 3 hk (by decide)⟩
      · obtain ⟨x, -, rfl⟩ := List.mem_map.mp he
        by_cases hx : tlbIn c.p (dArg c.desc 0) (dArg c.desc 1) x = true
        · rw [if_pos hx]
        · rw [if_neg hx] at hin
          exact absurd hin hx
      · exact pinRange_keys ..
      · exact pinRange_count ..
    case invalidate =>
      refine ⟨_, _, (exec_invalidate hw.1 id).trans (next_settle (doInvalidate_waits hw hidle hr)), cmdOf_updCmd _ (cmdOf_updCmd _ hw.2.1), rfl,
        ?_, fun e he => ?_, ?_⟩
      · rw [updCmd_rick, ← begun_rick s id]
        rfl
      · rw [updCmd_rick] at he
        exact Bool.not_eq_true' _ ▸ (List.mem_filter.mp he).2
      · rw [updCmd_rick, ← begun_rick s id]
        rfl

end Sys2Proof.Machine
end

/-! # The root is reconstructed: the configuration is applied and the islands are released -/

section
namespace Sys2Proof.Machine
open Sys2Proof

/-! ### What a fault keeps besides the paddocks -/

/-- What is kept besides the paddocks. -/
def rest (s : State) : Objs × List Instr × Sys × Commons × Acct × PairSt × Power × Ftm × Store × Swathe := (kept s).2

theorem rest_of_kept {s t : State} (h : kept t = kept s) : rest t = rest s := congrArg Prod.snd h

theorem rest_updPad (s : State) (p : Nat) (f : Paddock → Paddock) : rest (updPad s p f) = rest s := rfl

theorem rest_endPend (s : State) (p c : Nat) : rest (endPend s p c) = rest s := by
  simp only [endPend]
  split
  · rfl
  · exact (rest_of_kept (logPad_kept ..)).trans (rest_updPad ..)

theorem rest_enterFaulted (s : State) (p code : Nat) : rest (enterFaulted s p code) = rest s := by
  rw [enterFaulted, setPState, rest_of_kept (firePad_kept ..), rest_updPad, rest_updPad]
  split
  · exact rest_endPend ..
  · rfl

theorem rest_paddockFault (s : State) (p code : Nat) : rest (paddockFault s p code) = rest s := by
  by_cases hf : (pad s p).state = .faulted
  · rw [paddockFault_faulted hf]
    split
    · rw [rest_endPend, rest_of_kept (logPad_kept ..)]
    · rw [rest_of_kept (logPad_kept ..)]
  · by_cases he : (pad s p).state = .empty ∧ (pad s p).pend = none
    · rw [paddockFault_empty he.1 he.2, rest_of_kept (logPad_kept ..)]
    · rw [paddockFault_enters hf he, rest_of_kept (logPad_kept ..), rest_of_kept (faultQps_kept ..), rest_of_kept (killAll_kept ..),
        rest_enterFaulted]

theorem rest_faultPads (s : State) (ps : List Nat) (code : Nat) : rest (faultPads s ps code) = rest s :=
  foldl_keeps rest _ (fun s p => rest_paddockFault s p code) ps s

/-! ### Putting values into force leaves the start-up, the power, the keys and the islands -/

/-- The start-up, power, SEC and the islands. -/
def frame4 (s : State) : Sys × Power × Sec × Faults := (s.sys, s.pow, s.sec, s.flt)

theorem frame4_of {s t : State} (hsys : t.sys = s.sys) (hpow : t.pow = s.pow) (hsec : t.sec = s.sec) (hflt : t.flt = s.flt) :
    frame4 t = frame4 s := by
  simp only [frame4, hsys, hpow, hsec, hflt]

theorem of_frame4 {s : State} {a : Sys} {b : Power} {c : Sec} {d : Faults} (h : frame4 s = (a, b, c, d)) :
    s.sys = a ∧ s.pow = b ∧ s.sec = c ∧ s.flt = d := by simpa only [frame4, Prod.mk.injEq] using h

theorem foldl_frame4 {α : Type} {f : State → α → State} (h : ∀ s a, frame4 (f s a) = frame4 s) (l : List α) (s : State) :
    frame4 (l.foldl f s) = frame4 s := foldl_keeps frame4 f h l s

section
variable (s : State)

theorem fire_frame4 (n : Nat) : frame4 (fire s n) = frame4 s := frame4_of (fire_sys ..) (fire_pow ..) (fire_sec ..) (fire_flt ..)

theorem logPad_frame4 (p c v : Nat) (l : List Nat) : frame4 (logPad s p c v l) = frame4 s :=
  frame4_of (logPad_sys ..) (logPad_pow ..) (logPad_sec ..) (logPad_flt ..)

theorem logDev_frame4 (c v : Nat) (l : List Nat) : frame4 (logDev s c v l) = frame4 s :=
  frame4_of (logDev_sys ..) (logDev_pow ..) (logDev_sec ..) (logDev_flt ..)

theorem cairn_frame4 (c v : Nat) (d : Bool) (p : Nat) (l : List Nat) : frame4 (cairn s c v d p l) = frame4 s :=
  frame4_of (cairn_sys ..) (cairn_pow ..) (cairn_sec ..) (cairn_flt ..)

theorem journal_frame4 (k : Nat) (l : List Nat) : frame4 (journal s k l) = frame4 s :=
  frame4_of (journal_sys ..) (journal_pow ..) (journal_sec ..) (journal_flt ..)

theorem resend_frame4 (q x : Nat) (u : Nat × Bytes) : frame4 (resend s q x u) = frame4 s :=
  frame4_of (resend_sys ..) (resend_pow ..) (resend_sec ..) (resend_flt ..)

theorem drainLink_frame4 (l n : Nat) : frame4 (drainLink l n s) = frame4 s :=
  frame4_of (drainLink_sys ..) (drainLink_pow ..) (drainLink_sec ..) (drainLink_flt ..)

theorem rebindPath_frame4 (q l : Nat) (i : Nat) : frame4 (rebindPath q l s i) = frame4 s := by
  simp only [rebindPath]
  repeat' split
  · rfl
  · rfl
  · rfl
  · exact (foldl_frame4 (fun s u => resend_frame4 s ..) ..).trans (logPad_frame4 ..)

theorem rebind_frame4 (l : Nat) : frame4 (rebind s l) = frame4 s :=
  foldl_frame4 (fun s _ => foldl_frame4 (fun s i => rebindPath_frame4 s _ _ i) _ s) _ s

theorem setLState_frame4 {l : Nat} (h : l < 64) (st : LState) : frame4 (setLState s l st) = frame4 s := by
  simp only [setLState, h, if_true]
  exact fire_frame4 ..

theorem applyLinks_frame4 : frame4 (applyLinks s) = frame4 s := by
  have hfold : ∀ (ls : List Nat) (s : State), (∀ l ∈ ls, l < 64) →
      frame4 (ls.foldl (fun s l => if bit (cfg s 0x1700 2) l then enableLink s l else disableLink s l) s) = frame4 s := by
    intro ls
    induction ls with
    | nil => exact fun s _ => rfl
    | cons l ls ih =>
      intro s h
      have hl := h l (.head _)
      rw [List.foldl_cons, ih _ fun k hk => h k (.tail _ hk)]
      split
      · simp only [enableLink]
        split
        · exact setLState_frame4 s hl _
        · rfl
      · simp only [disableLink]
        split
        · rfl
        · exact (rebind_frame4 ..).trans (setLState_frame4 _ hl _)
  exact hfold _ _ fun l hl => List.mem_range.mp hl

theorem setTime_frame4 (n : Nat) : frame4 (setTime s n) = frame4 s := by
  obtain ⟨k, hk⟩ := setTime_eq s n
  rw [hk]
  rfl

theorem stopInjection_frame4 : frame4 (stopInjection s) = frame4 s := by
  refine (foldl_frame4 (fun s l => ?_) _ _).trans rfl
  split
  · rfl
  · exact drainLink_frame4 ..

theorem applyTimeRole_frame4 (r : Nat) : frame4 (applyTimeRole s r) = frame4 s := by
  simp only [applyTimeRole]
  repeat' split
  · rfl
  · exact setTime_frame4 s 4
  · rw [stopInjection_frame4, setTime_frame4]
  · rfl

theorem applyPairRole_frame4 (r : Nat) : frame4 (applyPairRole s r) = frame4 s := by
  simp only [applyPairRole]
  repeat' split
  all_goals rfl

theorem applyValues_frame4 (t : Tbl Nat) : frame4 (applyValues s t) = frame4 s := by
  simp only [applyValues]
  refine (foldl_frame4 (fun s e => ?_) _ _).trans ?_
  · split <;> rfl
  · split <;> split <;> simp only [applyPairRole_frame4, applyTimeRole_frame4, applyLinks_frame4] <;> rfl

end

/-! ### The configuration of a start-up (R96, R97) -/

theorem reserveCvn_frame4 (s : State) : frame4 (reserveCvn s) = frame4 s := journal_frame4 s 7 [ctrCvn, s.obj.cvnLast + 1]

theorem reserveCvn_cvnLast (s : State) : (reserveCvn s).obj.cvnLast = s.obj.cvnLast + 1 := by
  rw [reserveCvn, journalCounter, journal_obj]

/-- The factory image is put into force under the next CVN. -/
theorem loadFactory_shape (s : State) (code : Nat) : ∃ (t : State) (v : Version) (l : List Nat),
    loadFactory s code = fire (cairn { makeCurrent t v with obj.cfgDefaulted := true } code 2 true 0 l) 744 ∧
    frame4 t = frame4 s ∧ v.cvn = s.obj.cvnLast + 1 ∧ v.source = 4 ∧ v.values = [] := by
  unfold loadFactory
  extract_lets src s1 s2 s3 v bad s4 src'
  have h1 : frame4 s1 = frame4 s := rfl
  have h2 : frame4 s2 = frame4 s1 := reserveCvn_frame4 s1
  have l2 : s2.obj.cvnLast = s.obj.cvnLast + 1 := reserveCvn_cvnLast s1
  clear_value s2
  have h3 : frame4 s3 = frame4 s2 := journal_frame4 s2 2 _
  have l3 : s3.obj.cvnLast = s2.obj.cvnLast := congrArg Objs.cvnLast (journal_obj s2 2 _)
  clear_value s3
  exact ⟨s3, v, [bad], rfl, h3.trans (h2.trans h1), l3.trans l2, rfl, rfl⟩

section
variable (s : State)

theorem loadFactory_frame4 (code : Nat) : frame4 (loadFactory s code) = frame4 s := by
  obtain ⟨t, v, l, h, ht, -⟩ := loadFactory_shape s code
  rw [h, fire_frame4, cairn_frame4]
  exact (applyValues_frame4 { t with obj.versions := _, obj.cvn := v.cvn, obj.cfgSource := v.source } v.values).trans ht

end

section
variable {s : State} {c : ConfigCheck}

theorem loadConfig_none (h : s.obj.versions.find? (fun v => v.status = 2) = none) : loadConfig s c = applyValues s [] := by
  unfold loadConfig
  split
  · rfl
  all_goals next h' => rw [h] at h'; cases h'

section
variable {v : Version} (h : s.obj.versions.find? (fun v => v.status = 2) = some v)
include h

theorem loadConfig_passed : loadConfig s .passed = applyValues s v.values := by
  unfold loadConfig
  rw [h]

theorem loadConfig_failed (hc : c ≠ .passed) : ∃ code, loadConfig s c = loadFactory s code := by
  unfold loadConfig
  rw [h]
  cases c with
  | passed => exact absurd rfl hc
  | checkWord => exact ⟨_, rfl⟩
  | signature => exact ⟨_, rfl⟩
  | blockVersion => exact ⟨_, rfl⟩

end

theorem loadConfig_frame4 : frame4 (loadConfig s c) = frame4 s := by
  cases h : s.obj.versions.find? (fun v => v.status = 2) with
  | none => rw [loadConfig_none h, applyValues_frame4]
  | some v =>
    by_cases hc : c = .passed
    · rw [hc, loadConfig_passed h, applyValues_frame4]
    · obtain ⟨code, hcode⟩ := loadConfig_failed h hc
      rw [hcode, loadFactory_frame4]

end

/-! ### The islands are released (R641, R647) -/

section
variable (s : State)

theorem closing_frame4 (p : Nat) (r : Bytes) : frame4 (closing s p r) = frame4 s := by
  unfold closing
  split
  · rfl
  · exact logPad_frame4 ..

theorem closing_conf (p : Nat) (r : Bytes) : conf (closing s p r) = conf s := by
  unfold closing
  split
  · rfl
  · exact logPad_conf ..

theorem closeMeters_frame4 : frame4 (closeMeters s) = frame4 s :=
  foldl_frame4 (fun s p => by
    split
    · rfl
    · split
      · rfl
      · exact closing_frame4 ..) _ s

theorem closeMeters_conf : conf (closeMeters s) = conf s :=
  foldl_keeps conf _ (fun s p => by
    split
    · rfl
    · split
      · rfl
      · exact closing_conf ..) _ s

theorem deviceTargets_frame4 : frame4 (deviceTargets s) = frame4 s := by
  unfold deviceTargets
  generalize List.range 512 = l
  generalize List.range 32 = l'
  exact (foldl_frame4 (by intros; rfl) l' _).trans (foldl_frame4 (by intros; rfl) l s)

theorem deviceTargets_conf : conf (deviceTargets s) = conf s := by
  unfold deviceTargets
  generalize List.range 512 = l
  generalize List.range 32 = l'
  exact (foldl_keeps conf _ (by intros; rfl) l' _).trans (foldl_keeps conf _ (by intros; rfl) l s)

theorem releaseIslands_frame4 : frame4 (releaseIslands s) = ({ s.sys with boot := 3 }, s.pow, s.sec, { s.flt with state := [] }) :=
  (closeMeters_frame4 _).trans (deviceTargets_frame4 _)

theorem releaseIslands_conf : conf (releaseIslands s) = conf s :=
  (closeMeters_conf _).trans ((deviceTargets_conf _).trans (setO_conf ..))

end

/-- The configuration, the start-up, the power, the state of SEC and those of the islands. -/
def standing (s : State) : Objs × Sys × Power × Nat × Tbl Nat := (conf s, s.sys, s.pow, s.sec.st, s.flt.state)

theorem standing_of_frame4 {s t : State} (hconf : conf t = conf s) (h : frame4 t = frame4 s) : standing t = standing s := by
  have hsys : t.sys = s.sys := congrArg (·.1) h
  have hpow : t.pow = s.pow := congrArg (·.2.1) h
  have hsec : t.sec = s.sec := congrArg (·.2.2.1) h
  have hflt : t.flt = s.flt := congrArg (·.2.2.2) h
  simp only [standing, hconf, hsys, hpow, hsec, hflt]

theorem standing_faultPads (s : State) (ps : List Nat) (code : Nat) : standing (faultPads s ps code) = standing s := by
  have hrest := rest_faultPads s ps code
  have hquiet := faultPads_quiet s ps code
  have hconf : conf (faultPads s ps code) = conf s := congrArg (·.1) hrest
  have hsys : (faultPads s ps code).sys = s.sys := congrArg (·.2.2.1) hrest
  have hpow : (faultPads s ps code).pow = s.pow := congrArg (·.2.2.2.2.2.2.1) hrest
  have hsec : (faultPads s ps code).sec.st = s.sec.st := congrArg (·.1.st) hquiet
  have hflt : (faultPads s ps code).flt.state = s.flt.state := congrArg (·.2.1) hquiet
  simp only [standing, hconf, hsys, hpow, hsec, hflt]

theorem standing_logBoth (s : State) (code sev : Nat) (l : List Nat) : standing (logBoth s code sev l) = standing s :=
  standing_of_frame4 ((cairn_conf ..).trans (logDev_conf ..)) ((cairn_frame4 ..).trans (logDev_frame4 ..))

/-- The modules of a side whose island has failed have failed. -/
def sideFailed (s : State) (i : Nat) : State :=
  if i = 4 || i = 5 then ((List.range 24).filter (fun m => m / 12 = i - 4)).foldl (fun s m =>
    updTpm s m (fun k => { k with up := false, failed := true })) s else s

theorem standing_sideFailed (s : State) (i : Nat) : standing (sideFailed s i) = standing s := by
  unfold sideFailed
  split
  · exact foldl_keeps standing _ (by intros; rfl) _ _
  · rfl

/-- An island's state. -/
def withIsland (s : State) (i st : Nat) : State := { s with flt.state := Tbl.set s.flt.state i st }

/-- An island that does not return is failed, and the paddocks that need it fault. -/
theorem doIslandFailed_eq {s : State} {i : Nat} (h2 : Tbl.get s.flt.state i = 2) (hpow : s.pow.st ≠ 4) : doIslandFailed s i =
    faultPads (logBoth (sideFailed (withIsland s i 3) i) 0x0122 (if vital i || !(failHits s i).isEmpty then 3 else 0) [i])
      (failHits s i) 0x0122 := by
  unfold doIslandFailed
  exact if_neg (by simp [h2, hpow])

theorem standing_doIslandFailed {s : State} {i : Nat} (hpow : s.pow.st ≠ 4) :
    standing (doIslandFailed (withIsland s i 2) i) = standing (withIsland (withIsland s i 2) i 3) := by
  rw [doIslandFailed_eq (s := withIsland s i 2) (Tbl.get_set_self ..) hpow, standing_faultPads, standing_logBoth, standing_sideFailed]

/-- One island that is listed as failed. -/
def failOne (s : State) (i : Nat) : State := if islandOut s i then s else doIslandFailed (withIsland s i 2) i

theorem failedAtStart_eq (l : List Nat) (s : State) : failedAtStart l s = (l.filter (fun i => 3 ≤ i && i ≤ 38)).foldl failOne s := rfl

theorem standing_failOne {s : State} (i : Nat) (hpow : s.pow.st = 0) : ∃ n : Tbl Nat, standing (failOne s i) = (conf s, s.sys, s.pow, s.sec.st, n) ∧
    ∀ k, Tbl.get n k = if k = i ∧ Tbl.get s.flt.state k = 0 then 3 else Tbl.get s.flt.state k := by
  unfold failOne
  split
  · next h =>
    refine ⟨s.flt.state, rfl, fun k => ?_⟩
    rw [if_neg]
    rintro ⟨rfl, h0⟩
    simp [islandOut, h0] at h
  · next h =>
    have h0 : Tbl.get s.flt.state i = 0 := by simpa [islandOut] using h
    refine ⟨_, standing_doIslandFailed (by rw [hpow]; decide), fun k => ?_⟩
    by_cases hk : k = i
    · subst hk
      rw [if_pos ⟨rfl, h0⟩]
      exact Tbl.get_set_self ..
    · rw [if_neg fun h => hk h.1]
      exact (Tbl.get_set_ne (Ne.symm hk) _ _).trans (Tbl.get_set_ne (Ne.symm hk) _ _)

theorem standing_failAll : ∀ (l : List Nat) (s : State), s.pow.st = 0 →
    ∃ n : Tbl Nat, standing (l.foldl failOne s) = (conf s, s.sys, s.pow, s.sec.st, n) ∧
      ∀ k, Tbl.get n k = if k ∈ l ∧ Tbl.get s.flt.state k = 0 then 3 else Tbl.get s.flt.state k
  | [], s, _ => ⟨s.flt.state, rfl, fun k => by simp⟩
  | i :: l, s, hpow => by
    obtain ⟨m, hm, hget⟩ := standing_failOne i hpow
    have hpow' : (failOne s i).pow = s.pow := congrArg (·.2.2.1) hm
    have hstate : (failOne s i).flt.state = m := congrArg (·.2.2.2.2) hm
    have hconf : conf (failOne s i) = conf s := congrArg (·.1) hm
    have hsys : (failOne s i).sys = s.sys := congrArg (·.2.1) hm
    have hsec : (failOne s i).sec.st = s.sec.st := congrArg (·.2.2.2.1) hm
    obtain ⟨n, hn, hall⟩ := standing_failAll l (failOne s i) (by rw [hpow']; exact hpow)
    refine ⟨n, by rw [List.foldl_cons, hn, hconf, hsys, hpow', hsec], fun k => ?_⟩
    rw [hall k, hstate, hget k]
    by_cases hk : k = i
    · subst hk
      by_cases h0 : Tbl.get s.flt.state k = 0 <;> simp [h0]
    · simp [hk]

/-! ### ROOT_RECONSTRUCTED (R489, R490, R641) -/

/-- SEC has the root from a copy, or has none. -/
def rooted (s : State) (copy : Option (Fin 4)) : State :=
  match copy with
  | none => cairn { s with sec.st := 2 } 0x0B0C 3 true 0 []
  | some k => if k = 0 then { s with sec.st := 1 } else logDev { s with sec.st := 1 } 0x0B0D 1 [k.val]

section
variable (s : State) (copy : Option (Fin 4))

theorem rooted_frame4 : frame4 (rooted s copy) = (s.sys, s.pow, { s.sec with st := if copy.isSome then 1 else 2 }, s.flt) := by
  cases copy with
  | none => exact cairn_frame4 ..
  | some k =>
    simp only [rooted]
    split
    · rfl
    · exact logDev_frame4 ..

theorem rooted_conf : conf (rooted s copy) = conf s := by
  cases copy with
  | none => exact cairn_conf ..
  | some k =>
    simp only [rooted]
    split
    · rfl
    · exact logDev_conf ..

/-- In a start-up the configuration follows, and the islands. -/
theorem doRootReconstructed_starts {s : State} (hboot : s.sys.boot = 2) (hsec : s.sec.st = 0) (copy : Option (Fin 4)) (c : ConfigCheck)
    (failed : List Nat) : doRootReconstructed s copy c failed = failedAtStart failed (releaseIslands (loadConfig (rooted s copy) c)) := by
  have hgo : ¬ (s.sec.st ≠ 0 || s.sys.boot < 2 || (s.sys.boot = 3 && islandOut s 2)) = true := by simp [hsec, hboot]
  have hsys : (rooted s copy).sys = s.sys := congrArg (·.1) (rooted_frame4 s copy)
  unfold doRootReconstructed
  rw [if_neg hgo]
  exact if_pos ((congrArg Sys.boot hsys).trans hboot)

end

section
variable {s : State} {c : ConfigCheck} {copy : Option (Fin 4)}

theorem versions_rooted : (rooted s copy).obj.versions = s.obj.versions := (congrArg Objs.versions (rooted_conf s copy) :)

theorem conf_loadConfig_none (h : s.obj.versions.find? (fun v => v.status = 2) = none) :
    conf (loadConfig (rooted s copy) c) = { conf s with committed := [], draft := [], draftOwner := none } := by
  rw [loadConfig_none (by rw [versions_rooted]; exact h), applyValues_conf, rooted_conf]

section
variable {v : Version} (h : s.obj.versions.find? (fun v => v.status = 2) = some v)
include h

theorem conf_loadConfig_passed :
    conf (loadConfig (rooted s copy) .passed) = { conf s with committed := v.values, draft := v.values, draftOwner := none } := by
  rw [loadConfig_passed (by rw [versions_rooted]; exact h), applyValues_conf, rooted_conf]

theorem conf_loadConfig_failed (hc : c ≠ .passed) : ∃ o : Objs, conf (loadConfig (rooted s copy) c) = o ∧ o.committed = [] ∧ o.draft = [] ∧
    o.draftOwner = none ∧ o.cvn = s.obj.cvnLast + 1 ∧ o.cfgDefaulted = true ∧ o.cfgSource = 4 := by
  obtain ⟨code, hcode⟩ := loadConfig_failed (s := rooted s copy) (c := c) (by rw [versions_rooted]; exact h) hc
  obtain ⟨t, x, l, hload, -, hcvn, hsource, hvalues⟩ := loadFactory_shape (rooted s copy) code
  have hlast : (rooted s copy).obj.cvnLast = s.obj.cvnLast := (congrArg Objs.cvnLast (rooted_conf s copy) :)
  have hconf : conf (loadConfig (rooted s copy) c) = { conf (makeCurrent t x) with cfgDefaulted := true } := by
    rw [hcode, hload, fire_conf, cairn_conf]
    rfl
  rw [conf_makeCurrent] at hconf
  exact ⟨_, hconf, hvalues, hvalues, rfl, hcvn.trans (by rw [hlast]), rfl, hsource⟩

end

/-- However the configuration is loaded, its draft equals it and has no owner. -/
theorem loadConfig_draft : (loadConfig (rooted s copy) c).obj.draftOwner = none ∧
    (loadConfig (rooted s copy) c).obj.draft = (loadConfig (rooted s copy) c).obj.committed := by
  suffices h : ∃ o : Objs, conf (loadConfig (rooted s copy) c) = o ∧ o.draftOwner = none ∧ o.draft = o.committed by
    obtain ⟨o, ho, h1, h2⟩ := h
    rw [← ho] at h1 h2
    exact ⟨h1, h2⟩
  cases h : s.obj.versions.find? (fun v => v.status = 2) with
  | none => exact ⟨_, conf_loadConfig_none h, rfl, rfl⟩
  | some v =>
    by_cases hc : c = .passed
    · subst hc
      exact ⟨_, conf_loadConfig_passed h, rfl, rfl⟩
    · obtain ⟨o, ho, h1, h2, h3, -⟩ := conf_loadConfig_failed (copy := copy) h hc
      exact ⟨o, ho, h3, h2.trans h1.symm⟩

end

section
variable (s : State) (c : ConfigCheck) (copy : Option (Fin 4)) (failed : List (Fin 64))

/-- The state that a reconstruction in a start-up leaves. -/
def rootState : State := failedAtStart (failed.map (·.val)) (releaseIslands (loadConfig (rooted s copy) c))

variable {s}

theorem standing_rootState (hpow : s.pow.st = 0) : ∃ n, standing (rootState s c copy failed) =
    (conf (loadConfig (rooted s copy) c), { s.sys with boot := 3 }, s.pow, if copy.isSome then 1 else 2, n) ∧
      ∀ i, Tbl.get n i = if 3 ≤ i ∧ i ≤ 38 ∧ i ∈ failed.map (fun x => x.val) then 3 else 0 := by
  have hload : frame4 (loadConfig (rooted s copy) c) = (s.sys, s.pow, { s.sec with st := if copy.isSome then 1 else 2 }, s.flt) :=
    loadConfig_frame4.trans (rooted_frame4 s copy)
  obtain ⟨hsys, hpow', hsec, -⟩ := of_frame4 hload
  simp only [rootState, failedAtStart_eq]
  generalize loadConfig (rooted s copy) c = t at *
  obtain ⟨rsys, rpow, rsec, rflt⟩ := of_frame4 (releaseIslands_frame4 t)
  obtain ⟨n, hn, hget⟩ := standing_failAll ((failed.map (·.val)).filter (fun i => 3 ≤ i && i ≤ 38)) (releaseIslands t)
    ((congrArg Power.st (rpow.trans hpow')).trans hpow)
  refine ⟨n, ?_, fun i => ?_⟩
  · rw [hn, releaseIslands_conf, rsys, rpow, rsec, hsys, hpow', hsec]
  · have hzero : Tbl.get (releaseIslands t).flt.state i = 0 := by rw [rflt]; rfl
    have hiff : i ∈ (failed.map (·.val)).filter (fun i => 3 ≤ i && i ≤ 38) ↔ 3 ≤ i ∧ i ≤ 38 ∧ i ∈ failed.map (fun x => x.val) := by
      rw [List.mem_filter, Bool.and_eq_true, decide_eq_true_eq, decide_eq_true_eq]
      exact ⟨fun ⟨hi, hlo, hhi⟩ => ⟨hlo, hhi, hi⟩, fun ⟨hlo, hhi, hi⟩ => ⟨hi, hlo, hhi⟩⟩
    simp only [hget i, hzero, hiff, and_true]

end

/-- Settles O15: the configuration is loaded, the islands are released, and each listed island fails in turn. -/
theorem rootReconstructionEndsStartUp : Obligations.RootReconstructionEndsStartUp := by
  intro s c copy failed hboot hsec hpow
  obtain ⟨n, hn, hget⟩ := standing_rootState c copy failed hpow
  have hexec : exec (.rootReconstructed copy c failed) s = .next (settle (rootState s c copy failed)) :=
    (ran_next (by omega)).trans (next_settle (doRootReconstructed_starts hboot hsec copy c _))
  have hconf : conf (rootState s c copy failed) = conf (loadConfig (rooted s copy) c) := congrArg (·.1) hn
  have hsys : (rootState s c copy failed).sys = { s.sys with boot := 3 } := congrArg (·.2.1) hn
  have hsec : (rootState s c copy failed).sec.st = if copy.isSome then 1 else 2 := congrArg (·.2.2.2.1) hn
  have hstate : (rootState s c copy failed).flt.state = n := congrArg (·.2.2.2.2) hn
  obtain ⟨howner, hdraft⟩ := loadConfig_draft (s := s) (c := c) (copy := copy)
  refine ⟨_, hexec, congrArg Sys.boot hsys, fun i => by rw [hstate]; exact hget i, hsec, (congrArg Objs.draftOwner hconf).trans howner,
    (congrArg Objs.draft hconf).trans (hdraft.trans (congrArg Objs.committed hconf).symm), fun v hv hc => ?passed, fun v hv hc => ?failed⟩
  case passed =>
    subst hc
    have h := hconf.trans (conf_loadConfig_passed (copy := copy) hv)
    exact ⟨(congrArg Objs.committed h :), (congrArg Objs.cvn h :), (congrArg Objs.cfgDefaulted h :)⟩
  case failed =>
    obtain ⟨o, ho, h1, -, -, h2, h3, h4⟩ := conf_loadConfig_failed (copy := copy) hv hc
    have h := hconf.trans ho
    exact ⟨(congrArg Objs.committed h).trans h1, (congrArg Objs.cvn h).trans h2, (congrArg Objs.cfgDefaulted h).trans h3,
      (congrArg Objs.cfgSource h).trans h4⟩

end Sys2Proof.Machine
end

/-! # The resets start the device up -/

section
namespace Sys2Proof.Machine
open Sys2Proof

/-! ### The replay of the journal changes the store, the logs and the events alone -/

/-- What a start from the boot ROM to the wait for SEC does not change, but for the count of boots. -/
def booted (s : State) : Sys × Sec × Tbl Paddock × Cmds × Net × Tp × HostFn × Objs × Faults :=
  (s.sys, s.sec, s.pads, s.cmd, s.net, s.tp, s.host, conf s, s.flt)

theorem booted_of {s t : State} (h1 : t.sys = s.sys) (h2 : t.sec = s.sec) (h3 : t.pads = s.pads) (h4 : t.cmd = s.cmd) (h5 : t.net = s.net)
    (h6 : t.tp = s.tp) (h7 : t.host = s.host) (h8 : conf t = conf s) (h9 : t.flt = s.flt) : booted t = booted s := by
  simp only [booted, h1, h2, h3, h4, h5, h6, h7, h8, h9]

theorem foldl_booted {α : Type} {f : State → α → State} (h : ∀ s a, booted (f s a) = booted s) (l : List α) (s : State) :
    booted (l.foldl f s) = booted s := foldl_keeps booted f h l s

section
variable (s : State)

theorem fire_booted (n : Nat) : booted (fire s n) = booted s :=
  booted_of (fire_sys ..) (fire_sec ..) (fire_pads ..) (fire_cmd ..) (fire_net ..) (fire_tp ..) (fire_host ..) (fire_conf ..) (fire_flt ..)

theorem logDev_booted (c v : Nat) (l : List Nat) : booted (logDev s c v l) = booted s :=
  booted_of (logDev_sys ..) (logDev_sec ..) (logDev_pads ..) (logDev_cmd ..) (logDev_net ..) (logDev_tp ..) (logDev_host ..)
    (logDev_conf ..) (logDev_flt ..)

theorem cairn_booted (c v : Nat) (d : Bool) (p : Nat) (l : List Nat) : booted (cairn s c v d p l) = booted s :=
  booted_of (cairn_sys ..) (cairn_sec ..) (cairn_pads ..) (cairn_cmd ..) (cairn_net ..) (cairn_tp ..) (cairn_host ..)
    (cairn_conf ..) (cairn_flt ..)

theorem journal_booted (k : Nat) (l : List Nat) : booted (journal s k l) = booted s :=
  booted_of (journal_sys ..) (journal_sec ..) (journal_pads ..) (journal_cmd ..) (journal_net ..) (journal_tp ..) (journal_host ..)
    (journal_conf ..) (journal_flt ..)

theorem withStore_booted (x : Store) : booted { s with store := x } = booted s := rfl

theorem remap_booted (l b : Nat) : booted (remap s l b) = booted s :=
  (withStore_booted (journal s 6 [l, b]) _).trans (journal_booted s 6 [l, b])

theorem relocate_booted (l : Nat) : booted (relocate s l) = booted s := by
  simp only [relocate]
  repeat' split
  · rfl
  · exact (logDev_booted ..).trans (withStore_booted s _)
  · rw [logDev_booted, remap_booted]
  · exact remap_booted ..

theorem retire_booted (b cause : Nat) : booted (retire s b cause) = booted s := by
  have hjournal : ∀ x : Store, booted { journal s 5 [b, cause] with store := x } = booted s := fun x =>
    (withStore_booted (journal s 5 [b, cause]) x).trans (journal_booted s 5 [b, cause])
  simp only [retire]
  repeat' split
  · rfl
  · rw [relocate_booted, fire_booted, logDev_booted]
    exact hjournal _
  · rw [fire_booted, logDev_booted]
    exact hjournal _

theorem redoErase_booted (b : Boot) (k : Nat) : booted (redoErase b s k) = booted s := by
  simp only [redoErase]
  split
  · rw [logDev_booted, retire_booted]
  · rw [logDev_booted]
    exact (withStore_booted (journal s 4 [k, erases s k + 1]) _).trans (journal_booted s 4 [k, erases s k + 1])

theorem firstStart_booted (b : Boot) : booted (firstStart s b) = booted s := by
  simp only [firstStart]
  split
  · rfl
  · rw [foldl_booted relocate_booted]
    exact foldl_booted (fun s k => (withStore_booted (journal s 5 [k, 4]) _).trans (journal_booted s 5 [k, 4])) b.factoryBad s

/-- One more boot is counted. -/
def bootCounted (s : State) : State := { s with sys.bootCount := s.sys.bootCount + 1 }

theorem bootCounted_booted {s t : State} (h : booted s = booted t) : booted (bootCounted s) = booted (bootCounted t) :=
  congrArg (fun x : Sys × Sec × Tbl Paddock × Cmds × Net × Tp × HostFn × Objs × Faults =>
    ({ x.1 with bootCount := x.1.bootCount + 1 }, x.2)) h

theorem replay_booted (b : Boot) : booted (replay s b) = booted (bootCounted s) := by
  unfold replay
  extract_lets s1 s2 s3 src s4
  have h1 : booted s1 = booted s := by
    simp only [s1]
    split
    · exact logDev_booted ..
    · rfl
  have h2 : booted s2 = booted s1 := firstStart_booted ..
  have h3 : booted s3 = booted s2 := foldl_booted (fun s k => redoErase_booted s b k) _ _
  clear_value s3
  have h4 : booted s4 = booted (bootCounted s3) := journal_booted (bootCounted s3) 7 _
  refine (foldl_booted (fun s e => cairn_booted ..) _ _).trans ?_
  exact h4.trans (bootCounted_booted (h3.trans (h2.trans h1)))

end

/-! ### What a reset leaves of the paddocks -/

/-- What holds of the default and of every image holds of every entry of a mapped table. -/
theorem get_map_induct {α : Type} [Inhabited α] {P : α → Prop} (g : Nat → α → α) (h0 : P default) (hg : ∀ k d, P (g k d)) (k : Nat) :
    ∀ l : Tbl α, P (Tbl.get (l.map (fun e => (e.1, g e.1 e.2))) k)
  | [] => h0
  | e :: l => by
    have ih := get_map_induct g h0 hg k l
    simp only [List.map_cons, Tbl.get, Tbl.find]
    split
    · exact hg ..
    · exact ih

/-- What a paddock number keeps over a reset is EMPTY and holds nothing. -/
theorem snapKept_empty (s : State) (warm : Bool) (k : Nat) (d : Paddock) : (snapKept s k (padKept warm d)).state = .empty ∧
    (snapKept s k (padKept warm d)).granules = 0 ∧ (snapKept s k (padKept warm d)).ctxs = [] ∧ (snapKept s k (padKept warm d)).queues = [] := by
  unfold snapKept
  split <;> exact ⟨rfl, rfl, rfl, rfl⟩

theorem pad_cleared (s : State) (warm : Bool) (k : Nat) : (pad (cleared s warm) k).state = .empty ∧ (pad (cleared s warm) k).granules = 0 ∧
    (pad (cleared s warm) k).ctxs = [] ∧ (pad (cleared s warm) k).queues = [] :=
  get_map_induct (P := fun d : Paddock => d.state = .empty ∧ d.granules = 0 ∧ d.ctxs = [] ∧ d.queues = [])
    (fun k d => snapKept s k (padKept warm d)) ⟨rfl, rfl, rfl, rfl⟩ (snapKept_empty s warm) k s.pads

/-! ### The boot ROM (R515, R642) -/

/-- The image of slot A is entered. -/
def entered (s : State) (b : Boot) : State :=
  { s with sys.bootFacts := b, sys.boot := 2, sys.bootSlot := 0, sys.securityVersion := b.imageSv.getD 0 0, sys.firmware := b.imageFw.getD 0 0 }

section
variable {s : State} {b : Boot} {x : Nat} (hslots : s.store.slots = [4, x]) (h3 : x ≠ 3) (h4 : x ≠ 4)
include hslots h3

theorem no_trial : s.store.slots.findIdx? (· = 3) = none := by
  rw [hslots]
  simp [List.findIdx?_cons, h3]

theorem endTrial_none : endTrial s = s := by
  unfold endTrial
  split
  · rfl
  · rw [no_trial hslots h3]

theorem romChoice_active : romChoice s = some 0 := by
  unfold romChoice
  rw [no_trial hslots h3, hslots]
  simp [List.findIdx?_cons]

omit h3 in
theorem enter_active : enter s b 0 = { s with sys.boot := 2, sys.bootSlot := 0, sys.securityVersion := b.imageSv.getD 0 0, sys.firmware := b.imageFw.getD 0 0 } := by
  unfold enter
  rw [if_neg (by simp [slotState, hslots])]

end

/-- The slots that the boot ROM finds after a reset. -/
theorem slots_kept {s : State} {b : Boot} (h : ImageBoots s b) (warm : Bool) : ∃ x, (storeKept warm s.store).slots = [4, x] ∧ x ≠ 3 := by
  obtain ⟨-, ⟨x, hs, h3, -⟩, -⟩ := h
  refine ⟨if x = 1 then 5 else x, by simp [storeKept, hs], ?_⟩
  split
  · decide
  · exact h3

/-- The boot ROM enters the image of slot A. -/
theorem rom_enters {s t : State} {b : Boot} (h : ImageBoots s b) {x : Nat} (hslots : t.store.slots = [4, x]) (hx : x ≠ 3)
    (hsv : t.sec.minSv = s.sec.minSv) : rom t b = entered t b := by
  obtain ⟨hflash, -, hok, hmin⟩ := h
  have hpass : imagePasses { t with sys.bootFacts := b } b 0 = true := by
    simp only [imagePasses, hok, hsv, hmin, decide_true, Bool.and_self]
  unfold rom
  rw [if_neg (by simp [hflash]), endTrial_none (s := { t with sys.bootFacts := b }) hslots hx]
  simp only [romChoice_active (s := { t with sys.bootFacts := b }) hslots hx, hpass, if_true,
    enter_active (s := { t with sys.bootFacts := b }) hslots]
  rfl

/-- The boot ROM of a device whose flash gives no boot record halts. -/
theorem rom_halts {t : State} {b : Boot} (h : b.flashOk = false) : rom t b = halt { t with sys.bootFacts := b } := if_pos (by simp [h])

/-! ### Starting up -/

/-- The numbers that a reset hands on are those of s. -/
structure Carries (s t : State) : Prop where
  bootCount : t.sys.bootCount = s.sys.bootCount
  versions : t.obj.versions = s.obj.versions
  cvn : t.obj.cvn = s.obj.cvn
  cvnLast : t.obj.cvnLast = s.obj.cvnLast
  minSv : t.sec.minSv = s.sec.minSv
  slots : t.store.slots = s.store.slots

theorem outerIslands_held : ∀ i < 39, 3 ≤ i → Tbl.get (outerIslands.map (fun i => (i, 2))) i = 2 := by decide

/-- The state in which Mbomon waits for SEC. -/
theorem boot_replays {s t : State} {b : Boot} (h : ImageBoots s b) (hc : Carries s t) (warm : Bool) :
    boot (cleared t warm) b = replay (entered (cleared t warm) b) b := by
  obtain ⟨x, hslots, hx⟩ := slots_kept h warm
  have hslots' : (cleared t warm).store.slots = [4, x] := by
    change (storeKept warm t.store).slots = _
    rw [← hslots]
    simp only [storeKept, hc.slots]
  unfold boot
  rw [rom_enters h hslots' hx hc.minSv]
  exact if_pos rfl

/-- A start from a state that carries the numbers of another starts that one up. -/
theorem startsUp_boot {s t : State} {b : Boot} (h : ImageBoots s b) (hc : Carries s t) (warm : Bool) :
    StartsUp s (boot (cleared t warm) b) := by
  rw [boot_replays h hc]
  have hframe := replay_booted (entered (cleared t warm) b) b
  generalize replay (entered (cleared t warm) b) b = u at hframe
  simp only [booted, Prod.mk.injEq] at hframe
  obtain ⟨hsys, hsec, hpads, hcmd, hnet, htp, hhost, hconf, hflt⟩ := hframe
  refine ⟨congrArg Sys.boot hsys, (congrArg Sys.bootCount hsys).trans ?_, congrArg Sys.uptime hsys, congrArg Sec.st hsec, fun p => ?_, hcmd, hnet, htp,
    hhost, congrArg Sec.sessions hsec, congrArg Objs.draftOwner hconf, congrArg Objs.confOp hconf, fun i hlo hhi => ?_,
    (congrArg Objs.versions hconf).trans hc.versions, (congrArg Objs.cvn hconf).trans hc.cvn, (congrArg Objs.cvnLast hconf).trans hc.cvnLast,
    (congrArg Sec.minSv hsec).trans hc.minSv⟩
  · exact congrArg (· + 1) hc.bootCount
  · have hpad : pad u p = pad (cleared t warm) p := congrArg (Tbl.get · p) hpads
    rw [hpad]
    exact pad_cleared t warm p
  · rw [hflt]
    exact outerIslands_held i hhi hlo

/-! ### The warm reset (R562) -/

theorem Carries.refl (s : State) : Carries s s := ⟨rfl, rfl, rfl, rfl, rfl, rfl⟩

/-- What a warm reset does before it holds the islands leaves this. -/
def carried (s : State) : Sys × Objs × Sec × List Nat := (s.sys, conf s, s.sec, s.store.slots)

theorem carries_of_carried {s t : State} (h : carried t = carried s) : Carries s t := by
  simp only [carried, Prod.mk.injEq] at h
  obtain ⟨hsys, hconf, hsec, hslots⟩ := h
  exact ⟨congrArg Sys.bootCount hsys, (congrArg Objs.versions hconf :), (congrArg Objs.cvn hconf :), (congrArg Objs.cvnLast hconf :),
    congrArg Sec.minSv hsec, hslots⟩

theorem carried_of {s t : State} (h1 : t.sys = s.sys) (h2 : conf t = conf s) (h3 : t.sec = s.sec) (h4 : t.store.slots = s.store.slots) :
    carried t = carried s := by
  simp only [carried, h1, h2, h3, h4]

section
variable (s : State)

theorem logDev_carried (c v : Nat) (l : List Nat) : carried (logDev s c v l) = carried s :=
  carried_of (logDev_sys ..) (logDev_conf ..) (logDev_sec ..) (by rw [logDev_store])

theorem logPad_carried (p c v : Nat) (l : List Nat) : carried (logPad s p c v l) = carried s :=
  carried_of (logPad_sys ..) (logPad_conf ..) (logPad_sec ..) (by rw [logPad_store])

theorem cairn_slots (c v : Nat) (d : Bool) (p : Nat) (l : List Nat) : (cairn s c v d p l).store.slots = s.store.slots := by
  unfold cairn
  split
  · rfl
  · rw [fire_store]
    rfl

theorem cairn_carried (c v : Nat) (d : Bool) (p : Nat) (l : List Nat) : carried (cairn s c v d p l) = carried s :=
  carried_of (cairn_sys ..) (cairn_conf ..) (cairn_sec ..) (cairn_slots ..)

theorem freeze_carried (cause code : Nat) : carried (freeze s cause code) = carried s := by
  unfold freeze
  split
  · rfl
  · exact logDev_carried ..

theorem formSnapshot_carried (p : Nat) (final gap : Bool) (e : Nat) : carried (formSnapshot s p final gap e) = carried s := by
  unfold formSnapshot
  repeat' split
  · rfl
  · exact logPad_carried ..
  · rfl

theorem cairnWritten_carried (e : Entry) : carried (cairnWritten s e) = carried s := by
  unfold cairnWritten
  split
  · rfl
  · exact logDev_carried ..

theorem snapshotWritten_carried (p : Nat) (r : Bytes) : carried (snapshotWritten s p r) = carried s := by
  simp only [snapshotWritten]
  repeat' split
  · rfl
  · rfl
  · exact logDev_carried ..

theorem drainFlash_carried : carried (drainFlash s) = carried s := by
  unfold drainFlash
  split
  · rfl
  · refine foldl_keeps carried _ (fun s w => ?_) _ s
    split
    · exact cairnWritten_carried ..
    · exact snapshotWritten_carried ..
    · rfl

end

/-- The snapshot, its entry and the final snapshots, before the islands are held. -/
def windDown (s : State) (cause : Nat) : State :=
  if s.sys.boot = 3 && !islandOut s 1 then
    let s := cairn (freeze s 0xFF 0x0128) 0x0128 3 true 0 [cause]
    let s := if s.sec.st ≠ 0 && !islandOut s 2 then (notEmpty s).foldl (fun s p => formSnapshot s p true false (ns s)) s else s
    drainFlash s
  else s

theorem warmReset_eq (s : State) (b : Boot) (cause : Nat) : warmReset s b cause = boot (cleared (windDown s cause) true) b := rfl

theorem windDown_carried (s : State) (cause : Nat) : carried (windDown s cause) = carried s := by
  have hsnaps (t : State) : carried (if t.sec.st ≠ 0 && !islandOut t 2 then (notEmpty t).foldl (fun s p => formSnapshot s p true false (ns s)) t else t) =
      carried t := by
    split
    · exact foldl_keeps carried _ (fun s p => formSnapshot_carried ..) _ t
    · rfl
  unfold windDown
  split
  · rw [drainFlash_carried, hsnaps, cairn_carried, freeze_carried]
  · rfl

theorem startsUp_warmReset {s : State} {b : Boot} (h : ImageBoots s b) (cause : Nat) : StartsUp s (warmReset s b cause) := by
  rw [warmReset_eq]
  exact startsUp_boot h (carries_of_carried (windDown_carried s cause)) true

/-! ### The resets themselves -/

theorem doWarmRstN_resets {s : State} (hb : 2 ≤ s.sys.boot) (b : Boot) : doWarmRstN s b = warmReset s b 0 :=
  if_neg (by simp; omega)

theorem doBrownoutReset_resets {s : State} (hb : 2 ≤ s.sys.boot) (rail mv : Nat) (b : Boot) : ∃ pow : Power,
    doBrownoutReset s rail mv b = boot (cleared { s with pow := pow } true) b :=
  ⟨_, if_neg (by simp; omega)⟩

/-- A ROM that halted on its flash waits for por_n. -/
theorem halted {s : State} (hb : s.sys.boot = 1) (hf : s.sys.bootFacts.flashOk = false) :
    (s.sys.boot = 0 || (s.sys.boot = 1 && !s.sys.bootFacts.flashOk)) = true := by simp [hb, hf]

theorem descOf_warmReset : ∃ d, descOf 0x1F00 0x0D = some d ∧ boolCmd d 1 = true := ⟨_, rfl, by decide⟩

theorem exec_warmReset {s : State} {via : Path} (hm : ManagerAsks s via) (tag : Tag) (b : Boot) : exec (.warmReset via tag b) s =
    .next (settle (settled via (writeReq tag 0x1F00 0x0D 1) 1 (doWarmReset s b))) := by
  obtain ⟨d, hd, hk⟩ := descOf_warmReset
  rw [show exec (.warmReset via tag b) s = ran s _ from rfl, ran_next_of_manager hm, serve_device_bool hm (by decide) hd hk]
  rfl

theorem doMgtWatchdog_warm {s : State} (hb : s.sys.boot = 3) (hmgt : islandOut s 1 = false) (hkick : s.flt.kickAt + 10 ^ 9 ≤ s.sys.uptime)
    (hmany : 3 ≤ (recentMgtResets s).length) (b : Boot) : doMgtWatchdog s b = warmReset s b 2 := by
  have hlate : ¬ s.sys.uptime < s.flt.kickAt + 10 ^ 9 := by omega
  unfold doMgtWatchdog resetMgt
  rw [if_neg (by simp only [hb, hmgt, hlate]; decide), if_pos hmany]

theorem powerOnAndBrownoutStartUp : PowerOnAndBrownoutStartUp := by
  intro s b h
  refine ⟨⟨_, rfl, startsUp_boot h (.refl s) false⟩, fun rail mv hb => ?_⟩
  obtain ⟨pow, hpow⟩ := doBrownoutReset_resets hb rail.val mv b
  exact ⟨_, next_settle hpow, startsUp_boot (t := { s with pow := pow }) h ⟨rfl, rfl, rfl, rfl, rfl, rfl⟩ true⟩

theorem warmResetStartsUp : WarmResetStartsUp := by
  intro s b h
  refine ⟨fun hb => ⟨_, next_settle (doWarmRstN_resets hb b), startsUp_warmReset h 0⟩, fun via tag hm hp => ?_,
    fun hb hmgt hkick hmany => ⟨_, (ran_next (by omega)).trans (next_settle (doMgtWatchdog_warm hb hmgt hkick hmany b)), startsUp_warmReset h 2⟩⟩
  have hdo : doWarmReset s b = (warmReset s b 1, none) := if_neg (by simp [hp])
  refine ⟨_, (exec_warmReset hm tag b).trans ?_, startsUp_warmReset h 1⟩
  rw [hdo, settled_none]

theorem romWithoutBootRecordStaysInRom : RomWithoutBootRecordStaysInRom := by
  refine ⟨fun s b hf => ⟨halt { cleared s false with sys.bootFacts := b }, next_settle ?_, rfl, rfl, List.mem_cons_self ..⟩,
    fun s b rail mv hb hf => ⟨next_settle (if_pos (halted hb hf)), next_settle (if_pos (halted hb hf))⟩⟩
  change boot (cleared s false) b = _
  unfold boot
  rw [rom_halts hf]
  exact if_neg (show ¬ (1 : Nat) = 2 by decide)

/-- Settles O16: every reset comes to the start-up of what it hands on, and a ROM without a boot record to a halt. -/
theorem resetsStartUp : Obligations.ResetsStartUp := ⟨powerOnAndBrownoutStartUp, warmResetStartsUp, romWithoutBootRecordStaysInRom⟩

end Sys2Proof.Machine
end

/-! # Fence tables are pushed, acknowledged and activated -/

section
namespace Sys2Proof.Machine
open Sys2Proof

theorem mem_of_find {α : Type} {t : Tbl α} {k : Nat} {d : α} (h : Tbl.find t k = some d) : (k, d) ∈ t := by
  induction t with
  | nil => cases h
  | cons e t ih =>
    rw [Tbl.find] at h
    split at h
    · next hk => cases h; rw [← hk]; exact .head _
    · exact .tail _ (ih h)

/-- A paddock with lots is listed. -/
theorem mem_pads_of_lots {s : State} {p l : Nat} (h : l ∈ (pad s p).lots) : (p, pad s p) ∈ s.pads := by
  cases hf : Tbl.find s.pads p with
  | none =>
    have hpad : pad s p = default := by rw [pad, Tbl.get, hf]; rfl
    rw [hpad] at h
    cases h
  | some d =>
    have hpad : pad s p = d := by rw [pad, Tbl.get, hf]; rfl
    rw [hpad]
    exact mem_of_find hf

/-! ### Messages and pools change no paddock -/

theorem sendFences_pads (p action gen : Nat) (dies : List Nat) (s : State) : (dies.foldl (sendFence p action gen) s).pads = s.pads :=
  foldl_keeps State.pads _ (fun s die => sendFence_keeps s State.pads (fun _ _ _ => rfl) p action gen die) dies s

theorem sendTable_pads (p gen : Nat) (lots : List Nat) (s : State) (die : Nat) : (sendTable p gen lots s die).pads = s.pads := by
  unfold sendTable
  split <;> rfl

theorem unbindPool_kept (p : Nat) (s : State) (l : Nat) : kept (unbindPool p s l) = kept s := by
  unfold unbindPool
  split
  · rfl
  · exact (sendControl_kept ..).trans (updLink_kept ..)

theorem retagPool_kept (p tag : Nat) (s : State) (l : Nat) : kept (retagPool p tag s l) = kept s := by
  unfold retagPool
  split
  · rfl
  · exact sendControl_kept ..

theorem unbindPools_kept (p : Nat) (ls : List Nat) (s : State) : kept (ls.foldl (unbindPool p) s) = kept s := foldl_kept (unbindPool_kept p) ls s

theorem retagPools_kept (p tag : Nat) (ls : List Nat) (s : State) : kept (ls.foldl (retagPool p tag) s) = kept s := foldl_kept (retagPool_kept p tag) ls s

/-! ### The state of a paddock whose push fails (R48) -/

theorem state_of_kept {s t : State} (h : kept t = kept s) (k : Nat) : (pad t k).state = (pad s k).state := state_of_strip (kept_pad h k)

theorem state_releaseGranules (s : State) (p mask k : Nat) : (pad (releaseGranules s p mask) k).state = (pad s k).state := by
  unfold releaseGranules
  extract_lets gs t
  have hkeys : t.pads = s.pads := foldl_keeps State.pads _ (by intros; rfl) gs s
  clear_value t
  rw [pad_updPad]
  split
  · next hk =>
    subst hk
    exact (congrArg Paddock.state (pad_of_pads hkeys p) :)
  · exact congrArg Paddock.state (pad_of_pads hkeys k)

/-- A paddock that is cleared holds nothing and stays in its state. -/
theorem pad_clearPaddock (s : State) (p : Nat) : (pad (clearPaddock s p) p).state = (pad s p).state ∧
    (pad (clearPaddock s p) p).granules = 0 ∧ (pad (clearPaddock s p) p).lots = [] := by
  have hstate : (pad (releaseGranules ((setBits 64 (pad s p).links).foldl (unbindPool p) s) p (pad s p).granules) p).state = (pad s p).state :=
    (state_releaseGranules ..).trans (state_of_kept (unbindPools_kept ..) p)
  unfold clearPaddock
  extract_lets d t u lone
  rw [pad, Tbl.get_upd_self]
  exact ⟨hstate, rfl, rfl⟩

/-- What the end of a command leaves of its paddock. -/
theorem pad_endPend (s : State) (p code : Nat) : (pad (endPend s p code) p).pend = none ∧ (pad (endPend s p code) p).result = code ∧
    (pad (endPend s p code) p).state = (pad s p).state ∧ (pad (endPend s p code) p).granules = (pad s p).granules ∧
    (pad (endPend s p code) p).lots = (pad s p).lots := by
  have hstrip := strip_pad_endPend s p code p
  rw [if_pos rfl] at hstrip
  generalize pad (endPend s p code) p = d at hstrip
  exact ⟨(congrArg Paddock.pend hstrip :), (congrArg Paddock.result hstrip :), (congrArg Paddock.state hstrip :),
    (congrArg Paddock.granules hstrip :), (congrArg Paddock.lots hstrip :)⟩

theorem pad_failFence (s : State) (p code : Nat) : (pad (failFence s p code) p).pend = none ∧ (pad (failFence s p code) p).result = code ∧
    (pad (failFence s p code) p).state = (pad s p).state ∧ (pad (failFence s p code) p).granules = 0 ∧ (pad (failFence s p code) p).lots = [] := by
  obtain ⟨hstate, hgranules, hlots⟩ := pad_clearPaddock s p
  unfold failFence
  extract_lets t
  obtain ⟨hp, hr, hst, hg, hl⟩ := pad_endPend { t with net.linkKeys := s.net.linkKeys, tp.lotsDirty := s.tp.lotsDirty } p code
  exact ⟨hp, hr, hst.trans hstate, hg.trans hgranules, hl.trans hlots⟩

theorem pad_failOpen (s : State) (p code : Nat) : (pad (failOpen s p code) p).pend = none ∧ (pad (failOpen s p code) p).result = code ∧
    (pad (failOpen s p code) p).state = (pad s p).state := by
  unfold failOpen
  extract_lets o g t1 t2 t3
  split
  · obtain ⟨hp, hr, hst, -⟩ := pad_endPend s p code
    exact ⟨hp, hr, hst⟩
  · have h1 : (pad t1 p).state = (pad s p).state := state_releaseGranules ..
    have h2 : (pad t2 p).state = (pad t1 p).state := state_of_kept (unbindPools_kept ..) p
    have h3 : (pad t3 p).state = (pad t2 p).state := by
      unfold t3
      split
      · exact state_of_kept (retagPools_kept ..) p
      · rfl
    clear_value t3
    obtain ⟨hp, hr, hst, -⟩ := pad_endPend (updPad t3 p (fun d => { d with
      tussocks := g 0, links := g 2, bundles := g 3, qp := g 4, slots := g 5, queuesHeld := g 6, tlb := g 7, sheaf := g 8,
      tag := g 9, lots := o.drop 10 })) p code
    refine ⟨hp, hr, hst.trans ?_⟩
    rw [pad_updPad, if_pos rfl]
    exact h3.trans (h2.trans h1)

theorem pad_pushFailed {s : State} {p : Nat} {x : Pend} (hx : (pad s p).pend = some x) (code : Nat) :
    (pad (pushFailed s p code) p).pend = none ∧ (pad (pushFailed s p code) p).result = code ∧
    (pad (pushFailed s p code) p).state = (pad s p).state ∧
    (x.cmd = 1 → (pad (pushFailed s p code) p).granules = 0 ∧ (pad (pushFailed s p code) p).lots = []) := by
  have hcmd : ((pad s p).pend.map (·.cmd)).getD 0 = x.cmd := by rw [hx]; rfl
  unfold pushFailed
  rw [hcmd]
  split
  · obtain ⟨hp, hr, hst, hg, hl⟩ := pad_failFence s p code
    exact ⟨hp, hr, hst, fun _ => ⟨hg, hl⟩⟩
  · next h2 =>
    obtain ⟨hp, hr, hst⟩ := pad_failOpen s p code
    exact ⟨hp, hr, hst, fun h => by omega⟩
  · next h1 _ =>
    obtain ⟨hp, hr, hst, -⟩ := pad_endPend s p code
    exact ⟨hp, hr, hst, fun h => (h1 h).elim⟩

/-! ### A pending command goes on (R164) -/

section
variable {s : State} {p : Nat} {x : Pend}

theorem pendStep_waits (hx : (pad s p).pend = some x) (h : x.tables ≠ []) : pendStep s p = s := by
  simp [pendStep, hx, h]

/-- The dies on which a table of the command's generation is stored. -/
def storedOn (d : Paddock) (x : Pend) : List Nat := (d.tables.filter (fun t => t.gen = x.gen && !t.active)).map (·.die)

/-- The command waits for the activation of its tables. -/
def activating (s : State) (p : Nat) (x : Pend) : State :=
  updPad s p (fun d => { d with pend := some { x with stage := 1, fences := ((storedOn (pad s p) x).map (fenceKeys s)).flatten } })

theorem pendStep_activates (hx : (pad s p).pend = some x) (ht : x.tables = []) (hf : x.fences = []) (h0 : x.stage = 0)
    (hany : ∃ t ∈ (pad s p).tables, t.gen = x.gen ∧ t.active = false) :
    pendStep s p = (storedOn (pad s p) x).foldl (sendFence p 1 x.gen) (activating s p x) := by
  have hcond : (decide (x.stage = 0) && (pad s p).tables.any (fun t => t.gen = x.gen && !t.active)) = true := by
    simpa [h0] using hany
  unfold pendStep
  simp only [hx]
  rw [if_neg (by simp [ht, hf]), if_pos hcond]
  rfl

theorem pendStep_finishes (hx : (pad s p).pend = some x) (ht : x.tables = []) (hf : x.fences = []) (h1 : x.stage = 1)
    (hm : mirrorWaits s p = false) (hc : x.cmd = 1) : pendStep s p = finishFence s p := by
  simp [pendStep, hx, ht, hf, h1, hm, hc]

end

/-! ### TABLE_ACK -/

/-- The lots of a table that the command of a paddock put on a die. -/
def pushedLots (s : State) (p die : Nat) (x : Pend) : List Nat :=
  sortAsc ((if x.cmd = 2 then (pad s p).lots.filter (fun l => (wantLots s p).contains l) else (pad s p).lots).filter (fun l => dieOf s l = some die))

/-- A die stored the paddock's table; the command waits for the other dies. -/
def tableStored (s : State) (p die : Nat) (x : Pend) : State := updPad s p (fun d => { d with
  tables := (pad s p).tables.filter (fun t => !(t.die = die && !t.active)) ++ [{ die := die, gen := x.gen, lots := pushedLots s p die x, active := false }],
  pend := some { x with tables := x.tables.filter (· ≠ die) } })

theorem doTableAck_stores {s : State} {m : Fin 24} {h : BitVec 128} {x : Pend} (hok : sideOk h.toNat 2 0 0 false = true)
    (hx : (pad s (bits h.toNat 119 114)).pend = some x) (hgen : x.gen = bits h.toNat 111 96) (hdie : bits h.toNat 95 92 ∈ x.tables) :
    doTableAck s m h = pendStep (tableStored s (bits h.toNat 119 114) (bits h.toNat 95 92) x) (bits h.toNat 119 114) := by
  unfold doTableAck
  extract_lets n p die gen d
  rw [if_neg (by simp [n, hok])]
  change (match (pad s p).pend with | some x => _ | none => _) = _
  simp only [p, n, hx]
  rw [if_pos (by simp [gen, die, n, hgen, hdie])]
  unfold tableStored
  rw [hgen]
  rfl

section
variable (s : State) (p die : Nat) (x : Pend)

theorem pad_tableStored : (pad (tableStored s p die x) p).pend = some { x with tables := x.tables.filter (· ≠ die) } ∧
    { die := die, gen := x.gen, lots := pushedLots s p die x, active := false } ∈ (pad (tableStored s p die x) p).tables := by
  rw [tableStored, pad_updPad, if_pos rfl]
  exact ⟨rfl, List.mem_append_right _ (.head _)⟩

/-- A stored table is inactive; the last one of a push starts the activation. -/
theorem pendStep_tableStored (hf : x.fences = []) (h0 : x.stage = 0) :
    (∃ t ∈ (pad (pendStep (tableStored s p die x) p) p).tables, t.die = die ∧ t.gen = x.gen ∧ t.active = false) ∧
    (∃ y, (pad (pendStep (tableStored s p die x) p) p).pend = some y ∧ y.cmd = x.cmd ∧ y.tables = x.tables.filter (fun d => d ≠ die) ∧
      (y.tables = [] → y.stage = 1 ∧ ∀ k ∈ fenceKeys s die, k ∈ y.fences) ∧ (y.tables ≠ [] → y.stage = 0)) := by
  obtain ⟨hpend, htable⟩ := pad_tableStored s p die x
  generalize ht : tableStored s p die x = t at hpend htable
  by_cases hlast : x.tables.filter (· ≠ die) = []
  · rw [pendStep_activates hpend hlast hf h0 ⟨_, htable, rfl, rfl⟩, pad_of_pads (sendFences_pads ..), activating, pad_updPad, if_pos rfl]
    refine ⟨⟨_, htable, rfl, rfl, rfl⟩, _, rfl, rfl, rfl, fun _ => ⟨rfl, fun k hk => ?_⟩, fun h => (h hlast).elim⟩
    have hkeys : fenceKeys t die = fenceKeys s die := by rw [← ht]; rfl
    have hstored : die ∈ storedOn (pad t p) { x with tables := x.tables.filter (· ≠ die) } :=
      List.mem_map.2 ⟨_, List.mem_filter.2 ⟨htable, by simp⟩, rfl⟩
    exact List.mem_flatten.2 ⟨_, List.mem_map.2 ⟨die, hstored, hkeys⟩, hk⟩
  · rw [pendStep_waits hpend hlast]
    exact ⟨⟨_, htable, rfl, rfl, rfl⟩, _, hpend, rfl, rfl, fun h => (hlast h).elim, fun _ => h0⟩

end

/-! ### FENCE_ACK -/

/-- The pending command has the answer of a fence. -/
def fenceAnswered (s : State) (p key act : Nat) (x : Pend) : State :=
  updPad { s with tp.fencesOut := s.tp.fencesOut.filter (fun f => !(f.1 = p && f.2.1 = key && f.2.2 = act)) } p
    (fun d => { d with pend := some { x with fences := x.fences.filter (· ≠ key) } })

theorem doFenceAck_last {s : State} {m : Fin 24} {h : BitVec 128} {x : Pend} (hok : sideOk h.toNat 5 0 0 true = true)
    (hact : bits h.toNat 113 112 = 1) (hx : (pad s (bits h.toNat 119 114)).pend = some x) (hgen : x.gen = bits h.toNat 111 96)
    (hf : x.fences = [2 * bits h.toNat 95 92 + (if m.val < 12 then 0 else 1)]) :
    doFenceAck s m h = pendStep (activateTable (fenceAnswered s (bits h.toNat 119 114)
      (2 * bits h.toNat 95 92 + (if m.val < 12 then 0 else 1)) 1 x) (bits h.toNat 119 114) (bits h.toNat 95 92) (bits h.toNat 111 96)) (bits h.toNat 119 114) := by
  unfold doFenceAck
  extract_lets n p die act gen key src t
  rw [if_neg (by simp [n, hok, hact])]
  have hx' : (pad t p).pend = some x := hx
  have hfk : x.fences = [key] := hf
  simp only [hx']
  rw [if_pos (by simp [gen, hgen, hfk, act, n, hact])]
  have hrest : (x.fences.filter (· ≠ key)).any (fun k => k / 2 = die) = false := by simp [hfk]
  rw [if_neg (by rw [hrest]; decide), if_pos (show act = 1 from hact)]
  simp only [t, act, n, hact]
  rfl

/-- The tables of a die that an activation leaves are active and of its generation. -/
theorem pad_activateTable (s : State) (p die gen : Nat) : (pad (activateTable s p die gen) p).pend = (pad s p).pend ∧
    ∀ t ∈ (pad (activateTable s p die gen) p).tables, t.die = die → t.active = true ∧ t.gen = gen := by
  rw [activateTable, pad_updPad, if_pos rfl]
  refine ⟨rfl, fun t ht hdie => ?_⟩
  obtain ⟨o, ho, rfl⟩ := List.mem_map.1 ht
  obtain ⟨-, hkeep⟩ := List.mem_filter.1 ho
  by_cases hd : o.die = die
  · rw [if_pos hd]
    exact ⟨rfl, by simpa [hd] using hkeep⟩
  · rw [if_neg hd] at hdie
    exact (hd hdie).elim

theorem clearMeters_pads (s : State) (p : Nat) : (clearMeters s p).pads = s.pads :=
  (foldl_keeps State.pads _ (by intros; rfl) (List.range 5) _).trans (foldl_keeps State.pads _ (by intros; rfl) (List.range 13) s)

theorem pad_finishFence (s : State) (p : Nat) : (pad (finishFence s p) p).state = .fenced ∧ (pad (finishFence s p) p).pend = none ∧
    (pad (finishFence s p) p).result = 0 ∧ (pad (finishFence s p) p).tables = (pad s p).tables := by
  unfold finishFence
  extract_lets t
  have ht : (pad t p).tables = (pad s p).tables := by
    rw [show t = updPad (clearMeters s p) p _ from rfl, pad_updPad, if_pos rfl]
    exact (congrArg Paddock.tables (pad_of_pads (clearMeters_pads s p) p) :)
  rw [endPend_zero, pad_updPad, if_pos rfl, setPState, pad_of_pads (firePad_pads ..), pad_updPad, if_pos rfl]
  exact ⟨rfl, rfl, rfl, ht⟩

/-- The last answer of a FENCE leaves its paddock FENCED with the table in force. -/
theorem pad_fenced {s : State} {p die key gen : Nat} {x : Pend} (hgen : x.gen = gen) (hcmd : x.cmd = 1) (h1 : x.stage = 1) (ht : x.tables = [])
    (hf : x.fences = [key]) (hm : mirrorWaits s p = false) (u : State) (hu : u = pendStep (activateTable (fenceAnswered s p key 1 x) p die gen) p) :
    (pad u p).state = .fenced ∧ (pad u p).pend = none ∧ (pad u p).result = 0 ∧
      (∀ t ∈ (pad u p).tables, t.die = die → t.active = true ∧ t.gen = x.gen) := by
  subst hgen
  obtain ⟨hpend, htables⟩ := pad_activateTable (fenceAnswered s p key 1 x) p die x.gen
  have hrest : x.fences.filter (· ≠ key) = [] := by simp [hf]
  have hy : (pad (fenceAnswered s p key 1 x) p).pend = some { x with fences := [] } := by
    rw [fenceAnswered, pad_updPad, if_pos rfl, hrest]
  obtain ⟨hst, hp, hr, htab⟩ := pad_finishFence (activateTable (fenceAnswered s p key 1 x) p die x.gen) p
  rw [hu, pendStep_finishes (hpend.trans hy) ht rfl h1 hm hcmd]
  exact ⟨hst, hp, hr, fun t h => htables t (by rwa [← htab])⟩

/-! ### A fence that is not answered (R167) -/

/-- The modules of a die are gated. -/
def gateDie (s : State) (die : Nat) : State :=
  ((List.range 24).filter (fun m => (tpm s m).die = some die)).foldl (fun s m => updTpm s m (fun k => { k with gated := true })) s

theorem tpm_updTpm (s : State) (m n : Nat) (f : TpModule → TpModule) : tpm (updTpm s m f) n = if m = n then f (tpm s m) else tpm s n := by
  by_cases h : m = n
  · subst h
    rw [if_pos rfl]
    exact Tbl.get_upd_self ..
  · rw [if_neg h]
    exact Tbl.get_upd_ne h ..

theorem gated_of_fold {l : List Nat} {n : Nat} (h : n ∈ l) (s : State) :
    (tpm (l.foldl (fun s m => updTpm s m (fun k => { k with gated := true })) s) n).gated = true := by
  have hstays (l : List Nat) : ∀ s : State, (tpm s n).gated = true →
      (tpm (l.foldl (fun s m => updTpm s m (fun k => { k with gated := true })) s) n).gated = true := by
    induction l with
    | nil => exact fun s h => h
    | cons m l ih =>
      refine fun s h => ih _ ?_
      rw [tpm_updTpm]
      split
      · rfl
      · exact h
  induction l generalizing s with
  | nil => cases h
  | cons m l ih =>
    rcases List.mem_cons.1 h with rfl | h
    · refine hstays l _ ?_
      rw [tpm_updTpm, if_pos rfl]
    · exact ih h _

/-- A paddock of the die: its pending RECOVER ends, or it is faulted. -/
def missedBy (die : Nat) (s : State) (q : Nat) : State := match (pad s q).pend with
  | some x => if x.cmd = 5 && x.fences.any (fun k => k / 2 = die) then endPend s q 0x0502 else paddockFault s q 0x0502
  | none => paddockFault s q 0x0502

/-- ISOLATE is sent, the die's modules are gated and its answers no longer waited for. -/
def isolated (s : State) (die : Nat) : State :=
  let t := gateDie ((sideModules s die).foldl (fun s m => sendSide s m (sbHeader 6 0 0 0 die 0 0) []) s) die
  fire (addO { t with tp.fencesOut := t.tp.fencesOut.filter (fun f => f.2.1 / 2 ≠ die) } 0x1400 7 1 32) 600

/-- The paddocks that hold a lot of a die. -/
def holders (s : State) (die : Nat) : List Nat := (s.pads.filter (fun e => e.2.lots.any (fun l => dieOf s l = some die))).map (·.1)

theorem mem_holders {s : State} {p l die : Nat} (hl : l ∈ (pad s p).lots) (hd : dieOf s l = some die) : p ∈ holders s die :=
  List.mem_map.2 ⟨(p, pad s p), List.mem_filter.2 ⟨mem_pads_of_lots hl, List.any_eq_true.2 ⟨l, hl, by simpa using hd⟩⟩, rfl⟩

theorem doFenceMissed_pending {s : State} {p die k : Nat} {x : Pend} (hx : (pad s p).pend = some x) (hk : k ∈ x.fences) (hd : k / 2 = die) :
    doFenceMissed s p die = (holders s die).foldl (missedBy die) (isolated s die) := by
  have hany : x.fences.any (fun k => k / 2 = die) = true := List.any_eq_true.2 ⟨k, hk, by simpa using hd⟩
  unfold doFenceMissed
  simp only [hx, hany]
  rfl

section
variable (s : State) (die : Nat)

theorem isolate_tp : (tpm ((sideModules s die).foldl (fun s m => sendSide s m (sbHeader 6 0 0 0 die 0 0) []) s)) = tpm s :=
  foldl_keeps tpm _ (by intros; rfl) _ s

theorem isolated_pads : (isolated s die).pads = s.pads := by
  rw [isolated, fire_pads]
  exact (foldl_keeps State.pads _ (by intros; rfl) _ _).trans (foldl_keeps State.pads _ (by intros; rfl) _ s)

theorem isolated_gated {n : Nat} (hn : n < 24) (hdie : (tpm s n).die = some die) : (tpm (isolated s die) n).gated = true := by
  have hfire (t : State) : tpm (fire t 600) n = tpm t n := congrArg (fun tp : Tp => Tbl.get tp.modules n) (fire_tp t 600)
  rw [isolated, hfire]
  refine gated_of_fold (List.mem_filter.2 ⟨List.mem_range.2 hn, ?_⟩) _
  rw [isolate_tp]
  simpa using hdie

theorem missed_quiet (q : Nat) : quiet (missedBy die s q) = quiet s := by
  unfold missedBy
  repeat' split
  · exact endPend_quiet ..
  · exact paddockFault_quiet ..
  · exact paddockFault_quiet ..

theorem gated_of_quiet {s t : State} (h : quiet t = quiet s) (n : Nat) : (tpm t n).gated = (tpm s n).gated :=
  congrArg (fun q => (q.2.2.2.2.2 n).2.2.2) h

/-- Another paddock of the die leaves this one alone. -/
theorem strip_pad_missed_ne {q k : Nat} (hk : k ≠ q) : strip (pad (missedBy die s q) k) = strip (pad s k) := by
  unfold missedBy
  repeat' split
  · rw [strip_pad_endPend, if_neg hk]
  · exact strip_pad_paddockFault_ne s _ hk
  · exact strip_pad_paddockFault_ne s _ hk

/-- A paddock that waits for the die is faulted and its command ends. -/
theorem missed_faults {s : State} {die p : Nat} {x : Pend} (hx : (pad s p).pend = some x) (hcmd : x.cmd ≠ 5) :
    (pad (missedBy die s p) p).state = .faulted ∧ (pad (missedBy die s p) p).pend = none := by
  have heq : missedBy die s p = paddockFault s p 0x0502 := by simp [missedBy, hx, hcmd]
  rw [heq]
  by_cases hf : (pad s p).state = .faulted
  · have hstrip := pad_paddockFault_faulted 0x0502 hf p
    rw [if_pos ⟨rfl, by rw [hx]; rfl⟩] at hstrip
    exact ⟨(congrArg (·.state) hstrip :).trans hf, (congrArg (·.pend) hstrip :)⟩
  · obtain ⟨hst, -, hp, -⟩ := pad_enters 0x0502 hf (fun h => by rw [hx] at h; exact nomatch h.2)
    exact ⟨hst, hp⟩

theorem missed_faulted {s : State} {die k : Nat} (hst : (pad s k).state = .faulted) (hp : (pad s k).pend = none) (q : Nat) :
    (pad (missedBy die s q) k).state = .faulted ∧ (pad (missedBy die s q) k).pend = none := by
  by_cases hk : k = q
  · subst hk
    have heq : missedBy die s k = paddockFault s k 0x0502 := by simp [missedBy, hp]
    have hstrip := pad_paddockFault_faulted 0x0502 hst k
    rw [if_neg (by simp [hp])] at hstrip
    rw [heq]
    exact ⟨(state_of_strip hstrip).trans hst, (pend_of_strip hstrip).trans hp⟩
  · have hstrip := strip_pad_missed_ne s die hk
    exact ⟨(state_of_strip hstrip).trans hst, (pend_of_strip hstrip).trans hp⟩

theorem missedAll_faulted {die k : Nat} (qs : List Nat) {s : State} (hst : (pad s k).state = .faulted) (hp : (pad s k).pend = none) :
    (pad (qs.foldl (missedBy die) s) k).state = .faulted ∧ (pad (qs.foldl (missedBy die) s) k).pend = none := by
  induction qs generalizing s with
  | nil => exact ⟨hst, hp⟩
  | cons q qs ih => exact ih (missed_faulted hst hp q).1 (missed_faulted hst hp q).2

theorem missedAll_faults {die p : Nat} {x : Pend} (hcmd : x.cmd ≠ 5) {qs : List Nat} (hp : p ∈ qs) {s : State} (hx : (pad s p).pend = some x) :
    (pad (qs.foldl (missedBy die) s) p).state = .faulted ∧ (pad (qs.foldl (missedBy die) s) p).pend = none := by
  induction qs generalizing s with
  | nil => cases hp
  | cons q qs ih =>
    by_cases hpq : p = q
    · subst hpq
      obtain ⟨hst, hnone⟩ := missed_faults (die := die) hx hcmd
      exact missedAll_faulted qs hst hnone
    · exact ih ((List.mem_cons.1 hp).resolve_left hpq) ((pend_of_strip (strip_pad_missed_ne s die hpq)).trans hx)

end

/-! ### A report of a table -/

/-- The paddock's tables on a die are inactive. -/
def tableOut (s : State) (p die : Nat) : State :=
  updPad s p (fun d => { d with tables := d.tables.map (fun x => if x.die = die then { x with active := false } else x) })

theorem fenceOf_tableOut (s : State) (p die : Nat) : fenceOf (tableOut s p die) p die = none := by
  rw [fenceOf, tableOut, pad_updPad, if_pos rfl]
  refine List.find?_eq_none.2 fun t ht => ?_
  obtain ⟨o, -, rfl⟩ := List.mem_map.1 ht
  by_cases h : o.die = die
  · simp [h]
  · simp [h]

theorem doTableReport_other {s : State} {m : Fin 24} {h : BitVec 128} {t : FenceTable} (hok : sideOk h.toNat 11 0 (3 * 2 ^ 78) false = true)
    (ht : fenceOf s (bits h.toNat 119 114) (bits h.toNat 95 92) = some t) (hgen : bits h.toNat 111 96 ≠ t.gen) :
    doTableReport s m h = sendTable (bits h.toNat 119 114) t.gen t.lots (tableOut s (bits h.toNat 119 114) (bits h.toNat 95 92)) (bits h.toNat 95 92) := by
  unfold doTableReport
  extract_lets n p die
  rw [if_neg (by rw [hok]; decide)]
  simp only [p, die, n, ht]
  rw [if_neg (by simp [hgen])]
  rfl

theorem doTableReport_same {s : State} {m : Fin 24} {h : BitVec 128} {t : FenceTable} (hok : sideOk h.toNat 11 0 (3 * 2 ^ 78) false = true)
    (ht : fenceOf s (bits h.toNat 119 114) (bits h.toNat 95 92) = some t) (h79 : bit h.toNat 79 = true) (hgen : bits h.toNat 111 96 = t.gen) :
    doTableReport s m h = s := by
  unfold doTableReport
  extract_lets n p die
  rw [if_neg (by rw [hok]; decide)]
  simp only [p, die, n, ht]
  exact if_pos (by simp [h79, hgen])

/-! ### The statement -/

section
variable {s : State} {m : Fin 24} {h : BitVec 128}

theorem doTableNak_fails {x : Pend} (hok : sideOk h.toNat 3 0 (0xFFFF * 2 ^ 64) false = true)
    (hx : (pad s (bits h.toNat 119 114)).pend = some x) (hgen : x.gen = bits h.toNat 111 96) (hdie : bits h.toNat 95 92 ∈ x.tables) :
    doTableNak s m h = pushFailed s (bits h.toNat 119 114) 0x020A := by
  unfold doTableNak
  extract_lets n p
  rw [if_neg (by rw [hok]; decide)]
  simp only [p, n, hx]
  exact if_pos (by simp [hgen, hdie])

theorem doFencePushFailed_fails {p die : Nat} {x : Pend} (hx : (pad s p).pend = some x) (hdie : die ∈ x.tables) :
    doFencePushFailed s p die = pushFailed s p 0x020A := by
  simp [doFencePushFailed, hx, hdie]

theorem doBreach_faults (hok : sideOk h.toNat 7 1 (2 ^ 80 - 2 ^ 26) false = true) (w : BitVec 128) :
    doBreach s m h [w] = paddockFault (fire s 602) (bits h.toNat 119 114) 0x020B := if_neg (by rw [hok]; exact Bool.false_ne_true)

theorem doLotClean_frees (hok : sideOk h.toNat 8 0 (0xFFFFFFFF * 2 ^ 48) false = true) :
    doLotClean s m h = { s with tp.lotsDirty := s.tp.lotsDirty.filter (fun l => l ≠ bits h.toNat 79 48) } := if_neg (by rw [hok]; decide)

theorem doTableAck_bad (hbad : sideOk h.toNat 2 0 0 false = false) : doTableAck s m h = sideBad s m.val h.toNat := if_pos (by simp [hbad])

end

/-- Settles O29: each message is one equation of the model, read through what it leaves of its paddock. -/
theorem fenceTablesArePushedAndActivated : Obligations.FenceTablesArePushedAndActivated := by
  intro s m h hb
  refine ⟨fun x hok hx hgen hdie hf h0 => ?tableAck, fun x hok hx hgen hdie => ?tableNak, fun p die x hx hdie => ?pushFailed,
    fun x hok hact hx hgen hcmd h1 ht hf hm => ?fenceAck, fun p die x k hx hk hd hcmd hlot => ?fenceMissed,
    fun hok w => (ran_next hb).trans (next_settle (doBreach_faults hok w)), fun hok => (ran_next hb).trans (next_settle (doLotClean_frees hok)),
    fun t hok ht => ⟨fun h79 hgen => (ran_next hb).trans (next_settle (doTableReport_same hok ht h79 hgen)), fun hgen => ?report⟩,
    fun hbad => (ran_next hb).trans (next_settle (doTableAck_bad hbad))⟩
  case tableAck => exact ⟨_, (ran_next hb).trans (next_settle (doTableAck_stores hok hx hgen hdie)), pendStep_tableStored s _ _ x hf h0⟩
  case tableNak => exact ⟨_, (ran_next hb).trans (next_settle (doTableNak_fails hok hx hgen hdie)), pad_pushFailed hx 0x020A⟩
  case pushFailed =>
    obtain ⟨hp, hr, hst, -⟩ := pad_pushFailed hx 0x020A
    exact ⟨_, (ran_next hb).trans (next_settle (doFencePushFailed_fails hx hdie)), hp, hr, hst⟩
  case fenceAck => exact ⟨_, (ran_next hb).trans (next_settle (doFenceAck_last hok hact hx hgen hf)), pad_fenced hgen hcmd h1 ht hf hm _ rfl⟩
  case fenceMissed =>
    obtain ⟨l, hl, hdl⟩ := hlot
    have hxi : (pad (isolated s die.val) p.val).pend = some x := by rw [pad_of_pads (isolated_pads ..)]; exact hx
    obtain ⟨hst, hp⟩ := missedAll_faults (die := die.val) hcmd (mem_holders hl hdl) hxi
    refine ⟨_, (ran_next hb).trans (next_settle (doFenceMissed_pending hx hk hd)), hst, hp, fun n hn hdn => ?_⟩
    rw [gated_of_quiet (foldl_quiet (fun s q => missed_quiet s die.val q) ..)]
    exact isolated_gated s die.val hn hdn
  case report =>
    refine ⟨_, (ran_next hb).trans (next_settle (doTableReport_other hok ht hgen)), ?_⟩
    rw [fenceOf, pad_of_pads (sendTable_pads ..)]
    exact fenceOf_tableOut s _ _

end Sys2Proof.Machine
end

/-! # Modules train, replay and fail; a side is reset -/

section
namespace Sys2Proof.Machine
open Sys2Proof

/-! ### Replays (R154) -/

section
variable (s : State) (m n : Nat)

theorem tpm_of_tp {s t : State} (h : t.tp = s.tp) (n : Nat) : tpm t n = tpm s n := by rw [tpm, h, tpm]

theorem tpm_fire (k : Nat) : tpm (fire s k) n = tpm s n := tpm_of_tp (fire_tp ..) n

theorem tpm_logDev (c v : Nat) (fs : List Nat) : tpm (logDev s c v fs) n = tpm s n := tpm_of_tp (logDev_tp ..) n

/-- The flits after the last intact one. -/
def laterFlits (last : Nat) : List (Nat × Bytes × Nat) := (tpm s m).replay.filter (fun e => 256 ≤ (last + 4096 - e.1) % 4096)

/-- The flits to replay, each counted once more. -/
def counted (l : List (Nat × Bytes × Nat)) : List (Nat × Bytes × Nat) := l.map (fun e => (e.1, e.2.1, e.2.2 + 1))

/-- Each later flit is sent again. -/
def replayed (l : List (Nat × Bytes × Nat)) : State :=
  l.foldl (fun s e => emit s (.flit m e.2.1)) (updTpm s m (fun k => { k with replay := counted l }))

theorem replayed_tp (l : List (Nat × Bytes × Nat)) : (tpm (replayed s m l) m).replay = counted l := by
  rw [tpm_of_tp (t := replayed s m l) (foldl_keeps State.tp _ (by intros; rfl) l _), tpm_updTpm, if_pos rfl]

theorem replayed_frame (l : List (Nat × Bytes × Nat)) : { replayed s m l with tp := s.tp, out := s.out } = s :=
  foldl_keeps (fun t : State => { t with tp := s.tp, out := s.out }) _ (by intros; rfl) l _

theorem mem_emitted {o : Out} {l : List (Nat × Bytes × Nat)} {s : State} (h : o ∈ s.out ∨ ∃ e ∈ l, o = .flit m e.2.1) :
    o ∈ (l.foldl (fun s e => emit s (.flit m e.2.1)) s).out := by
  induction l generalizing s with
  | nil => simpa using h
  | cons e l ih =>
    refine ih ?_
    rcases h with h | ⟨e', he', ho⟩
    · exact .inl (.tail _ h)
    · rcases List.mem_cons.1 he' with rfl | he'
      · exact .inl (ho ▸ .head _)
      · exact .inr ⟨e', he', ho⟩

theorem mem_replayed {l : List (Nat × Bytes × Nat)} {e : Nat × Bytes × Nat} (h : e ∈ counted l) : Out.flit m e.2.1 ∈ (replayed s m l).out := by
  obtain ⟨o, ho, rfl⟩ := List.mem_map.1 h
  exact mem_emitted m (.inr ⟨o, ho, rfl⟩)

end

section
variable {s : State} {m : Fin 24} {h : BitVec 128}

theorem doSidebandNak_replays (hok : sideOk h.toNat 12 0 (0xFFF * 2 ^ 68) false = true) (hfew : ∀ e ∈ (tpm s m.val).replay, e.2.2 < 8) :
    doSidebandNak s m h = replayed s m.val (laterFlits s m.val (bits h.toNat 79 68)) := by
  unfold doSidebandNak
  extract_lets n last keep
  have hany : keep.any (fun e => 8 ≤ e.2.2) = false := by
    refine List.any_eq_false.2 fun e he => ?_
    have := hfew e (List.mem_filter.1 he).1
    simp; omega
  rw [if_neg (by rw [hok]; decide), if_neg (by rw [hany]; exact Bool.false_ne_true)]
  rfl

theorem doSidebandNak_retrains (hok : sideOk h.toNat 12 0 (0xFFF * 2 ^ 68) false = true) {e : Nat × Bytes × Nat}
    (he : e ∈ (tpm s m.val).replay) (hlate : 256 ≤ (bits h.toNat 79 68 + 4096 - e.1) % 4096) (h8 : 8 ≤ e.2.2) :
    doSidebandNak s m h = logDev (retrainModule s m.val) 0x0506 1 [m.val] := by
  have hany : (laterFlits s m.val (bits h.toNat 79 68)).any (fun e => 8 ≤ e.2.2) = true :=
    List.any_eq_true.2 ⟨e, List.mem_filter.2 ⟨he, by simpa using hlate⟩, by simpa using h8⟩
  unfold doSidebandNak
  extract_lets n last keep
  rw [if_neg (by rw [hok]; decide)]
  exact if_pos hany

end

/-! ### Manifests (R159 to R161) -/

/-- The modules of a list fail. -/
def failModules (s : State) (l : List Nat) : State := l.foldl (fun s k => updTpm s k (fun k => { k with up := false, failed := true })) s

section
variable (s : State) (l : List Nat)

theorem tpm_failModules {n : Nat} (h : n ∈ l) (s : State) : (tpm (failModules s l) n).up = false ∧ (tpm (failModules s l) n).failed = true := by
  have hstays (l : List Nat) : ∀ s : State, (tpm s n).up = false ∧ (tpm s n).failed = true →
      (tpm (failModules s l) n).up = false ∧ (tpm (failModules s l) n).failed = true := by
    induction l with
    | nil => exact fun s h => h
    | cons k l ih =>
      refine fun s h => ih _ ?_
      rw [tpm_updTpm]
      split
      · exact ⟨rfl, rfl⟩
      · exact h
  induction l generalizing s with
  | nil => cases h
  | cons k l ih =>
    rcases List.mem_cons.1 h with rfl | h
    · refine hstays l _ ?_
      rw [tpm_updTpm, if_pos rfl]
      exact ⟨rfl, rfl⟩
    · exact ih h _

theorem failModules_manifests : (failModules s l).tp.manifests = s.tp.manifests :=
  foldl_keeps (fun s : State => s.tp.manifests) _ (by intros; rfl) l s

theorem failModules_pads : (failModules s l).pads = s.pads := foldl_keeps State.pads _ (by intros; rfl) l s

/-- Dies that keep tables are asked for them. -/
def askTables (m die : Nat) : State :=
  s.pads.foldl (fun s e => if e.2.tables.any (fun t => t.die = die) then sendSide s m (sbHeader 10 e.1 0 0 die 0 0) [] else s) s

theorem askTables_manifests (m die : Nat) : (askTables s m die).tp.manifests = s.tp.manifests :=
  foldl_keeps (fun s : State => s.tp.manifests) _ (fun s e => by split <;> rfl) _ s

end

/-- The paddocks that hold one of some lots. -/
def holdersOf (s : State) (lots : List Nat) : List Nat := (s.pads.filter (fun e => e.2.lots.any (fun l => lots.contains l))).map (·.1)

/-- A manifest is kept, with what it leaves out of the one before. -/
def manifestKept (s : State) (m : Nat) (hd : Nat) (es : List Nat) : State := { s with
  tp.manifests := Tbl.set s.tp.manifests (bits hd 87 84) { header := hd, entries := es },
  tp.oldEntries := s.tp.oldEntries ++ (((Tbl.find s.tp.manifests (bits hd 87 84)).map (·.entries)).getD []).filter (fun e => !es.contains e),
  tp.sideBusy := s.tp.sideBusy.filter (· ≠ (if m < 12 then 0 else 1)) }

/-- Paddocks whose lots are left out or changed fault. -/
def faultHit (s : State) (hit : List Nat) : State := if hit.isEmpty then s else faultPads (fire s 601) hit 0x0504

theorem faultHit_manifests (s : State) (hit : List Nat) : (faultHit s hit).tp.manifests = s.tp.manifests := by
  unfold faultHit
  split
  · rfl
  · exact congrArg (fun q => q.2.2.2.2.1) ((faultPads_quiet ..).trans (fire_quiet s 601))

section
variable {s : State} {m : Fin 24} {h w : BitVec 128} {ws : List (BitVec 128)}

theorem doManifest_bad (hok : sideOk h.toNat 13 (ws.length + 1) 0 false = true)
    (hbad : manifestBad s w.toNat (manifestEntries (w :: ws)) (ws.length + 1) = true) : doManifest s m h (w :: ws) =
    logDev (failModules s ((List.range 24).filter (fun k => (tpm s k).die = some (bits w.toNat 87 84) || k = m.val))) 0x0503 2 [bits w.toNat 87 84] := by
  unfold doManifest
  extract_lets n hd es die
  rw [if_neg (by rw [show sideOk n 13 (w :: ws).length 0 false = true from hok]; exact Bool.false_ne_true),
    if_pos (show manifestBad s hd es (w :: ws).length = true from hbad)]
  rfl

theorem doManifest_good (hok : sideOk h.toNat 13 (ws.length + 1) 0 false = true)
    (hgood : manifestBad s w.toNat (manifestEntries (w :: ws)) (ws.length + 1) = false) : ∃ hit, doManifest s m h (w :: ws) =
    askTables (faultHit (manifestKept s m.val w.toNat (manifestEntries (w :: ws))) hit) m.val (bits w.toNat 87 84) := by
  unfold doManifest
  extract_lets n hd es die bad old gone lots hit
  rw [if_neg (by rw [show sideOk n 13 (w :: ws).length 0 false = true from hok]; exact Bool.false_ne_true),
    if_neg (by rw [show manifestBad s hd es (w :: ws).length = false from hgood]; exact Bool.false_ne_true)]
  exact ⟨hit, rfl⟩

end

/-! ### A module fails (R153) -/

/-- A module is out. -/
def moduleOut (s : State) (m : Nat) : State := fire (updTpm s m (fun k => { k with up := false, failed := true, replay := [] })) (576 + m)

/-- The flits of a failed module leave by another one. -/
def moved (s : State) (n : Nat) (l : List (Nat × Bytes × Nat)) : State := l.foldl (fun s e =>
  let h := BitVec.ofNat 256 (beNat ((e.2.1.drop 32).take 32))
  sendTp s n (bits h.toNat 251 246) h ((e.2.1.drop 256).take (bits h.toNat 191 176))) s

/-- No module reaches a die: the paddocks that hold its lots fault. -/
def unreached (s : State) (die : Nat) : State :=
  faultPads (logDev s 0x0501 (if (holders s die).isEmpty then 0 else 3) [die]) (holders s die) 0x0501

section
variable (s : State) (m : Fin 24)

theorem doModuleTrainingFailed_eq : doModuleTrainingFailed s m = match (tpm s m.val).die with
    | none => moduleOut s m.val
    | some die => match leastBusy (moduleOut s m.val) (liveModules (moduleOut s m.val) die) with
      | some n => moved (moduleOut s m.val) n (tpm s m.val).replay
      | none => unreached (moduleOut s m.val) die := by
  unfold doModuleTrainingFailed
  extract_lets k t
  rfl

theorem tpm_moduleOut : (tpm (moduleOut s m.val) m.val).up = false ∧ (tpm (moduleOut s m.val) m.val).failed = true := by
  rw [moduleOut, tpm_fire, tpm_updTpm, if_pos rfl]
  exact ⟨rfl, rfl⟩

theorem tpm_moduleOut_ne {n : Nat} (h : m.val ≠ n) : tpm (moduleOut s m.val) n = tpm s n := by
  rw [moduleOut, tpm_fire, tpm_updTpm, if_neg h]

theorem moved_quiet (n : Nat) (l : List (Nat × Bytes × Nat)) : quiet (moved s n l) = quiet s := foldl_quiet (fun _ _ => sendTp_quiet ..) l s

theorem unreached_quiet (die : Nat) : quiet (unreached s die) = quiet s := (faultPads_quiet ..).trans (logDev_quiet ..)

theorem doModuleTrainingFailed_quiet : quiet (doModuleTrainingFailed s m) = quiet (moduleOut s m.val) := by
  rw [doModuleTrainingFailed_eq]
  repeat' split
  · rfl
  · exact moved_quiet ..
  · exact unreached_quiet ..

theorem linkState_of_quiet {s t : State} (h : quiet t = quiet s) (n : Nat) : linkState (tpm t n) = linkState (tpm s n) :=
  congrArg (fun q => q.2.2.2.2.2 n) h

theorem liveModules_moduleOut {die : Nat} (h : ∀ n, n < 24 → n ≠ m.val → (tpm s n).die = some die → (tpm s n).up = false) :
    liveModules (moduleOut s m.val) die = [] := by
  refine List.filter_eq_nil_iff.2 fun n hn => ?_
  by_cases hnm : n = m.val
  · subst hnm
    simp [(tpm_moduleOut s m).1]
  · have hup := h n (List.mem_range.1 hn) hnm
    simp only [tpm_moduleOut_ne s m (Ne.symm hnm)]
    by_cases hdie : (tpm s n).die = some die
    · simp [hup hdie]
    · simp [hdie]

/-- A paddock that holds a lot of a die that no module reaches is FAULTED. -/
theorem unreached_faults {t : State} {die p l : Nat} (hl : l ∈ (pad t p).lots) (hd : dieOf t l = some die) (hne : (pad t p).state ≠ .empty) :
    (pad (unreached t die) p).state = .faulted := by
  refine (faultPads_hits 0x0501 (mem_holders hl hd) ?_).1
  rw [pad_of_pads (logDev_pads ..)]
  exact hne

theorem moduleOut_pads : (moduleOut s m.val).pads = s.pads := fire_pads ..

theorem dieOf_moduleOut (l : Nat) : dieOf (moduleOut s m.val) l = dieOf s l := by
  have hman : (moduleOut s m.val).tp.manifests = s.tp.manifests := (congrArg Tp.manifests (fire_tp (updTpm s m.val _) (576 + m.val)) :)
  simp only [dieOf, lotEntry, hman]

theorem doModuleTrainingFailed_faults {die p : Nat} (hdie : (tpm s m.val).die = some die)
    (hlone : ∀ n, n < 24 → n ≠ m.val → (tpm s n).die = some die → (tpm s n).up = false)
    (hlot : ∃ l ∈ (pad s p).lots, dieOf s l = some die) (hne : (pad s p).state ≠ .empty) :
    (pad (doModuleTrainingFailed s m) p).state = .faulted := by
  obtain ⟨l, hl, hd⟩ := hlot
  have heq : doModuleTrainingFailed s m = unreached (moduleOut s m.val) die := by
    rw [doModuleTrainingFailed_eq]
    simp only [hdie, liveModules_moduleOut s m hlone]
    rfl
  have hpad : pad (moduleOut s m.val) p = pad s p := pad_of_pads (moduleOut_pads s m) p
  rw [heq]
  exact unreached_faults (by rwa [hpad]) ((dieOf_moduleOut ..).trans hd) (by rwa [hpad])

end

/-! ### SIDE_RESET (R175) -/

section
variable (s : State)

theorem ready_quiet (p c : Nat) : quiet (ready s p c) = quiet s := updCtx_quiet ..

theorem unwait_quiet (p c : Nat) : quiet (unwait s p c) = quiet s := by
  unfold unwait
  repeat' split
  · exact updCtx_quiet ..
  · exact ready_quiet ..
  · rfl
  · rfl

theorem killBatch_quiet (ids : List Nat) (why : Stop) : quiet (killBatch s ids why) = quiet s := by
  unfold killBatch
  extract_lets mine who t gone t'
  split
  · exact foldl_quiet (fun s id => updCmd_quiet ..) _ s
  · have ht : quiet t = quiet s := foldl_quiet (fun s id => stopCmdWith_quiet ..) _ s
    have ht' : quiet t' = quiet t := foldl_quiet (fun s e => by
      split
      · split
        · rfl
        · exact advanceEpoch_quiet ..
      · rfl) _ t
    refine (foldl_quiet (fun s e => (afterEnd_quiet ..).trans ?_) _ t').trans (ht'.trans ht)
    split
    · exact unwait_quiet ..
    · rfl


/-- Is a module of a side? -/
def ofSide (side m : Nat) : Bool := (if m < 12 then 0 else 1) = side

/-- The modules of a side that reach a die. -/
def sideMembers (side : Nat) : List Nat := (List.range 24).filter (fun m => ofSide side m && (tpm s m).die.isSome)

/-- The side island resets, and counts the commands that it loses. -/
def sideDown (side : Nat) (ids : List Nat) : State := { s with
  flt.state := Tbl.set s.flt.state (4 + side) 2, flt.wedged := s.flt.wedged.filter (· ≠ 4 + side),
  flt.killed := Tbl.set s.flt.killed (4 + side) (ids.filter (fun id => !(cmdOf s id).any (·.inner))).length }

/-- The commands of a list are killed, and what the Tenancy Port itself asks for is forgotten. -/
def sideKills (ids : List Nat) : State :=
  killBatch (ids.foldl (fun s id => if (cmdOf s id).any (·.inner) then updCmd s id (fun c => { c with asked := [] }) else s) s) ids .island

theorem sideKills_quiet (ids : List Nat) : quiet (sideKills s ids) = quiet s := by
  refine (killBatch_quiet ..).trans (foldl_quiet (fun s id => ?_) ids s)
  split
  · exact updCmd_quiet ..
  · rfl

/-- SIDE_RESET is sent on the modules, and they retrain. -/
def retrained (side : Nat) (ms : List Nat) : State :=
  ms.foldl (fun s m => updTpm (retrainModule s m) m (fun k => { k with gated := false }))
    (ms.foldl (fun s m => sendSide s m (sbHeader 9 0 0 0 ((tpm s m).die.getD 0) 0 (side * 2 ^ 79)) []) s)

theorem retrained_flt (side : Nat) (ms : List Nat) : (retrained s side ms).flt = s.flt :=
  (foldl_keeps State.flt _ (by intro s m; exact fire_flt _ _) ms _).trans (foldl_keeps State.flt _ (by intros; rfl) ms s)

theorem tpm_retrained {side n : Nat} {ms : List Nat} (h : n ∈ ms) : (tpm (retrained s side ms) n).up = false ∧ (tpm (retrained s side ms) n).gated = false := by
  have hone (s : State) (m : Nat) : tpm (updTpm (retrainModule s m) m (fun k => { k with gated := false })) n =
      if m = n then { tpm s m with up := false, nakked := false, tx := 0, rx := none, replay := [], gated := false } else tpm s n := by
    rw [tpm_updTpm, retrainModule, tpm_fire, tpm_fire, tpm_updTpm, tpm_updTpm, if_pos rfl]
    by_cases hm : m = n
    · rw [if_pos hm, if_pos hm]
    · rw [if_neg hm, if_neg hm, if_neg hm]
  have hstays (l : List Nat) : ∀ s : State, (tpm s n).up = false ∧ (tpm s n).gated = false →
      (tpm (l.foldl (fun s m => updTpm (retrainModule s m) m (fun k => { k with gated := false })) s) n).up = false ∧
      (tpm (l.foldl (fun s m => updTpm (retrainModule s m) m (fun k => { k with gated := false })) s) n).gated = false := by
    induction l with
    | nil => exact fun s h => h
    | cons m l ih =>
      refine fun s h => ih _ ?_
      rw [hone]
      split
      · exact ⟨rfl, rfl⟩
      · exact h
  unfold retrained
  generalize ms.foldl (fun s m => sendSide s m (sbHeader 9 0 0 0 ((tpm s m).die.getD 0) 0 (side * 2 ^ 79)) []) s = t
  induction ms generalizing t with
  | nil => cases h
  | cons m ms ih =>
    rcases List.mem_cons.1 h with rfl | h
    · refine hstays ms _ ?_
      rw [hone, if_pos rfl]
      exact ⟨rfl, rfl⟩
    · exact ih h _

/-- The transactions of the side are gone, and its reset is logged. -/
def sideCleared (side : Nat) (busy : List Nat) (ids : List Nat) : State :=
  logDev (fire { s with tp.sideBusy := busy, tp.outst := s.tp.outst.filter (fun e => !ofSide side e.2.module_) } (603 + side))
    0x050A (if ids.isEmpty then 0 else 2) [side, ids.length]

theorem sideReset_eq (side : Nat) : ∃ ids busy, sideReset s side =
    sideCleared (retrained (sideKills (sideDown s side ids) ids) side (sideMembers (sideKills (sideDown s side ids) ids) side)) side busy ids :=
  ⟨_, _, rfl⟩

theorem sideCleared_tp (side : Nat) (busy ids : List Nat) : (sideCleared s side busy ids).tp =
    { s.tp with sideBusy := busy, outst := s.tp.outst.filter (fun e => !ofSide side e.2.module_) } := by
  rw [sideCleared, logDev_tp, fire_tp]

theorem sideCleared_flt (side : Nat) (busy ids : List Nat) : (sideCleared s side busy ids).flt = s.flt := by
  rw [sideCleared, logDev_flt, fire_flt]

theorem die_of_quiet {s t : State} (h : quiet t = quiet s) (n : Nat) : (tpm t n).die = (tpm s n).die :=
  congrArg (fun k => k.2.1) (linkState_of_quiet h n)

/-- What a side reset leaves of the side. -/
theorem sideReset_leaves (side : Nat) : Tbl.get (sideReset s side).flt.state (4 + side) = 2 ∧
    (∀ e ∈ (sideReset s side).tp.outst, ofSide side e.2.module_ = false) ∧
    ∀ n, n < 24 → ofSide side n = true → (tpm s n).die ≠ none → (tpm (sideReset s side) n).up = false ∧ (tpm (sideReset s side) n).gated = false := by
  obtain ⟨ids, busy, heq⟩ := sideReset_eq s side
  have hquiet := sideKills_quiet (sideDown s side ids) ids
  have hdie (n : Nat) : (tpm (sideKills (sideDown s side ids) ids) n).die = (tpm s n).die := die_of_quiet hquiet n
  have hflt : (sideKills (sideDown s side ids) ids).flt.state = Tbl.set s.flt.state (4 + side) 2 := congrArg (fun q => q.2.1) hquiet
  rw [heq]
  generalize sideKills (sideDown s side ids) ids = t at hdie hflt
  refine ⟨?_, fun e he => ?_, fun n hn hside hsome => ?_⟩
  · rw [sideCleared_flt, retrained_flt, hflt, Tbl.get_set_self]
  · rw [sideCleared_tp] at he
    simpa using (List.mem_filter.1 he).2
  · have hmem : n ∈ sideMembers t side := List.mem_filter.2 ⟨List.mem_range.2 hn, by
      rw [hside, hdie]
      exact Option.isSome_iff_ne_none.2 hsome⟩
    have htp : tpm (sideCleared (retrained t side (sideMembers t side)) side busy ids) n = tpm (retrained t side (sideMembers t side)) n :=
      (congrArg (fun tp : Tp => Tbl.get tp.modules n) (sideCleared_tp (retrained t side (sideMembers t side)) side busy ids) :)
    rw [htp]
    exact tpm_retrained t hmem

end

theorem descOf_sideReset : ∃ d, descOf 0x1400 4 = some d ∧ numCmd d 1 1 = true ∧ d.lo = 1 ∧ d.hi = 2 := ⟨_, rfl, by decide⟩

theorem exec_sideReset {s : State} {via : Path} (hm : ManagerAsks s via) (tag : Tag) {v : BitVec 8} (hv : v.toNat = 1 ∨ v.toNat = 2) :
    exec (.sideReset via tag v) s = .next (settle (settled via (writeReq tag 0x1400 4 1) 1
      (sideReset (accepted s via tag) (v.toNat - 1), some 0))) := by
  obtain ⟨d, hd, hk, hlo, hhi⟩ := descOf_sideReset
  have hnat : beNat (beBytes 1 v.toNat) = v.toNat := beNat_beBytes (by omega)
  have h := exec_device_num (n := 1) (v := v.toNat) (tag := tag) (sub := 4) (f := {}) (b := s.sys.bootFacts)
    (c := .sideReset via tag v) hm (by decide) ⟨d, hd, hk, by omega, by omega⟩ (by omega) rfl rfl
  exact h.trans (by rw [deviceWrite, hnat]; rfl)

/-! ### The statement -/

/-- Settles O30: each row is one equation of the model; what it leaves of a module is read from `linkState`, which the end of commands keeps. -/
theorem modulesTrainAndFail : Obligations.ModulesTrainAndFail := by
  intro s m hb
  refine ⟨fun h hok => ⟨fun hfew => ?replay, fun e he hlate h8 => (ran_next hb).trans (next_settle (doSidebandNak_retrains hok he hlate h8))⟩,
    fun h w ws hok => ⟨fun hbad => ?bad, fun hgood => ?good⟩, fun die => ran_next hb, ?failed, fun via tag v hm hv => ?side⟩
  case replay =>
    exact ⟨_, (ran_next hb).trans (next_settle (doSidebandNak_replays hok hfew)), replayed_tp .., replayed_frame ..,
      fun e he => mem_replayed s m.val (by rwa [replayed_tp] at he)⟩
  case bad =>
    refine ⟨_, (ran_next hb).trans (next_settle (doManifest_bad hok hbad)), ?_, ?_, ?_⟩
    · rw [logDev_tp, failModules_manifests]
    · rw [logDev_pads, failModules_pads]
    · rw [tpm_logDev]
      exact tpm_failModules _ (List.mem_filter.2 ⟨List.mem_range.2 m.isLt, by simp⟩) s
  case good =>
    obtain ⟨hit, heq⟩ := doManifest_good hok hgood
    refine ⟨_, (ran_next hb).trans (next_settle heq), ?_⟩
    rw [askTables_manifests, faultHit_manifests]
    exact Tbl.find_set_self ..
  case failed =>
    have hlink := linkState_of_quiet (doModuleTrainingFailed_quiet s m) m.val
    obtain ⟨hup, hfailed⟩ := tpm_moduleOut s m
    exact ⟨_, ran_next hb, (congrArg (·.1) hlink :).trans hup, (congrArg (·.2.2.1) hlink :).trans hfailed,
      fun die p hdie hlone hlot hne => doModuleTrainingFailed_faults s m hdie hlone hlot hne⟩
  case side =>
    obtain ⟨hstate, houtst, hmods⟩ := sideReset_leaves (accepted s via tag) (v.toNat - 1)
    have hv' : 4 + (v.toNat - 1) = 3 + v.toNat := by omega
    have hside (n : Nat) : ofSide (v.toNat - 1) n = decide ((if n < 12 then 1 else 2) = v.toNat) := by
      unfold ofSide
      split <;> simp <;> omega
    have hexec := exec_sideReset hm tag hv
    generalize sideReset (accepted s via tag) (v.toNat - 1) = t at hexec hstate houtst hmods
    refine ⟨_, answers_of_settled hexec rfl, by rw [← hv']; exact hstate, fun e he h => ?_, fun n hn hn12 hdie => ?_⟩
    · have hout := houtst e he
      rw [hside] at hout
      exact of_decide_eq_false hout h
    · exact hmods n hn (by rw [hside]; exact decide_eq_true hn12) hdie

end Sys2Proof.Machine
end

/-! # Collectives contribute, complete and time out -/

section
namespace Sys2Proof.Machine
open Sys2Proof

/-! ### What a command's step does with the bytes and places it asks for -/

theorem withBytes_bytes {s t : State} {id va n : Nat} {c : Cmd} {b : Bytes} (h : gather s id c.p va n = (t, .bytes b)) (f : State → Bytes → State) :
    withBytes s id c va n f = f t b := by
  rw [withBytes, h]

theorem begun_sheaf (s : State) (id : Nat) : (begun s id).sheaf = s.sheaf := updCmd_sheaf ..

theorem begun_net (s : State) (id : Nat) : (begun s id).net = s.net := updCmd_net ..

theorem begun_pads (s : State) (id : Nat) : (begun s id).pads = s.pads := updCmd_pads ..

/-- A command that has started. -/
def startedCmd (c : Cmd) : Cmd := { c with phase := .started }

/-- A row of an opcode runs its step on the command that has started. -/
theorem withCmd_begun {s : State} {id op : Nat} {c : Cmd} (hw : Works s id c op) (f : State → Cmd → State) :
    withCmd s id op f = f (begun s id) (startedCmd c) := by
  obtain ⟨-, hc, ho, hm⟩ := hw
  exact withCmd_eq f hc ho hm

/-! ### Contributions (R404) -/

/-- A collective run that still needs this member's contribution. -/
structure Joins (s : State) (c : Cmd) (gn n : Nat) (g : Group) (i : Inst) : Prop where
  inst : c.inst = some (gn, n)
  group : getPair s.sheaf.groups (groupKey c.p gn) = some g
  found : g.insts.find? (fun i => i.num = n) = some i
  fresh : i.src = none
  recent : n < oldestInst g + 2 ^ 24

/-- The member's bytes are put into its open run. -/
def contribute (id key n : Nat) (s : State) (b : Bytes) : State := updInst s key n (fun i => { i with src := some b, cmd := some id })

/-- The source of a collective is gathered and put into its open run. -/
def gatherSource (id key n : Nat) (c : Cmd) (src : Option (Nat × Nat)) (s : State) : State :=
  match src with
  | none => contribute id key n s (List.replicate 4 0)
  | some (va, len) => if len = 0 then contribute id key n s [] else withBytes s id c va len (contribute id key n)

section
variable {s : State} {id : Nat} {c : Cmd} {gn n op : Nat} {g : Group} {i : Inst} (hj : Joins s c gn n g i) (hw : Works s id c op)
  (src : Group → Cmd → Option (Nat × Nat))
include hj hw

/-- A collective that has started checks its destination and gathers its source. -/
theorem startColl_eq : startColl s id op src =
    match collDest g (workOf g c.desc n) c.desc with
    | none => gatherSource id (groupKey c.p gn) n (startedCmd c) (src g (startedCmd c)) (begun s id)
    | some (va, ks) =>
      if (ks.map (workOf g c.desc n).pieceLen).foldl (· + ·) 0 * (workOf g c.desc n).outBytes = 0 then
        gatherSource id (groupKey c.p gn) n (startedCmd c) (src g (startedCmd c)) (begun s id)
      else withDest (begun s id) id (startedCmd c) va ((ks.map (workOf g c.desc n).pieceLen).foldl (· + ·) 0 * (workOf g c.desc n).outBytes)
        (fun t pls => gatherSource id (groupKey c.p gn) n (startedCmd c) (src g (startedCmd c)) (holdDest t id pls)) := by
  obtain ⟨hinst, hgroup, hfound, hfresh, hrecent⟩ := hj
  have hinst' : (startedCmd c).inst = some (gn, n) := hinst
  have hp : (startedCmd c).p = c.p := rfl
  have hd : (startedCmd c).desc = c.desc := rfl
  have hpair : (getPair (begun s id).sheaf.groups (groupKey c.p gn)).bind (fun g => (g.insts.find? (fun i => i.num = n)).map (fun i => (g, i))) =
      some (g, i) := by
    rw [begun_sheaf, hgroup, Option.bind_some, hfound]
    rfl
  rw [startColl, withCmd_begun hw]
  generalize begun s id = t at hpair
  generalize startedCmd c = k at hinst' hp hd
  simp only [hinst', hp, hd, hpair]
  rw [if_neg (by simp [hfresh]), if_neg (by omega)]
  rfl

/-- Once source and destination resolve the open run has the member's bytes. -/
theorem startColl_contributes {v w : State} {va len : Nat} {b : Bytes} (hsrc : src g (startedCmd c) = some (va, len)) (hlen : 0 < len)
    (hdest : (collDest g (workOf g c.desc n) c.desc = none ∧ v = begun s id) ∨
      (∃ d ks t pls, collDest g (workOf g c.desc n) c.desc = some (d, ks) ∧ 0 < (ks.map (workOf g c.desc n).pieceLen).foldl (· + ·) 0 * (workOf g c.desc n).outBytes ∧
        (∀ f, withDest (begun s id) id (startedCmd c) d ((ks.map (workOf g c.desc n).pieceLen).foldl (· + ·) 0 * (workOf g c.desc n).outBytes) f = f t pls) ∧
        v = holdDest t id pls))
    (hb : gather v id c.p va len = (w, .bytes b)) : startColl s id op src = contribute id (groupKey c.p gn) n w b := by
  have hgather : gatherSource id (groupKey c.p gn) n (startedCmd c) (some (va, len)) v = contribute id (groupKey c.p gn) n w b := by
    simp only [gatherSource]
    rw [if_neg (by omega), withBytes_bytes (c := startedCmd c) hb]
  rw [startColl_eq hj hw, hsrc]
  rcases hdest with ⟨hnone, rfl⟩ | ⟨d, ks, t, pls, hsome, hpos, hplaces, rfl⟩
  · rw [hnone]
    exact hgather
  · rw [hsome]
    dsimp only
    rw [if_neg (by omega), hplaces]
    exact hgather

/-- A BARRIER contributes one INT32 zero and writes nothing. -/
theorem startColl_zero (hop : op = 0x85) (hsrc : src g (startedCmd c) = none) :
    startColl s id op src = contribute id (groupKey c.p gn) n (begun s id) [0, 0, 0, 0] := by
  have hnone : collDest g (workOf g c.desc n) c.desc = none := by
    obtain ⟨-, -, ho, -⟩ := hw
    simp [collDest, ho, hop]
  rw [startColl_eq hj hw, hnone, hsrc]
  rfl

end

/-! ### Completion (R404) -/

theorem completeColl_concludes {s : State} {p : Nat} {g : Group} {key : Nat} {x : Work} {i : Inst} {sends : List Xfer} {rs : List (Nat × Xfer)}
    {id va : Nat} {c : Cmd} {ks : List Nat} {pls : List (Place × Nat)} (hdest : collDest g x c.desc = some (va, ks))
    (hall : (matched rs i (x.h.upStages + 2 * x.h.n + 8)).length = rs.length)
    (hpls : accessAll s p va ((ks.map (resultOf x i g.self rs (x.h.upStages + 2 * x.h.n + 8))).flatten).length true = .ok pls) :
    completeColl s p g key x i sends rs id c =
      conclude s id c (writeEffects pls ((ks.map (resultOf x i g.self rs (x.h.upStages + 2 * x.h.n + 8))).flatten)) 0 := by
  simp only [completeColl, hdest, hall, decide_true, Bool.not_true, Bool.false_eq_true, if_false, hpls]

/-! ### Groups (R393 to R395, R400) -/

theorem getPair_append {α : Type} {l : List (Nat × α)} {k : Nat} {a : α} (h : getPair l k = none) : getPair (l ++ [(k, a)]) k = some a := by
  have hnone : l.find? (fun e => e.1 = k) = none := Option.map_eq_none_iff.1 h
  simp [getPair, List.find?_append, hnone]

theorem getPair_filter {α : Type} (l : List (Nat × α)) (k : Nat) : getPair (l.filter (fun e => e.1 ≠ k)) k = none := by
  refine Option.map_eq_none_iff.2 (List.find?_eq_none.2 fun e he => ?_)
  simpa using (List.mem_filter.1 he).2

/-- What a group asked for is made of, and that its number is free. -/
theorem groupAsked_passes {s : State} {p h : Nat} {es : List Nat} {g : Group} (hg : groupAsked s p h es = (g, 0)) :
    g.self = bits h 226 215 ∧ getPair s.sheaf.groups (groupKey p g.num) = none := by
  unfold groupAsked at hg
  extract_lets n self base np slots links box num a me qps at hg
  dsimp only at hg
  have hrefused {code : Nat} {P : Prop} (h0 : code ≠ 0) (h : (a, code) = (g, 0)) : P := (h0 (Prod.mk.inj h).2).elim
  split at hg
  · exact hrefused (by decide) hg
  split at hg
  · exact hrefused (by decide) hg
  split at hg
  · exact hrefused (by decide) hg
  next hfree =>
  have hga : g = a := by
    split at hg
    · exact hrefused (by decide) hg
    split at hg
    · exact hrefused (by decide) hg
    · exact (Prod.mk.inj hg).1.symm
  rw [hga]
  exact ⟨rfl, by simpa using hfree⟩

/-- The QP to member m of a group. -/
def peerQp (s : State) (p : Nat) (g : Group) (m : Nat) : Qp :=
  { type := 3, st := 2, node := bits (g.members.getD m 0) 63 51, peer := bits (g.members.getD m 0) 50 45 * 2 ^ 18 + bits (g.members.getD m 0) 44 27 + g.self,
    paths := g.links.map (fun l => newPath s l 0), rto := (getO s 0x1600 2 : Nat), group := some (groupKey p g.num) }

/-- A QP of a group to one of its members. -/
def LeadsTo (p : Nat) (g : Group) (m : Nat) (q : Qp) : Prop :=
  q.type = 3 ∧ q.st = 2 ∧ q.group = some (groupKey p g.num) ∧ q.node = bits (g.members.getD m 0) 63 51

/-- A QP to each other member of a group. -/
def peered (s : State) (p : Nat) (g : Group) (ms : List Nat) : State := ms.foldl (fun s m => groupPeer s p g m) s

section
variable (s : State) (p : Nat) (g : Group) (ms : List Nat)

theorem groupPeer_find (m k : Nat) : Tbl.find (groupPeer s p g m).net.qps k =
    if groupQp p g m = k then some (peerQp s p g m) else Tbl.find s.net.qps k := Tbl.find_set ..

theorem groupQp_injective {m k : Nat} (h : groupQp p g m = groupQp p g k) : m = k := by
  unfold groupQp at h
  omega

theorem peered_find {m : Nat} (hm : m ∈ ms) : ∃ q, Tbl.find (peered s p g ms).net.qps (groupQp p g m) = some q ∧ LeadsTo p g m q := by
  have hstays (ms : List Nat) : ∀ s : State, (∃ q, Tbl.find s.net.qps (groupQp p g m) = some q ∧ LeadsTo p g m q) →
      ∃ q, Tbl.find (peered s p g ms).net.qps (groupQp p g m) = some q ∧ LeadsTo p g m q := by
    induction ms with
    | nil => exact fun s h => h
    | cons k ms ih =>
      refine fun s h => ih _ ?_
      rw [groupPeer_find]
      split
      · next hk =>
        have hkm := groupQp_injective p g hk
        subst hkm
        exact ⟨_, rfl, rfl, rfl, rfl, rfl⟩
      · exact h
  induction ms generalizing s with
  | nil => cases hm
  | cons k ms ih =>
    rcases List.mem_cons.1 hm with rfl | hm
    · refine hstays ms _ ?_
      rw [groupPeer_find, if_pos rfl]
      exact ⟨_, rfl, rfl, rfl, rfl, rfl⟩
    · exact ih _ hm

theorem peered_frame {γ : Type} (f : State → γ) (hf : ∀ s l, f { s with net.qps := l } = f s) : f (peered s p g ms) = f s :=
  foldl_keeps f _ (fun s _ => hf s _) ms s

end

section
variable {s : State} {id : Nat} {c : Cmd}

/-- A group that passes its checks is made, with a QP to each other member. -/
theorem doGroupCreate_makes {v w : State} {g : Group} {hb eb : Bytes} (hw : Works s id c 0x90) (hargs : ∀ j, j < 5 → dArg c.desc (j + 1) = 0)
    (halign : dArg c.desc 0 % 32 = 0) (hhead : gather (begun s id) id c.p (dArg c.desc 0) 32 = (v, .bytes hb))
    (hlo : 0 < bits (beNat hb) 239 227) (hhi : bits (beNat hb) 239 227 ≤ 4096)
    (hmembers : gather v id c.p (dArg c.desc 0 + 32) (8 * bits (beNat hb) 239 227) = (w, .bytes eb))
    (hg : groupAsked w c.p (beNat hb) (numsOf 8 eb) = (g, 0)) :
    doGroupCreate s id = finish { peered w c.p g ((List.range (bits (beNat hb) 239 227)).filter (· ≠ g.self)) with
      sheaf.groups := (peered w c.p g ((List.range (bits (beNat hb) 239 227)).filter (· ≠ g.self))).sheaf.groups ++ [(groupKey c.p g.num, g)] } id [] 0 := by
  have hzero : ¬ (List.range 5).any (fun k => dArg c.desc (k + 1) ≠ 0) = true := by
    simp only [List.any_eq_true, List.mem_range, decide_eq_true_eq, not_exists, not_and, not_not]
    exact hargs
  have hp : (startedCmd c).p = c.p := rfl
  have hd : (startedCmd c).desc = c.desc := rfl
  rw [doGroupCreate, withCmd_begun hw]
  rw [← hp] at hhead hmembers
  generalize begun s id = t at hhead
  generalize startedCmd c = k at hp hd hhead hmembers
  simp only [hd]
  rw [if_neg hzero, if_neg (by omega), withBytes_bytes hhead, if_neg (by simp; omega), withBytes_bytes hmembers, hp, hg]
  rfl

/-- The group is erased with its QPs. -/
def ungrouped (s : State) (key : Nat) : State :=
  { s with net.qps := s.net.qps.filter (fun e => e.2.group ≠ some key), sheaf.groups := s.sheaf.groups.filter (fun e => e.1 ≠ key) }

section
variable {g : Group} (hw : Works s id c 0x91) (hnum : dArg c.desc 0 < 64) (hargs : ∀ j, j < 5 → dArg c.desc (j + 1) = 0)
  (hg : getPair s.sheaf.groups (groupKey c.p (dArg c.desc 0)) = some g)
include hw hnum hargs hg

theorem doGroupDestroy_eq : doGroupDestroy s id =
    if !g.insts.isEmpty then failCmd (begun s id) id 0x0909 else finish (ungrouped (begun s id) (groupKey c.p (dArg c.desc 0))) id [] 0 := by
  have hzero : (List.range 5).any (fun k => dArg c.desc (k + 1) ≠ 0) = false := by
    simp only [List.any_eq_false, List.mem_range, decide_eq_true_eq, not_not]
    exact hargs
  have hp : (startedCmd c).p = c.p := rfl
  have hd : (startedCmd c).desc = c.desc := rfl
  rw [← begun_sheaf s id] at hg
  rw [doGroupDestroy, withCmd_begun hw]
  generalize begun s id = t at hg
  generalize startedCmd c = k at hp hd
  simp only [hp, hd, hg]
  rw [if_neg (by simp only [hzero, Bool.or_false, decide_eq_true_eq]; omega)]
  rfl

theorem doGroupDestroy_erases (hi : g.insts = []) :
    doGroupDestroy s id = finish (ungrouped (begun s id) (groupKey c.p (dArg c.desc 0))) id [] 0 :=
  (doGroupDestroy_eq hw hnum hargs hg).trans (if_neg (by simp [hi]))

theorem doGroupDestroy_open (hi : g.insts ≠ []) : doGroupDestroy s id = failCmd (begun s id) id 0x0909 :=
  (doGroupDestroy_eq hw hnum hargs hg).trans (if_pos (by simpa using hi))

end

/-! ### Timeouts (R406, R407) -/

theorem doCollTimeout_fails {gn n : Nat} (hc : cmdOf s id = some c) (hi : c.inst = some (gn, n)) (h0 : c.status = 0) (hp : c.phase ≠ .ready) :
    doCollTimeout s id = failCmd (updInst s (groupKey c.p gn) n (fun i => if i.failed = 0 then { i with failed := 0x0905 } else i)) id 0x0905 := by
  simp only [doCollTimeout, hc, hi]
  exact if_pos (by simp [h0, hp])

theorem doCollKillWaitExpiry_fails (hc : cmdOf s id = some c) (hk : c.killWaits = true) (hcon : contributed s c = true) :
    doCollKillWaitExpiry s id = failCmd s id 0x0904 := by
  simp only [doCollKillWaitExpiry, hc, hk, hcon]
  rfl

end

/-! ### The statement -/

/-- Settles O42: the contributions are one equation of `startColl`; groups, completion and timeouts are equations of their own. -/
theorem collectivesContributeAndComplete : Obligations.CollectivesContributeAndComplete := by
  intro s s1 v w id c k hs1 hk
  subst hs1 hk
  refine ⟨fun gn n key g i x op src va len b hinst hkey hgroup hfound hfresh hrecent hw hmem hsrc hlen hdest hb => ?contribute,
    fun gn n key g i hinst hkey hgroup hfound hfresh hrecent hw => ?barrier,
    fun p g key x i sends rs va ks pls hdest hall hpls => completeColl_concludes hdest hall hpls,
    fun hb eb g hw hargs halign hhead hlo hhi hmembers hg => ?create, fun g hw hnum hargs hg => ⟨fun hi => ?destroy, fun hi => ?inUse⟩,
    fun gn n hboot hc hi h0 hp => (ran_next hboot).trans (next_settle (doCollTimeout_fails hc hi h0 hp)),
    fun hboot hc hk hcon => (ran_next hboot).trans (next_settle (doCollKillWaitExpiry_fails hc hk hcon))⟩
  case contribute =>
    subst hkey
    have hj : Joins s c gn n g i := ⟨hinst, hgroup, hfound, hfresh, hrecent⟩
    have hrun (f : Group → Cmd → Option (Nat × Nat)) (hf : f g (startedCmd c) = some (va, len)) :
        startColl s id op f = contribute id (groupKey c.p gn) n w b := startColl_contributes hj hw f hf hlen hdest hb
    have hboot := hw.1
    simp only [List.mem_cons, Prod.mk.injEq, List.not_mem_nil, or_false] at hmem
    rcases hmem with ⟨rfl, rfl, rfl⟩ | ⟨rfl, rfl, rfl⟩ | ⟨rfl, rfl, rfl⟩ | ⟨rfl, rfl, rfl⟩ | ⟨rfl, rfl, rfl⟩
    · exact (ran_next hboot).trans (next_settle (hrun _ hsrc))
    · exact (ran_next hboot).trans (next_settle (hrun _ hsrc))
    · exact (ran_next hboot).trans (next_settle (hrun _ hsrc))
    · exact (ran_next hboot).trans (next_settle (hrun _ hsrc))
    · exact (ran_next hboot).trans (next_settle (hrun _ hsrc))
  case barrier =>
    subst hkey
    have hj : Joins s c gn n g i := ⟨hinst, hgroup, hfound, hfresh, hrecent⟩
    exact (ran_next hw.1).trans (next_settle (startColl_zero hj hw _ rfl rfl))
  case create =>
    obtain ⟨-, hfree⟩ := groupAsked_passes hg
    refine ⟨_, (ran_next hw.1).trans (next_settle (doGroupCreate_makes hw hargs halign hhead hlo hhi hmembers hg)), ?_, fun m hm hne => ?_, ?_, ?_⟩
    · refine getPair_append ?_
      rw [peered_frame w c.p g _ State.sheaf (by intros; rfl)]
      exact hfree
    · exact peered_find w c.p g _ (List.mem_filter.2 ⟨List.mem_range.2 hm, by simpa using hne⟩)
    · exact peered_frame w c.p g _ State.cmd (by intros; rfl)
    · exact peered_frame w c.p g _ State.pads (by intros; rfl)
  case destroy =>
    refine ⟨_, (ran_next hw.1).trans (next_settle (doGroupDestroy_erases hw hnum hargs hg hi)), getPair_filter .., fun e he => ?_, fun e he hne => ?_,
      begun_pads s id⟩
    · simpa using (List.mem_filter.1 he).2
    · refine List.mem_filter.2 ⟨?_, by simpa using hne⟩
      rw [begun_net]
      exact he
  case inUse => exact (ran_next hw.1).trans (next_settle (doGroupDestroy_open hw hnum hargs hg hi))

end Sys2Proof.Machine
end

/-! # Transport commands open one message -/

section
namespace Sys2Proof.Machine
open Sys2Proof

/-! ### What a transport command asks for -/

theorem qp_of_net {s t : State} (h : t.net = s.net) (n : Nat) : qp t n = qp s n := by rw [qp, h, qp]

theorem holdDest_net (s : State) (id : Nat) (pls : List (Place × Nat)) : (holdDest s id pls).net = s.net := updCmd_net ..

theorem takeSegments_short {s : State} {id : Nat} {c : Cmd} {len : Nat} (h : len ≤ 262144) : takeSegments s id c len = (s, true) := if_pos (by simp [h])

theorem withQp_admits {s t : State} {n : Nat} (hroom : msgRoom (qp s n) = true) (hadmit : admitQp s n = some t) (f : State → State) :
    withQp s n f = f t := by
  rw [withQp, if_neg (by simp [hroom]), hadmit]

/-- Places of a local destination that touch no host memory are taken as they are. -/
theorem withDest_ok {s : State} {id va n : Nat} {c : Cmd} {pls : List (Place × Nat)} (h : accessAll s c.p va n true = .ok pls)
    (hhost : ∀ e ∈ pls, ∀ a, e.1 ≠ .host a) (f : State → List (Place × Nat) → State) : withDest s id c va n f = f s pls := by
  simp only [withDest, h]
  refine if_pos (List.isEmpty_iff.2 (List.filterMap_eq_nil_iff.2 fun e he => ?_))
  split
  · next a ha => exact (hhost e he a ha).elim
  · rfl

section
variable {s : State} {p n : Nat} {q : Qp}

theorem qpCmdStatus_of_net {t : State} (h : t.net = s.net) : qpCmdStatus t p n = qpCmdStatus s p n := by rw [qpCmdStatus, h, qpCmdStatus]

/-- A command of a QP of its paddock that is not READY is refused. -/
theorem qpCmdStatus_notReady (hq : Tbl.find s.net.qps n = some q) (hp : qpPad n = p) (h3 : q.type ≠ 3) (h2 : q.st ≠ 2) :
    qpCmdStatus s p n = 0x0604 := by
  simp only [qpCmdStatus, hq]
  rw [if_neg (by simp [hp, h3]), if_pos (by simp [h2])]

end

/-! ### Gathering bytes and admitting a QP leave every command's descriptor -/

/-- The descriptor of a command. -/
def orderOf (s : State) (id : Nat) : Option Nat := (cmdOf s id).map (·.desc)

theorem orderOf_of_cmd {s t : State} (h : t.cmd = s.cmd) (id : Nat) : orderOf t id = orderOf s id := by simp only [orderOf, cmdOf, h]

theorem orderOf_updCmd {f : Cmd → Cmd} (hf : ∀ c, (f c).desc = c.desc) (s : State) (id k : Nat) : orderOf (updCmd s id f) k = orderOf s k := by
  by_cases hk : k = id
  · subst hk
    cases hc : cmdOf s k with
    | none => rw [show updCmd s k f = s by rw [updCmd, show Tbl.find s.cmd.live k = none from hc]]
    | some c => simp only [orderOf, cmdOf_updCmd f hc, hc, Option.map_some, hf]
  · simp only [orderOf, cmdOf_updCmd_ne s f hk]

theorem gatherPiece_order (id : Nat) (acc : State × Got) (e : Nat × Nat) (k : Nat) : orderOf (gatherPiece id acc e).1 k = orderOf acc.1 k := by
  obtain ⟨s, got⟩ := acc
  have hask (p b : Nat) : orderOf (askAts s id p b).1 k = orderOf s k := by
    unfold askAts
    repeat' split
    all_goals rfl
  have hadd (t : State) (b : Bytes) : orderOf (match got with | .bytes x => (t, .bytes (x ++ b)) | g => (t, g) : State × Got).1 k = orderOf t k := by
    split <;> rfl
  have hnote {t : State} (ht : t.cmd = s.cmd) : orderOf (updCmd t id (fun c => { c with asked := c.asked ++ [e.1] })) k = orderOf s k :=
    (orderOf_updCmd (by intros; rfl) t id k).trans (orderOf_of_cmd ht k)
  unfold gatherPiece
  dsimp only
  split
  · rfl
  · rfl
  · rfl
  · split
    · exact hadd ..
    · split
      · rfl
      · split
        · rfl
        · exact hask ..
        · split
          · split
            · exact orderOf_updCmd (by intros; rfl) s id k
            · exact (hadd ..).trans (orderOf_of_cmd (charge_cmd ..) k)
          · split
            · rfl
            · split
              · exact orderOf_of_cmd (geq_cmd ..) k
              · exact hnote (issueHost_cmd ..)
          · exact hnote (issueTp_cmd ..)
          · exact (hadd ..).trans rfl

theorem gather_order {s t : State} {id p va n : Nat} {got : Got} (h : gather s id p va n = (t, got)) (k : Nat) : orderOf t k = orderOf s k := by
  have hfold := foldl_keeps (fun acc : State × Got => orderOf acc.1 k) _ (fun acc e => gatherPiece_order id acc e k) (cut4k s p va n) (s, .bytes [])
  rw [show (cut4k s p va n).foldl (gatherPiece id) (s, .bytes []) = (t, got) from h] at hfold
  exact hfold

theorem admitQp_cmd {s t : State} {n : Nat} (h : admitQp s n = some t) : t.cmd = s.cmd := by
  unfold admitQp at h
  extract_lets p src s0 use rs s1 s2 idle at h
  have h2 : s2.cmd = s.cmd := by
    unfold s2
    split <;> rfl
  have huse (x : State) : (use x).cmd = x.cmd := rfl
  have h0 : s0.cmd = s.cmd := rfl
  clear_value s2 use s0
  split at h
  · rw [← Option.some.inj h, huse, h0]
  split at h
  · rw [← Option.some.inj h, huse, h2]
  split at h
  · cases h
  · rw [← Option.some.inj h, huse]
    refine Eq.trans ?_ h2
    split
    · exact putPlaces_cmd ..
    · rfl

theorem lenBad_short {n : Nat} (hlo : 0 < n) (hhi : n ≤ 262144) : lenBad n = false := by
  simp only [lenBad, Bool.or_eq_false_iff, decide_eq_false_iff_not]
  omega

/-! ### QPs that are not READY -/

section
variable {s : State} {id : Nat} {c : Cmd}

/-- The fields of a transport command whose checks pass. -/
structure Plain (c : Cmd) : Prop where
  first : c.msgs = []
  number : dArg c.desc 3 < 2 ^ 24
  last : dArg c.desc 5 = 0

section
variable (hc : Plain c)
include hc

theorem doWrite_refused (hw : Works s id c 0x20) (h4 : dArg c.desc 4 < 2 ^ 33) (hlen : lenBad (dArg c.desc 1) = false)
    (hq : qpCmdStatus s c.p (dArg c.desc 3) = 0x0604) : doWrite s id = failCmd (begun s id) id 0x0604 := by
  obtain ⟨hmsgs, h3, h5⟩ := hc
  have hk : (startedCmd c).msgs = [] ∧ (startedCmd c).desc = c.desc ∧ (startedCmd c).p = c.p := ⟨hmsgs, rfl, rfl⟩
  rw [← qpCmdStatus_of_net (begun_net s id)] at hq
  rw [doWrite, withCmd_begun hw]
  generalize begun s id = t at hq
  generalize startedCmd c = k at hk
  obtain ⟨hm, hd, hp⟩ := hk
  simp only [hm, hd, hp, hq, hlen]
  rw [if_neg (by decide), if_neg (by simp [h5]; omega), if_neg (by decide), if_pos (by decide)]

theorem doRead_refused (hw : Works s id c 0x21) (h4 : dArg c.desc 4 = 0) (hlen : lenBad (dArg c.desc 1) = false)
    (hq : qpCmdStatus s c.p (dArg c.desc 3) = 0x0604) : doRead s id = failCmd (begun s id) id 0x0604 := by
  obtain ⟨hmsgs, h3, h5⟩ := hc
  have hk : (startedCmd c).msgs = [] ∧ (startedCmd c).desc = c.desc ∧ (startedCmd c).p = c.p := ⟨hmsgs, rfl, rfl⟩
  rw [← qpCmdStatus_of_net (begun_net s id)] at hq
  rw [doRead, withCmd_begun hw]
  generalize begun s id = t at hq
  generalize startedCmd c = k at hk
  obtain ⟨hm, hd, hp⟩ := hk
  simp only [hm, hd, hp, hq, hlen]
  rw [if_neg (by decide), if_neg (by simp [h4, h5]; omega), if_neg (by decide), if_pos (by decide)]

theorem doAtomic_refused (hw : Works s id c 0x24) (h4 : dArg c.desc 4 = 0) (h1 : dArg c.desc 1 < 64) (h0 : dArg c.desc 0 % 32 = 0)
    (h2 : dArg c.desc 2 % 8 = 0) (hq : qpCmdStatus s c.p (dArg c.desc 3) = 0x0604) : doAtomic s id = failCmd (begun s id) id 0x0604 := by
  obtain ⟨hmsgs, h3, h5⟩ := hc
  have hk : (startedCmd c).msgs = [] ∧ (startedCmd c).desc = c.desc ∧ (startedCmd c).p = c.p := ⟨hmsgs, rfl, rfl⟩
  rw [← qpCmdStatus_of_net (begun_net s id)] at hq
  rw [doAtomic, withCmd_begun hw]
  generalize begun s id = t at hq
  generalize startedCmd c = k at hk
  obtain ⟨hm, hd, hp⟩ := hk
  simp only [hm, hd, hp, hq]
  rw [if_neg (by decide), if_neg (by simp [h4, h5]; omega), if_neg (by omega), if_neg (by simp [h0, h2]), if_pos (by decide)]

end

/-! ### Messages that are opened -/

/-- The QP of a command is READY and has room, and is resident in state t. -/
structure Admitted (s t : State) (id : Nat) (c : Cmd) : Prop where
  ready : qpCmdStatus s c.p (dArg c.desc 3) = 0
  room : msgRoom (qp s (dArg c.desc 3)) = true
  taken : admitQp (begun s id) (dArg c.desc 3) = some t

/-- The WRITE message of a command, with its time. -/
def writeMsg (v : State) (id : Nat) (c : Cmd) (b : Bytes) : TxMsg :=
  { msg := nextMsgOf (qp v (dArg c.desc 3)), epoch := c.epoch, cmd := some id, kind := 0, entries := [], last := (0, []), bytes := b.length,
    todo := cutPackets (2 ^ (qp v (dArg c.desc 3)).mtu) (b.length + 1) (dArg c.desc 2) b, cid := dId c.desc, imm := bits (dArg c.desc 4) 31 0,
    recv := bit (dArg c.desc 4) 32, replaces := replacesOn c (dArg c.desc 3), sched := false, sentAt := ns v }

/-- The message is open on its QP, and its command waits for one more. -/
def opened (v : State) (id n : Nat) (m : TxMsg) : State :=
  updCmd (updQp v n (fun q => { q with nextMsg := (m.msg + 1) % 4096, tx := q.tx ++ [m] })) id (fun c => { c with
    msgs := c.msgs ++ [(n, m.msg)], due := c.due + 1 })

theorem updCmd_congr {v : State} {id : Nat} {f g : Cmd → Cmd} (h : ∀ c, cmdOf v id = some c → f c = g c) : updCmd v id f = updCmd v id g := by
  unfold updCmd
  split
  · next c hc => rw [h c hc]
  · rfl

/-- Where the command is live, it names the QP itself. -/
theorem opened_eq {v : State} {id n : Nat} (m : TxMsg) (h : ∀ y, cmdOf v id = some y → dArg y.desc 3 = n) : opened v id n m =
    updCmd (updQp v n (fun q => { q with nextMsg := (m.msg + 1) % 4096, tx := q.tx ++ [m] })) id (fun c => { c with
      msgs := c.msgs ++ [(dArg c.desc 3, m.msg)], due := c.due + 1 }) :=
  updCmd_congr (fun y hy => by rw [h y hy])

/-- The command keeps its descriptor until its bytes are there. -/
theorem gathered_desc {t v : State} {n va len : Nat} {got : Got} (hw : Works s id c 0x20) (hadmit : admitQp (begun s id) n = some t)
    (hb : gather t id c.p va len = (v, got)) (y : Cmd) (hy : cmdOf v id = some y) : y.desc = c.desc := by
  have hbegun : orderOf (begun s id) id = some c.desc := by
    rw [begun, orderOf_updCmd (by intros; rfl), orderOf, hw.2.1]
    rfl
  have hv := ((gather_order hb id).trans (orderOf_of_cmd (admitQp_cmd hadmit) id)).trans hbegun
  rw [orderOf, hy] at hv
  exact Option.some.inj hv

theorem doWrite_opens {t v : State} {b : Bytes} (hw : Works s id c 0x20) (hc : Plain c) (h4 : dArg c.desc 4 < 2 ^ 33) (hlo : 0 < dArg c.desc 1)
    (hhi : dArg c.desc 1 ≤ 262144) (hend : dArg c.desc 2 + dArg c.desc 1 ≤ vaEnd) (ha : Admitted s t id c)
    (hb : gather t id c.p (dArg c.desc 0) (dArg c.desc 1) = (v, .bytes b)) (hlong : 256 < b.length) :
    doWrite s id = pump (opened v id (dArg c.desc 3) (writeMsg v id c b)) (dArg c.desc 3) := by
  obtain ⟨hmsgs, h3, h5⟩ := hc
  obtain ⟨hready, hroom, hadmit⟩ := ha
  have hk : (startedCmd c).msgs = [] ∧ (startedCmd c).desc = c.desc ∧ (startedCmd c).p = c.p ∧ (startedCmd c).epoch = c.epoch ∧
      ∀ n, replacesOn (startedCmd c) n = replacesOn c n := ⟨hmsgs, rfl, rfl, rfl, fun _ => rfl⟩
  rw [← qpCmdStatus_of_net (begun_net s id)] at hready
  rw [← qp_of_net (begun_net s id)] at hroom
  rw [doWrite, withCmd_begun hw]
  generalize begun s id = u at hready hroom hadmit
  generalize startedCmd c = k at hk
  obtain ⟨hm, hd, hp, he, hr⟩ := hk
  rw [← hp] at hb
  simp only [hm, hd, hp, hready, lenBad_short hlo hhi, takeSegments_short hhi]
  rw [if_neg (by decide), if_neg (by simp [h5]; omega), if_neg (by decide), if_neg (by decide), if_neg (by omega), withQp_admits hroom hadmit,
    withBytes_bytes hb, openWrite, if_neg (by omega), hr, hd, he]
  rfl

/-- The READ request of a command. -/
def readMsg (t : State) (id : Nat) (c : Cmd) : TxMsg :=
  { msg := nextMsgOf (qp t (dArg c.desc 3)), epoch := c.epoch, cmd := some id, kind := 4, entries := [], last := (0, []), bytes := dArg c.desc 1,
    limit := getO t 0x1600 1 }

theorem readPayload {a n : Nat} (h : a ≤ 262144) : pack [(64, a), (16, 2 ^ n - 1), (48, 0)] = a * 2 ^ 64 + (2 ^ n - 1) % 65536 * 2 ^ 48 := by
  simp only [pack, List.foldl]
  omega

theorem doRead_opens {t : State} {pls : List (Place × Nat)} (hw : Works s id c 0x21) (hc : Plain c) (h4 : dArg c.desc 4 = 0)
    (hlong : 256 < dArg c.desc 1) (hhi : dArg c.desc 1 ≤ 262144) (hend : dArg c.desc 2 + dArg c.desc 1 ≤ vaEnd) (ha : Admitted s t id c)
    (hpls : accessAll t c.p (dArg c.desc 0) (dArg c.desc 1) true = .ok pls) (hhost : ∀ e ∈ pls, ∀ a, e.1 ≠ .host a) :
    doRead s id = sendRequest (noteMsg (holdDest t id pls) id (dArg c.desc 3) (readMsg t id (startedCmd c)).msg) (dArg c.desc 3) 4
      (readMsg t id (startedCmd c)) (dArg c.desc 2)
      (beBytes 16 (dArg c.desc 1 * 2 ^ 64 + (2 ^ (qp t (dArg c.desc 3)).paths.length - 1) % 65536 * 2 ^ 48)) := by
  obtain ⟨hmsgs, h3, h5⟩ := hc
  obtain ⟨hready, hroom, hadmit⟩ := ha
  have hk : (startedCmd c).msgs = [] ∧ (startedCmd c).desc = c.desc ∧ (startedCmd c).p = c.p := ⟨hmsgs, rfl, rfl⟩
  have hlimit : getO (holdDest t id pls) 0x1600 1 = getO t 0x1600 1 := getO_of_obj (updCmd_obj ..) ..
  rw [← qpCmdStatus_of_net (begun_net s id)] at hready
  rw [← qp_of_net (begun_net s id)] at hroom
  rw [doRead, withCmd_begun hw]
  generalize begun s id = u at hready hroom hadmit
  generalize startedCmd c = k at hk
  obtain ⟨hm, hd, hp⟩ := hk
  rw [← hp] at hpls
  simp only [hm, hd, hp, hready, lenBad_short (Nat.lt_trans (by decide) hlong) hhi, takeSegments_short hhi]
  rw [if_neg (by decide), if_neg (by simp [h4, h5]; omega), if_neg (by decide), if_neg (by decide), if_neg (by omega), withQp_admits hroom hadmit,
    withDest_ok hpls hhost]
  rw [if_neg (by omega), hlimit, qp_of_net (holdDest_net t id pls), readPayload hhi, readMsg, hd]

/-- The ATOMIC request of a command. -/
def atomicMsg (v : State) (id : Nat) (c : Cmd) : TxMsg :=
  { msg := nextMsgOf (qp v (dArg c.desc 3)), epoch := c.epoch, cmd := some id, kind := 6, entries := [], last := (0, []),
    bytes := 32 * (dArg c.desc 1 + 1) }

theorem doAtomic_opens {t v : State} {pls : List (Place × Nat)} {b : Bytes} (hw : Works s id c 0x24) (hc : Plain c) (h4 : dArg c.desc 4 = 0)
    (h1 : dArg c.desc 1 < 64) (h0 : dArg c.desc 0 % 32 = 0) (h2 : dArg c.desc 2 % 8 = 0) (ha : Admitted s t id c)
    (hpls : accessAll t c.p (dArg c.desc 2) (8 * (dArg c.desc 1 + 1)) true = .ok pls) (hhost : ∀ e ∈ pls, ∀ a, e.1 ≠ .host a)
    (hb : gather (holdDest t id pls) id c.p (dArg c.desc 0) (32 * (dArg c.desc 1 + 1)) = (v, .bytes b)) :
    doAtomic s id = sendRequest (noteMsg (smallOp v c.thread) id (dArg c.desc 3) (atomicMsg v id (startedCmd c)).msg) (dArg c.desc 3) 6
      (atomicMsg v id (startedCmd c)) 0 b := by
  obtain ⟨hmsgs, h3, h5⟩ := hc
  obtain ⟨hready, hroom, hadmit⟩ := ha
  have hk : (startedCmd c).msgs = [] ∧ (startedCmd c).desc = c.desc ∧ (startedCmd c).p = c.p ∧ (startedCmd c).thread = c.thread :=
    ⟨hmsgs, rfl, rfl, rfl⟩
  rw [← qpCmdStatus_of_net (begun_net s id)] at hready
  rw [← qp_of_net (begun_net s id)] at hroom
  rw [doAtomic, withCmd_begun hw]
  generalize begun s id = u at hready hroom hadmit
  generalize startedCmd c = k at hk
  obtain ⟨hm, hd, hp, ht⟩ := hk
  rw [← hp] at hpls hb
  simp only [hm, hd, hp, hready, Nat.mod_eq_of_lt h1, ht]
  rw [if_neg (by decide), if_neg (by simp [h4, h5]; omega), if_neg (by omega), if_neg (by simp [h0, h2]), if_neg (by decide),
    withQp_admits hroom hadmit, withDest_ok hpls hhost, withBytes_bytes hb, atomicMsg, hd]

/-! ### DISPATCH and COPY -/

/-- The transaction of a DISPATCH. -/
def dispatchOut (t : State) (id lot : Nat) (c : Cmd) : TpOut :=
  { p := c.p, ctx := c.ctx, epoch := c.epoch, kind := 5, cmd := id, lot := lot, off := dArg c.desc 1, len := 0, req := 0, module_ := 0,
    limit := getO (updCmd t id (fun c => { c with due := 1 })) 0x1400 6 }

theorem doDispatch_sends {lot : Nat} (hw : Works s id c 0x2C) (hdue : c.due = 0) (h0 : dArg c.desc 0 < 2 ^ 33) (h3 : dArg c.desc 3 = 0)
    (h4 : dArg c.desc 4 = 0) (h5 : dArg c.desc 5 = 0) (hlot : dispatchLot (begun s id) c.p (dArg c.desc 0) (dArg c.desc 1) = some lot)
    (hmod : (moduleFor (begun s id) lot).isSome = true) :
    doDispatch s id = issueTp (updCmd (begun s id) id (fun c => { c with due := 1 })) (dispatchOut (begun s id) id lot (startedCmd c)) (dArg c.desc 2) [] := by
  have hk : (startedCmd c).due = 0 ∧ (startedCmd c).desc = c.desc ∧ (startedCmd c).p = c.p := ⟨hdue, rfl, rfl⟩
  rw [doDispatch, withCmd_begun hw]
  generalize begun s id = t at hlot hmod
  generalize startedCmd c = k at hk
  obtain ⟨hdue, hd, hp⟩ := hk
  simp only [hdue, hd, hp, hlot]
  rw [if_neg (by decide), if_neg (by simp [h3, h4, h5]; omega), if_neg (by rw [Option.isNone_iff_eq_none]; exact Option.isSome_iff_ne_none.1 hmod), dispatchOut, hd, hp]

theorem finishWrite_rick {t : State} {pls : List (Place × Nat)} (hrick : ∀ e ∈ pls, ∃ a sel, e.1 = .rick a sel) (b : Bytes) (r : Nat) :
    finishWrite t id c pls b r = finish t id (writeEffects pls b) r := by
  refine if_neg (fun h => ?_)
  obtain ⟨e, he, hlot⟩ := List.any_eq_true.1 h
  obtain ⟨a, sel, hplace⟩ := hrick e he
  rw [hplace] at hlot
  cases hlot

theorem doCopy_finishes {v : State} {pls : List (Place × Nat)} {b : Bytes} (hw : Works s id c 0x2D) (h3 : dArg c.desc 3 = 0) (h4 : dArg c.desc 4 = 0)
    (h5 : dArg c.desc 5 = 0) (hlong : 256 < dArg c.desc 1) (hhi : dArg c.desc 1 ≤ 262144)
    (hpls : accessAll (begun s id) c.p (dArg c.desc 2) (dArg c.desc 1) true = .ok pls) (hrick : ∀ e ∈ pls, ∃ a sel, e.1 = .rick a sel)
    (hb : gather (holdDest (begun s id) id pls) id c.p (dArg c.desc 0) (dArg c.desc 1) = (v, .bytes b)) :
    doCopy s id = finish v id (writeEffects pls b) 0 := by
  have hhost : ∀ e ∈ pls, ∀ a, e.1 ≠ .host a := fun e he a h => by
    obtain ⟨b, sel, hplace⟩ := hrick e he
    rw [hplace] at h
    cases h
  have hk : (startedCmd c).desc = c.desc ∧ (startedCmd c).p = c.p := ⟨rfl, rfl⟩
  rw [doCopy, withCmd_begun hw]
  generalize begun s id = t at hpls hb
  generalize startedCmd c = k at hk
  obtain ⟨hd, hp⟩ := hk
  rw [← hp] at hpls hb
  simp only [hd, lenBad_short (Nat.lt_trans (by decide) hlong) hhi, takeSegments_short hhi]
  rw [if_neg (by simp [h3, h4, h5]), if_neg (by decide), withDest_ok hpls hhost, withBytes_bytes hb, if_neg (by omega), finishWrite_rick hrick]

/-- A COPY comes to its commit with its bytes as its effect. -/
theorem copy_finishes {v : State} {pls : List (Place × Nat)} {b : Bytes} (hw : Works s id c 0x2D) (hexec : doCopy s id = finish v id (writeEffects pls b) 0)
    (hkeeps : cmdOf v id = cmdOf (holdDest (begun s id) id pls) id) (hin : c.inner = false) :
    ∃ w y, Finishes (.copy id) s w id y ∧ y.effects = writeEffects pls b ∧ y.status = 0 := by
  obtain ⟨hboot, hc, -, hmay⟩ := hw
  have hstatus : c.status = 0 := by
    simp only [mayWork, Bool.and_eq_true, decide_eq_true_eq] at hmay
    exact hmay.1.1.1.1.1
  have hv : cmdOf v id = _ := hkeeps.trans (cmdOf_updCmd _ (cmdOf_updCmd _ hc))
  exact ⟨_, _, ⟨(ran_next hboot).trans (next_settle hexec), cmdOf_updCmd _ hv, hin⟩, rfl, hstatus⟩

end

/-! ### The statement -/

/-- Settles O33: each opcode's step is one equation, its checks, its QP and its bytes taken by the lemmas about `withQp`, `withDest` and `withBytes`. -/
theorem transportCommandsOpenOneMessage : Obligations.TransportCommandsOpenOneMessage := by
  intro s s1 s2 v id c k q pls b hs1 hk
  subst hs1 hk
  refine ⟨fun i op hi hw hmsgs h3 h4 h5 hlo hhi h0 h2 hq hpad htype hst => ?notReady,
    fun hw hmsgs h3 h4 h5 hlo hhi hend hready hroom hadmit hb hlong => ?write,
    fun hw hmsgs h3 h4 h5 hlong hhi hend hready hroom hadmit hpls hhost => ?read,
    fun hw hmsgs h3 h4 h5 h1 h0 h2 hready hroom hadmit hpls hhost hb => ?atomic,
    fun lot hw hdue h0 h3 h4 h5 hlot hmod => ?dispatch, fun hw h3 h4 h5 hlong hhi hpls hrick hb hkeeps hin => ?copy⟩
  case notReady =>
    have hc : Plain c := ⟨hmsgs, h3, h5⟩
    have hstatus := qpCmdStatus_notReady hq hpad htype hst
    have hlen := lenBad_short hlo (by omega)
    have hboot := hw.1
    rcases hi with ⟨rfl, rfl⟩ | ⟨rfl, rfl⟩ | ⟨rfl, rfl⟩
    · exact (ran_next hboot).trans (next_settle (doWrite_refused hc hw (by omega) hlen hstatus))
    · exact (ran_next hboot).trans (next_settle (doRead_refused hc hw h4 hlen hstatus))
    · exact (ran_next hboot).trans (next_settle (doAtomic_refused hc hw h4 hhi h0 h2 hstatus))
  case write =>
    have hopen := doWrite_opens hw ⟨hmsgs, h3, h5⟩ h4 hlo hhi hend ⟨hready, hroom, hadmit⟩ hb hlong
    exact ⟨opened v id (dArg c.desc 3) (writeMsg v id c b), writeMsg v id c b, (ran_next hw.1).trans (next_settle hopen), rfl, rfl, rfl, rfl, rfl, rfl, rfl, rfl, rfl,
      opened_eq _ (fun y hy => by rw [gathered_desc hw hadmit hb y hy])⟩
  case read =>
    have hopen := doRead_opens hw ⟨hmsgs, h3, h5⟩ h4 hlong hhi hend ⟨hready, hroom, hadmit⟩ hpls hhost
    exact ⟨readMsg s2 id (startedCmd c), (ran_next hw.1).trans (next_settle hopen), rfl, rfl, rfl, rfl, rfl⟩
  case atomic =>
    have hopen := doAtomic_opens hw ⟨hmsgs, h3, h5⟩ h4 h1 h0 h2 ⟨hready, hroom, hadmit⟩ hpls hhost hb
    exact ⟨atomicMsg v id (startedCmd c), (ran_next hw.1).trans (next_settle hopen), rfl, rfl, rfl, rfl⟩
  case dispatch =>
    have hsend := doDispatch_sends hw hdue h0 h3 h4 h5 hlot hmod
    exact ⟨dispatchOut (begun s id) id lot (startedCmd c), (ran_next hw.1).trans (next_settle hsend), rfl, rfl, rfl, rfl, rfl, rfl, rfl⟩
  case copy => exact copy_finishes hw (doCopy_finishes hw h3 h4 h5 hlong hhi hpls hrick hb) hkeeps hin

end Sys2Proof.Machine
end

/-! # What the block's own steps keep

After every command the block settles (R523): it goes on with what waits. Some properties of a state survive all of it, whatever the state
is. To show that of a property it is enough that it survives the few primitive changes of `Base`, and the sending of a packet. -/

section
namespace Sys2Proof.Machine
open Sys2Proof

/-! ### What a property may speak of -/

/-- What is followed of a paddock: how long it has waited for links (R477), and its pending control command. -/
def lane (d : Paddock) : Nat × Option Pend := (d.waited, d.pend)

/-- What is followed of a state besides its paddocks: live objects, the committed version, the error queue, the flash's work, the step of the
start-up, and the state of the pair. -/
def bare (s : State) : Tbl Nat × Tbl Nat × List Entry × List FlashOp × Nat × Nat :=
  (s.obj.live, s.obj.committed, s.log.geq, s.store.work, s.sys.boot, s.pair.st)

/-- All that is followed of a state. -/
def followed (s : State) : (Tbl Nat × Tbl Nat × List Entry × List FlashOp × Nat × Nat) × (Nat → Nat × Option Pend) :=
  (bare s, fun p => lane (pad s p))

/-- Is the operation an erase? -/
def FlashOp.isErase : FlashOp → Bool
  | .erase _ => true
  | _ => false

/-- Some paddock has been metered, or its counters have moved. -/
def Counted (s : State) : Prop := ∃ p off row, (off = 0x30 ∨ off = 0x80) ∧ row < 256 ∧ (Tbl.find s.obj.live (okey (pidx p off) row)).isSome

/-- The second state differs in its live objects at most, and lists every one that the first lists. -/
def Grows (s t : State) : Prop :=
  followed { t with obj.live := s.obj.live } = followed s ∧ ∀ key, (Tbl.find s.obj.live key).isSome → (Tbl.find t.obj.live key).isSome

/-- A property that survives the primitive changes. -/
structure Base (P : State → Prop) : Prop where
  /-- it speaks only of what is followed -/
  keep : ∀ {s t : State}, P s → followed t = followed s → P t
  /-- a write of an object that is not of a view's block of error entries -/
  setO_holds : ∀ {s : State} {i sub v : Nat}, P s → (i < 0x4000 ∨ i % 256 ≠ 0x50) → sub < 256 → P (setO s i sub v)
  /-- a write of any object once something is counted -/
  setAny : ∀ {s : State} (i sub v : Nat), P s → Counted s → P (setO s i sub v)
  /-- counts of any kind, then a paddock's meter -/
  tally : ∀ {s t : State} {p row n : Nat}, P s → Grows s t → row < 256 → P (meter t p row n)
  /-- an entry of the error queue that is no pause watchdog's -/
  geq_holds : ∀ {s : State} {e : Entry}, P s → (e.dev = true → e.code ≠ 0x0C09) → P (geq s e)
  flash_holds : ∀ {s : State} {op : FlashOp}, P s → op.isErase = false → P (flash s op)
  /-- a mirror ring drops an entry of its view -/
  dropped : ∀ {s : State} {p : Nat}, P s → getP s p 0x50 0x0A ≠ 0 → P (addO s (pidx p 0x50) 9 1 32)
  /-- a pending control command ends -/
  ended : ∀ {s : State} {p code : Nat}, P s → P (updPad s p (fun d => { d with pend := none, result := code }))

section
variable {P : State → Prop} {s t : State}

/-! ### Paddocks -/

/-- A change of a paddock that leaves its wait and its pending command. -/
theorem followed_updPad {f : Paddock → Paddock} (s : State) (p : Nat) (hf : ∀ d, lane (f d) = lane d) : followed (updPad s p f) = followed s := by
  have h : (fun q => lane (pad (updPad s p f) q)) = fun q => lane (pad s q) := by
    funext q
    simp only [pad, updPad, get_upd]
    split
    next hq =>
      subst hq
      exact hf _
    · rfl
  rw [followed, h]
  rfl

theorem followed_updCtx (s : State) (p c : Nat) (f : Ctx → Ctx) : followed (updCtx s p c f) = followed s :=
  followed_updPad s p (fun d => by split <;> rfl)

theorem followed_updQueue (s : State) (p q : Nat) (f : Queue → Queue) : followed (updQueue s p q f) = followed s :=
  followed_updPad s p (fun d => by split <;> rfl)

/-! ### Objects -/

theorem find_setO {key : Nat} (h : (Tbl.find s.obj.live key).isSome) (i sub v : Nat) : (Tbl.find (setO s i sub v).obj.live key).isSome := by
  rw [setO, Tbl.find_set]
  split
  · rfl
  · exact h

theorem Counted.of_setO (h : Counted s) (i sub v : Nat) : Counted (setO s i sub v) := by
  obtain ⟨p, off, row, hoff, hrow, h⟩ := h
  exact ⟨p, off, row, hoff, hrow, find_setO h i sub v⟩

theorem counted_bump (s : State) (p n : Nat) {off row : Nat} (hoff : off = 0x30 ∨ off = 0x80) (hrow : row < 256) : Counted (bump s p off row n) := by
  refine ⟨p, off, row, hoff, hrow, ?_⟩
  simp [bump, addO, setO]

theorem grows_refl (s : State) : Grows s s := ⟨rfl, fun _ h => h⟩

theorem Grows.addO (h : Grows s t) (i sub n width : Nat) : Grows s (addO t i sub n width) :=
  ⟨h.1, fun key hk => find_setO (h.2 key hk) _ _ _⟩

theorem foldl_grows {α : Type} {f : State → α → State} {l : List α} (hf : ∀ t, Grows s t → ∀ a ∈ l, Grows s (f t a)) (h : Grows s t) :
    Grows s (l.foldl f t) := List.foldlRecOn l f h hf

theorem pidx_mod (p : Nat) {off : Nat} (hoff : off < 256) : pidx p off % 256 = off := by
  simp only [pidx]
  omega

/-! ### Lists of steps -/

theorem foldl_holds {α : Type} {f : State → α → State} {l : List α} (hf : ∀ s, P s → ∀ a ∈ l, P (f s a)) (h : P s) : P (l.foldl f s) :=
  List.foldlRecOn l f h hf

/-- The same where the state is carried with a result. -/
theorem foldl_fst_holds {α β : Type} {f : State × β → α → State × β} {l : List α} (hf : ∀ x, P x.1 → ∀ a ∈ l, P (f x a).1)
    {x : State × β} (h : P x.1) : P (l.foldl f x).1 := List.foldlRecOn (motive := fun x => P x.1) l f h hf

section
variable (hP : Base P)
include hP

theorem Base.rick_holds {rick : Rick} (h : P s) : P { s with rick := rick } := hP.keep h rfl

theorem Base.emit_holds {o : Out} (h : P s) : P (emit s o) := hP.keep h rfl

theorem Base.updPad_holds {p : Nat} {f : Paddock → Paddock} (h : P s) (hf : ∀ d, lane (f d) = lane d) : P (updPad s p f) :=
  hP.keep h (followed_updPad s p hf)

theorem Base.updCtx_holds {p c : Nat} {f : Ctx → Ctx} (h : P s) : P (updCtx s p c f) := hP.keep h (followed_updCtx s p c f)

theorem Base.updQueue_holds {p q : Nat} {f : Queue → Queue} (h : P s) : P (updQueue s p q f) := hP.keep h (followed_updQueue s p q f)

theorem Base.addO_holds {i sub n width : Nat} (h : P s) (hi : i < 0x4000 ∨ i % 256 ≠ 0x50) (hsub : sub < 256) : P (addO s i sub n width) :=
  hP.setO_holds h hi hsub

theorem Base.setP_holds {p off sub v : Nat} (h : P s) (hoff : off < 256) (hne : off ≠ 0x50) (hsub : sub < 256) : P (setP s p off sub v) :=
  hP.setO_holds h (.inr (by rw [pidx_mod p hoff]; exact hne)) hsub

theorem Base.bump_holds {p off row n : Nat} (h : P s) (hoff : off < 256) (hne : off ≠ 0x50) (hrow : row < 256) : P (bump s p off row n) :=
  hP.setP_holds h hoff hne hrow

theorem Base.meter_holds {p row n : Nat} (h : P s) (hrow : row < 256) : P (meter s p row n) := hP.tally h (grows_refl s) hrow

/-! ### Events and vectors -/

theorem Base.larkSee_holds {kind src : Nat} (h : P s) : P (larkSee s kind src) := by
  unfold larkSee
  split <;> exact hP.keep h rfl

theorem Base.fire_holds {src : Nat} (h : P s) : P (fire s src) := by
  unfold fire raise
  exact hP.larkSee_holds (hP.keep h rfl)

theorem Base.firePad_holds {p k : Nat} (h : P s) : P (firePad s p k) := hP.fire_holds h

theorem Base.updFunc_holds {fn : Fn} {f : Func → Func} (h : P s) : P (updFunc s fn f) := by
  cases fn <;> exact hP.keep h rfl

theorem Base.msix_holds {fn : Fn} {v : Nat} (h : P s) : P (msix s fn v) := by
  unfold msix
  dsimp only
  split
  · exact hP.keep h rfl
  · exact hP.updFunc_holds h

theorem Base.deliverOne_holds {x : State × List (Target × Nat)} {src : Nat} (h : P x.1) : P (deliverOne x src).1 := by
  obtain ⟨s, seen⟩ := x
  have ha : P (addO s 0x1E00 1 1 64) := hP.addO_holds h (.inl (by decide)) (by decide)
  unfold deliverOne
  dsimp -zeta only
  extract_lets t
  split
  · exact h
  next f _ =>
    extract_lets v s1
    split
    · exact h
    · simp only [s1]
      split
      · exact hP.msix_holds ha
      · exact hP.keep ha rfl

theorem Base.startHoldoff_holds {src : Nat} (h : P s) : P (startHoldoff s src) := by
  unfold startHoldoff
  dsimp only
  split
  · exact h
  · split <;> exact hP.keep h rfl

theorem Base.deliver_holds (h : P s) : P (deliver s) := by
  have h1 : P ((deliverNow s).foldl deliverOne (s, [])).1 := foldl_fst_holds (fun _ hx _ _ => hP.deliverOne_holds hx) h
  have h2 : P ((deliverNow s).foldl startHoldoff ((deliverNow s).foldl deliverOne (s, [])).1) :=
    foldl_holds (fun _ hs _ _ => hP.startHoldoff_holds hs) h1
  exact hP.keep h2 rfl

/-! ### Entries of the global error queue and the flash -/

theorem Base.logDev_holds {code sev : Nat} {facts : List Nat} (h : P s) (hc : code ≠ 0x0C09) : P (logDev s code sev facts) :=
  hP.geq_holds h (fun _ => hc)

theorem Base.logPad_holds {p code sev : Nat} {facts : List Nat} (h : P s) : P (logPad s p code sev facts) :=
  hP.geq_holds h (fun hd => Bool.noConfusion hd)

theorem Base.cairn_holds {code sev p : Nat} {dev : Bool} {facts : List Nat} (h : P s) : P (cairn s code sev dev p facts) := by
  unfold cairn
  split
  · exact hP.keep h rfl
  · exact hP.fire_holds (hP.flash_holds (hP.keep h rfl) rfl)

end

end

end Sys2Proof.Machine
end

/-! # Memory, links, rings and records -/

section
namespace Sys2Proof.Machine
open Sys2Proof

section
variable {P : State → Prop} (hP : Base P) {s t : State} {bs : Bytes} {pl : Place} {pls : List (Place × Nat)}
include hP

/-! ### Memory -/

theorem Base.rekeyLine_holds {key l : Nat} (h : P s) : P (rekeyLine s key l) := by
  unfold rekeyLine
  split
  · exact hP.keep h rfl
  · split
    · exact h
    · exact hP.rick_holds h

theorem Base.chargeRick_holds {a n : Nat} (h : P s) : P (chargeRick s a n) := by
  have hb : bits a 11 8 < 16 := Nat.mod_lt _ (by decide)
  exact hP.addO_holds h (.inl (by decide)) (by omega)

theorem Base.rickWrite_holds {key a : Nat} (h : P s) : P (rickWrite s key a bs) := by
  have h1 : P ((linesOf a bs.length).foldl (fun s l => rekeyLine s key l) s) := foldl_holds (fun _ hs _ _ => hP.rekeyLine_holds hs) h
  unfold rickWrite
  split
  · exact h
  · exact hP.chargeRick_holds (hP.keep h1 rfl)

theorem Base.putPte_holds {slot pte : Nat} (h : P s) : P (putPte s slot pte) := hP.rickWrite_holds h

theorem Base.invalidate_holds {p va n cmd : Nat} (h : P s) : P (invalidate s p va n cmd) := by
  unfold invalidate
  dsimp only
  exact hP.bump_holds (hP.keep h rfl) (by decide) (by decide) (by decide)

theorem Base.takeWinPage_holds {p key : Nat} (h : P s) : P (takeWinPage s p key) := by
  unfold takeWinPage
  extract_lets
  split
  · exact h
  · exact hP.keep h (followed_updPad _ _ (fun _ => rfl))

theorem Base.needL0_holds {p va : Nat} (h : P s) : P (needL0 s p va) := by
  unfold needL0
  split
  · exact h
  · extract_lets s1
    have h1 : P s1 := hP.takeWinPage_holds h
    split
    · exact hP.putPte_holds h1
    · exact h1

theorem Base.mapPage_holds {p size : Nat} {e : Nat × Nat} (h : P s) : P (mapPage p size s e) := by
  unfold mapPage
  extract_lets s1
  have h1 : P s1 := by
    simp only [s1]
    split
    · exact hP.needL0_holds h
    · exact h
  exact foldl_holds (fun _ hs _ _ => hP.putPte_holds hs) h1

theorem Base.unmapPage_holds {p size : Nat} {e : Nat × Nat} (h : P s) : P (unmapPage p size s e) :=
  foldl_holds (fun _ hs _ _ => hP.putPte_holds hs) h

theorem Base.mapAlloc_holds {p : Nat} {a : Allocation} (h : P s) : P (mapAlloc s p a) := by
  have h1 : P ((allocPages a).foldl (mapPage p a.psize) s) := foldl_holds (fun _ hs _ _ => hP.mapPage_holds hs) h
  exact hP.updPad_holds h1 (fun _ => rfl)

theorem Base.unmapAlloc_holds {p : Nat} {a : Allocation} (h : P s) : P (unmapAlloc s p a) := by
  have h1 : P ((allocPages a).foldl (unmapPage p a.psize) s) := foldl_holds (fun _ hs _ _ => hP.unmapPage_holds hs) h
  exact hP.updPad_holds h1 (fun _ => rfl)

theorem Base.trimL0_holds {p : Nat} (h : P s) : P (trimL0 s p) := by
  unfold trimL0
  extract_lets d keep drop s1
  have h1 : P s1 := by
    refine foldl_holds (fun s hs e _ => ?_) h
    split
    · exact hP.putPte_holds hs
    · exact hs
  exact hP.updPad_holds h1 (fun _ => rfl)

theorem Base.dropAlloc_holds {p va : Nat} (h : P s) : P (dropAlloc s p va) := by
  unfold dropAlloc
  exact hP.trimL0_holds (hP.updPad_holds h (fun _ => rfl))

theorem Base.freeFill_holds {r : Nat × Nat} (h : P s) : P (freeFill s r) := by
  unfold freeFill
  exact hP.rickWrite_holds (hP.keep h rfl)

/-! ### Links -/

theorem Base.charge_holds {p c u : Nat} (h : P s) : P (charge s p c u) := hP.updPad_holds h (fun _ => rfl)

theorem Base.take_holds {p c u : Nat} (h : P s) : P (take s p c u) := by
  unfold take
  extract_lets
  split
  · exact h
  · exact hP.updPad_holds h (fun _ => rfl)

theorem Base.activate_holds {p : Nat} (h : P s) : P (activate s p) := by
  unfold activate
  split
  · exact h
  · dsimp only
    split
    · exact h
    · exact hP.updPad_holds h (fun _ => rfl)

theorem Base.wear_holds {tag qpn path : Nat} (h : P s) : P (wear s tag qpn path) := by
  unfold wear
  dsimp only
  split
  · exact hP.fire_holds (hP.logDev_holds (hP.keep h rfl) (by decide))
  · exact hP.keep h rfl

/-! ### The Tenancy Port, the host and answers -/

theorem Base.sendTp_holds {m p : Nat} {hdr : BitVec 256} (h : P s) : P (sendTp s m p hdr bs) := by
  unfold sendTp
  exact hP.meter_holds (hP.emit_holds (hP.charge_holds (hP.keep h rfl))) (by decide)

theorem Base.issueTp_holds {o : TpOut} {aux : Nat} (h : P s) : P (issueTp s o aux bs) := by
  unfold issueTp
  split
  · exact h
  · exact hP.sendTp_holds (hP.keep h rfl)

theorem Base.hostBytes_holds {p n : Nat} (h : P s) : P (hostBytes s p n) :=
  hP.meter_holds (hP.charge_holds h) (by decide)

theorem Base.stileDone_holds {fn : Fn} (h : P s) : P (stileDone s fn bs) := by
  unfold stileDone
  extract_lets
  split
  · exact h
  · split
    · exact hP.msix_holds (hP.updFunc_holds h)
    · exact hP.updFunc_holds h

theorem Base.sendResponse_holds {path : Path} {hdr : BitVec 128} (h : P s) : P (sendResponse s path hdr bs) := by
  unfold sendResponse
  extract_lets s1 resp
  have h1 : P s1 := hP.keep h rfl
  split
  · split
    · exact hP.stileDone_holds h1
    · exact h1
  · split
    · exact hP.stileDone_holds h1
    · exact h1
  · extract_lets
    split
    · exact h1
    · dsimp only
      split <;> exact hP.keep h1 rfl
  · exact h1

theorem Base.respond_holds {path : Path} {tag : Tag} {op idx sub status : Nat} (h : P s) :
    P (respond s path tag op idx sub status bs) := by
  unfold respond
  refine hP.sendResponse_holds ?_
  split <;> exact hP.keep h rfl

/-! ### Traces, places and rings -/

theorem Base.traceAppend_holds {p : Nat} (h : P s) : P (traceAppend s p bs).1 := by
  have hbump : ∀ {t : State}, P t → P (bump t p 0x80 7 1) := fun h => hP.bump_holds h (by decide) (by decide) (by decide)
  unfold traceAppend
  extract_lets d r s1 unread
  have h1 : P s1 := hP.keep h rfl
  split
  · exact h1
  · split
    · exact hbump (t := updPad s1 p _) (hP.updPad_holds h1 (fun _ => rfl))
    · split
      · exact hbump (t := updPad s1 p _) (hP.updPad_holds h1 (fun _ => rfl))
      · exact h1

theorem Base.putTrace_holds {p : Nat} (h : P s) : P (putTrace s p bs) := by
  unfold putTrace
  extract_lets lost s1
  have h1 : P s1 := by
    simp only [s1]
    split
    · exact h
    · split
      · have ha := hP.traceAppend_holds (bs := traceRecord s 8 p 0 0 0 0 0 (lost * 2 ^ 256)) (p := p) h
        exact hP.updPad_holds ha (fun _ => rfl)
      · exact h
  have h2 : P (traceAppend s1 p bs).1 := hP.traceAppend_holds h1
  generalize traceAppend s1 p bs = x at h2
  obtain ⟨s2, ok⟩ := x
  have h3 : P (bump (updPad s1 p (fun d => { d with traceLost := d.traceLost + 1 })) p 0x80 8 1) :=
    hP.bump_holds (s := updPad s1 p _) (hP.updPad_holds h1 (fun _ => rfl)) (by decide) (by decide) (by decide)
  cases ok with
  | true => exact hP.updPad_holds h2 (fun _ => rfl)
  | false =>
    show P (if lost = 0 then logPad _ p 0x0F01 0 [1] else _)
    split
    · exact hP.logPad_holds h3
    · exact h3

theorem Base.traceCmd_holds {c : Cmd} {kind status : Nat} (h : P s) : P (traceCmd s c kind status) := by
  unfold traceCmd
  extract_lets
  split
  · exact hP.putTrace_holds h
  · exact h

theorem Base.hostPut_holds {p a : Nat} (h : P s) : P (hostPut s p a bs) := by
  unfold hostPut
  extract_lets s1
  have h1 : P s1 := hP.hostBytes_holds h
  split
  · exact hP.emit_holds (hP.updPad_holds h1 (fun _ => rfl))
  · exact hP.emit_holds h1

theorem Base.writePlace_holds {p : Nat} (h : P s) : P (writePlace s p pl bs) := by
  unfold writePlace
  split
  · split <;> exact hP.rickWrite_holds h
  · exact hP.keep h rfl
  · exact h

theorem Base.putPlace_holds {p : Nat} (h : P s) : P (putPlace s p pl bs) := by
  unfold putPlace
  split
  next a sel =>
    have h1 : P (writePlace s p (.rick a sel) bs) := hP.writePlace_holds h
    exact hP.updPad_holds h1 (fun _ => rfl)
  · exact hP.hostPut_holds h
  · exact foldl_holds (fun _ hs _ _ => hP.issueTp_holds hs) h
  · exact hP.writePlace_holds h

theorem Base.putPlaces_holds {p : Nat} (h : P s) : P (putPlaces s p pls bs) :=
  foldl_fst_holds (x := (s, bs)) (fun _ hx _ _ => hP.putPlace_holds hx) h

theorem Base.ringPut_holds {p base log2 head tail : Nat} (h : P s) (e : ringPut s p base log2 head tail bs = some t) : P t := by
  unfold ringPut at e
  split at e
  · exact absurd e nofun
  · split at e
    · exact absurd e nofun
    · split at e
      · rw [← Option.some.inj e]
        exact hP.putPlaces_holds h
      · exact absurd e nofun

/-! ### Contexts, queues and commands -/

theorem Base.updCmd_holds {id : Nat} {f : Cmd → Cmd} (h : P s) : P (updCmd s id f) := by
  unfold updCmd
  split <;> exact hP.keep h rfl

theorem Base.usageRecord_holds {p c reason : Nat} (h : P s) : P (usageRecord s p c reason) := by
  unfold usageRecord
  split
  · exact h
  · extract_lets base d u rcd
    split
    · exact h
    · split
      · exact hP.addO_holds h (.inr (by rw [pidx_mod p (by decide)]; decide)) (by decide)
      next t ht =>
        have h1 : P t := hP.ringPut_holds h ht
        exact hP.updCtx_holds (hP.updPad_holds h1 (fun _ => rfl))

theorem Base.useCtx_holds {p c k n : Nat} (h : P s) : P (useCtx s p c k n) := hP.updCtx_holds h

theorem Base.active_holds {p c r n : Nat} (h : P s) : P (active s p c r n) := hP.updPad_holds (hP.updCtx_holds h) (fun _ => rfl)

theorem Base.progress_holds {p c : Nat} (h : P s) : P (progress s p c) := hP.updCtx_holds h

theorem Base.endEntry_holds {p qn entry : Nat} (h : P s) : P (endEntry s p qn entry) := hP.updQueue_holds h

theorem Base.freeSlot_holds {p c : Nat} (h : P s) : P (freeSlot s p c) := by
  unfold freeSlot
  split
  · split
    · have h1 : P (usageRecord s p c 1) := hP.usageRecord_holds h
      exact hP.updCtx_holds h1
    · exact h
  · exact h

theorem Base.writeRecord_holds {p qn rcd : Nat} {q : Queue} {irq : Bool} (h : P s) : P (writeRecord s p qn q pls rcd irq) := by
  unfold writeRecord
  extract_lets s1 s2
  have h1 : P s1 := hP.putPlaces_holds h
  have h2 : P s2 := hP.updQueue_holds h1
  split
  · exact hP.msix_holds h2
  · exact h2

theorem Base.drainCq_holds {p qn : Nat} : ∀ {fuel : Nat} {s : State}, P s → P (drainCq p qn fuel s)
  | 0, _, h => h
  | fuel + 1, s, h => by
    unfold drainCq
    split
    · exact h
    · split
      · exact h
      next rcd irq rest _ =>
        split
        · exact drainCq_holds (hP.writeRecord_holds (hP.updQueue_holds h))
        · exact h

theorem Base.postRecord_holds {p qn rcd : Nat} {irq : Bool} (h : P s) : P (postRecord s p qn rcd irq) := by
  unfold postRecord
  split
  · exact h
  next q _ => exact hP.drainCq_holds (hP.updQueue_holds h)

theorem Base.geqCmd_holds {c : Cmd} {code sev : Nat} {facts : List Nat} (h : P s) : P (geqCmd s c code sev facts) :=
  hP.geq_holds h (fun hd => Bool.noConfusion hd)

theorem Base.faultRing_holds {p : Nat} (h : P s) : P (faultRing s p bs) := by
  unfold faultRing
  extract_lets base
  split
  · exact h
  · split
    · exact hP.addO_holds h (.inr (by rw [pidx_mod p (by decide)]; decide)) (by decide)
    next t ht =>
      exact hP.bump_holds (hP.setP_holds (hP.ringPut_holds h ht) (by decide) (by decide) (by decide)) (by decide) (by decide) (by decide)

theorem Base.flushBatch_holds {p : Nat} (h : P s) : P (flushBatch s p) := by
  unfold flushBatch
  split
  · exact h
  next b rest _ =>
    extract_lets s1 s2
    have h2 : P s2 := foldl_holds (fun _ hs _ _ => hP.faultRing_holds hs) (s := s1) (hP.updPad_holds h (fun _ => rfl))
    exact hP.logPad_holds (hP.firePad_holds h2)

theorem Base.recFault_holds {p va level src code ctx node id layer oper : Nat} {w : Bool} (h : P s) :
    P (recFault s p va level w src code ctx node id layer oper) := by
  unfold recFault
  extract_lets b same b' s1 s2
  have h1 : P s1 := by
    simp only [s1]
    split <;> exact hP.keep h rfl
  split
  · exact hP.flushBatch_holds (s := s2) (hP.updPad_holds h1 (fun _ => rfl))
  · exact hP.updPad_holds h1 (fun _ => rfl)

theorem Base.refuse_holds {p code : Nat} {facts : List Nat} (h : P s) : P (refuse s p code facts) :=
  hP.logPad_holds (hP.bump_holds h (by decide) (by decide) (by decide))

theorem Base.stale_holds {p : Nat} (h : P s) : P (stale s p) := hP.bump_holds h (by decide) (by decide) (by decide)

end

/-! ### What sends -/

/-- A property that survives the sending of frames too: of the paddocks it says nothing. -/
structure Drains (P : State → Prop) : Prop extends Base P where
  free : ∀ {s t : State}, P s → bare t = bare s → P t

/-- A property that survives the sending of a packet. -/
structure Follows (P : State → Prop) : Prop extends Base P where
  sendOn_holds : ∀ {s : State} {p qpn l hdr : Nat} {bs : Bytes} {sched : Bool}, P s → P (sendOn s p qpn l hdr bs sched)

section
variable {P : State → Prop} (hP : Drains P) {s t : State} {bs : Bytes}
include hP

theorem Drains.waitBehind_holds {p n w : Nat} (h : P s) : P (waitBehind p n s w) := by
  unfold waitBehind
  exact hP.setP_holds (hP.free h rfl) (by decide) (by decide) (by decide)

theorem Drains.putFrame_holds {l i : Nat} (h : P s) : P (putFrame s l i) := by
  unfold putFrame
  split
  · exact h
  next vc pool p pkt _ =>
    extract_lets k n open4 s1 s2 s3 s4
    have h1 : P s1 := by
      simp only [s1]
      split
      · exact h
      · exact foldl_holds (fun _ hs _ _ => hP.waitBehind_holds hs) h
    have h3 : P s3 := hP.keep h1 rfl
    have h4 : P s4 := by
      simp only [s4]
      split
      next hl => exact hP.setO_holds h3 (.inl (by decide)) (by omega)
      · exact h3
    split
    · exact h4
    · refine hP.meter_holds (hP.updPad_holds (hP.charge_holds ?_) (fun _ => rfl)) (by split <;> [decide; split <;> decide])
      show P (if (vc = 2 || open4) = true then s4 else take s4 p 0 n)
      split
      · exact h4
      · exact hP.take_holds h4

theorem Drains.drainLink_holds {l : Nat} : ∀ {fuel : Nat} {s : State}, P s → P (drainLink l fuel s)
  | 0, _, h => h
  | fuel + 1, s, h => by
    unfold drainLink
    split
    · exact h
    · exact drainLink_holds (hP.putFrame_holds h)

theorem Drains.toLink_holds {l vc pool p : Nat} {pkt : Packet} (h : P s) : P (toLink s l vc pool p pkt) := by
  unfold toLink
  split
  · have h1 : P (if vc = 7 || vc = 3 then s else activate s p) := by
      split
      · exact h
      · exact hP.activate_holds h
    exact hP.drainLink_holds (s := updLink _ l _) (hP.keep h1 rfl)
  · exact h

theorem Drains.sendControl_holds {l ctl : Nat} (h : P s) : P (sendControl s l ctl) := hP.toLink_holds h

theorem Drains.sendOn_holds {p qpn l hdr : Nat} {sched : Bool} (h : P s) : P (sendOn s p qpn l hdr bs sched) := by
  unfold sendOn
  extract_lets s1
  have h1 : P s1 := hP.bump_holds h (by decide) (by decide) (by decide)
  split
  · exact hP.keep h1 rfl
  · split
    · exact h1
    · exact hP.toLink_holds (hP.wear_holds (hP.keep h1 rfl))

/-- What survives the sending of frames survives the sending of a packet. -/
theorem Drains.follows : Follows P := { hP.toBase with sendOn_holds := hP.sendOn_holds }

end

end Sys2Proof.Machine
end

/-! # The ends of commands -/

section
namespace Sys2Proof.Machine
open Sys2Proof

section
variable {P : State → Prop} (hP : Follows P) {s t : State} {bs : Bytes} {pl : Place} {pls : List (Place × Nat)}
include hP

/-! ### What ends a command -/

theorem Follows.exclEnd_holds {p id : Nat} (h : P s) : P (exclEnd s p id) :=
  hP.updPad_holds h (fun d => by
    split
    · split <;> rfl
    · rfl)

theorem Follows.detachCmd_holds {id : Nat} (h : P s) : P (detachCmd s id) := by
  unfold detachCmd
  extract_lets mine s1
  have h1 : P s1 := by
    refine foldl_holds (fun s hs e _ => ?_) h
    split
    · exact hP.sendTp_holds hs
    · exact hs
  exact hP.keep h1 rfl

theorem Follows.abortMsgs_holds {id : Nat} (h : P s) : P (abortMsgs s id) :=
  foldl_holds (fun _ hs e _ => foldl_holds (fun s hs _ _ => hP.sendOn_holds (s := updQp s e.1 _) (hP.keep hs rfl)) hs) h

theorem Follows.undoAlloc_holds {c : Cmd} (h : P s) : P (undoAlloc s c) := by
  unfold undoAlloc
  extract_lets s1
  have h1 : P s1 := by
    refine foldl_holds (fun s hs e _ => ?_) h
    split
    · exact hP.dropAlloc_holds hs
    · exact hs
  split
  · exact h1
  · split
    · exact hP.mapAlloc_holds h1
    · exact h1

theorem Follows.unbind_holds {c : Cmd} (h : P s) : P (unbind s c) :=
  hP.setAny _ _ _ (hP.active_holds (hP.useCtx_holds (hP.meter_holds h (by decide)))) (counted_bump s c.p _ (.inl rfl) (by decide))

theorem Follows.killCmd_holds {id : Nat} (h : P s) : P (killCmd s id) := by
  unfold killCmd
  split
  · exact h
  next c _ =>
    have h1 : P (undoAlloc (abortMsgs (detachCmd s id) id) c) := hP.undoAlloc_holds (hP.abortMsgs_holds (hP.detachCmd_holds h))
    have h2 : P (meter (traceCmd (exclEnd (unbind (undoAlloc (abortMsgs (detachCmd s id) id) c) c) c.p id) c 6 0) c.p 12 1) :=
      hP.meter_holds (hP.traceCmd_holds (hP.exclEnd_holds (hP.unbind_holds h1))) (by decide)
    exact hP.keep h2 rfl

theorem Follows.clearCkpts_holds {p c : Nat} {f : Ckpt → Bool} (h : P s) : P (clearCkpts s p c f) := by
  unfold clearCkpts
  split
  · exact h
  · extract_lets s1
    have h1 : P s1 := by
      refine foldl_holds (fun s hs k _ => ?_) h
      split
      · exact hP.putPlaces_holds hs
      · exact hs
    exact hP.updCtx_holds h1

theorem Follows.removeCtx_holds {p c : Nat} (h : P s) : P (removeCtx s p c) := by
  have h1 : P (usageRecord s p c 3) := hP.usageRecord_holds h
  unfold removeCtx
  generalize usageRecord s p c 3 = s1 at h1
  exact hP.updPad_holds (hP.updPad_holds h1 (fun _ => rfl)) (fun _ => rfl)

theorem Follows.idleCheck_holds {p c : Nat} (h : P s) : P (idleCheck s p c) := by
  unfold idleCheck
  split
  · exact h
  · split
    · split
      · split
        · exact hP.respond_holds (hP.removeCtx_holds h)
        · exact hP.updCtx_holds h
      · exact hP.updCtx_holds h
    · exact h

theorem Follows.queueCheck_holds {p q : Nat} (h : P s) : P (queueCheck s p q) := by
  unfold queueCheck
  split
  · exact h
  · split
    · extract_lets s1
      have h1 : P s1 := hP.updPad_holds h (fun _ => rfl)
      split
      · exact hP.respond_holds h1
      · exact h1
    · exact h

theorem Follows.abandon_holds {f : Killed → Bool} (h : P s) : P (abandon s f) := by
  unfold abandon
  extract_lets gone cmds s0
  refine foldl_holds (fun s hs k _ => ?_) (s := s0) (hP.keep h rfl)
  extract_lets s1 s2 s3 s4 s5 s6 ep head
  have h1 : P s1 := foldl_holds (fun _ hs _ _ => hP.freeFill_holds hs) hs
  have h2 : P s2 := foldl_holds (fun _ hs _ _ => hP.sendOn_holds hs) h1
  have h3 : P s3 := hP.clearCkpts_holds h2
  have h5 : P s5 := hP.bump_holds (s := s4) (hP.updQueue_holds h3) (by decide) (by decide) (by decide)
  exact hP.queueCheck_holds (hP.postRecord_holds (s := s6) (hP.updQueue_holds h5))

theorem Follows.afterEnd_holds {p c q : Nat} (h : P s) : P (afterEnd s p c q) := by
  unfold afterEnd
  refine hP.queueCheck_holds (hP.idleCheck_holds ?_)
  split
  next x _ =>
    split
    · exact hP.freeSlot_holds (s := advanceEpoch s p c) (hP.updCtx_holds h)
    · exact h
  · exact h

theorem Follows.releaseCycle_holds {id : Nat} (h : P s) : P (releaseCycle s id) :=
  foldl_holds (fun _ hs _ _ => hP.keep hs rfl) h

theorem Follows.rickZero_holds {a n : Nat} (h : P s) : P (rickZero s a n) := hP.keep h rfl

theorem Follows.applyEffect_holds {p : Nat} {e : Effect} (h : P s) : P (applyEffect p s e) := by
  cases e with
  | wr pl bs => exact hP.putPlace_holds h
  | sig pl add v => exact hP.putPlace_holds h
  | stamp pls => exact hP.putPlaces_holds h
  | addAlloc va zero =>
    simp only [applyEffect]
    split
    · exact h
    · refine hP.mapAlloc_holds ?_
      split
      · exact foldl_holds (fun _ hs _ _ => hP.rickZero_holds hs) h
      · exact h
  | dropAlloc va => exact hP.dropAlloc_holds h

theorem Follows.commitNow_holds {id : Nat} {c : Cmd} (h : P s) : P (commitNow s id c pls) := by
  unfold commitNow
  split
  · exact h
  next q _ =>
    extract_lets ok s0 s1 s2 s3 s4 s5 s6 s7 head rcd
    have h1 : P s1 := hP.releaseCycle_holds (s := { s with cmd.live := Tbl.erase s.cmd.live id }) (hP.keep h rfl)
    have h2 : P s2 := by
      simp only [s2]
      split
      · exact foldl_holds (fun _ hs _ _ => hP.applyEffect_holds hs) h1
      · split
        · exact foldl_holds (fun _ hs _ _ => hP.freeFill_holds hs) h1
        · exact h1
    have h4 : P s4 := hP.traceCmd_holds (hP.exclEnd_holds (hP.unbind_holds h2))
    have h5 : P s5 := by
      simp only [s5]
      split
      · exact hP.meter_holds h4 (by decide)
      · exact hP.updQueue_holds (hP.bump_holds h4 (by decide) (by decide) (by decide))
    have h6 : P s6 := hP.clearCkpts_holds h5
    exact hP.afterEnd_holds (hP.writeRecord_holds (hP.progress_holds (hP.endEntry_holds h6)))

theorem Follows.failQuiet_holds {id code : Nat} (h : P s) : P (failQuiet s id code) := by
  unfold failQuiet
  split
  · exact h
  next c _ =>
    split
    · exact hP.updCmd_holds h
    · extract_lets gone s1 c' cs s2
      have h1 : P s1 := hP.undoAlloc_holds (hP.abortMsgs_holds (hP.detachCmd_holds h))
      split
      · exact hP.commitNow_holds (s := s2) (hP.keep h1 rfl)
      · exact hP.keep h1 rfl

theorem Follows.stopCmd_holds {why : Stop} {id : Nat} (h : P s) : P (stopCmdWith failQuiet why s id) := by
  unfold stopCmdWith
  split
  · exact h
  · split
    · exact hP.failQuiet_holds h
    · split
      · exact hP.updCmd_holds h
      · exact hP.killCmd_holds h

theorem Follows.stopCtx_holds {p c : Nat} {why : Stop} {nxt : CState} (h : P s) : P (stopCtx s p c why nxt) := by
  unfold stopCtx
  extract_lets s1 left
  have h1 : P s1 := foldl_holds (fun _ hs _ _ => hP.stopCmd_holds hs) h
  split
  · split <;> exact hP.updCtx_holds h1
  · have h2 : P (freeSlot (advanceEpoch s1 p c) p c) := hP.freeSlot_holds (s := advanceEpoch s1 p c) (hP.updCtx_holds h1)
    exact hP.updCtx_holds h2

theorem Follows.park_holds {c : Cmd} {va level code : Nat} {w record : Bool} (h : P s) : P (park s c va level w code record) := by
  unfold park
  split
  · exact hP.keep h rfl
  · extract_lets s1 s2 s3
    have h1 : P s1 := hP.bump_holds h (by decide) (by decide) (by decide)
    have h2 : P s2 := by
      simp only [s2]
      split
      · exact hP.firePad_holds (hP.faultRing_holds h1)
      · exact h
    have h3 : P s3 := hP.geqCmd_holds h2
    clear_value s3
    split
    · split
      · have h4 : P (stopCtx s3 c.p c.ctx .park .parked) := hP.stopCtx_holds h3
        exact hP.firePad_holds (s := updCtx _ c.p c.ctx _) (hP.updCtx_holds h4)
      · exact h3
    · exact h3

theorem Follows.tryCommit_holds {id : Nat} (h : P s) : P (tryCommit s id) := by
  unfold tryCommit
  split
  · exact h
  · split
    · exact h
    · split
      · exact h
      · split
        · exact hP.commitNow_holds h
        · exact hP.updCmd_holds h
        · exact hP.park_holds h

theorem Follows.failCmd_holds {id code : Nat} (h : P s) : P (failCmd s id code) := hP.tryCommit_holds (hP.failQuiet_holds h)

theorem Follows.becomeReady_holds {id result : Nat} {c : Cmd} {effects : List Effect} (h : P s) :
    P (becomeReady s id c effects result) := by
  unfold becomeReady
  extract_lets out keep parts s1
  exact hP.updCmd_holds (foldl_holds (fun _ hs _ _ => hP.issueTp_holds hs) h)

theorem Follows.conclude_holds {id result : Nat} {c : Cmd} {effects : List Effect} (h : P s) :
    P (conclude s id c effects result) := by
  unfold conclude
  split
  · exact hP.becomeReady_holds h
  · exact hP.tryCommit_holds (hP.updCmd_holds h)

end

end Sys2Proof.Machine
end

/-! # Accesses and messages -/

section
namespace Sys2Proof.Machine
open Sys2Proof

section
variable {P : State → Prop} (hP : Follows P) {s t : State} {bs : Bytes} {pl : Place} {pls : List (Place × Nat)} {on : Port} {pkt : Packet} {got : Got}
include hP

/-! ### Gathering -/

theorem Follows.askAts_holds {id p b : Nat} (h : P s) : P (askAts s id p b).1 := by
  unfold askAts
  split
  · exact h
  · split <;> exact hP.keep h rfl

theorem Follows.gatherPiece_holds {id : Nat} {x : State × Got} {e : Nat × Nat} (h : P x.1) : P (gatherPiece id x e).1 := by
  obtain ⟨s, got⟩ := x
  unfold gatherPiece
  dsimp -zeta only
  split
  · exact h
  · exact h
  · exact h
  next c _ _ _ =>
    extract_lets add
    have hadd : ∀ {s : State} {b : Bytes}, P s → P (add s b).1 := by
      intro s b hs
      simp only [add]
      split <;> exact hs
    split
    · exact hadd h
    · split
      · exact h
      · split
        · exact h
        · exact hP.askAts_holds h
        · split
          · split
            · exact hP.updCmd_holds h
            · exact hadd (hP.updPad_holds h (fun _ => rfl))
          · split
            · exact h
            · split
              · exact hP.refuse_holds h
              · exact hP.updCmd_holds (hP.keep h rfl)
          · exact hP.updCmd_holds (hP.issueTp_holds h)
          · exact hadd (hP.keep h rfl)

theorem Follows.gather_holds {id p va n : Nat} (h : P s) : P (gather s id p va n).1 :=
  foldl_fst_holds (fun _ hx _ _ => hP.gatherPiece_holds hx) h

/-- The state that a gathering leaves. -/
theorem Follows.gather_holds_of {id p va n : Nat} (h : P s) (e : gather s id p va n = (t, got)) : P t := by
  have h1 : P (gather s id p va n).1 := hP.gather_holds h
  rw [e] at h1
  exact h1

/-- The state that a question to the host leaves. -/
theorem Follows.askAts_holds_of {id p b : Nat} (h : P s) (e : askAts s id p b = (t, got)) : P t := by
  have h1 : P (askAts s id p b).1 := hP.askAts_holds h
  rw [e] at h1
  exact h1

/-! ### Messages -/

theorem Follows.admitQp_holds {qpn : Nat} (h : P s) (e : admitQp s qpn = some t) : P t := by
  unfold admitQp at e
  extract_lets p n s0 use at e
  have hs : P s0 := hP.keep h rfl
  split at e
  · rw [← Option.some.inj e]
    exact hP.keep hs rfl
  next rs s1 s2 idle _ =>
    have h1 : P s1 := hP.bump_holds hs (by decide) (by decide) (by decide)
    have h2 : P s2 := by
      simp only [s2]
      split <;> exact hP.keep h1 rfl
    have huse : ∀ {s : State}, P s → P (use s) := fun hs => hP.keep hs rfl
    clear_value s2 use
    split at e
    · rw [← Option.some.inj e]
      exact huse h2
    · split at e
      · exact absurd e nofun
      next v _ =>
        extract_lets s3 at e
        have h3 : P s3 := hP.keep h2 rfl
        rw [← Option.some.inj e]
        refine huse ?_
        split
        · exact hP.putPlaces_holds (s := fresh1 s3) (hP.keep h3 rfl)
        · exact h3

theorem Follows.sendData_holds {qpn addr : Nat} {m : TxMsg} {last : Bool} (h : P s) : P (sendData s qpn m addr bs last) := by
  unfold sendData
  extract_lets q
  split
  · exact h
  · split
    · exact h
    · extract_lets resp m' payload hd cost s1 pa' s2 s3
      have h2 : P s2 := hP.keep h rfl
      have h3 : P s3 := by
        simp only [s3]
        clear_value s2
        split
        · exact hP.progress_holds (hP.active_holds (hP.useCtx_holds h2))
        · exact h2
      exact hP.sendOn_holds h3

theorem Follows.sendCommit_holds {qpn : Nat} {m : TxMsg} (h : P s) : P (sendCommit s qpn m) := by
  unfold sendCommit
  dsimp only
  exact hP.sendOn_holds (s := updMsg s qpn m.msg _ _) (hP.keep h rfl)

theorem Follows.pumpMsg_holds {qpn msg : Nat} {resp : Bool} : ∀ {fuel : Nat} {s : State}, P s → P (pumpMsg qpn msg resp fuel s)
  | 0, _, h => h
  | fuel + 1, s, h => by
    unfold pumpMsg
    split
    · exact h
    · split
      · exact h
      · extract_lets q mtu
        split
        · split
          · exact hP.sendData_holds h
          · exact hP.sendCommit_holds h
        · split
          · exact h
          · exact pumpMsg_holds (hP.sendData_holds h)

theorem Follows.pump_holds {qpn : Nat} (h : P s) : P (pump s qpn) := foldl_holds (fun _ hs _ _ => hP.pumpMsg_holds hs) h

theorem Follows.drainCheck_holds {qpn : Nat} (h : P s) : P (drainCheck s qpn) := by
  unfold drainCheck
  split <;> exact hP.keep h rfl

theorem Follows.endMsg_holds {qpn msg : Nat} {resp : Bool} (h : P s) : P (endMsg s qpn msg resp) := by
  unfold endMsg
  exact hP.drainCheck_holds (s := updQp s qpn _) (hP.keep h rfl)

theorem Follows.faultQps_holds {p code : Nat} (h : P s) : P (faultQps s p code) := foldl_holds (fun _ hs _ _ => hP.keep hs rfl) h

/-! ### Answers to other units -/

theorem Follows.dropUnmatched_holds (h : P s) : P (dropUnmatched s) := hP.addO_holds h (.inl (by decide)) (by decide)

theorem Follows.sendNak_holds {p hd status : Nat} {ranges : List (Nat × Nat × Nat)} (h : P s) : P (sendNak s on p hd status ranges) := by
  unfold sendNak
  exact hP.sendOn_holds h

theorem Follows.sendBack_holds {qpn type hd psn : Nat} (h : P s) : P (sendBack s on qpn type hd psn bs) := by
  unfold sendBack
  exact hP.sendOn_holds h

theorem Follows.endInner_holds {id : Nat} (h : P s) : P (endInner s id) := by
  have h1 : P (detachCmd s id) := hP.detachCmd_holds h
  exact hP.keep h1 rfl

theorem Follows.faultInbound_holds {p hd va code level src : Nat} {w : Bool} (h : P s) :
    P (faultInbound s on p hd va code level src w) := by
  unfold faultInbound
  exact hP.sendNak_holds (hP.recFault_holds h)

/-- What a READ or a DATA packet that waits is left as, where its command is dropped. -/
theorem Follows.ended_holds {id : Option Nat} (h : P s) : P (match id with | some i => endInner s i | none => s) := by
  cases id with
  | none => exact h
  | some i => exact hP.endInner_holds h

theorem Follows.serveReadReq_holds {id : Nat} (h : P s) : P (serveReadReq s id on pkt) := by
  unfold serveReadReq
  extract_lets hd qpn p body len
  split
  · exact hP.endInner_holds h
  · split
    · exact h
    · split
      · exact hP.sendNak_holds (hP.endInner_holds h)
      · split
        next hg => exact hP.gather_holds_of h hg
        next hg => exact hP.faultInbound_holds (hP.endInner_holds (hP.gather_holds_of h hg))
        next hg => exact hP.sendNak_holds (hP.endInner_holds (hP.gather_holds_of h hg))
        next t b hg =>
          have h1 : P (endInner t id) := hP.endInner_holds (hP.gather_holds_of h hg)
          exact hP.pump_holds (s := updQp (endInner t id) qpn _) (hP.keep h1 rfl)

theorem Follows.serveAtomic_holds {id : Nat} (h : P s) : P (serveAtomic s id on pkt) := by
  unfold serveAtomic
  extract_lets hd qpn p
  split
  · exact hP.endInner_holds h
  · split
    · exact hP.sendNak_holds (hP.endInner_holds h)
    next pls _ =>
      split
      · exact h
      · have h1 : P (pls.foldl (fun (acc : State × Bytes) e => (putPlace acc.1 p e.2 (beBytes 8 (atomicNew (beNat (readPlace acc.1 p e.2 8)) e.1)),
            acc.2 ++ beBytes 8 (beNat (readPlace acc.1 p e.2 8)))) (endInner s id, [])).1 :=
          foldl_fst_holds (fun _ hx _ _ => hP.putPlace_holds hx) (hP.endInner_holds h)
        exact hP.sendBack_holds (s := updQp _ qpn _) (hP.keep h1 rfl)

theorem Follows.tpAnswer_holds {m hd kind status : Nat} (h : P s) : P (tpAnswer s m hd kind status bs) := by
  unfold tpAnswer
  exact hP.sendTp_holds h

theorem Follows.serveTpRead_holds {id m hd : Nat} (h : P s) : P (serveTpRead s id m hd) := by
  unfold serveTpRead
  extract_lets p
  split
  · exact h
  · split
    · exact hP.tpAnswer_holds (hP.endInner_holds h)
    · split
      next hg => exact hP.gather_holds_of h hg
      next hg => exact hP.tpAnswer_holds (hP.recFault_holds (hP.endInner_holds (hP.gather_holds_of h hg)))
      next hg => exact hP.tpAnswer_holds (hP.endInner_holds (hP.gather_holds_of h hg))
      next hg => exact hP.tpAnswer_holds (hP.endInner_holds (hP.gather_holds_of h hg))

theorem Follows.serveTpWrite_holds {id m hd : Nat} {data : Bytes} (h : P s) : P (serveTpWrite s id m hd data) := by
  unfold serveTpWrite
  extract_lets p va
  split
  · exact h
  · split
    · exact hP.tpAnswer_holds (hP.endInner_holds h)
    · split
      · split
        next hg => exact hP.tpAnswer_holds (hP.endInner_holds (hP.askAts_holds_of h hg))
        next hg => exact hP.askAts_holds_of h hg
      · exact hP.tpAnswer_holds (hP.recFault_holds (hP.endInner_holds h))
      · exact hP.endInner_holds h
      · have h1 : P (endInner s id) := hP.endInner_holds h
        extract_lets host
        split
        · exact hP.tpAnswer_holds h1
        · split
          · exact hP.tpAnswer_holds (hP.refuse_holds h1)
          · exact hP.tpAnswer_holds (hP.putPlaces_holds h1)

/-! ### Data that arrives -/

theorem Follows.ackPath_holds {qpn i : Nat} (h : P s) : P (ackPath s qpn i) := by
  unfold ackPath
  split
  · exact h
  · extract_lets sack s1
    exact hP.sendOn_holds (s := s1) (hP.keep h rfl)

theorem Follows.acceptPsn_holds {p qpn hd : Nat} (h : P s) : P (acceptPsn s p qpn hd) := by
  unfold acceptPsn
  split
  · exact h
  · dsimp only
    split
    · exact hP.ackPath_holds (hP.bump_holds (s := updQp s qpn _) (hP.keep h rfl) (by decide) (by decide) (by decide))
    · exact hP.bump_holds (s := updQp s qpn _) (hP.keep h rfl) (by decide) (by decide) (by decide)

theorem Follows.releaseRx_holds {qpn msg : Nat} (h : P s) : P (releaseRx s qpn msg) := by
  unfold releaseRx
  split
  · exact h
  · extract_lets s1
    have h1 : P s1 := foldl_holds (fun _ hs _ _ => hP.freeFill_holds hs) h
    exact hP.drainCheck_holds (s := updQp s1 qpn _) (hP.keep h1 rfl)

theorem Follows.receiveRecord_holds {p qpn hd sum : Nat} (h : P s) : P (receiveRecord s p qpn hd sum) := by
  unfold receiveRecord
  extract_lets q
  split
  · exact hP.stale_holds h
  · exact hP.postRecord_holds h

theorem Follows.abortRx_holds {qpn msg epoch : Nat} (h : P s) : P (abortRx s qpn msg epoch) := hP.keep h rfl

theorem Follows.rxCommit_holds {p qpn hd sum : Nat} {m : RxMsg} (h : P s) : P (rxCommit s on p qpn hd sum m) := by
  unfold rxCommit
  extract_lets pls host
  split
  · exact hP.sendNak_holds (hP.abortRx_holds h)
  · split
    · exact hP.sendNak_holds (hP.abortRx_holds (hP.refuse_holds h))
    next s1 s2 s3 s4 _ _ =>
      have h1 : P s1 := by
        simp only [s1]
        split
        · exact hP.releaseRx_holds h
        · exact h
      have h2 : P s2 := foldl_holds (fun _ hs _ _ => hP.putPlace_holds hs) h1
      have h3 : P s3 := hP.keep h2 rfl
      have h4 : P s4 := by
        simp only [s4]
        split
        · exact hP.receiveRecord_holds h3
        · exact h3
      exact hP.drainCheck_holds (hP.sendBack_holds h4)

theorem Follows.collCommit_holds {p qpn hd : Nat} {m : RxMsg} (h : P s) : P (collCommit s on p qpn hd m) := by
  unfold collCommit
  extract_lets q s'
  have h1 : P s' := hP.keep h rfl
  split
  · split
    · exact hP.stale_holds h1
    · exact hP.drainCheck_holds (hP.sendBack_holds (hP.keep h1 rfl))
  · exact hP.stale_holds h1

theorem Follows.commitCheck_holds {p qpn hd : Nat} {tail : Bytes} (h : P s) : P (commitCheck s on p qpn hd tail) := by
  unfold commitCheck
  split
  · exact h
  · extract_lets sum miss
    split
    · exact hP.sendNak_holds h
    · split
      · exact hP.collCommit_holds h
      · exact hP.rxCommit_holds h

theorem Follows.noteData_holds {p qpn hd : Nat} {data : Bytes} {f : RxMsg → RxMsg} (h : P s) : P (noteData s p qpn hd data f) := by
  unfold noteData
  extract_lets s1 s2
  exact hP.acceptPsn_holds (s := s2) (hP.keep h rfl)

theorem Follows.beginInner_holds {p : Nat} {i : Instr} (h : P s) : P (beginInner s p i) := hP.keep h rfl

theorem Follows.placeData_holds {id : Option Nat} {p qpn va : Nat} {data place tail : Bytes} (h : P s) :
    P (placeData s id on pkt p qpn va data place tail) := by
  unfold placeData
  extract_lets hd drop
  have hdrop : ∀ {s : State}, P s → P (drop s) := fun hs => hP.ended_holds hs
  split
  · split
    · exact hP.sendNak_holds (hP.abortRx_holds (hdrop h))
    · exact hP.faultInbound_holds (hP.abortRx_holds (hdrop h))
  next b _ =>
    split
    next s1 i hi =>
      have h1 : P s1 := by
        cases id with
        | none =>
          have hs : beginInner s p (.dataPacket on pkt) = s1 := congrArg Prod.fst hi
          exact hs ▸ hP.beginInner_holds h
        | some i =>
          have hs : s = s1 := congrArg Prod.fst hi
          exact hs ▸ h
      split
      next ha => exact hP.sendNak_holds (hP.abortRx_holds (hP.endInner_holds (hP.askAts_holds_of (hP.keep h1 rfl) ha)))
      next ha => exact hP.askAts_holds_of (hP.keep h1 rfl) ha
  · exact hdrop h
  next pls _ =>
    extract_lets parts s2
    have h2 : P s2 := hP.noteData_holds (hdrop h)
    split
    · exact h2
    · exact hP.commitCheck_holds h2

theorem Follows.rowTransform_holds {p x i : Nat} {w row : Bytes} (h : P s) : P (rowTransform s p x i w row).1 := by
  unfold rowTransform
  extract_lets s1
  have h1 : P s1 := hP.meter_holds (s := fresh1 s) (hP.keep h rfl) (by decide)
  split
  · exact hP.keep h1 rfl
  · dsimp only
    exact hP.addO_holds (hP.addO_holds h1 (.inr (by rw [pidx_mod p (by decide)]; decide)) (by decide))
      (.inr (by rw [pidx_mod p (by decide)]; decide)) (by decide)

theorem Follows.rowsTransform_holds {p x i : Nat} {w : Bytes} (h : P s) : P (rowsTransform s p x i w bs).1 := by
  unfold rowsTransform
  refine foldl_fst_holds (x := (s, [], 0)) (fun _ hx _ _ => ?_) h
  exact hP.rowTransform_holds hx

theorem Follows.viewData_holds {id : Option Nat} {p qpn row bind slot : Nat} {data tail : Bytes} (h : P s) :
    P (viewData s id on pkt p qpn row bind slot data tail) := by
  unfold viewData
  extract_lets hd n off bad
  have hbad : ∀ {s : State} {code : Nat}, P s → P (bad s code) := fun hs => hP.sendNak_holds (hP.abortRx_holds (hP.ended_holds hs))
  split
  · exact hbad h
  · split
    · exact hbad h
    · split
      · exact hbad h
      · split
        · split
          · exact h
          · exact hP.beginInner_holds h
        next s1 _ _ _ _ _ =>
          have h1 : P s1 := by
            simp only [s1]
            split <;> exact hP.keep h rfl
          clear_value s1
          split
          · exact hP.faultInbound_holds (hP.abortRx_holds (hP.ended_holds h1))
          · exact hbad h1
          next w _ => exact hP.placeData_holds (hP.rowsTransform_holds h1)

theorem Follows.collData_holds {p qpn hd : Nat} {data tail : Bytes} (h : P s) : P (collData s on p qpn hd data tail) := by
  unfold collData
  split
  · exact hP.stale_holds h
  · split
    · split
      · exact hP.stale_holds h
      · extract_lets s1
        have h1 : P s1 := hP.noteData_holds h
        split
        · exact h1
        · exact hP.commitCheck_holds h1
    · extract_lets s1
      have h1 : P s1 := hP.noteData_holds h
      split
      · exact h1
      · exact hP.commitCheck_holds h1

theorem Follows.dataArrived_holds {id : Option Nat} {p qpn : Nat} (h : P s) : P (dataArrived s id on pkt p qpn) := by
  have hbump : P (bump s p 0x53 6 1) := hP.bump_holds h (by decide) (by decide) (by decide)
  unfold dataArrived
  extract_lets hd q drop
  have hdrop : ∀ {s : State}, P s → P (drop s) := fun hs => hP.ended_holds hs
  split
  · refine hdrop ?_
    split
    · exact hP.sendBack_holds h
    · exact hbump
  · exact hdrop (hP.stale_holds h)
  · refine hdrop ?_
    split
    · split
      · exact hP.commitCheck_holds hbump
      · exact hP.dropUnmatched_holds h
    · exact hbump
  · split
    · exact hdrop (hP.dropUnmatched_holds h)
    · split
      · exact hP.collData_holds (hdrop h)
      · split
        · split
          · exact hP.placeData_holds h
          · exact hP.viewData_holds h
        · exact hP.placeData_holds h

theorem Follows.inboundWork_holds {e : Held} (h : P s) : P (inboundWork s e) := by
  unfold inboundWork
  split
  · exact hP.serveReadReq_holds h
  · exact hP.serveAtomic_holds h
  · exact hP.serveTpRead_holds h
  · exact hP.serveTpWrite_holds h
  · extract_lets hd
    split
    · exact h
    · split
      · exact hP.endInner_holds h
      · split
        · exact hP.sendNak_holds (hP.abortRx_holds (hP.endInner_holds h))
        · exact hP.dataArrived_holds h
  · exact hP.endInner_holds h

theorem Follows.retryHeld_holds (h : P s) : P (retryHeld s) := foldl_holds (fun _ hs _ _ => hP.inboundWork_holds hs) h

end

end Sys2Proof.Machine
end

/-! # Collectives, paddocks and mirror rings -/

section
namespace Sys2Proof.Machine
open Sys2Proof

section
variable {P : State → Prop} (hP : Follows P) {s t : State}
include hP

/-! ### Collectives -/

theorem Follows.openColl_holds {p key dst : Nat} {g : Group} {i : Inst} {sched homes : Bool} {parts : List Bytes} (h : P s) :
    P (openColl s p g key i dst sched homes parts) := by
  unfold openColl
  exact hP.pump_holds (s := updInst (openMsg s _ _) key i.num _) (hP.keep h rfl)

theorem Follows.sendPlan_holds {p key n : Nat} {sched : Bool} {sends : List Xfer} {rs : List (Nat × Xfer)} {body : Group → Inst → Xfer → List Bytes}
    (h : P s) : P (sendPlan s p key n sched sends rs body) := by
  refine foldl_holds (fun s hs x _ => ?_) h
  dsimp only
  split
  · exact hs
  · split
    · exact hs
    · split
      · exact hs
      · split
        · exact hs
        next t ht =>
          have h1 : P t := hP.admitQp_holds hs ht
          exact hP.openColl_holds (s := updInst t key n _) (hP.keep h1 rfl)

theorem Follows.grantStage_holds {p key stage : Nat} {g : Group} {i : Inst} {rs : List (Nat × Xfer)} {total : List Nat → Nat}
    {cut : Nat → Bytes → Nat} (h : P s) : P (grantStage s p g key i rs stage total cut) := by
  unfold grantStage
  extract_lets mine
  generalize mine = ms
  split
  · exact h
  · refine foldl_holds (fun s hs x _ => ?_) h
    extract_lets new old s1
    split
    · exact hs
    · have h1 : P s1 := hP.keep hs rfl
      exact foldl_holds (fun _ hs _ _ => foldl_holds (fun _ hs _ _ => hP.sendOn_holds hs) hs) h1

theorem Follows.countColl_holds {p gnum : Nat} {g : Group} {w : Work} {rs : List (Nat × Xfer)} {i : Inst} (h : P s) :
    P (countColl s p gnum g w rs i) := by
  unfold countColl
  split
  · exact h
  · extract_lets ms np own own' s1 c s2 ops s3
    have h1 : Grows s s1 := (grows_refl s).addO _ _ _ _
    have h2 : Grows s s2 := foldl_grows (fun _ ht _ _ => foldl_grows (fun _ ht _ _ => ht.addO _ _ _ _) ht) h1
    have h3 : P s3 := hP.tally h h2 (by decide)
    exact hP.useCtx_holds h3

theorem Follows.failInst_holds {p key : Nat} {g : Group} {i : Inst} (h : P s) : P (failInst s p g key i) := by
  unfold failInst
  extract_lets s1
  have h1 : P s1 := foldl_holds (fun _ hs _ _ => foldl_holds (fun _ hs _ _ => hP.endMsg_holds hs) hs) h
  clear_value s1
  split
  · exact h1
  · split
    · exact h1
    · extract_lets s2
      have h2 : P s2 := by
        simp only [s2]
        split
        · split
          · exact hP.failCmd_holds h1
          · exact h1
        · exact h1
      exact hP.keep h2 rfl

theorem Follows.completeColl_holds {p key id : Nat} {g : Group} {w : Work} {i : Inst} {sends : List Xfer} {rs : List (Nat × Xfer)} {c : Cmd}
    (h : P s) : P (completeColl s p g key w i sends rs id c) := by
  unfold completeColl
  extract_lets top got
  split
  · split
    · exact hP.conclude_holds h
    · exact h
  · split
    · exact h
    · extract_lets bs
      split
      · exact hP.park_holds h
      · exact h
      · exact hP.conclude_holds h

theorem Follows.closeInst_holds {key n : Nat} (h : P s) : P (closeInst s key n) := hP.keep h rfl

theorem Follows.updInst_holds {key n : Nat} {f : Inst → Inst} (h : P s) : P (updInst s key n f) := hP.keep h rfl

theorem Follows.countError_holds (h : P s) : P (addO s 0x1A00 5 1 32) := hP.addO_holds h (.inl (by decide)) (by decide)

theorem Follows.advanceColl_holds {p gnum : Nat} {g : Group} {i : Inst} (h : P s) : P (advanceColl s p gnum g i) := by
  unfold advanceColl
  extract_lets key w rs sends bad
  split
  · exact hP.failInst_holds h
  · split
    · refine hP.failInst_holds (hP.updInst_holds ?_)
      split
      · exact hP.countError_holds h
      · exact h
    · split
      · exact h
      next id _ =>
        extract_lets live
        split
        · exact h
        · split
          · split
            · exact h
            · exact hP.closeInst_holds h
          next s1 s2 i' _ _ _ _ s3 _ _ =>
            have h1 : P s1 := foldl_holds (fun _ hs _ _ => hP.grantStage_holds hs) h
            have h2 : P s2 := hP.sendPlan_holds h1
            have h3 : P s3 := by
              simp only [s3]
              clear_value s2
              split
              · split
                · exact hP.completeColl_holds h2
                · exact h2
              · exact h2
            clear_value s3
            split
            · exact h3
            · split
              · exact h3
              · split
                · exact hP.closeInst_holds (hP.countColl_holds h3)
                · exact h3

/-! ### Rosters -/

theorem Follows.rosterOut_holds {i : Inst} {ms : List Merge} (h : P s) : P (rosterOut s i ms).1 := by
  unfold rosterOut
  refine foldl_fst_holds (x := (s, [], 0)) (fun x hx r _ => ?_) h
  refine foldl_fst_holds (x := (x.1, [], 0)) (fun y hy m _ => ?_) hx
  dsimp only
  split
  · exact hy
  · split <;> exact hP.keep hy rfl

theorem Follows.completeRoster_holds {p key id : Nat} {g : Group} {i : Inst} {w : Work} {sends : List Xfer} {rs : List (Nat × Xfer)} {c : Cmd}
    (h : P s) : P (completeRoster s p g key i w sends rs id c) := by
  unfold completeRoster
  extract_lets top
  split
  · exact h
  · split
    · split
      · exact hP.conclude_holds h
      · exact h
    · split
      · exact hP.failInst_holds (hP.updInst_holds h)
      · have h1 : P (rosterOut s i (mergesAt w i g.self rs top)).1 := hP.rosterOut_holds h
        generalize rosterOut s i (mergesAt w i g.self rs top) = x at h1
        obtain ⟨s1, ws, st⟩ := x
        dsimp only
        split
        · exact hP.park_holds h1
        · exact h1
        · exact hP.conclude_holds h1

theorem Follows.countRoster_holds {p gnum : Nat} {g : Group} {i : Inst} {rs : List (Nat × Xfer)} (h : P s) :
    P (countRoster s p gnum g i rs) := by
  unfold countRoster
  extract_lets own got bytes s1 s2
  have h2 : Grows s s2 := ((grows_refl s).addO _ _ _ _).addO _ _ _ _
  have h3 : P (meter s2 p 9 (own + got)) := hP.tally h h2 (by decide)
  exact hP.useCtx_holds h3

theorem Follows.advanceRoster_holds {p gnum : Nat} {g : Group} {i : Inst} (h : P s) : P (advanceRoster s p gnum g i) := by
  unfold advanceRoster
  extract_lets key fail
  have hfail : ∀ {s : State} {code : Nat}, P s → P (fail s code) := fun hs => hP.failInst_holds (hP.updInst_holds hs)
  split
  · exact hP.failInst_holds h
  · split
    · exact h
    next id _ =>
      split
      · exact hfail (hP.countError_holds h)
      · split
        · exact h
        · split
          · split
            · exact h
            · exact hP.closeInst_holds h
          next w rs sends n s1 s2 s3 i' _ _ _ _ _ _ =>
            extract_lets s4
            split
            · exact hfail h
            · have h1 : P s1 := foldl_holds (fun _ hs _ _ => hP.grantStage_holds hs) h
              have h2 : P s2 := foldl_holds (fun _ hs _ _ => hP.grantStage_holds hs) h1
              have h3 : P s3 := hP.sendPlan_holds h2
              have h4 : P s4 := by
                simp only [s4]
                clear_value s3
                split
                · split
                  · exact hP.completeRoster_holds h3
                  · exact h3
                · exact h3
              clear_value s4
              split
              · exact h4
              · split
                · exact h4
                · split
                  · exact hP.closeInst_holds (hP.countRoster_holds h4)
                  · exact h4

theorem Follows.advanceGroups_holds (h : P s) : P (advanceGroups s) := by
  refine foldl_holds (fun _ hs e _ => foldl_holds (fun s hs i _ => ?_) hs) h
  split
  · exact hs
  · split
    · exact hP.advanceRoster_holds hs
    · exact hP.advanceColl_holds hs

/-! ### Contexts and paddocks that end -/

theorem Follows.finishCtx_holds {p c : Nat} (h : P s) : P (finishCtx p c s) := by
  unfold finishCtx
  split
  · exact h
  next x _ =>
    split
    · extract_lets s1
      have h1 : P s1 := hP.abandon_holds h
      split
      · have h2 : P (removeCtx s1 p c) := hP.removeCtx_holds h1
        split
        · exact hP.respond_holds h2
        · exact h2
      next s2 _ =>
        have h2 : P s2 := (hP.updCtx_holds h1)
        split
        · exact hP.respond_holds h2
        · exact h2
    · exact h

theorem Follows.finishAllCtx_holds (h : P s) : P (finishAllCtx s) := by
  refine foldl_holds (fun _ hs e _ => foldl_holds (fun s hs x _ => ?_) hs) h
  split
  · exact hP.finishCtx_holds hs
  · exact hs

theorem Follows.formSnapshot_holds {p periodEnd : Nat} {final gap : Bool} (h : P s) : P (formSnapshot s p final gap periodEnd) := by
  unfold formSnapshot
  split
  · exact h
  · split
    · exact hP.logPad_holds h
    · exact hP.flash_holds (s := updPad (fresh1 s) p _) (hP.keep h (followed_updPad _ _ (fun _ => rfl))) rfl

theorem Follows.setPState_holds {p : Nat} {st : PState} (h : P s) : P (setPState s p st) :=
  hP.firePad_holds (s := updPad s p _) (hP.updPad_holds h (fun _ => rfl))

theorem Follows.releaseGranules_holds {p mask : Nat} (h : P s) : P (releaseGranules s p mask) := by
  unfold releaseGranules
  extract_lets gs s1
  have h1 : P s1 := foldl_holds (fun _ hs _ _ => hP.keep hs rfl) h
  exact hP.keep h1 (followed_updPad _ _ (fun _ => rfl))

theorem Follows.trimSlots_holds {p : Nat} (h : P s) : P (trimSlots s p) := by
  unfold trimSlots
  extract_lets beyond
  refine foldl_holds (fun s hs e _ => ?_) h
  split
  · exact hP.stopCtx_holds (hP.meter_holds hs (by decide))
  · unfold evict
    split
    · exact hs
    · split
      · exact hP.stopCtx_holds hs
      · exact hP.freeSlot_holds hs

theorem Follows.sendFence_holds {p action gen die : Nat} (h : P s) : P (sendFence p action gen s die) :=
  foldl_holds (fun _ hs _ _ => hP.keep hs rfl) h

theorem Follows.endPend_holds {p code : Nat} (h : P s) : P (endPend s p code) := by
  unfold endPend
  extract_lets cmd s1
  have h1 : P s1 := hP.ended h
  split
  · exact h1
  · exact hP.logPad_holds h1

theorem Follows.dropOutside_holds {p : Nat} {a : Allocation} (h : P s) : P (dropOutside p s a) := by
  unfold dropOutside
  extract_lets s1
  have h1 : P s1 := by
    simp only [s1]
    split
    · exact hP.unmapAlloc_holds h
    · exact h
  exact hP.logPad_holds (hP.dropAlloc_holds (hP.invalidate_holds h1))

theorem Follows.windowEntry_holds {p va : Nat} (h : P s) : P (windowEntry p s va) := by
  unfold windowEntry
  extract_lets s1
  have h1 : P s1 := by
    simp only [s1]
    split
    · exact h
    · exact hP.takeWinPage_holds h
  clear_value s1
  split
  · exact h1
  · split
    · exact hP.putPte_holds h1
    · exact h1

theorem Follows.openWindow_holds {p : Nat} (h : P s) : P (openWindow s p) := by
  unfold openWindow
  extract_lets old new out s1 gone s2 keys s3 s4
  have h1 : P s1 := foldl_holds (fun _ hs _ _ => hP.dropOutside_holds hs) h
  have h2 : P s2 := by
    refine foldl_holds (fun s hs va _ => ?_) h1
    split
    · exact hP.putPte_holds hs
    · exact hs
  have h3 : P s3 := hP.updPad_holds h2 (fun _ => rfl)
  have h4 : P s4 := by
    simp only [s4]
    split
    · exact h3
    · exact hP.invalidate_holds h3
  exact foldl_holds (fun _ hs _ _ => hP.windowEntry_holds hs) h4

/-- Every command of a context waits to be killed. -/
theorem Follows.killLater_holds {ids : List Nat} (h : P s) : P (ids.foldl (fun s id => updCmd s id (fun c => { c with killWaits := true })) s) :=
  foldl_holds (fun _ hs _ _ => hP.updCmd_holds hs) h

theorem Follows.paddockFault_holds {p code : Nat} (h : P s) : P (paddockFault s p code) := by
  unfold paddockFault
  extract_lets d
  split
  · split
    · exact hP.endPend_holds (hP.logPad_holds h)
    · exact hP.logPad_holds h
  · split
    · exact hP.logPad_holds h
    next s1 s2 s3 s4 _ _ =>
      have h1 : P s1 := by
        simp only [s1]
        split
        · exact hP.endPend_holds h
        · exact h
      have h3 : P s3 := hP.setPState_holds (s := s2) (hP.updPad_holds h1 (fun _ => rfl))
      have h4 : P s4 := by
        simp only [s4]
        clear_value s3
        split
        · refine foldl_holds (fun s hs e _ => ?_) h3
          have hk : P ((ctxCmds s p e.1).foldl (fun s id => updCmd s id (fun c => { c with killWaits := true })) s) := hP.killLater_holds hs
          exact hP.updCtx_holds hk
        · exact foldl_holds (fun _ hs _ _ => hP.stopCtx_holds hs) h3
      exact hP.logPad_holds (hP.faultQps_holds h4)

theorem Follows.faultPads_holds {ps : List Nat} {code : Nat} (h : P s) : P (faultPads s ps code) :=
  foldl_holds (fun _ hs _ _ => hP.paddockFault_holds hs) h

theorem Follows.faultStruck_holds (h : P s) : P (faultStruck s) := hP.faultPads_holds (s := { s with rick.struck := [] }) (hP.keep h rfl)

theorem Follows.zeroFailed_holds {i : Nat} (h : P t) : P (zeroFailed s t i) := by
  unfold zeroFailed
  exact hP.faultPads_holds (hP.cairn_holds h)

theorem Follows.answerWaiting_holds {p : Nat} (h : P s) : P (answerWaiting s p) := by
  unfold answerWaiting
  extract_lets d s1 s2
  have h1 : P s1 := by
    refine foldl_holds (fun s hs e _ => ?_) h
    split
    · exact hP.respond_holds hs
    · exact hs
  have h2 : P s2 := by
    refine foldl_holds (fun s hs e _ => ?_) h1
    split
    · exact hP.respond_holds hs
    · split
      · exact hP.respond_holds hs
      · exact hs
  refine foldl_holds (fun s hs e _ => ?_) h2
  split
  · exact hP.respond_holds hs
  · exact hs

theorem Follows.clearMeters_holds {p : Nat} (h : P s) : P (clearMeters s p) := by
  have hrow : ∀ {n : Nat} {k : Nat}, n ≤ 13 → k ∈ List.range n → k + 1 < 256 := fun hn hk => by
    have := List.mem_range.mp hk
    omega
  exact foldl_holds (fun _ hs k hk => hP.setP_holds hs (by decide) (by decide) (hrow (by decide) hk))
    (foldl_holds (fun _ hs k hk => hP.setP_holds hs (by decide) (by decide) (hrow (by decide) hk)) h)

theorem Follows.finishFence_holds {p : Nat} (h : P s) : P (finishFence s p) := by
  have h1 : P (clearMeters s p) := hP.clearMeters_holds h
  unfold finishFence
  generalize clearMeters s p = s1 at h1
  exact hP.endPend_holds (hP.setPState_holds (s := updPad s1 p _) (hP.updPad_holds h1 (fun _ => rfl)))

theorem Follows.finishRecover_holds {p : Nat} (h : P s) : P (finishRecover s p) := by
  unfold finishRecover
  exact hP.endPend_holds (hP.setPState_holds (hP.keep h rfl))

/-! ### Mirror rings -/

theorem Follows.mirrorOne_holds {p seq : Nat} (h : P s) : P (mirrorOne p s seq) := by
  unfold mirrorOne
  extract_lets base
  split
  · exact h
  · split
    · exact h
    next hbase =>
      split
      · exact hP.dropped h hbase
      next t ht =>
        have h1 : P t := hP.ringPut_holds h ht
        exact hP.updPad_holds h1 (fun _ => rfl)

theorem Follows.mirrorAll_holds (h : P s) : P (mirrorAll s) := by
  refine foldl_holds (fun s hs e _ => ?_) h
  split
  · exact hs
  · exact foldl_holds (fun _ hs _ _ => hP.mirrorOne_holds hs) (s := updPad s e.1 _) (hP.updPad_holds hs (fun _ => rfl))

/-! ### The wake from SLEEP -/

theorem Follows.setTime_holds {st : Nat} (h : P s) : P (setTime s st) := by
  unfold setTime
  extract_lets was f s1
  split <;> exact hP.keep h rfl

/-! ### The end of a step -/

end

end Sys2Proof.Machine
end

/-! # The whole settling -/

section
namespace Sys2Proof.Machine
open Sys2Proof

section
variable {P : State → Prop} (hP : Drains P) {s t : State}
include hP

theorem Drains.unbindPool_holds {p l : Nat} (h : P s) : P (unbindPool p s l) := by
  unfold unbindPool
  split
  · exact h
  · extract_lets s1
    exact hP.sendControl_holds (s := s1) (hP.free h rfl)

theorem Drains.releaseUnnamed_holds {p : Nat} (h : P s) : P (releaseUnnamed s p) := by
  unfold releaseUnnamed
  extract_lets d c s1 s2
  have h1 : P s1 := hP.follows.releaseGranules_holds h
  have h2 : P s2 := foldl_holds (fun _ hs _ _ => hP.unbindPool_holds hs) h1
  exact hP.free h2 rfl

theorem Drains.clearPaddock_holds {p : Nat} (h : P s) : P (clearPaddock s p) := by
  unfold clearPaddock
  extract_lets d s1 s2
  have h1 : P s1 := foldl_holds (fun _ hs _ _ => hP.unbindPool_holds hs) h
  have h2 : P s2 := hP.follows.releaseGranules_holds h1
  exact hP.free h2 rfl

theorem Drains.finishRelease_holds {p : Nat} (h : P s) : P (finishRelease s p) := by
  unfold finishRelease
  extract_lets i
  split
  next u _ s1 _ =>
    have hu : P u := hP.free (hP.follows.answerWaiting_holds h) rfl
    exact hP.follows.zeroFailed_holds (hP.free hu rfl)
  next _ _ s1 _ =>
    have h1 : P s1 := by
      simp only [s1]
      split
      · exact hP.follows.formSnapshot_holds h
      · exact h
    exact hP.follows.endPend_holds (hP.follows.setPState_holds (hP.clearPaddock_holds (hP.follows.answerWaiting_holds h1)))

theorem Drains.openCommit_holds {p : Nat} (h : P s) : P (openCommit s p) := by
  have h1 : P (trimTlb (trimSlots (releaseUnnamed s p) p) p) :=
    hP.free (hP.follows.trimSlots_holds (hP.releaseUnnamed_holds h)) rfl
  have h2 : P (openWindow (trimTlb (trimSlots (releaseUnnamed s p) p) p) p) := hP.follows.openWindow_holds h1
  exact hP.free h2 rfl

theorem Drains.pendStep_holds {p : Nat} (h : P s) : P (pendStep s p) := by
  unfold pendStep
  split
  · exact h
  next x _ =>
    split
    · exact h
    · split
      · extract_lets dies s1
        exact foldl_holds (fun _ hs _ _ => hP.follows.sendFence_holds hs) (s := s1) (hP.free h rfl)
      · split
        · exact h
        · split
          · exact hP.follows.finishFence_holds h
          · exact hP.openCommit_holds h
          · split
            · exact h
            · exact hP.finishRelease_holds h
          · exact hP.follows.finishRecover_holds h
          · exact h

theorem Drains.releaseStep_holds {p : Nat} (h : P s) : P (releaseStep s p) := by
  unfold releaseStep
  split
  · exact h
  · split
    · extract_lets dies s1
      exact hP.pendStep_holds (foldl_holds (fun _ hs _ _ => hP.follows.sendFence_holds hs) (s := s1) (hP.free h rfl))
    · exact h

theorem Drains.releaseAll_holds (h : P s) : P (releaseAll s) := by
  refine foldl_holds (fun s hs e _ => ?_) h
  split
  · exact hP.releaseStep_holds hs
  · exact hs

theorem Drains.stopInjection_holds (h : P s) : P (stopInjection s) := by
  unfold stopInjection unscheduleAll
  refine foldl_holds (fun s hs l _ => ?_) (hP.free h rfl)
  split
  · exact hs
  · unfold unscheduleLink
    extract_lets s1
    exact hP.drainLink_holds (s := s1) (hP.free hs rfl)

theorem Drains.applyTimeRole_holds {role : Nat} (h : P s) : P (applyTimeRole s role) := by
  unfold applyTimeRole
  split
  · split
    · exact h
    · have h1 : P (setTime s 4) := hP.follows.setTime_holds h
      exact hP.free h1 rfl
  · split
    · exact hP.stopInjection_holds (hP.follows.setTime_holds h)
    · exact h

theorem Drains.wakeSleep_holds (h : P s) : P (wakeSleep s) := by
  unfold wakeSleep
  split
  · extract_lets s1
    have h1 : P s1 := hP.setO_holds h (.inl (by decide)) (by decide)
    exact hP.applyTimeRole_holds (hP.free h1 rfl)
  · exact h

theorem Drains.larkWake_holds (h : P s) : P (larkWake s) := by
  unfold larkWake
  split
  · exact h
  next k _ =>
    unfold wakeBy
    split
    · refine hP.wakeSleep_holds ?_
      unfold wakeDoze
      split <;> exact hP.free h rfl
    · exact hP.free h rfl

/-- What holds once the waiting requests are served holds once the block has settled. -/
theorem Drains.settle_holds (h : P (serveBehind s.obj.behind.length s)) : P (settle s) := by
  unfold settle carryOn
  have h1 : P (finishAllCtx (faultStruck (advanceGroups (retryHeld (serveBehind s.obj.behind.length s))))) :=
    hP.follows.finishAllCtx_holds (hP.follows.faultStruck_holds (hP.follows.advanceGroups_holds (hP.follows.retryHeld_holds h)))
  exact hP.deliver_holds (hP.larkWake_holds (hP.follows.mirrorAll_holds (hP.releaseAll_holds h1)))

end

end Sys2Proof.Machine
end

/-! # What the block never does on its own: start an erase, or log a pause watchdog

After every command the block settles. On the way it queues no erase of a flash block; and the only way in which it moves a view's count of
dropped entries (R144) without metering a paddock is an entry of its own in the global error queue, whose code is never 0x0C09. -/

section
namespace Sys2Proof.Machine
open Sys2Proof

/-! ### The watch -/

/-- The erases that wait for the flash. -/
def erasesDue (s : State) : List FlashOp := s.store.work.filter FlashOp.isErase

/-- The code of the newest entry of the global error queue. -/
def newestCode (s : State) : Option Nat := s.log.geq.getLast?.map (·.code)

/-- What is watched: the erases due and, where a paddock is named, how many entries its view has dropped. -/
structure Watch where
  due : List FlashOp
  pad : Option Nat := none
  dropped : Nat := 0

/-- The view of paddock p has no mirror ring, and has dropped n entries unless the newest entry is of another cause than 0x0C09. -/
def Unmoved (p n : Nat) (s : State) : Prop := getP s p 0x50 0x0A = 0 ∧ (newestCode s = some 0x0C09 → getP s p 0x50 9 = n)

/-- No erase has come, and no pause watchdog has been logged. -/
def Steady (W : Watch) (s : State) : Prop := erasesDue s = W.due ∧ ∀ p ∈ W.pad, Counted s ∨ Unmoved p W.dropped s

section
variable {W : Watch} {s t : State}

/-- Only the live objects, the queue's entries and the flash's work are watched. -/
theorem steady_of (h : Steady W s) (hbare : bare t = bare s) : Steady W t := by
  simp only [bare, Prod.mk.injEq] at hbare
  obtain ⟨hlive, _, hlog, hwork, _, _⟩ := hbare
  simpa only [Steady, erasesDue, Counted, Unmoved, newestCode, getP, getO, hlive, hlog, hwork] using h

/-! ### Objects -/

/-- A write of an object that is not of a view's block of error entries. -/
theorem setO_steady (h : Steady W s) {i sub : Nat} (v : Nat) (hi : i < 0x4000 ∨ i % 256 ≠ 0x50) (hsub : sub < 256) : Steady W (setO s i sub v) := by
  obtain ⟨hdue, hpad⟩ := h
  refine ⟨hdue, fun p hp => (hpad p hp).imp (fun h => h.of_setO i sub v) (fun h => ?_)⟩
  have hne : ∀ k, k < 256 → okey i sub ≠ okey (pidx p 0x50) k := by
    intro k hk
    simp only [okey, pidx]
    omega
  obtain ⟨hbase, hdropped⟩ := h
  refine ⟨?_, fun hc => ?_⟩
  · rw [getP, getO_setO_ne (hne _ (by decide))]
    exact hbase
  · rw [getP, getO_setO_ne (hne _ (by decide))]
    exact hdropped hc

/-- A view whose ring drops an entry is not the one that is watched. -/
theorem dropped_steady {p : Nat} (h : Steady W s) (hbase : getP s p 0x50 0x0A ≠ 0) : Steady W (addO s (pidx p 0x50) 9 1 32) := by
  obtain ⟨hdue, hpad⟩ := h
  refine ⟨hdue, fun q hq => (hpad q hq).imp (fun hc => hc.of_setO _ _ _) (fun hu => ?_)⟩
  have hqp : q ≠ p := by
    rintro rfl
    exact hbase hu.1
  have hne : ∀ k, k < 256 → okey (pidx p 0x50) 9 ≠ okey (pidx q 0x50) k := by
    intro k hk
    simp only [okey, pidx]
    omega
  exact ⟨(getO_setO_ne (hne _ (by decide)) s _).trans hu.1, fun hn => (getO_setO_ne (hne _ (by decide)) s _).trans (hu.2 hn)⟩

/-! ### Entries of the global error queue and the flash -/

theorem getLast_dropped (l : List Entry) (e : Entry) : ((l ++ [e]).drop (l.length + 1 - 4096)).getLast? = some e := by
  rw [List.getLast?_drop]
  simp

/-- Making room for an entry touches at most the count of entries that a view has dropped. -/
theorem geqRoom_cases (s : State) : geqRoom s = s ∨ ∃ p, geqRoom s = addO s (pidx p 0x50) 9 1 32 := by
  unfold geqRoom
  split
  · exact .inl rfl
  · split
    · exact .inl rfl
    next o _ _ =>
      split
      · exact .inl rfl
      · exact .inr ⟨o.p, rfl⟩

theorem Counted.geqRoom (h : Counted s) : Counted (geqRoom s) := by
  obtain h' | ⟨p, h'⟩ := geqRoom_cases s <;> rw [h']
  · exact h
  · exact h.of_setO _ _ _

theorem erasesDue_geqRoom (s : State) : erasesDue (geqRoom s) = erasesDue s := by
  obtain h | ⟨p, h⟩ := geqRoom_cases s <;> rw [h]
  rfl

theorem getP_geqRoom (s : State) (p : Nat) : getP (geqRoom s) p 0x50 0x0A = getP s p 0x50 0x0A := by
  obtain h | ⟨q, h⟩ := geqRoom_cases s <;> rw [h]
  refine getO_setO_ne ?_ s _
  simp only [okey]
  omega

theorem larkSee_steady {kind src : Nat} (h : Steady W s) : Steady W (larkSee s kind src) := by
  unfold larkSee
  split <;> exact h

theorem fire_steady {src : Nat} (h : Steady W s) : Steady W (fire s src) := by
  unfold fire raise
  exact larkSee_steady h

theorem geqNote_steady {e : Entry} (h : Steady W s) : Steady W (geqNote s e) := by
  unfold geqNote
  split <;> exact h

/-- An entry of a paddock moves its view's counter. -/
theorem geqTell_pad_steady {e : Entry} (h : erasesDue s = W.due) (hd : e.dev = false) : Steady W (geqTell s e) := by
  have hbump : Steady W (bump s e.p 0x80 6 1) := ⟨h, fun _ _ => .inl (counted_bump _ _ _ (.inr rfl) (by decide))⟩
  rw [geqTell, if_neg (by rw [hd]; decide)]
  exact fire_steady (geqNote_steady hbump)

theorem erasesDue_logWith (s : State) (log : Logs) (poisoned : List Nat) : erasesDue (logWith s log poisoned) = erasesDue s := rfl

theorem Counted.logWith (h : Counted s) (log : Logs) (poisoned : List Nat) : Counted (logWith s log poisoned) := h

theorem getP_logWith (s : State) (log : Logs) (poisoned : List Nat) (p off sub : Nat) :
    getP (logWith s log poisoned) p off sub = getP s p off sub := rfl

theorem newestCode_logWith (s : State) (log : Logs) (e : Entry) (poisoned : List Nat) :
    newestCode (logWith s (geqLog log e) poisoned) = some e.code := by
  simp only [newestCode, logWith, geqLog, getLast_dropped, Option.map_some]

theorem logWith_steady {e : Entry} {poisoned : List Nat} (h : Steady W s) (hc : e.code ≠ 0x0C09) :
    Steady W (logWith (geqRoom s) (geqLog (geqRoom s).log e) poisoned) := by
  obtain ⟨hdue, hpad⟩ := h
  refine ⟨(erasesDue_logWith ..).trans ((erasesDue_geqRoom s).trans hdue), fun p hp =>
    (hpad p hp).imp (fun h => h.geqRoom.logWith _ _) (fun hu => ⟨(getP_logWith ..).trans ((getP_geqRoom s p).trans hu.1), fun hn => ?_⟩)⟩
  rw [newestCode_logWith] at hn
  exact absurd (Option.some.inj hn) hc

/-- An entry of the device is of another cause. -/
theorem geq_steady {e : Entry} (h : Steady W s) (hc : e.dev = true → e.code ≠ 0x0C09) : Steady W (geq s e) := by
  rw [geq_eq]
  cases hd : e.dev with
  | false => exact geqTell_pad_steady ((erasesDue_logWith ..).trans ((erasesDue_geqRoom s).trans h.1)) hd
  | true =>
    have hcode : (stamped s e).code ≠ 0x0C09 := hc hd
    have hdev : (stamped s e).dev = true := hd
    rw [geqTell_dev hdev]
    exact fire_steady (logWith_steady h hcode)

theorem flash_steady {op : FlashOp} (h : Steady W s) (hop : op.isErase = false) : Steady W (flash s op) := by
  obtain ⟨hdue, hpad⟩ := h
  refine ⟨?_, hpad⟩
  rw [← hdue]
  simp [erasesDue, flash, hop]

/-- Counts of live objects queue no erase. -/
theorem Grows.erasesDue (h : Grows s t) : erasesDue t = erasesDue s := by
  obtain ⟨h, _⟩ := h
  simp only [followed, bare, Prod.mk.injEq] at h
  obtain ⟨⟨_, _, _, hwork, _⟩, _⟩ := h
  exact congrArg (List.filter FlashOp.isErase) hwork

/-- The watch survives all that the block does on its own. -/
theorem steady_drains (W : Watch) : Drains (Steady W) where
  keep h hf := steady_of h (congrArg Prod.fst hf)
  setO_holds h hi hsub := setO_steady h _ hi hsub
  setAny _ _ _ h hc := ⟨h.1, fun _ _ => .inl (hc.of_setO _ _ _)⟩
  tally h hg hrow := ⟨hg.erasesDue.trans h.1, fun _ _ => .inl (counted_bump _ _ _ (.inl rfl) hrow)⟩
  geq_holds := geq_steady
  flash_holds := flash_steady
  dropped := dropped_steady
  ended h := h
  free := steady_of

end

end Sys2Proof.Machine
end

/-! # A full error queue against the pause watchdog -/

section
namespace Sys2Proof.Machine
open Sys2Proof

/-! ### A block with nothing to go on with -/

section
variable {s : State}

theorem faultStruck_nothing (h : s.rick.struck = []) : faultStruck s = s := by
  obtain ⟨_, _, _, _, _, _, _, _, _, _, _, _, _, _, ⟨_, _, _, _, _, _, _, _, _, _, _, _, _, _⟩, _, _, _, _, _, _, _, _, _⟩ := s
  subst h
  rfl

/-- Nothing waits, no paddock is there and no wake is due: the block does nothing on its own. -/
theorem carryOn_nothing (hbehind : s.obj.behind = []) (hheld : s.cmd.heldReads = []) (hgroups : s.sheaf.groups = []) (hstruck : s.rick.struck = [])
    (hpads : s.pads = []) (hwake : s.ev.wake = none) : carryOn s = s := by
  have h1 : serveBehind s.obj.behind.length s = s := by rw [hbehind]; rfl
  have h2 : retryHeld s = s := by rw [retryHeld, hheld]; rfl
  have h3 : advanceGroups s = s := by rw [advanceGroups, hgroups]; rfl
  have h4 : finishAllCtx s = s := by rw [finishAllCtx, hpads]; rfl
  have h5 : releaseAll s = s := by rw [releaseAll, hpads]; rfl
  have h6 : mirrorAll s = s := by rw [mirrorAll, hpads]; rfl
  have h7 : larkWake s = s := by rw [larkWake, hwake]
  rw [carryOn, h1, h2, h3, faultStruck_nothing hstruck, h4, h5, h6, h7]

/-! ### What a delivery counts -/

theorem find_deliverOne {key : Nat} (hk : okey 0x1E00 1 ≠ key) (x : State × List (Target × Nat)) (src : Nat) :
    Tbl.find (deliverOne x src).1.obj.live key = Tbl.find x.1.obj.live key := by
  obtain ⟨s, seen⟩ := x
  have ha : Tbl.find (addO s 0x1E00 1 1 64).obj.live key = Tbl.find s.obj.live key := Tbl.find_set_ne hk _ _
  unfold deliverOne
  dsimp -zeta only
  extract_lets t
  split
  · rfl
  next f _ =>
    extract_lets v s1
    split
    · rfl
    · simp only [s1]
      split
      · rw [msix_obj]
        exact ha
      · exact ha

theorem find_deliver {key : Nat} (hk : okey 0x1E00 1 ≠ key) (s : State) : Tbl.find (deliver s).obj.live key = Tbl.find s.obj.live key := by
  have h1 : Tbl.find ((deliverNow s).foldl deliverOne (s, [])).1.obj.live key = Tbl.find s.obj.live key :=
    foldl_keeps (fun x : State × List (Target × Nat) => Tbl.find x.1.obj.live key) deliverOne (fun x src => find_deliverOne hk x src) _ _
  have h2 : ∀ (l : List Nat) (s : State), (l.foldl startHoldoff s).obj = s.obj :=
    foldl_keeps (fun s : State => s.obj) startHoldoff (fun s src => by
      unfold startHoldoff
      dsimp only
      split
      · rfl
      · split <;> rfl)
  refine Eq.trans ?_ h1
  exact congrArg (fun o : Objs => Tbl.find o.live key) (h2 _ _)

theorem deliver_log (s : State) : (deliver s).log = s.log := (congrArg State.log (deliver_frame s) :)

/-! ### The wake -/

theorem larkSee_no_slot (h : s.ev.lark = []) (kind src : Nat) :
    (larkSee s kind src).ev.wake = s.ev.wake ∧ (larkSee s kind src).ev.lark = [] := by
  have he : larkSee s kind src = s := by
    rw [larkSee, h]
    rfl
  rw [he]
  exact ⟨rfl, h⟩

theorem fire_no_slot (h : s.ev.lark = []) (src : Nat) : (fire s src).ev.wake = s.ev.wake ∧ (fire s src).ev.lark = [] := by
  unfold fire raise
  exact larkSee_no_slot (by exact h) 0 src

/-! ### An entry of the device -/

theorem geqRoom_ev (s : State) : (geqRoom s).ev = s.ev := by
  obtain h | ⟨p, h⟩ := geqRoom_cases s <;> rw [h]
  rfl

theorem logWith_ev (s : State) (log : Logs) (poisoned : List Nat) : (logWith s log poisoned).ev = s.ev := rfl

theorem logDev_obj_eq (s : State) (code sev : Nat) (facts : List Nat) : (logDev s code sev facts).obj = (geqRoom s).obj := by
  rw [logDev, geq_eq, geqTell_dev rfl, fire_obj, logWith_obj]

theorem newestCode_logDev (s : State) (code sev : Nat) (facts : List Nat) : newestCode (logDev s code sev facts) = some code := by
  rw [newestCode, logDev, geq_eq, geqTell_dev rfl, fire_log]
  exact newestCode_logWith _ _ _ _

theorem logDev_no_slot (h : s.ev.lark = []) (code sev : Nat) (facts : List Nat) :
    (logDev s code sev facts).ev.wake = s.ev.wake ∧ (logDev s code sev facts).ev.lark = [] := by
  rw [logDev, geq_eq, geqTell_dev rfl]
  generalize geqLog _ _ = log, List.filter _ _ = poisoned
  have hev : (logWith (geqRoom s) log poisoned).ev = s.ev := (logWith_ev ..).trans (geqRoom_ev s)
  generalize logWith (geqRoom s) log poisoned = t at hev
  rw [← hev] at h ⊢
  exact fire_no_slot h 736

end

/-! ### The counterexample -/

/-- An entry of paddock 0 that its tenant has not cleared. -/
def oldEntry : Entry := { code := 1, sev := 0, dev := false }

/-- A running device whose error queue holds 4,096 entries of paddock 0. -/
def fullQueue : State := { State.reset with sys.boot := 2, log.geq := oldEntry :: List.replicate 4095 oldEntry }

/-- The same once its PAUSE watchdog has struck. -/
def pausedQueue : State := { fullQueue with pow.ethStats := join fullQueue.pow.ethStats 128 }

theorem geqRoom_pausedQueue : geqRoom pausedQueue = addO pausedQueue (pidx 0 0x50) 9 1 32 := by
  have hlen : ¬ pausedQueue.log.geq.length < 4096 := by
    show ¬ (oldEntry :: List.replicate 4095 oldEntry).length < 4096
    rw [List.length_cons, List.length_replicate]
    decide
  rw [geqRoom, if_neg hlen]
  rfl

theorem doPauseWatchdog_fullQueue : doPauseWatchdog fullQueue = fire (logDev pausedQueue 0x0C09 0 []) 849 := rfl

/-- The entry of the watchdog drops the oldest entry of paddock 0's view, which counts it. -/
theorem obj_pauseWatchdog : (doPauseWatchdog fullQueue).obj = (addO pausedQueue (pidx 0 0x50) 9 1 32).obj := by
  rw [doPauseWatchdog, fire_obj, logDev_obj_eq]
  exact congrArg State.obj geqRoom_pausedQueue

theorem live_pauseWatchdog : (doPauseWatchdog fullQueue).obj.live = [(okey (pidx 0 0x50) 9, 1)] := by
  rw [obj_pauseWatchdog]
  rfl

theorem newestCode_pauseWatchdog : newestCode (doPauseWatchdog fullQueue) = some 0x0C09 := by
  rw [doPauseWatchdog, newestCode, fire_log]
  exact newestCode_logDev _ _ _ _

theorem carryOn_pauseWatchdog : carryOn (doPauseWatchdog fullQueue) = doPauseWatchdog fullQueue := by
  have hslot : (logDev pausedQueue 0x0C09 0 []).ev.wake = none ∧ (logDev pausedQueue 0x0C09 0 []).ev.lark = [] := logDev_no_slot rfl _ _ _
  refine carryOn_nothing ?behind ?held ?groups ?struck ?pads ?wake
  case behind =>
    rw [obj_pauseWatchdog]
    rfl
  case held =>
    rw [doPauseWatchdog, fire_cmd, logDev_cmd]
    rfl
  case groups =>
    rw [doPauseWatchdog, fire_sheaf, logDev_sheaf]
    rfl
  case struck =>
    rw [doPauseWatchdog, fire_rick, logDev, rick_geq]
    rfl
  case pads =>
    rw [doPauseWatchdog, fire_pads, logDev_pads]
    rfl
  case wake =>
    rw [doPauseWatchdog_fullQueue]
    exact (fire_no_slot hslot.2 849).1.trans hslot.1

theorem find_settled (key : Nat) (hk : okey 0x1E00 1 ≠ key) :
    Tbl.find (settle (doPauseWatchdog fullQueue)).obj.live key = Tbl.find [(okey (pidx 0 0x50) 9, 1)] key := by
  rw [settle, carryOn_pauseWatchdog, find_deliver hk, live_pauseWatchdog]

/-- No paddock is counted for by the watchdog's entry. -/
theorem not_counted_settled : ¬ Counted (settle (doPauseWatchdog fullQueue)) := by
  rintro ⟨p, off, row, hoff, hrow, h⟩
  have hne : okey 0x1E00 1 ≠ okey (pidx p off) row := by
    simp only [okey, pidx]
    omega
  rw [find_settled _ hne] at h
  have hkey : okey (pidx 0 0x50) 9 ≠ okey (pidx p off) row := by
    simp only [okey, pidx]
    omega
  rw [Tbl.find, if_neg hkey] at h
  exact Bool.noConfusion h

/-- Refutes O58: the entry 0x0C09 of the PAUSE watchdog drops the oldest entry of a full error queue, and the count of dropped entries is an
object of the paddock's view: the objects do not stay as they were. -/
theorem not_powerStatesAndEthernet : ¬ Obligations.PowerStatesAndEthernet := by
  intro h
  obtain ⟨_, heth⟩ := h
  obtain ⟨_, ⟨u, hu, _, _, _, hobj⟩, _⟩ := heth fullQueue (by decide)
  have hsettle : settle (doPauseWatchdog fullQueue) = settle u :=
    Host.Outcome.next.inj ((ran_next (s := fullQueue) (t := doPauseWatchdog fullQueue) (by decide)).symm.trans hu)
  have hstart : Steady { due := erasesDue u, pad := some 0 } u := by
    refine ⟨rfl, fun p hp => .inr ?_⟩
    obtain rfl := Option.mem_some.mp hp
    refine ⟨?_, fun _ => ?_⟩
    all_goals rw [getP, getO_of_obj hobj]; rfl
  have hbehind : serveBehind u.obj.behind.length u = u := by rw [hobj]; rfl
  obtain ⟨_, hend⟩ := (steady_drains _).settle_holds (by rw [hbehind]; exact hstart)
  rw [← hsettle] at hend
  obtain hc | ⟨_, hn⟩ := hend 0 rfl
  · exact not_counted_settled hc
  · have hcode : newestCode (settle (doPauseWatchdog fullQueue)) = some 0x0C09 := by
      rw [newestCode, settle, carryOn_pauseWatchdog, deliver_log]
      exact newestCode_pauseWatchdog
    have hone : getP (settle (doPauseWatchdog fullQueue)) 0 0x50 9 = 1 := by
      rw [getP, getO, find_settled _ (by decide)]
      rfl
    exact absurd ((hn hcode).symm.trans hone) Nat.zero_ne_one

end Sys2Proof.Machine
end

/-! # A full journal against the rewriting of the boot record -/

section
namespace Sys2Proof.Machine
open Sys2Proof

/-- While MGT waits to answer a request, those behind it wait too. -/
theorem serveBehind_waiting {s : State} {w : Path × Tag} (h : s.obj.serving = some w) : ∀ n, serveBehind n s = s
  | 0 => rfl
  | n + 1 => by
    rw [serveBehind, h]

/-- Settling neither starts nor ends an erase while MGT waits to answer a request. -/
theorem erasesDue_settle {s : State} {w : Path × Tag} (h : s.obj.serving = some w) : erasesDue (settle s) = erasesDue s := by
  have hstart : Steady { due := erasesDue s } s := ⟨rfl, fun _ hp => absurd hp (Option.not_mem_none _)⟩
  obtain ⟨hdue, _⟩ := (steady_drains _).settle_holds (by rw [serveBehind_waiting h]; exact hstart)
  exact hdue

/-- A device whose other firmware slot is READY, with four good blocks for its journal and one record in it: the next record needs a
CHECKPOINT first. -/
def fullJournal : State :=
  { State.reset with sys.boot := 3, sec.st := 1, store.slots := [4, 2], store.factoryBad := (List.range 60).map (4 + ·),
                     store.journal := [{ seq := 0, type := 2, data := [], boot := 0, time := 0 }], store.jseq := 1 }

/-- The same after FW_ACTIVATE from the PF mailbox. -/
def rewriting : State := serve fullJournal .pf (writeReq 1 0x2202 5 1) [1] {} fullJournal.sys.bootFacts

theorem boot_fullJournal : fullJournal.sys.boot = 3 := rfl

theorem exec_rewriting : exec (.fwActivate .pf 1) fullJournal = .next (settle rewriting) := ran_next (by rw [boot_fullJournal]; decide)

theorem managerAsks_fullJournal : ManagerAsks fullJournal .pf := by
  unfold ManagerAsks Serves
  decide +kernel

theorem serving_rewriting : rewriting.obj.serving = some (.pf, 1) := by decide +kernel

/-- The CHECKPOINT erases the block with the older records besides the four copies. -/
theorem erasesDue_rewriting : erasesDue rewriting = [.erase 3, .erase 2, .erase 1, .erase 0, .erase 64] := by decide +kernel

/-- Refutes O60: FW_ACTIVATE journals the start of the first erase (R618); where the journal is full a CHECKPOINT comes before the record (R616),
and the erase of the journal's old block joins the flash queue behind the copies of the boot record. -/
theorem not_firmwareUpdateFollowsItsTransitions : ¬ Obligations.FirmwareUpdateFollowsItsTransitions := by
  intro h
  obtain ⟨_, _, _, _, _, hactivate, _⟩ := h fullJournal .pf 1 1 managerAsks_fullJournal (by decide +kernel)
  obtain ⟨u, gen, a, b, hu, _, _, hwork, _, _, hserving, _⟩ := hactivate (by decide +kernel) (by decide +kernel) (by decide +kernel)
  have hsettle : settle rewriting = settle u := Host.Outcome.next.inj (exec_rewriting.symm.trans hu)
  have hdue : erasesDue u = [.erase 3, .erase 2, .erase 1, .erase 0, .erase 64] := by
    rw [← erasesDue_settle hserving, ← hsettle, erasesDue_settle serving_rewriting, erasesDue_rewriting]
  rw [erasesDue, hwork] at hdue
  exact absurd (congrArg List.length hdue) (show 4 ≠ 5 by decide)

end Sys2Proof.Machine
end

/-! # What a secondary half keeps while it serves requests

The secondary half refuses all DRAFT and CMD writes but a few (R574). What it does carry out leaves the committed version, the step of the
start-up, and that the halves are one unit. -/

section
namespace Sys2Proof.Machine
open Sys2Proof

/-- The half is in step b of the start-up with the committed version c, and one unit with the other half. -/
def Half (b : Nat) (c : Tbl Nat) (s : State) : Prop := s.sys.boot = b ∧ s.obj.committed = c ∧ (s.pair.st = 2 ∨ s.pair.st = 3)

/-- What a half is in. -/
def footing (s : State) : Nat × Tbl Nat × Nat := (s.sys.boot, s.obj.committed, s.pair.st)

section
variable {b : Nat} {c : Tbl Nat} {s t : State}

theorem half_of (h : Half b c s) (e : footing t = footing s) : Half b c t := by
  simp only [footing, Prod.mk.injEq] at e
  obtain ⟨hboot, hcommitted, hpair⟩ := e
  simpa only [Half, hboot, hcommitted, hpair] using h

theorem footing_of_bare (e : bare t = bare s) : footing t = footing s := by
  simp only [bare, Prod.mk.injEq] at e
  obtain ⟨_, hcommitted, _, _, hboot, hpair⟩ := e
  simp only [footing, hcommitted, hboot, hpair]

theorem footing_geq (s : State) (e : Entry) : footing (geq s e) = footing s := by
  have hc : (geq s e).obj.committed = s.obj.committed := (congrArg Objs.committed (geq_conf s e) :)
  simp only [footing, geq_sys, geq_pair, hc]

theorem footing_of_grows (h : Grows s t) : footing t = footing s :=
  (footing_of_bare (congrArg Prod.fst h.1) : footing { t with obj.live := s.obj.live } = footing s)

/-- What the block does on its own leaves the footing. -/
theorem footing_drains (R : Nat × Tbl Nat × Nat → Prop) : Drains (fun s => R (footing s)) where
  keep h hf := footing_of_bare (congrArg Prod.fst hf) ▸ h
  setO_holds h _ _ := h
  setAny _ _ _ h _ := h
  tally {_ t _ _ _} h hg _ := show R (footing t) from footing_of_grows hg ▸ h
  geq_holds {s e} h _ := show R (footing (geq s e)) from (footing_geq s e).symm ▸ h
  flash_holds h _ := h
  dropped h _ := h
  ended h := h
  free h hf := footing_of_bare hf ▸ h

theorem half_drains (b : Nat) (c : Tbl Nat) : Drains (Half b c) :=
  footing_drains (fun x => x.1 = b ∧ x.2.1 = c ∧ (x.2.2 = 2 ∨ x.2.2 = 3))

/-! ### Commands that are killed -/

theorem logDev_half {code sev : Nat} {facts : List Nat} (h : Half b c s) : Half b c (logDev s code sev facts) := half_of h (footing_geq ..)

theorem fire_half {n : Nat} (h : Half b c s) : Half b c (fire s n) := (half_drains b c).fire_holds h

theorem advanceEpoch_half {p k : Nat} (h : Half b c s) : Half b c (advanceEpoch s p k) := h

theorem unwait_half {p k : Nat} (h : Half b c s) : Half b c (unwait s p k) := by
  unfold unwait
  split
  · split
    · split <;> exact h
    · exact h
  · exact h

theorem killBatch_half {ids : List Nat} {why : Stop} (h : Half b c s) : Half b c (killBatch s ids why) := by
  have hP := (half_drains b c).follows
  unfold killBatch
  extract_lets mine who s1 gone s2
  split
  · exact foldl_holds (fun _ hs _ _ => hP.updCmd_holds hs) h
  · have h1 : Half b c s1 := foldl_holds (fun _ hs _ _ => hP.stopCmd_holds hs) h
    have h2 : Half b c s2 := by
      refine foldl_holds (fun s hs e _ => ?_) h1
      split
      · split
        · exact hs
        · exact advanceEpoch_half hs
      · exact hs
    refine foldl_holds (fun s hs e _ => hP.afterEnd_holds ?_) h2
    split
    · exact unwait_half hs
    · exact hs

/-! ### The sides and functions -/

theorem sideReset_half {side : Nat} (h : Half b c s) : Half b c (sideReset s side) := by
  unfold sideReset
  extract_lets mine ids src s1 s2 s3 ms s4 s5 src' s6
  have h2 : Half b c s2 := by
    refine foldl_holds (fun s hs id _ => ?_) (s := s1) h
    split
    · exact (half_drains b c).updCmd_holds hs
    · exact hs
  have h3 : Half b c s3 := killBatch_half h2
  have h4 : Half b c s4 := foldl_holds (fun _ hs _ _ => hs) h3
  have h5 : Half b c s5 := foldl_holds (fun _ hs _ _ => fire_half (s := updTpm _ _ _) hs) h4
  exact logDev_half (fire_half (s := s6) h5)

theorem flr_half {p : Nat} (h : Half b c s) : Half b c (flr s p) := by
  have hP := (half_drains b c).follows
  unfold flr
  split
  · exact h
  · extract_lets src s1 n s2
    have h2 : Half b c s2 := foldl_holds (fun _ hs _ _ => hP.stopCtx_holds hs) (s := s1) h
    split
    · exact h2
    · exact hP.logPad_holds h2

theorem flrAll_half (h : Half b c s) : Half b c (flrAll s) := foldl_holds (fun _ hs _ _ => flr_half hs) h

theorem resetDraft_half (h : Half b c s) : Half b c (resetDraft s) := h

theorem pfReset_half (h : Half b c s) : Half b c (doPfFunctionLevelReset s) := by
  unfold doPfFunctionLevelReset
  extract_lets s1 s2
  have h1 : Half b c s1 := flrAll_half h
  have h2 : Half b c s2 := by
    simp only [s2]
    split
    · exact resetDraft_half h1
    · exact h1
  exact fire_half ((half_drains b c).updFunc_holds h2)

/-! ### Keys and links -/

theorem clearSel_half {p k : Nat} (h : Half b c s) : Half b c (clearSel s p k) := by
  unfold clearSel
  extract_lets e s1
  split
  · exact (half_drains b c).respond_holds (s := s1) h
  · exact h

theorem zeroPaddockKeys_half {p : Nat} (h : Half b c s) : Half b c (zeroPaddockKeys s p) := by
  unfold zeroPaddockKeys
  extract_lets d s1 s2
  have h1 : Half b c s1 := foldl_holds (fun _ hs _ _ => clearSel_half hs) h
  exact h1

theorem zeroAllKeys_half (h : Half b c s) : Half b c (zeroAllKeys s) := by
  have h1 : Half b c (s.pads.foldl (fun s e => zeroPaddockKeys s e.1) s) := foldl_holds (fun _ hs _ _ => zeroPaddockKeys_half hs) h
  exact h1

/-- The ports of a unit come and go, and the halves stay one unit. -/
theorem pairPorts_half {before : Nat} (h : Half b c s) : Half b c (pairPorts s before) := by
  obtain ⟨hboot, hcommitted, hpair⟩ := h
  unfold pairPorts
  extract_lets n src s1
  have h1 : Half b c s1 := by
    simp only [s1]
    split
    · exact killBatch_half ⟨hboot, hcommitted, hpair⟩
    · exact ⟨hboot, hcommitted, hpair⟩
  split
  · exact ⟨hboot, hcommitted, .inr rfl⟩
  · split
    · split
      · exact ⟨h1.1, h1.2.1, .inl rfl⟩
      · exact h1
    · split
      next h0 =>
        simp only [Bool.and_eq_true, decide_eq_true_eq] at h0
        omega
      · exact ⟨hboot, hcommitted, hpair⟩

theorem setLState_half {l : Nat} {st : LState} (h : Half b c s) : Half b c (setLState s l st) := by
  unfold setLState
  extract_lets before s1
  have h1 : Half b c s1 := h
  split
  · exact fire_half h1
  · exact pairPorts_half h1

theorem resend_half {qpn l : Nat} {u : Nat × Bytes} (h : Half b c s) : Half b c (resend s qpn l u) := by
  unfold resend
  extract_lets s1
  exact (half_drains b c).follows.sendOn_holds (s := bump s1 _ _ _ _) h

theorem rebindPath_half {qpn l i : Nat} (h : Half b c s) : Half b c (rebindPath qpn l s i) := by
  unfold rebindPath
  extract_lets p
  split
  · exact h
  · split
    · exact h
    · split
      · exact h
      · extract_lets s1 s2
        have h2 : Half b c s2 := (half_drains b c).logPad_holds (s := s1) h
        exact foldl_holds (fun _ hs _ _ => resend_half hs) h2

theorem rebind_half {l : Nat} (h : Half b c s) : Half b c (rebind s l) :=
  foldl_holds (fun _ hs _ _ => foldl_holds (fun _ hs _ _ => rebindPath_half hs) hs) h

theorem toDown_half {l : Nat} (h : Half b c s) : Half b c (toDown s l) := by
  unfold toDown
  extract_lets s1
  have h1 : Half b c s1 := setLState_half (s := updLink (logDev s 0x0704 0 [l]) l clearLink) (logDev_half h)
  exact rebind_half h1

/-! ### Islands -/

theorem mgtLost_half (h : Half b c s) : Half b c (mgtLost s) := h

theorem faultPads_half {ps : List Nat} {code : Nat} (h : Half b c s) : Half b c (faultPads s ps code) :=
  (half_drains b c).follows.faultPads_holds h

theorem secLost_half (h : Half b c s) : Half b c (secLost s) := by
  unfold secLost
  extract_lets hit s1
  have h1 : Half b c s1 := zeroAllKeys_half h
  exact faultPads_half ((half_drains b c).cairn_holds (logDev_half h1))

theorem hstLost_half (h : Half b c s) : Half b c (hstLost s) := by
  unfold hstLost
  extract_lets s1
  have h1 : Half b c s1 := pfReset_half h
  clear_value s1
  have h2 : Half b c { s1 with host.outst := [], host.quar := [] } := h1
  exact fire_half ((half_drains b c).setO_holds h2 (.inl (by decide)) (by decide))

theorem downs_half {ls : List Nat} {f : Nat → Nat} (h : Half b c s) :
    Half b c (ls.foldl (fun s j => if (link s (f j)).st = .disabled then s else toDown s (f j)) s) := by
  refine foldl_holds (fun s hs j _ => ?_) h
  split
  · exact hs
  · exact toDown_half hs

theorem lnkLost_half {k : Nat} (h : Half b c s) : Half b c (lnkLost s k) := downs_half h

theorem pairLost_half (h : Half b c s) : Half b c (pairLost s) := downs_half h

theorem qpDead_half {n code : Nat} (h : Half b c s) : Half b c (qpDead s n code) := h

theorem trnLost_half (h : Half b c s) : Half b c (trnLost s) := by
  have hP := (half_drains b c).follows
  unfold trnLost
  extract_lets qps s1 live who s2 src src' s3 s4
  have h1 : Half b c s1 := foldl_holds (fun _ hs _ _ => hP.logPad_holds (qpDead_half hs)) h
  have h2 : Half b c s2 := foldl_holds (fun _ hs _ _ => hP.killCmd_holds hs) h1
  have h4 : Half b c s4 := by
    refine foldl_holds (fun s hs e _ => ?_) (s := s3) h2
    split
    · split
      · exact hs
      · exact unwait_half (advanceEpoch_half hs)
    · exact hs
  exact foldl_holds (fun _ hs _ _ => hP.afterEnd_holds hs) h4

theorem ftmLost_half (h : Half b c s) : Half b c (ftmLost s) := by
  have hP := half_drains b c
  unfold ftmLost
  extract_lets was src src' s1
  have h0 : Half b c (setTime s 0) := hP.follows.setTime_holds h
  have h1 : Half b c s1 := hP.stopInjection_holds h0
  split
  · exact fire_half h1
  · exact h1

theorem islandLost_half {i : Nat} (h : Half b c s) : Half b c (islandLost s i) := by
  unfold islandLost
  split
  · exact mgtLost_half h
  · exact secLost_half h
  · exact hstLost_half h
  · exact trnLost_half h
  · exact h
  · exact h
  · exact ftmLost_half h
  · exact pairLost_half h
  · split
    · exact lnkLost_half h
    · exact h

theorem islandReset_half {i : Nat} (h : Half b c s) : Half b c (islandReset s i) := by
  unfold islandReset
  split
  · exact h
  · split
    · exact sideReset_half h
    · extract_lets users src s1 s2 s3 src'
      have h2 : Half b c s2 := by
        simp only [s2]
        split
        · exact h
        · exact killBatch_half (s := s1) h
      have h3 : Half b c s3 := islandLost_half h2
      split <;> exact h3

/-! ### Other commands of a secondary half -/

theorem hardFence_half {n : Nat} (h : Half b c s) : Half b c (doHardFence s n).1 := by
  have hP := (half_drains b c).follows
  unfold doHardFence
  split
  · exact h
  · extract_lets src s1 dies s2
    have h2 : Half b c s2 := by
      refine foldl_holds (fun s hs d _ => ?_) (s := s1) h
      split
      · exact hs
      · exact hP.sendFence_holds (s := { s with tp.fencesOut := _ }) hs
    exact hP.paddockFault_holds h2

theorem freeze_half {cause code : Nat} (h : Half b c s) : Half b c (freeze s cause code) := by
  unfold freeze
  split
  · exact h
  · exact logDev_half h

theorem withCap_half {f : State → State} (h : Half b c (f s)) : Half b c (withCap s f) := by
  unfold withCap
  extract_lets t
  split
  · exact h
  · exact fire_half h

theorem liveWrite_half {path : Path} {i sub v : Nat} (h : Half b c s) : Half b c (liveWrite s path i sub v).1 := by
  unfold liveWrite
  extract_lets p off src plain
  have hplain : Half b c plain.1 := h
  have htarget : ∀ {src : Nat} {ten : Bool}, Half b c (doEventTargetWrite s src ten v).1 := by
    intro src ten
    unfold doEventTargetWrite
    split <;> exact h
  clear_value plain
  repeat' split
  any_goals exact hplain
  any_goals exact htarget
  any_goals exact h
  exact withCap_half h

theorem draftWrite_half {path : Path} {i sub v : Nat} (h : Half b c s) : Half b c (draftWrite s path i sub v).1 := by
  unfold draftWrite
  split
  · exact h
  · split <;> exact h

end

end Sys2Proof.Machine
end

/-! # What a secondary half serves

A WRITE that the secondary half carries out leaves it a secondary half, unless it is a WARM_RESET: that one leaves no configuration in force and
no request waiting. -/

section
namespace Sys2Proof.Machine
open Sys2Proof

/-- No configuration is in force and no request waits. -/
def Lost (s : State) : Prop := s.obj.committed = [] ∧ s.obj.behind = []

section
variable {s t : State} {x : Boot}

/-! ### The reset -/

theorem conf_halt (s : State) : conf (halt s) = conf s := rfl

theorem conf_enter (s : State) (x : Boot) (k : Nat) : conf (enter s x k) = conf s := rfl

theorem conf_refuseImage (s : State) (x : Boot) (k : Nat) : conf (refuseImage s x k) = conf s := rfl

theorem conf_endTrial (s : State) : conf (endTrial s) = conf s := by
  unfold endTrial
  split
  · rfl
  · split <;> rfl

theorem conf_rom (s : State) (x : Boot) : conf (rom s x) = conf s := by
  unfold rom
  extract_lets src s1 s2
  have h2 : conf s2 = conf s := conf_endTrial s1
  clear_value s2
  split
  · exact conf_halt s1
  · split
    · exact (conf_halt s2).trans h2
    next k _ =>
      extract_lets s3
      have h3 : conf s3 = conf s := (conf_refuseImage s2 x k).trans h2
      clear_value s3
      split
      · exact (conf_enter s2 x k).trans h2
      · split
        · exact (conf_halt s3).trans h3
        · split
          · exact (conf_enter s3 x (1 - k)).trans h3
          · exact (conf_halt (refuseImage s3 x (1 - k))).trans h3

theorem conf_replay (s : State) (x : Boot) : conf (replay s x) = conf s :=
  congrArg (fun y : Sys × Sec × Tbl Paddock × Cmds × Net × Tp × HostFn × Objs × Faults => y.2.2.2.2.2.2.2.1) (replay_booted s x)

theorem conf_boot (s : State) (x : Boot) : conf (boot s x) = conf s := by
  unfold boot
  extract_lets s1
  have h1 : conf s1 = conf s := conf_rom s x
  clear_value s1
  split
  · exact (conf_replay s1 x).trans h1
  · exact h1

theorem lost_of_conf (h : conf t = conf s) (hs : Lost s) : Lost t := by
  have hc : t.obj.committed = s.obj.committed := (congrArg Objs.committed h :)
  have hb : t.obj.behind = s.obj.behind := (congrArg Objs.behind h :)
  rw [Lost, hc, hb]
  exact hs

theorem warmReset_lost (s : State) (cause : Nat) : Lost (warmReset s x cause) := by
  unfold warmReset
  exact lost_of_conf (conf_boot ..) ⟨rfl, rfl⟩

/-! ### Writes -/

variable {b : Nat} {c : Tbl Nat}

/-- A half that is left as it was, or one that has started again. -/
def Served (b : Nat) (c : Tbl Nat) (r : State × Option Nat) : Prop := Half b c r.1 ∨ (Lost r.1 ∧ r.2 = none)

theorem readBack_half {f : Facts} {r : State × Option Nat} (h : Half b c r.1) : Half b c (readBack s f r).1 := by
  unfold readBack
  split
  · exact (half_drains b c).follows.zeroFailed_holds h
  · exact h

theorem warmReset_served (h : Half b c s) : Served b c (doWarmReset s x) := by
  unfold doWarmReset
  split
  · exact .inl h
  · exact .inr ⟨warmReset_lost s 1, rfl⟩

/-- The device's commands that a secondary half carries out. -/
theorem deviceWrite_served {path : Path} {tag : Tag} {i sub : Nat} {data : Bytes} {f : Facts} (h : Half b c s)
    (hi : (0x1F00 ≤ i ∧ i ≤ 0x1F04) ∨ (0x2000 ≤ i ∧ i ≤ 0x20FF)) : Served b c (deviceWrite s path tag i sub data f x) := by
  unfold deviceWrite
  extract_lets v
  split
  case h_23 => exact .inl (hardFence_half h)
  case h_24 => exact .inl (readBack_half (islandReset_half h))
  case h_25 => exact .inl (freeze_half h)
  case h_26 => exact warmReset_served h
  case h_27 => exact .inl h
  case h_35 => exact .inl h
  all_goals exact absurd hi (by decide)

/-- The half's role. -/
def Secondary (c : Tbl Nat) : Prop := (Tbl.find c (okey 0x2000 1)).getD (dfltOf 0x2000 1) = 2

theorem secondHalf_of (h : Half b c s) (hc : Secondary c) : paired s = true ∧ secondHalf s = true := by
  obtain ⟨_, rfl, hpair⟩ := h
  have hrole : cfg s 0x2000 1 = 2 := hc
  refine ⟨?_, ?_⟩
  · simpa [paired] using hpair
  · have h2 : 2 ≤ s.pair.st := by omega
    simp [secondHalf, hrole, h2]

theorem applyWrite_served {path : Path} {r : Req} {data : Bytes} {f : Facts} (h : Half b c s) (hc : Secondary c) :
    Served b c (applyWrite s path r data f x) := by
  obtain ⟨hp, h2⟩ := secondHalf_of h hc
  unfold applyWrite
  split
  · exact .inl h
  next d _ =>
    split
    · exact .inl h
    next href =>
      split
      · exact .inl h
      · extract_lets t
        split
        · exact .inl h
        · exact .inl (draftWrite_half h)
      · split
        · exact .inl h
        · exact .inl (liveWrite_half h)
      · split
        · exact .inl h
        · exact .inl (liveWrite_half h)
      next hacc =>
        have hi : (0x1F00 ≤ r.index ∧ r.index ≤ 0x1F04) ∨ (0x2000 ≤ r.index ∧ r.index ≤ 0x20FF) := by
          simp [secondaryRefuses, hp, h2, hacc] at href
          omega
        rw [if_neg (by omega)]
        exact deviceWrite_served h hi

/-! ### Requests -/

theorem answer_half {path : Path} {r : Req} {n status : Nat} {data : Bytes} (h : Half b c s) : Half b c (answer s path r n status data) :=
  (half_drains b c).sendResponse_holds h

theorem serveWrite_half {path : Path} {r : Req} {data : Bytes} {f : Facts} (h : Half b c s) (hc : Secondary c) :
    Half b c (serveWrite s path r data f x) ∨ Lost (serveWrite s path r data f x) := by
  unfold serveWrite
  extract_lets src s1
  have h1 : Half b c s1 := by
    simp only [s1]
    split <;> exact h
  have h2 : Served b c (applyWrite s1 path r data f x) := applyWrite_served h1 hc
  generalize applyWrite s1 path r data f x = y at h2
  obtain ⟨t, code⟩ := y
  cases code with
  | none => exact h2.imp (fun h => h) (fun h => h.1)
  | some code =>
    obtain h2 | ⟨_, h2⟩ := h2
    · exact .inl (answer_half (s := { t with obj.serving := none }) h2)
    · exact absurd h2 nofun

theorem serveNow_half {path : Path} {r : Req} {data : Bytes} {f : Facts} (h : Half b c s) (hc : Secondary c) :
    Half b c (serveNow s path r data f x) ∨ Lost (serveNow s path r data f x) := by
  unfold serveNow
  split
  · split
    · refine .inl ?_
      unfold serveRead
      split
      · exact answer_half h
      · exact answer_half (s := fresh1 s) h
    · exact serveWrite_half h hc
  · refine .inl ?_
    unfold serveRefused
    refine answer_half ?_
    split
    · split
      · exact (half_drains b c).refuse_holds h
      · exact h
    · exact h

theorem serveBehind_nil (h : s.obj.behind = []) : ∀ n, serveBehind n s = s
  | 0 => rfl
  | n + 1 => by
    rw [serveBehind, h]
    split
    next heq => exact absurd heq nofun
    · rfl

/-- The requests that wait are served by a half that stays one, or that starts again. -/
theorem serveBehind_half (hc : Secondary c) : ∀ (n : Nat) {s : State}, Half b c s → Half b c (serveBehind n s) ∨ (serveBehind n s).obj.committed = []
  | 0, _, h => .inl h
  | n + 1, s, h => by
    unfold serveBehind
    split
    next path r data f rest _ _ =>
      obtain h1 | ⟨h1, h2⟩ := serveNow_half (s := { s with obj.behind := rest }) (path := path) (r := r) (data := data) (f := f)
        (x := s.sys.bootFacts) h hc
      · exact serveBehind_half hc n h1
      · rw [serveBehind_nil h2]
        exact .inr h1
    · exact .inl h

end

end Sys2Proof.Machine
end

/-! # What settling leaves of the paddocks' waits in a start-up

In a start-up MGT serves reads alone (R643). Then no paddock's wait for a link moves while the block settles, but where a packet is sent or
the device wakes from SLEEP; and both leave their mark among the live objects. -/

section
namespace Sys2Proof.Machine
open Sys2Proof

/-- The marks of a packet sent, and of a wake. -/
def Mark (key : Nat) : Prop := key = okey 0x1500 1 ∨ key / 256 % 256 = 0x53

/-- A mark is there. -/
def Marked (s : State) : Prop := ∃ key, Mark key ∧ (Tbl.find s.obj.live key).isSome

/-- Paddocks wait for nothing and have no command pending. -/
def Idle (s : State) : Prop := ∀ p, lane (pad s p) = (0, none)

/-- Without a mark nothing waits. -/
def Clear (s : State) : Prop := Marked s ∨ Idle s

section
variable {s t : State}

theorem marked_of_live (h : Marked s) (hlive : ∀ key, (Tbl.find s.obj.live key).isSome → (Tbl.find t.obj.live key).isSome) : Marked t := by
  obtain ⟨key, hmark, hkey⟩ := h
  exact ⟨key, hmark, hlive key hkey⟩

theorem live_of_bare (e : bare t = bare s) : t.obj.live = s.obj.live := congrArg Prod.fst e

theorem marked_of_bare (h : Marked s) (e : bare t = bare s) : Marked t := marked_of_live h (by rw [live_of_bare e]; exact fun _ h => h)

/-! ### An entry of the error queue -/

/-- An entry takes no object away. -/
theorem live_geq {key : Nat} (h : (Tbl.find s.obj.live key).isSome) (e : Entry) : (Tbl.find (geq s e).obj.live key).isSome := by
  have hroom : (Tbl.find (geqRoom s).obj.live key).isSome := by
    obtain hr | ⟨p, hr⟩ := geqRoom_cases s <;> rw [hr]
    · exact h
    · exact find_setO h _ _ _
  rw [geq_eq]
  generalize geqLog _ _ = log, List.filter _ _ = poisoned
  have hlog : (Tbl.find (logWith (geqRoom s) log poisoned).obj.live key).isSome := by
    rw [logWith_obj]
    exact hroom
  generalize logWith (geqRoom s) log poisoned = t at hlog
  have hnote : ∀ (s : State) (e : Entry), (geqNote s e).obj = s.obj := fun s e => by
    unfold geqNote
    split <;> rfl
  unfold geqTell
  split
  · rw [fire_obj]
    exact hlog
  · rw [firePad, fire_obj, hnote]
    exact find_setO hlog _ _ _

theorem lane_updPad {f : Paddock → Paddock} (s : State) (p q : Nat) (hf : ∀ d, lane (f d) = lane d) : lane (pad (updPad s p f) q) = lane (pad s q) :=
  congrFun (congrArg Prod.snd (followed_updPad s p hf)) q

theorem lane_geqNote (s : State) (e : Entry) (p : Nat) : lane (pad (geqNote s e) p) = lane (pad s p) := by
  unfold geqNote
  split
  · rfl
  · exact lane_updPad _ _ _ (fun _ => rfl)

/-- An entry leaves the paddocks' waits and pending commands. -/
theorem lane_geq (s : State) (e : Entry) (p : Nat) : lane (pad (geq s e) p) = lane (pad s p) := by
  have hroom : (geqRoom s).pads = s.pads := by
    obtain hr | ⟨p, hr⟩ := geqRoom_cases s <;> rw [hr]
    rfl
  rw [geq_eq]
  generalize geqLog _ _ = log, List.filter _ _ = poisoned
  have hlog : (logWith (geqRoom s) log poisoned).pads = s.pads := (logWith_pads ..).trans hroom
  generalize logWith (geqRoom s) log poisoned = t at hlog
  rw [← pad_of_pads hlog p]
  unfold geqTell
  split
  · rw [pad_of_pads (fire_pads ..)]
  · rw [pad_of_pads (firePad_pads ..)]
    rw [lane_geqNote, pad_of_pads (bump_pads ..)]

/-! ### Marks stay -/

theorem marked_drains : Drains Marked where
  keep h hf := marked_of_bare h (congrArg Prod.fst hf)
  setO_holds h _ _ := marked_of_live h (fun _ hk => find_setO hk _ _ _)
  setAny _ _ _ h _ := marked_of_live h (fun _ hk => find_setO hk _ _ _)
  tally {_ t _ _ _} h hg _ := marked_of_live (marked_of_live (t := t) h hg.2) (fun _ hk => find_setO hk _ _ _)
  geq_holds h _ := marked_of_live h (fun _ hk => live_geq hk _)
  flash_holds h _ := h
  dropped h _ := marked_of_live h (fun _ hk => find_setO hk _ _ _)
  ended h := h
  free := marked_of_bare

/-! ### Nothing waits -/

theorem idle_of (h : Idle s) (e : ∀ p, lane (pad t p) = lane (pad s p)) : Idle t := fun p => (e p).trans (h p)

theorem idle_ended {p code : Nat} (h : Idle s) : Idle (updPad s p (fun d => { d with pend := none, result := code })) := by
  intro q
  simp only [pad, updPad, get_upd]
  split
  next hq =>
    have hw : (pad s p).waited = 0 := congrArg Prod.fst (h p)
    exact congrArg (fun n => (n, (none : Option Pend))) hw
  · exact h q

theorem lane_of_followed (e : followed t = followed s) (p : Nat) : lane (pad t p) = lane (pad s p) := congrFun (congrArg Prod.snd e) p

theorem lane_of_grows (h : Grows s t) (p : Nat) : lane (pad t p) = lane (pad s p) :=
  (lane_of_followed h.1 p : lane (pad { t with obj.live := s.obj.live } p) = lane (pad s p))

theorem marked_bump (s : State) (p row n : Nat) (hrow : row < 256) : Marked (bump s p 0x53 row n) := by
  refine ⟨okey (pidx p 0x53) row, .inr ?_, ?_⟩
  · simp only [okey, pidx]
    omega
  · simp [bump, addO, setO]

/-- A packet that is sent leaves its mark. -/
theorem sendOn_marked {p qpn l hdr : Nat} {bs : Bytes} {sched : Bool} : Marked (sendOn s p qpn l hdr bs sched) := by
  have h1 : Marked (bump s p 0x53 1 1) := marked_bump s p 1 1 (by decide)
  unfold sendOn
  extract_lets s1
  split
  · exact h1
  · split
    · exact h1
    · exact marked_drains.toLink_holds (marked_drains.wear_holds (marked_drains.free h1 rfl))

theorem clear_follows : Follows Clear where
  keep h hf := h.imp (fun h => marked_drains.keep h hf) (fun h => idle_of h (lane_of_followed hf))
  setO_holds h hi hsub := h.imp (fun h => marked_drains.setO_holds h hi hsub) (fun h => h)
  setAny i sub v h hc := h.imp (fun h => marked_drains.setAny i sub v h hc) (fun h => h)
  tally {_ t _ _ _} h hg hrow := h.imp (fun h => marked_drains.tally h hg hrow) (fun h => idle_of (t := t) h (lane_of_grows hg))
  geq_holds h hc := h.imp (fun h => marked_drains.geq_holds h hc) (fun h => idle_of h (lane_geq _ _))
  flash_holds h hop := h.imp (fun h => marked_drains.flash_holds h hop) (fun h => h)
  dropped h hb := h.imp (fun h => marked_drains.dropped h hb) (fun h => h)
  ended h := h.imp (fun h => marked_drains.ended h) idle_ended
  sendOn_holds _ := .inl sendOn_marked

/-! ### The whole settling -/

theorem releaseAll_clear (h : Clear s) : Clear (releaseAll s) := by
  obtain h | h := h
  · exact .inl (marked_drains.releaseAll_holds h)
  · refine .inr (foldl_holds (fun s hs e _ => ?_) h)
    have hpend : (pad s e.1).pend = none := congrArg Prod.snd (hs e.1)
    have hstep : releaseStep s e.1 = s := by rw [releaseStep, hpend]
    split
    · rw [hstep]
      exact hs
    · exact hs

/-- A wake from SLEEP leaves its mark. -/
theorem wakeSleep_clear (h : Clear s) : Clear (wakeSleep s) := by
  unfold wakeSleep
  split
  · extract_lets s1
    have h1 : Marked s1 := ⟨okey 0x1500 1, .inl rfl, by simp [s1, setO]⟩
    exact .inl (marked_drains.applyTimeRole_holds (marked_drains.free h1 rfl))
  · exact h

theorem larkWake_clear (h : Clear s) : Clear (larkWake s) := by
  unfold larkWake
  split
  · exact h
  next k _ =>
    unfold wakeBy
    split
    · refine wakeSleep_clear ?_
      unfold wakeDoze
      split <;> exact h
    · exact h

/-- Settling leaves nothing that waits, where serving does. -/
theorem settle_clear (h : Clear (serveBehind s.obj.behind.length s)) : Clear (settle s) := by
  have hP := clear_follows
  have h1 : Clear (finishAllCtx (faultStruck (advanceGroups (retryHeld (serveBehind s.obj.behind.length s))))) :=
    hP.finishAllCtx_holds (hP.faultStruck_holds (hP.advanceGroups_holds (hP.retryHeld_holds h)))
  unfold settle carryOn
  exact hP.deliver_holds (larkWake_clear (hP.mirrorAll_holds (releaseAll_clear h1)))

end

end Sys2Proof.Machine
end

/-! # What waits in a start-up is read or refused (R643) -/

section
namespace Sys2Proof.Machine
open Sys2Proof

section
variable {s : State} {path : Path} {r : Req} {data : Bytes} {f : Facts} {x : Boot}

theorem firstCode_zero : ∀ {l : List Nat}, firstCode l = 0 → ∀ c ∈ l, c = 0
  | [], _, _, hc => absurd hc (List.not_mem_nil)
  | c :: t, h, k, hk => by
    unfold firstCode at h
    split at h
    next hc => exact absurd h hc
    next hc =>
      obtain rfl | hk := List.mem_cons.mp hk
      · exact not_ne_iff.mp hc
      · exact firstCode_zero h k hk

/-- In a start-up a request that passes its checks is a READ. -/
theorem read_of_startUp (hboot : s.sys.boot = 2) (h : requestCode s path r data = 0) : r.op = 1 := by
  have hstart : startCode s r = 0 := firstCode_zero h _ (by simp)
  simp [startCode, hboot, earlyRead] at hstart
  exact hstart.1

theorem answer_clear {n status : Nat} {bs : Bytes} (h : Clear s) : Clear (answer s path r n status bs) := clear_follows.sendResponse_holds h

theorem serveNow_startUp (hboot : s.sys.boot = 2) (h : Clear s) :
    (serveNow s path r data f x).sys.boot = 2 ∧ Clear (serveNow s path r data f x) := by
  unfold serveNow
  split
  next hcode =>
    rw [if_pos (read_of_startUp hboot hcode)]
    unfold serveRead
    split
    · exact ⟨by rw [answer_sys]; exact hboot, answer_clear h⟩
    · exact ⟨by rw [answer_sys]; exact hboot, answer_clear (s := fresh1 s) h⟩
  · unfold serveRefused
    extract_lets s1
    have h1 : s1.sys.boot = 2 ∧ Clear s1 := by
      simp only [s1]
      split
      · split
        · exact ⟨by rw [refuse, logPad_sys]; exact hboot, clear_follows.refuse_holds h⟩
        · exact ⟨hboot, h⟩
      · exact ⟨hboot, h⟩
    exact ⟨by rw [answer_sys]; exact h1.1, answer_clear h1.2⟩

theorem serveBehind_startUp : ∀ (n : Nat) {s : State}, s.sys.boot = 2 → Clear s → Clear (serveBehind n s)
  | 0, _, _, h => h
  | n + 1, s, hboot, h => by
    unfold serveBehind
    split
    next path r data f rest _ _ =>
      obtain ⟨h1, h2⟩ := serveNow_startUp (s := { s with obj.behind := rest }) (path := path) (r := r) (data := data) (f := f)
        (x := s.sys.bootFacts) hboot h
      exact serveBehind_startUp n h1 h2
    · exact h

end

/-! ### A half that has settled in a start-up -/

section
variable {c : Tbl Nat} {s : State}

theorem committed_drains (c : Tbl Nat) : Drains (fun s => s.obj.committed = c) := footing_drains (fun x => x.2.1 = c)

/-- Settling leaves nothing that waits on a secondary half in a start-up, where nothing waited before. -/
theorem settle_startUp {b n : Nat} (h : Half b c s) (hc : Secondary c) (hidle : Idle s) (hend : footing (settle s) = (2, c, n))
    (hne : c ≠ []) : Clear (settle s) := by
  rw [footing, Prod.mk.injEq, Prod.mk.injEq] at hend
  obtain ⟨hboot, hcommitted, _⟩ := hend
  by_cases hb : b = 2
  · subst hb
    exact settle_clear (serveBehind_startUp _ h.1 (.inr hidle))
  · obtain h1 | h1 := serveBehind_half hc s.obj.behind.length h
    · have h2 : Half b c (settle s) := (half_drains b c).settle_holds h1
      exact absurd (h2.1.symm.trans hboot) hb
    · have h2 : (settle s).obj.committed = [] := (committed_drains []).settle_holds h1
      exact absurd (hcommitted.symm.trans h2) hne

end

end Sys2Proof.Machine
end

/-! # A join that lets frames wait behind each other -/

section
namespace Sys2Proof.Machine
open Sys2Proof

section
variable {s : State}

theorem exec_joinComplete (hb : 2 ≤ s.sys.boot) (x : Peer) : exec (.joinComplete x) s = .next (settle (doJoinComplete s x)) := ran_next hb

theorem idle_of_no_pads (h : s.pads = []) : Idle s := by
  intro p
  rw [pad, h]
  rfl

/-- A paddock that has waited shows where no live object bears a mark. -/
theorem not_clear_of (hlive : ∀ key ∈ s.obj.live.map (·.1), key ≠ okey 0x1500 1 ∧ key / 256 % 256 ≠ 0x53) {p : Nat} (hw : (pad s p).waited ≠ 0) :
    ¬ Clear s := by
  rintro (⟨key, hmark, hkey⟩ | h)
  · obtain ⟨v, hv⟩ := Option.isSome_iff_exists.mp hkey
    obtain ⟨hwake, hsent⟩ := hlive key (Tbl.mem_of_find hv)
    exact hmark.elim hwake hsent
  · exact hw (congrArg Prod.fst (h p))

end

/-! ### The counterexample -/

/-- A frame's contents. -/
def anyPacket : Packet := { hdr := 0, payload := [], key := 0, intact := true }

/-- The primary half, as every condition of a join wants it. -/
def primaryHalf : Peer :=
  { uid := 0, role := 1, blockVersion := blockVersion, firmware := State.reset.sys.firmware, securityVersion := State.reset.sys.securityVersion,
    nodeId := cfg State.reset 0x1700 1, chainOk := true, paddocks := [], lots := [], cvnLast := 0, key := 0 }

/-- Link 0 with two scheduled frames that wait, of paddocks 0 and 1. -/
def busyLink : Link := { st := .up, credits := [(0, 0, 2)], waiting := [(4, 0, 0, anyPacket), (4, 0, 1, anyPacket)] }

/-- A secondary half that joins in its start-up, with its own fabric time: its pair ports are UP, and it holds no paddock. -/
def joining : State :=
  { State.reset with sys.boot := 2, pair.st := 1, ftm.st := 4, obj.committed := [(okey 0x2000 1, 2)],
                     net.links := (0, busyLink) :: (List.range 4).map (fun k => (64 + k, { st := .up })) }

/-- The same once the block has settled after the join: scheduled injection has stopped, and both frames have left. -/
def joined : State := settle (doJoinComplete joining primaryHalf)

theorem joinCondition_joining : joinCondition joining primaryHalf = 0 := by decide +kernel

/-- Paddock 1 has waited for the frame of paddock 0. -/
theorem waited_joined : (pad joined 1).waited = 60 := by decide +kernel

theorem footing_joined : footing joined = (2, [(okey 0x2000 1, 2)], 2) := by decide +kernel

theorem live_joined : ∀ key ∈ joined.obj.live.map (·.1), key ≠ okey 0x1500 1 ∧ key / 256 % 256 ≠ 0x53 := by decide +kernel

theorem not_clear_joined : ¬ Clear joined :=
  not_clear_of live_joined (p := 1) (by rw [waited_joined]; decide)

/-- Refutes O55: a secondary half that joins stops its scheduled injection (R578); the frames that waited for a swathe then leave, and a paddock
whose frame leaves behind another's has waited (R477): the paddocks do not stay as they were. -/
theorem not_pairedMode : ¬ Obligations.PairedMode := by
  rintro ⟨hjoin, _⟩
  obtain ⟨hcomplete, _⟩ := hjoin joining (by decide)
  obtain ⟨u, hu, hpair, _, _, _, _, hcommitted, hpads⟩ := (hcomplete primaryHalf rfl).1 joinCondition_joining rfl
  have hsettle : joined = settle u :=
    Host.Outcome.next.inj ((exec_joinComplete (by decide) primaryHalf).symm.trans hu)
  have hfooting : footing (settle u) = (2, [(okey 0x2000 1, 2)], 2) := hsettle ▸ footing_joined
  have hclear : Clear (settle u) := settle_startUp (b := u.sys.boot) ⟨rfl, hcommitted, .inl hpair⟩ (by rfl) (idle_of_no_pads hpads)
    hfooting (List.cons_ne_nil _ _)
  exact not_clear_joined (hsettle ▸ hclear)

end Sys2Proof.Machine
end
